-- ==== Sys2Proof/Word.lean ====
section
/-! DEFINITION. The word types of the register bus and of memory. -/

namespace Sys2Proof

/-- A register word: the bus takes naturally aligned 32-bit accesses only (R71). -/
abbrev Word := BitVec 32

/-- A byte of memory. -/
abbrev Byte := BitVec 8

end Sys2Proof
end

