-- ==== Sys2Proof/Env.lean ====
section
/-! DEFINITION. What the environment hands to a command: received frames and measurements. -/

namespace Sys2Proof

/-- A frame received on a lane (R448, R454, R474): the lane, the source EUI-64, the raw counts of the
end of its SFD and of its last bit, the signal strength in dBm (as an octet), its frame counter, its
addressing and form, its MAC header and its payload in clear. -/
structure RxFrame where
  lane : Nat
  src : Nat
  sfd : Nat
  last : Nat
  rssi : Nat
  fc : Nat
  bcast : Bool
  ackReq : Bool
  /-- form J: keyed by an installation key (R474) -/
  formJ : Bool
  header : List Byte
  payload : List Byte
  deriving DecidableEq, Repr

/-- One cycle of a parallel check (R359): the mean squares of the channel's and of the spare's input in V², and the
difference of the fundamental's zero-crossing times in degrees. -/
structure CheckCyc where
  live : Rat
  spare : Rat
  phase : Rat
  deriving DecidableEq, Repr

/-- The codes of the island's 20 converters at one sample instant (R330): 24-bit two's complement. -/
def sampleOk (l : List Int) : Bool := l.length == 20 && l.all (fun c => decide (-(2 ^ 23) ≤ c ∧ c < 2 ^ 23))

/-- Measurements of a sink in one PWM period: sense current in mA, V_DS in mV, string supply in mV, and whether the
gate drive stands at its upper limit (R296, R307). -/
structure SinkMeas where
  sink : Nat
  i : Nat
  vds : Nat
  vsup : Nat
  clamp : Bool
  deriving DecidableEq, Repr

/-- A change by itself of what a configuration register stores, in one scan period (R113, R118): the register's
address, whether the active copy is meant, whether it comes after the scanner's check of the register in the period,
and the word and parity bits then stored. -/
structure Corrupt where
  addr : Nat
  active : Bool
  late : Bool
  value : Word
  parity : Nat
  deriving DecidableEq, Repr

/-- What the transceiver checks of R456 saw in a slot. -/
structure RfCheck where
  /-- synthesiser locked at slot start + TX_OFFSET − RX_GUARD -/
  locked : Bool
  /-- forward power in dBm -/
  fwd : Rat
  /-- reflected power as a part of the forward power -/
  refl : Rat
  deriving DecidableEq, Repr

end Sys2Proof
end

