-- ==== Sys2Proof/Syntax.lean ====
section
/-! DEFINITION. The commands: one constructor for each row of the table of operations and events. Every
command begins with `dt`, the fabric cycles (2.5 ns, R731) that have passed since the command before it;
`master` is the bus master code of R84; the other operands are what a master writes or what the
environment presents to the module at that moment. -/

namespace Sys2Proof

/-- A step of the module (R16 to R805); each constructor names the rule its row cites. -/
inductive Instr
  /-- R24: VIN falls below its threshold; the hold-up starts and pulses already in progress are allowed to complete. -/
  | vinLoss (dt : Nat)
  /-- R24: Once the pulses in progress have completed within the hold-up, the module enters HOLD and any transition is abandoned. -/
  | holdEnter (dt : Nat)
  /-- R787: VIN returns after a loss; the contactor latches re-energise their coils and the hold-up begins to charge. -/
  | vinReturn (dt : Nat)
  /-- R787: The hold-up capacitance is charged, and the start with source VIN_POR or BAK_POR begins. -/
  | holdupCharged (dt : Nat)
  /-- R721: A reset takes effect once the write pulses in progress have ended, and the start sequence runs at the resolved level. -/
  | resetAssert (dt : Nat)
  /-- R697: A 64 KiB block of the inactive set is programmed and read back, and its number is journaled. -/
  | copyBlock (dt : Nat) (host ok : Bool)
  /-- R699: Both copy streams are done; the set is read back and the set record is committed, or COPY_FAIL is set. -/
  | copyComplete (dt : Nat) (ok : Bool)
  /-- R725: A block has no clock-good within 2 ms and is left in reset, or the start halts for a mandatory block. -/
  | clockGoodTimeout (dt : Nat) (mandatory : Bool) (n : Nat)
  /-- R729: In clock-halt safe mode, the L1 sequence is retried every 10 s. -/
  | clockHaltRetry (dt : Nat) (good : Bool)
  /-- R722: A low pulse on RESETn acts as reset source RESETN. -/
  | resetnPulse (dt : Nat) (width : Nat) (acts : Bool)
  /-- R717: The host cluster's watchdog expires and asserts WDT_HOST. -/
  | wdtHostExpire (dt : Nat)
  /-- R759: The system watchdog period passes without a kick, and WDT_SYS asserts. -/
  | wdtSysExpire (dt : Nat)
  /-- R727: The boot window expires without BOOTOK, and WDT_SYS asserts. -/
  | bootWindowExpire (dt : Nat)
  /-- R727: A completed pair to SYS_BOOTOK marks the start successful, clears the fail counts and starts the system watchdog. -/
  | sysBootok (dt : Nat) (master : Nat) (value : Word)
  /-- R748: SYS_RSTCMD OP HOST asserts reset source HOST_RESET. -/
  | rstcmdHost (dt : Nat) (master : Nat)
  /-- R748: SYS_RSTCMD OP SYSTEM asserts reset source SYS_RESET. -/
  | rstcmdSystem (dt : Nat) (master : Nat)
  /-- R717: A reset request from the debug port asserts SYS_RESET. -/
  | debugResetRequest (dt : Nat)
  /-- R749: One fuse bit of the reset or pin fuse map is blown and read back. -/
  | fuseprog (dt : Nat) (master : Nat) (value : Word) (ok : Bool)
  /-- R739: The command for LIT starts the transition: clocks are ungated and lanes go to full schedules. -/
  | pwrcmdLit (dt : Nat) (master : Nat)
  /-- R740: The command for VIGIL starts the head fade-out before the contactors open. -/
  | pwrcmdVigil (dt : Nat) (master : Nat) (fade : Nat)
  /-- R741: The command for OFF runs the VIGIL steps when in LIT, or opens the contactors, and then powers down. -/
  | pwrcmdOff (dt : Nat) (master : Nat) (fade : Nat)
  /-- R23: A power command naming HOLD is refused with result HOLD. -/
  | pwrcmdHold (dt : Nat) (master : Nat)
  /-- R739: At t0 + 1 ms + k × d, contactor k of the closing order closes. -/
  | contactorClose (dt : Nat) (k : Nat)
  /-- R739: After the last closure, the coil currents are checked and STATE becomes LIT. -/
  | litTransitionDone (dt : Nat) (coils : List Nat)
  /-- R740: At t0 + F + 1 ms, all contactor outputs open together. -/
  | contactorsOpen (dt : Nat)
  /-- R740: The coils are checked, lanes move to their VIGIL cells and STATE becomes VIGIL. -/
  | vigilTransitionDone (dt : Nat) (coils : List Nat)
  /-- R741: PWRON goes low and the module is in OFF. -/
  | offEnter (dt : Nat)
  /-- R735: The coil current of a closed output is below 20 mA for 100 ms, and OPEN_COIL is set. -/
  | coilOpenCoil (dt : Nat) (k ma : Nat)
  /-- R735: The coil current is above 400 mA; the driver turns off and OVER is set. -/
  | coilOver (dt : Nat) (k ma : Nat)
  /-- R730: In recovery safe mode, the photocell input held for 60 s closes or opens the contactors. -/
  | photocellLevelHeld (dt : Nat) (dark : Bool)
  /-- R73: An ordinary write to a register field, or to an RWS shadow, that has no row of its own. -/
  | registerWrite (dt : Nat) (master : Nat) (addr size value : Nat)
  /-- R81: An access gets an error response, which is captured in SYS_BUSERRADDR and SYS_BUSERRINFO. -/
  | errorResponse (dt : Nat) (master : Nat) (addr size : Nat) (write : Bool) (value : Nat)
  /-- R96: A clear-by-sequence write to a status register clears the masked bits whose mark has been read. -/
  | statusClear (dt : Nat) (master : Nat) (addr : Nat) (value : Word)
  /-- R95: A held status event is posted at the next 1 µs step, advancing SEQ. -/
  | statusEventPost (dt : Nat) (addr : Nat)
  /-- R99: A write to a WG register in the lower half opens a guarded pair. -/
  | guardPairOpen (dt : Nat) (master : Nat) (addr : Nat) (value : Word)
  /-- R101: A write to the upper half while no pair is open fails as STRAY. -/
  | guardStrayWrite (dt : Nat) (master : Nat) (addr : Nat) (value : Word)
  /-- R101: No complement write arrives within 32 fabric cycles, and the pair fails. -/
  | guardTimeout (dt : Nat) (win : Nat)
  /-- R115: The parity scanner checks every configuration register in each 1 ms period. -/
  | parityScan (dt : Nat) (corrupt : Option Corrupt)
  /-- R121: A completed pair to FLT_PARTEST arms a single parity test of one register. -/
  | fltPartest (dt : Nat) (master : Nat) (value : Word)
  /-- R559: A scene tick boundary is reached, and the TICK shadow copies and the tick's work run. -/
  | tickBoundary (dt : Nat) (solveUs : Nat)
  /-- R429: A slot of a lane starts; SLOT fields are taken up and the cell is served. -/
  | slotBoundary (dt : Nat) (lane : Nat) (rf : RfCheck)
  /-- R287: A PWM period of a sink group starts; drives are formed, clamped and applied. -/
  | periodBoundary (dt : Nat) (group : Nat) (meas : List SinkMeas)
  /-- R339: A positive zero crossing ends a line cycle, and per-cycle quantities are delivered and accumulated. -/
  | cycleBoundary (dt : Nat) (feeder : Nat) (samples : List (List Int))
  /-- R339: After 60 ms without a crossing, a CYCLE boundary is synthesised and flagged SYNTH. -/
  | cycleSynthTimeout (dt : Nat) (feeder : Nat) (samples : List (List Int))
  /-- R55: CREATE checks a handle and creates it STOPPED, claiming its resources. -/
  | strCreate (dt : Nat) (master : Nat)
  /-- R47: DESTROY frees a STOPPED handle and advances its generation counter. -/
  | strDestroy (dt : Nat) (master : Nat)
  /-- R48: STOP is checked and left pending until the next boundary of the handle's apply domain. -/
  | strStop (dt : Nat) (master : Nat)
  /-- R48: START is checked and left pending until the next boundary of the handle's apply domain. -/
  | strStart (dt : Nat) (master : Nat)
  /-- R57: QUERY writes the current handle and generation of an index to STR_HANDLE. -/
  | strQuery (dt : Nat) (master : Nat)
  /-- R58: A pending STOP completes at its boundary, and the stop values apply. -/
  | handleStopComplete (dt : Nat)
  /-- R53: A pending START completes at its boundary, and the changed shadows are taken up together. -/
  | handleStartComplete (dt : Nat)
  /-- R146: A COMMIT written to LTB_EDITCMD takes a ticket and joins the commit queue. -/
  | ltbCommit (dt : Nat) (master : Nat)
  /-- R150: A CLEAR written to LTB_EDITCMD takes a ticket and joins the commit queue. -/
  | ltbClear (dt : Nat) (master : Nat)
  /-- R148: A queued commit or CLEAR is checked and applied, or fails, in ticket order. -/
  | ltbCommitComplete (dt : Nat)
  /-- R162: A write to LTB_EUIHI looks up the entry holding that EUI-64. -/
  | ltbEuiLookup (dt : Nat) (master : Nat) (value : Word)
  /-- R125: A write into the LTABLE region by another master is discarded and recorded. -/
  | ltableDirectWrite (dt : Nat) (master : Nat) (addr : Nat) (data : List Byte)
  /-- R140: A joined entry has had no authenticated frame for LTB_SILENTTIME and becomes SILENT. -/
  | entrySilent (dt : Nat) (entry : Nat)
  /-- R216: A held SCENE or LEVEL frame is queued once a descriptor frees. -/
  | scnHeldFrameQueue (dt : Nat)
  /-- R217: A head command starts at the first PERIOD boundary at or after T_eff. -/
  | headCommandStart (dt : Nat) (head : Nat)
  /-- R261: The mast drive applies a head's wave raise or release at the first PERIOD boundary at or after that time. -/
  | headWaveTime (dt : Nat) (head : Nat)
  /-- R236: The wave engine takes a DETECT from its FIFO, checks and associates it, searches the path and queues the commands. -/
  | wavDetectProcess (dt : Nat) (computeUs : Nat)
  /-- R272: An accepted OPEN datagram opens a wave at the border entry. -/
  | wavHandoffOpen (dt : Nat) (computeUs : Nat)
  /-- R272: An accepted UPDATE datagram re-anchors the wave opened by that peer. -/
  | wavHandoffUpdate (dt : Nat) (computeUs : Nat)
  /-- R272: An accepted CANCEL datagram ends the wave opened by that peer. -/
  | wavHandoffCancel (dt : Nat) (computeUs : Nat)
  /-- R264: A wave reaches its latest release time, and its number is freed. -/
  | waveEnd (dt : Nat) (wave : Nat)
  /-- R292: Every INTERVAL ms, the group's HRADJ code steps towards the headroom target. -/
  | headroomLoopStep (dt : Nat) (group : Nat)
  /-- R294: SAT persists for 100 ms at the supply limit, and HR_LIMIT is set. -/
  | hrLimit (dt : Nat) (group : Nat)
  /-- R299: The 100 ms window closes; the junction estimate, derating and head entry fields are computed and written. -/
  | mstTjWindow (dt : Nat) (group : Nat) (last : List SinkMeas) (ntcOhms : List Rat)
  /-- R304: MST_CMD CALIBRATE starts a forward-voltage calibration of a group, or refuses it. -/
  | mstCalibrate (dt : Nat) (master : Nat) (group : Nat)
  /-- R305: The calibration of a group ends, and the calibration fields are written or it ends with NO_CURRENT. -/
  | calibrationDone (dt : Nat)
  /-- R315: MST_CMD ACK returns a sink that was taken out to service. -/
  | mstAck (dt : Nat) (master : Nat) (sink : Nat)
  /-- R307: An OPEN fault is confirmed on a sink. -/
  | sinkFaultOpen (dt : Nat) (sink : Nat)
  /-- R307: A regulation error is confirmed over three periods, and CTRL is set. -/
  | sinkFaultCtrl (dt : Nat) (sink : Nat)
  /-- R307: A current above 125 % for 2 µs clamps the gate off at once, as CTRL. -/
  | sinkOvercurrent (dt : Nat) (sink i vds : Nat)
  /-- R307: SAT is confirmed over three periods. -/
  | sinkFaultSat (dt : Nat) (sink : Nat)
  /-- R310: Once per 100 ms a sink is blanked for 4 µs and checked for adjacent shorts. -/
  | sinkBlanking (dt : Nat) (sink i : Nat) (adj : List (Nat × Nat))
  /-- R309: Once per second, a short PWM pulse is stretched to 8 µs and later pulses are omitted. -/
  | pulseStretch (dt : Nat) (sink : Nat) (cur : List (Nat × Nat))
  /-- R317: Every 10 s, an idle spare sink drives 50 mA into its test load. -/
  | spareSinkSelftest (dt : Nat) (group : Nat) (ok : Bool) (meas : SinkMeas)
  /-- R318: The Verge routes the group's spare to a sink with CTRL, and the spare takes over. -/
  | spareSinkTakeover (dt : Nat) (group : Nat)
  /-- R312: Every sink of a group has had zero drive for DARK seconds, and the group enters DARK. -/
  | groupDark (dt : Nat) (group : Nat)
  /-- R312: STARTUP has lasted its time, and the group enters RUN. -/
  | groupStartupEnd (dt : Nat) (group : Nat)
  /-- R312: RECOVERY has lasted its time, and the group enters RUN. -/
  | groupRecoveryEnd (dt : Nat) (group : Nat)
  /-- R334: A synchronisation pulse with its message is sent or found missing, and the island's synchronisation state moves. -/
  | syncPulse (dt : Nat) (present msg : Bool) (err : Int)
  /-- R337: No batch arrives from the island for 2 ms, and LINK is set. -/
  | mtrLinkTimeout (dt : Nat) (batches : List (List Byte × Nat))
  /-- R337: The link returns, and the held cycle results are delivered in order. -/
  | mtrLinkRestore (dt : Nat) (octets : List Byte) (crc : Nat)
  /-- R347: The 1 s die-temperature average completes, and the correction c is set. -/
  | mtrTempAverage (dt : Nat) (temp : Option Rat)
  /-- R358: The spare's check against the internal reference completes at the start of a round. -/
  | spareRefCheck (dt : Nat) (dev : Rat)
  /-- R360: A parallel check of one channel completes, giving a deviation or moving to the next channel. -/
  | channelCheckDone (dt : Nat) (cycles : List CheckCyc)
  /-- R363: A converter gives 64 identical codes; STUCK is set and routing of the spare begins. -/
  | mtrStuck (dt : Nat) (ch : Nat) (samples : List (List Int))
  /-- R364: The spare's samples replace the failed channel's. -/
  | meterSubstitution (dt : Nat) (feeder : Nat)
  /-- R353: MTR_ISLCTL SEALRST clears the seal while SVC_PRESENTn is asserted. -/
  | islctlSealrst (dt : Nat) (master : Nat)
  /-- R370: MTR_ISLCTL SUBST commands the spare to substitute a channel. -/
  | islctlSubst (dt : Nat) (master : Nat) (ch : Nat)
  /-- R366: MTR_ISLCTL RELEASE ends a substitution at the next CYCLE boundary. -/
  | islctlRelease (dt : Nat) (master : Nat) (ch : Nat)
  /-- R370: MTR_ISLCTL CHECKNOW starts a self-check round. -/
  | islctlChecknow (dt : Nat) (master : Nat)
  /-- R383: The island writes its accumulators and pulse state to retention as its supply fails. -/
  | islandSupplyFail (dt : Nat)
  /-- R383: At power-up, the island restores its accumulators or the latest valid record. -/
  | islandPowerUp (dt : Nat) (retained : Bool)
  /-- R390: A feeder's metering interval closes; loss, residual and allocation are computed and the record is written. -/
  | intervalClose (dt : Nat) (feeder : Nat)
  /-- R411: A pulse output emits one pending pulse. -/
  | pulseEmit (dt : Nat) (output : Nat)
  /-- R387: A completed pair to ACC_CFG sets the quantum, interval length and head efficiency. -/
  | accCfgWrite (dt : Nat) (master : Nat) (value : Word)
  /-- R414: A completed pair to ACC_PULSEn rebases the output's mark and discards pending pulses. -/
  | accPulseWrite (dt : Nat) (master : Nat) (output : Nat) (value : Word)
  /-- R386: A read of UWH_LO latches the slot's UWH_HI, COUNT and WRAP. -/
  | accSlotRead (dt : Nat) (master : Nat) (feeder element k : Nat)
  /-- R548: A read of TBS_NOW_RAW_LO latches the raw count, corrected time and extension. -/
  | tbsNowRead (dt : Nat) (master : Nat)
  /-- R567: A read of TBS_TSQ[k]_W0 moves the oldest timestamp entry into the read latch. -/
  | tsqPop (dt : Nat) (master : Nat) (queue : Nat)
  /-- R589: A read of RTC_DATE latches RTC_TIME and RTC_SUBSEC. -/
  | rtcDateRead (dt : Nat) (master : Nat) (sub : Nat)
  /-- R576: A read of another _LO register latches its _HI register. -/
  | loHiLatchRead (dt : Nat) (master : Nat) (addr size : Nat)
  /-- R530: 1,000 µs before a slot, the lane's chosen head frame is fetched. -/
  | laneFetch (dt : Nat) (lane : Nat)
  /-- R445: No acknowledgement arrives within ACK_WAIT; the frame is retried or completes TX_FAIL. -/
  | ackTimeout (dt : Nat) (lane : Nat)
  /-- R464: An enabled lane starts at the first slot boundary at least 1 ms later. -/
  | laneStart (dt : Nat) (lane : Nat)
  /-- R457: LNE4_CMD TAKEOVER hands a lane to the spare transceiver. -/
  | lneTakeover (dt : Nat) (master : Nat) (lane : Nat)
  /-- R460: LNE4_CMD RELEASE asks to return a lane to its own transceiver. -/
  | lneRelease (dt : Nat) (master : Nat) (lane : Nat)
  /-- R472: LNE4_CMD starts a spare round now. -/
  | lneSpareRoundNow (dt : Nat) (master : Nat)
  /-- R459: Every 10 s, the free spare tests itself and one lane's receiver. -/
  | spareRound (dt : Nat) (txOk : Bool) (rxOk : Option Bool)
  /-- R457: The spare is connected to the lane's connector and its synthesiser locks. -/
  | spareLocked (dt : Nat)
  /-- R460: A released lane returns to its own transceiver, and the spare becomes free. -/
  | laneReturn (dt : Nat) (lane : Nat)
  /-- R448: A received frame fails a lane check and is dropped. -/
  | frameRejected (dt : Nat) (lane check : Nat)
  /-- R448: A valid acknowledgement completes the attempt that it answers. -/
  | enhancedAckReceive (dt : Nat) (frame : RxFrame)
  /-- R497: An authenticated REPORT updates the entry's report, temperature and fault fields. -/
  | reportReceive (dt : Nat) (frame : RxFrame)
  /-- R508: An authenticated DETECT is entered into the wave engine's FIFO. -/
  | detectReceive (dt : Nat) (frame : RxFrame)
  /-- R145: An authenticated FAULT sets fault bits and advances FAULT_COUNT. -/
  | faultReceive (dt : Nat) (frame : RxFrame)
  /-- R504: An authenticated JOIN updates the entry and queues an ACCEPT. -/
  | joinReceive (dt : Nat) (frame : RxFrame)
  /-- R449: An installation-keyed frame from an unknown EUI-64 is counted as an unknown JOIN. -/
  | unknownJoin (dt : Nat) (frame : RxFrame)
  /-- R509: A PROBE response is posted to the host lantern queue. -/
  | probeResponseReceive (dt : Nat) (frame : RxFrame)
  /-- R508: A frame without the LCS dispatch octet is posted flagged FOREIGN. -/
  | foreignFrame (dt : Nat) (frame : RxFrame)
  /-- R517: A write to TAIL hands descriptors to the queue manager, or is refused. -/
  | qdmTailWrite (dt : Nat) (master : Nat) (queue : Nat) (value : Word)
  /-- R535: QDM_CMD RESUME resumes a parked engine-owned queue. -/
  | qdmResume (dt : Nat) (master : Nat) (queue : Nat)
  /-- R537: QDM_CMD FLUSH completes every handed-over descriptor with FLUSHED. -/
  | qdmFlush (dt : Nat) (master : Nat) (queue : Nat)
  /-- R529: The queue manager moves one burst for the ready queue of highest priority. -/
  | dmaBurst (dt : Nat) (memError ringError : Bool)
  /-- R519: A descriptor's completion bytes are written and HEAD advances. -/
  | descriptorComplete (dt : Nat) (queue : Nat)
  /-- R526: A write of WCTL.ENABLE checks the window and enables or clears it. -/
  | windowEnableWrite (dt : Nat) (master : Nat) (window : Nat) (value : Word)
  /-- R531: A fetched ETX frame starts on the wire, not before LAUNCH_RAW. -/
  | ethTransmit (dt : Nat) (port : Nat)
  /-- R514: A received Ethernet frame is timestamped and posted to an ERX queue or the wave FIFO. -/
  | ethFrameReceive (dt : Nat) (port sfd last : Nat) (fcsOk : Bool) (frame : List Byte)
  /-- R584: The Ethernet link changes state, and LINK_CHG is set. -/
  | ethLinkChange (dt : Nat) (port : Nat) (up : Bool) (speed : Nat)
  /-- R554: TBS_ADJCMD STEP changes OFFSET and advances the epoch. -/
  | adjStep (dt : Nat) (master : Nat)
  /-- R554: TBS_ADJCMD RATE rebases the timebase and sets RATE. -/
  | adjRate (dt : Nat) (master : Nat)
  /-- R554: TBS_ADJCMD SLEW starts a slew of A ns at SLEWRATE. -/
  | adjSlew (dt : Nat) (master : Nat) (rate : Nat)
  /-- R554: TBS_ADJCMD SLEWSTOP stops the running slew. -/
  | adjSlewstop (dt : Nat) (master : Nat)
  /-- R555: A slew has added its full amount, and the timebase rebases. -/
  | slewEnd (dt : Nat)
  /-- R561: A PPS edge is captured or rejected as a glitch. -/
  | ppsEdge (dt : Nat) (edge heldUs : Nat)
  /-- R562: No PPS edge has been accepted for 1.5 s. -/
  | ppsLost (dt : Nat)
  /-- R570: An armed milestone reaches its target and performs its action. -/
  | milestoneFire (dt : Nat) (m : Nat)
  /-- R575: A milestone pulse of WIDTH µs ends. -/
  | milestonePulseEnd (dt : Nat) (m : Nat)
  /-- R588: The prescaler completes a second; the calendar advances and pending summer-time commands take effect. -/
  | rtcSecond (dt : Nat)
  /-- R592: RTC_CMD SET applies the date and time together. -/
  | rtcSet (dt : Nat) (master : Nat) (mask : Nat)
  /-- R593: RTC_CMD DSTFWD moves the clock forward one hour at the next second. -/
  | rtcDstfwd (dt : Nat) (master : Nat)
  /-- R593: RTC_CMD DSTBACK moves the clock back one hour at the next second. -/
  | rtcDstback (dt : Nat) (master : Nat)
  /-- R590: A completed pair to RTC_TRIM sets the prescaler trim. -/
  | rtcTrimWrite (dt : Nat) (master : Nat) (value : Word)
  /-- R600: A write to an alarm register clears ALMLAST and re-arms the alarm. -/
  | alarmWrite (dt : Nat) (master : Nat) (addr : Nat) (value : Word)
  /-- R602: A write of RTC_WAKEPER restarts the periodic wake counter. -/
  | wakeperWrite (dt : Nat) (master : Nat) (value : Word)
  /-- R602: The periodic wake period elapses, giving a wake event. -/
  | periodicWake (dt : Nat)
  /-- R596: The crystal shows no edge for 1 ms; OSC_STOP is set and VALID is cleared. -/
  | oscStop (dt : Nat)
  /-- R596: The crystal oscillator resumes, and the calendar counts on. -/
  | oscResume (dt : Nat)
  /-- R610: The once-per-second comparison of VBAK with 2.0 V is made. -/
  | vbakCheck (dt : Nat) (mv : Nat)
  /-- R609: A read of retained SRAM is checked for parity. -/
  | rsramRead (dt : Nat) (master : Nat) (off size : Nat) (corrupt : Option Byte)
  /-- R632: With at least one credit, the writer starts the next record from the Weir. -/
  | weirWriterStart (dt : Nat)
  /-- R626: The page 0 pulse ends and the record is committed. -/
  | recordCommit (dt : Nat)
  /-- R633: With the Weir empty, a GAP record is written for a source with a pending loss count. -/
  | gapRecord (dt : Nat)
  /-- R646: REC_CMD DUMP enters a TALLY record of a source into the Weir. -/
  | recDump (dt : Nat) (master : Nat) (source : Nat)
  /-- R619: REC_CMD SOFT triggers a trigger source. -/
  | recSoft (dt : Nat) (master : Nat) (source : Nat)
  /-- R640: A write to REC_TSEL latches a tally, and clears it when CLEAR is 1. -/
  | recTselWrite (dt : Nat) (master : Nat) (value : Word)
  /-- R663: A key update message WRITE is checked and fills a slot. -/
  | kumWrite (dt : Nat) (master : Nat)
  /-- R663: A key update message ERASE is checked and empties a slot. -/
  | kumErase (dt : Nat) (master : Nat)
  /-- R652: A key update message LIFECYCLE changes the life-cycle state. -/
  | kumLifecycle (dt : Nat) (master : Nat)
  /-- R673: A key update message CLEAR_TAMPER clears the inactive tamper latches. -/
  | kumClearTamper (dt : Nat) (master : Nat)
  /-- R666: The commit word pulse ends, and the key store change takes effect. -/
  | keyCommitPulseEnd (dt : Nat)
  /-- R660: NETLOAD makes slot 7 or 8 the network key of every lane. -/
  | netload (dt : Nat) (master : Nat) (slot : Nat)
  /-- R674: WRAP wraps 16 or 32 bytes under a slot key. -/
  | keyWrap (dt : Nat) (master : Nat) (slot : Nat)
  /-- R676: HASH computes SHA-256 single, START, CONTINUE or FINAL. -/
  | keyHash (dt : Nat) (master : Nat) (mode : Nat)
  /-- R676: HMAC computes an HMAC under a slot key. -/
  | keyHmac (dt : Nat) (master : Nat) (mode slot : Nat)
  /-- R674: VERIFY checks an ECDSA signature under a slot key. -/
  | keyVerify (dt : Nat) (master : Nat) (slot : Nat)
  /-- R674: SIGN signs a hash with a slot key. -/
  | keySign (dt : Nat) (master : Nat) (slot : Nat)
  /-- R675: ATTEST signs a challenge and statement with the device identity key. -/
  | attest (dt : Nat) (master : Nat)
  /-- R674: RANDOM returns bytes from the CTR_DRBG. -/
  | keyRandom (dt : Nat) (master : Nat)
  /-- R674: HOSTWRITE writes a 16-byte network key slot without advancing KEY_CTR. -/
  | hostwrite (dt : Nat) (master : Nat) (slot : Nat)
  /-- R674: A key command in progress completes, and its output and code are posted. -/
  | keyOpComplete (dt : Nat)
  /-- R671: A tamper source becomes active after its filter, latches and triggers its action. -/
  | tamperLatch (dt : Nat) (source : Nat)
  /-- R670: A write to KEY_TPOLICY sets the tamper policy once, or is a security event. -/
  | keyTpolicyWrite (dt : Nat) (master : Nat) (value : Word)
  /-- R658: The physical overwrite of stale owner slots completes, and ERASE_DONE is set. -/
  | slotEraseDone (dt : Nat)
  /-- R690: UPD_CMD MANIFEST checks a manifest and enters or resumes RECEIVING. -/
  | updManifest (dt : Nat) (master : Nat)
  /-- R692: UPD_CMD CHUNK accepts a chunk for writing to the staging area. -/
  | updChunk (dt : Nat) (master : Nat)
  /-- R696: UPD_CMD ACTIVATE journals ARMED and asserts the UPDATE reset. -/
  | updActivate (dt : Nat) (master : Nat)
  /-- R701: UPD_CMD CONFIRM confirms the trial set and raises UPD_SECVER. -/
  | updConfirm (dt : Nat) (master : Nat)
  /-- R693: UPD_CMD ABORT closes the session, discards staging and returns to IDLE. -/
  | updAbort (dt : Nat) (master : Nat)
  /-- R702: UPD_CMD REVERT in TRIAL reverts to the old set. -/
  | updRevert (dt : Nat) (master : Nat)
  /-- R692: A chunk is written and read back, and UPD_CONFIRMED advances; verification starts at TOTAL. -/
  | chunkConfirmed (dt : Nat) (ok : Bool)
  /-- R695: Verification of the staged parts ends in STAGED or VERIFY_FAIL. -/
  | verifyDone (dt : Nat) (ioOk : Bool)
  /-- R702: The trial window expires without CONFIRM, and the set is reverted. -/
  | trialExpire (dt : Nat)
  /-- R687: A service-port OPEN opens an update session, pre-empting a network session when allowed. -/
  | svcOpen (dt : Nat) (tag : Nat) (manifest : List Byte)
  /-- R692: A service-port CHUNK delivers staging data. -/
  | svcChunk (dt : Nat) (tag offset : Nat) (data : List Byte)
  /-- R693: A service-port CLOSE ends the session and keeps the Sluice state. -/
  | svcClose (dt : Nat) (tag : Nat)
  /-- R696: A service-port ACTIVATE arms the staged update. -/
  | svcActivate (dt : Nat) (tag : Nat)
  /-- R701: A service-port CONFIRM confirms the trial set. -/
  | svcConfirm (dt : Nat) (tag : Nat)
  /-- R693: A service-port ABORT discards the staging area. -/
  | svcAbort (dt : Nat) (tag : Nat)
  /-- R707: A service-port STATUS is answered with a REPLY of the Sluice state. -/
  | svcStatus (dt : Nat) (tag : Nat)
  /-- R707: A service-port KEYMSG is passed to the security monitor as KUM. -/
  | svcKeymsg (dt : Nat) (tag : Nat) (msg : List Byte)
  /-- R707: Console octets from the USB host reach the diagnostic console. -/
  | svcConsole (dt : Nat) (tag : Nat) (octets : List Byte)
  /-- R707: Console octets from the host software are sent out on the service port. -/
  | consoleOut (dt : Nat) (octets : List Byte)
  /-- R707: A service-port message with a wrong header or CRC is answered with FORMAT. -/
  | svcBadMessage (dt : Nat) (tag : Nat)
  /-- R689: SVC_PRESENTn is held at a new level for 10 ms and counts as asserted or released. -/
  | svcPresentChange (dt : Nat) (asserted : Bool)
  /-- R693: USB VBUS appears or is lost, and a loss closes the service-port session. -/
  | vbusChange (dt : Nat) (present configured highSpeed : Bool)
  /-- R755: The scrubber reads a word of SRAM or MRAM and writes back a corrected word. -/
  | scrub (dt : Nat) (mram : Bool) (addr : Nat) (error : Bool)
  /-- R756: An uncorrectable SRAM error writes a bypass record and asserts the ECC reset. -/
  | sramUncorrectable (dt : Nat) (addr : Nat) (scrub : Bool)
  /-- R763: An MRAM uncorrectable word, failed write verify or sector at CE_LIMIT starts a sector copy. -/
  | mramError (dt : Nat) (addr : Nat) (uncorrectable scrub : Bool)
  /-- R763: The sector copy ends and the remap is committed in the Verge record. -/
  | mramRemapCommit (dt : Nat)
  /-- R757: A lockstep comparator mismatch blocks the pair and asserts LOCKSTEP. -/
  | lockstepMismatch (dt : Nat) (win : Nat)
  /-- R758: A clock monitor finds a clock out of range or stopped. -/
  | clockMonitorFault (dt : Nat) (clock : Nat)
  /-- R754: The security monitor's watchdog or ROM self-check fails, and SECMON asserts. -/
  | secmonFault (dt : Nat) (cause : Nat)
  /-- R759: A completed pair to FLT_WDTKICK restarts the system watchdog period. -/
  | fltWdtkick (dt : Nat) (master : Nat) (value : Word)
  /-- R765: FLT_VERGECMD RETEST tests a retired element. -/
  | vergeRetest (dt : Nat) (master : Nat) (kind index : Nat) (pass : Bool)
  /-- R765: FLT_VERGECMD RELEASE returns a sink to its own controller. -/
  | vergeRelease (dt : Nat) (master : Nat) (kind index : Nat)
  /-- R735: The coil current of a closed contactor output has been 20 mA or more for 100 ms, and OPEN_COIL clears. -/
  | openCoilClear (dt : Nat) (k ma : Nat)
  /-- R673: A tamper source ceases to be active, its KEY_TLATCH.ACTIVE bit clears, and its latch becomes clearable by CLEAR_TAMPER. -/
  | tamperSourceInactive (dt : Nat) (source : Nat)
  /-- R717: With VIN absent, VBAK falls below 1.8 V and the backup domain loses retention, so the next return of VIN starts as BAK_POR at L0. -/
  | vbakRetentionLoss (dt : Nat)
  deriving DecidableEq, Repr

end Sys2Proof
end

