-- ==== Sys2Proof/WellFormed.lean ====
section
/-! DEFINITION. Well-formed commands: every number an operand carries lies in the range the spec gives
the thing it names. An ill-formed command names something the module does not have. -/

namespace Sys2Proof

/-- The operands of a command lie in their ranges: bus master codes (R84), lanes (R424), sink groups and
sinks (R283), feeders (R329), lantern entries (R123), heads (R42), wave numbers (R242), queues (R510),
milestones (R569), pulse outputs (R410), windows (R76) and ports (R583). -/
def Instr.wf (i : Instr) : Bool :=
  match i with
  | .vinLoss _ => true
  | .holdEnter _ => true
  | .vinReturn _ => true
  | .holdupCharged _ => true
  | .resetAssert _ => true
  | .copyBlock _ _ _ => true
  | .copyComplete _ _ => true
  | .clockGoodTimeout _ _ _ => true
  | .clockHaltRetry _ _ => true
  | .resetnPulse _ _ _ => true
  | .wdtHostExpire _ => true
  | .wdtSysExpire _ => true
  | .bootWindowExpire _ => true
  | .sysBootok _ master _ => decide (master < 16)
  | .rstcmdHost _ master => decide (master < 16)
  | .rstcmdSystem _ master => decide (master < 16)
  | .debugResetRequest _ => true
  | .fuseprog _ master _ _ => decide (master < 16)
  | .pwrcmdLit _ master => decide (master < 16)
  | .pwrcmdVigil _ master fade => decide (master < 16) && decide (fade < 65536)
  | .pwrcmdOff _ master fade => decide (master < 16) && decide (fade < 65536)
  | .pwrcmdHold _ master => decide (master < 16)
  | .contactorClose _ k => decide (k < 4)
  | .litTransitionDone _ _ => true
  | .contactorsOpen _ => true
  | .vigilTransitionDone _ _ => true
  | .offEnter _ => true
  | .coilOpenCoil _ k _ => decide (k < 4)
  | .coilOver _ k _ => decide (k < 4)
  | .photocellLevelHeld _ _ => true
  | .registerWrite _ master _ size value => decide (master < 16) && decide ([1, 2, 4, 8].contains size) && decide (value < 256 ^ size)
  | .errorResponse _ master _ size _ value => decide (master < 16) && decide ([1, 2, 4, 8].contains size) && decide (value < 256 ^ size)
  | .statusClear _ master _ _ => decide (master < 16)
  | .statusEventPost _ _ => true
  | .guardPairOpen _ master _ _ => decide (master < 16)
  | .guardStrayWrite _ master _ _ => decide (master < 16)
  | .guardTimeout _ win => decide (win < 0x14)
  | .parityScan _ _ => true
  | .fltPartest _ master _ => decide (master < 16)
  | .tickBoundary _ _ => true
  | .slotBoundary _ lane _ => decide (lane < 4)
  | .periodBoundary _ group _ => decide (group < 8)
  | .cycleBoundary _ feeder samples => decide (feeder < 4) && samples.all sampleOk
  | .cycleSynthTimeout _ feeder samples => decide (feeder < 4) && samples.all sampleOk
  | .strCreate _ master => decide (master < 16)
  | .strDestroy _ master => decide (master < 16)
  | .strStop _ master => decide (master < 16)
  | .strStart _ master => decide (master < 16)
  | .strQuery _ master => decide (master < 16)
  | .handleStopComplete _ => true
  | .handleStartComplete _ => true
  | .ltbCommit _ master => decide (master < 16)
  | .ltbClear _ master => decide (master < 16)
  | .ltbCommitComplete _ => true
  | .ltbEuiLookup _ master _ => decide (master < 16)
  | .ltableDirectWrite _ master _ _ => decide (master < 16)
  | .entrySilent _ entry => decide (entry < 4096)
  | .scnHeldFrameQueue _ => true
  | .headCommandStart _ head => decide (head < 8)
  | .headWaveTime _ head => decide (head < 8)
  | .wavDetectProcess _ _ => true
  | .wavHandoffOpen _ _ => true
  | .wavHandoffUpdate _ _ => true
  | .wavHandoffCancel _ _ => true
  | .waveEnd _ wave => decide (wave < 128)
  | .headroomLoopStep _ group => decide (group < 8)
  | .hrLimit _ group => decide (group < 8)
  | .mstTjWindow _ group _ _ => decide (group < 8)
  | .mstCalibrate _ master group => decide (master < 16) && decide (group < 8)
  | .calibrationDone _ => true
  | .mstAck _ master sink => decide (master < 16) && decide (sink < 64)
  | .sinkFaultOpen _ sink => decide (sink < 56)
  | .sinkFaultCtrl _ sink => decide (sink < 56)
  | .sinkOvercurrent _ sink _ _ => decide (sink < 56)
  | .sinkFaultSat _ sink => decide (sink < 56)
  | .sinkBlanking _ sink _ _ => decide (sink < 56)
  | .pulseStretch _ sink _ => decide (sink < 56)
  | .spareSinkSelftest _ group _ _ => decide (group < 8)
  | .spareSinkTakeover _ group => decide (group < 8)
  | .groupDark _ group => decide (group < 8)
  | .groupStartupEnd _ group => decide (group < 8)
  | .groupRecoveryEnd _ group => decide (group < 8)
  | .syncPulse _ _ _ _ => true
  | .mtrLinkTimeout _ _ => true
  | .mtrLinkRestore _ _ _ => true
  | .mtrTempAverage _ _ => true
  | .spareRefCheck _ _ => true
  | .channelCheckDone _ _ => true
  | .mtrStuck _ ch samples => decide (ch < 20) && samples.all sampleOk
  | .meterSubstitution _ feeder => decide (feeder < 4)
  | .islctlSealrst _ master => decide (master < 16)
  | .islctlSubst _ master ch => decide (master < 16) && decide (ch < 32)
  | .islctlRelease _ master ch => decide (master < 16) && decide (ch < 32)
  | .islctlChecknow _ master => decide (master < 16)
  | .islandSupplyFail _ => true
  | .islandPowerUp _ _ => true
  | .intervalClose _ feeder => decide (feeder < 4)
  | .pulseEmit _ output => decide (output < 4)
  | .accCfgWrite _ master _ => decide (master < 16)
  | .accPulseWrite _ master output _ => decide (master < 16) && decide (output < 4)
  | .accSlotRead _ master feeder element k => decide (master < 16) && decide (feeder < 4) && decide (element < 4) && decide (k < 8)
  | .tbsNowRead _ master => decide (master < 16)
  | .tsqPop _ master queue => decide (master < 16) && decide (queue < 7)
  | .rtcDateRead _ master _ => decide (master < 16)
  | .loHiLatchRead _ master _ size => decide (master < 16) && decide ([1, 2, 4, 8].contains size)
  | .laneFetch _ lane => decide (lane < 4)
  | .ackTimeout _ lane => decide (lane < 4)
  | .laneStart _ lane => decide (lane < 4)
  | .lneTakeover _ master lane => decide (master < 16) && decide (lane < 4)
  | .lneRelease _ master lane => decide (master < 16) && decide (lane < 4)
  | .lneSpareRoundNow _ master => decide (master < 16)
  | .spareRound _ _ _ => true
  | .spareLocked _ => true
  | .laneReturn _ lane => decide (lane < 4)
  | .frameRejected _ lane check => decide (lane < 4) && decide (1 ≤ check ∧ check ≤ 7)
  | .enhancedAckReceive _ _ => true
  | .reportReceive _ _ => true
  | .detectReceive _ _ => true
  | .faultReceive _ _ => true
  | .joinReceive _ _ => true
  | .unknownJoin _ _ => true
  | .probeResponseReceive _ _ => true
  | .foreignFrame _ _ => true
  | .qdmTailWrite _ master queue _ => decide (master < 16) && decide (queue < 64)
  | .qdmResume _ master queue => decide (master < 16) && decide (queue < 64)
  | .qdmFlush _ master queue => decide (master < 16) && decide (queue < 64)
  | .dmaBurst _ _ _ => true
  | .descriptorComplete _ queue => decide (queue < 64)
  | .windowEnableWrite _ master window _ => decide (master < 16) && decide (window < 64)
  | .ethTransmit _ port => decide (port < 2)
  | .ethFrameReceive _ port _ _ _ _ => decide (port < 2)
  | .ethLinkChange _ port _ _ => decide (port < 2)
  | .adjStep _ master => decide (master < 16)
  | .adjRate _ master => decide (master < 16)
  | .adjSlew _ master rate => decide (master < 16) && decide (rate < 256)
  | .adjSlewstop _ master => decide (master < 16)
  | .slewEnd _ => true
  | .ppsEdge _ _ _ => true
  | .ppsLost _ => true
  | .milestoneFire _ m => decide (m < 32)
  | .milestonePulseEnd _ m => decide (m < 32)
  | .rtcSecond _ => true
  | .rtcSet _ master _ => decide (master < 16)
  | .rtcDstfwd _ master => decide (master < 16)
  | .rtcDstback _ master => decide (master < 16)
  | .rtcTrimWrite _ master _ => decide (master < 16)
  | .alarmWrite _ master _ _ => decide (master < 16)
  | .wakeperWrite _ master _ => decide (master < 16)
  | .periodicWake _ => true
  | .oscStop _ => true
  | .oscResume _ => true
  | .vbakCheck _ _ => true
  | .rsramRead _ master _ size _ => decide (master < 16) && decide ([1, 2, 4].contains size)
  | .weirWriterStart _ => true
  | .recordCommit _ => true
  | .gapRecord _ => true
  | .recDump _ master _ => decide (master < 16)
  | .recSoft _ master _ => decide (master < 16)
  | .recTselWrite _ master _ => decide (master < 16)
  | .kumWrite _ master => decide (master < 16)
  | .kumErase _ master => decide (master < 16)
  | .kumLifecycle _ master => decide (master < 16)
  | .kumClearTamper _ master => decide (master < 16)
  | .keyCommitPulseEnd _ => true
  | .netload _ master _ => decide (master < 16)
  | .keyWrap _ master _ => decide (master < 16)
  | .keyHash _ master _ => decide (master < 16)
  | .keyHmac _ master _ _ => decide (master < 16)
  | .keyVerify _ master _ => decide (master < 16)
  | .keySign _ master _ => decide (master < 16)
  | .attest _ master => decide (master < 16)
  | .keyRandom _ master => decide (master < 16)
  | .hostwrite _ master _ => decide (master < 16)
  | .keyOpComplete _ => true
  | .tamperLatch _ _ => true
  | .keyTpolicyWrite _ master _ => decide (master < 16)
  | .slotEraseDone _ => true
  | .updManifest _ master => decide (master < 16)
  | .updChunk _ master => decide (master < 16)
  | .updActivate _ master => decide (master < 16)
  | .updConfirm _ master => decide (master < 16)
  | .updAbort _ master => decide (master < 16)
  | .updRevert _ master => decide (master < 16)
  | .chunkConfirmed _ _ => true
  | .verifyDone _ _ => true
  | .trialExpire _ => true
  | .svcOpen _ tag _ => decide (tag < 65536)
  | .svcChunk _ tag _ _ => decide (tag < 65536)
  | .svcClose _ tag => decide (tag < 65536)
  | .svcActivate _ tag => decide (tag < 65536)
  | .svcConfirm _ tag => decide (tag < 65536)
  | .svcAbort _ tag => decide (tag < 65536)
  | .svcStatus _ tag => decide (tag < 65536)
  | .svcKeymsg _ tag _ => decide (tag < 65536)
  | .svcConsole _ tag _ => decide (tag < 65536)
  | .consoleOut _ _ => true
  | .svcBadMessage _ tag => decide (tag < 65536)
  | .svcPresentChange _ _ => true
  | .vbusChange _ _ _ _ => true
  | .scrub _ _ _ _ => true
  | .sramUncorrectable _ _ _ => true
  | .mramError _ _ _ _ => true
  | .mramRemapCommit _ => true
  | .lockstepMismatch _ win => decide (win < 0x14)
  | .clockMonitorFault _ _ => true
  | .secmonFault _ _ => true
  | .fltWdtkick _ master _ => decide (master < 16)
  | .vergeRetest _ master _ _ _ => decide (master < 16)
  | .vergeRelease _ master _ _ => decide (master < 16)
  | .openCoilClear _ k _ => decide (k < 4)
  | .tamperSourceInactive _ _ => true
  | .vbakRetentionLoss _ => true

end Sys2Proof
end

