-- ==== Sys2Proof/Machine/Types1.lean ====
section
/-! DEFINITION. The data types of the structure image, the handles, the register bank, the lantern
table control, the scene engine and the wave engine. -/

namespace Sys2Proof.Machine

/-! ## Structure image (R32 to R35) -/

/-- One feeder of the FEEDERS section (R32, R329, R331, R341). -/
structure ImgFeeder where
  /-- current channels of L1, L2, L3 -/
  phases : List Nat
  neutral : Option Nat
  /-- voltage channels (16 to 19) of L1, L2, L3 -/
  volts : List Nat
  contactor : Option Nat
  pulse : Option Nat
  /-- nominal frequency 60 Hz rather than 50 Hz -/
  hz60 : Bool
  deriving DecidableEq, Repr

/-- One sink group of the SINKGROUPS section (R32). -/
structure ImgGroup where
  enabled : Bool
  /-- the head the group is bound to; none: direct use -/
  head : Option Nat
  interlock : Bool
  ntc : Bool
  spare : Bool
  deriving DecidableEq, Repr

/-- One queue of the QUEUES section (R510, R542). -/
structure ImgQueue where
  engineOwned : Bool
  cls : Nat
  target : Nat
  lprio : Nat
  dprio : Nat
  engine : Nat
  pcpMask : Nat
  ringBase : Nat
  log2n : Nat
  deriving DecidableEq, Repr

/-- CONTACTORS: closing order and the interval in 10 ms steps (R32). -/
structure ImgContactors where
  order : List Nat
  interval : Nat
  deriving DecidableEq, Repr

/-- One trigger source of the RECORDER section (R619, R621, R649). -/
structure ImgSource where
  num : Nat
  /-- 0 NONE, 1 SOFT, 2 MILESTONE, 3 STATUS -/
  trig : Nat
  window : Nat
  inst : Nat
  ref : Nat
  signed : Bool
  edgeSet : Nat
  /-- addresses of the register list, 1 to 48 -/
  regs : List Nat
  deriving DecidableEq, Repr

/-- RECORDER: mode, ring size exponent and the sources (R32). -/
structure ImgRecorder where
  snapshot : Bool
  log2n : Nat
  sources : List ImgSource
  deriving DecidableEq, Repr

/-- A handle that HANDLES names, with its state after the start (R41, R803). -/
structure ImgHandle where
  typ : Nat
  idx : Nat
  running : Bool
  arg0 : Nat
  deriving DecidableEq, Repr

/-- The sections' contents. Their byte layout is private to Drika and the module (R34), so the model
takes them as data beside the image's bytes. -/
structure ImgBody where
  /-- pool sizes of types 1 to 11 -/
  pools : List Nat
  ltBase : Nat
  ltCount : Nat
  /-- head entries: (entry, head number) -/
  ltHeads : List (Nat × Nat)
  feeders : List (Nat × ImgFeeder)
  spareCh : Option Nat
  groups : List ImgGroup
  queues : List (Nat × ImgQueue)
  recorder : ImgRecorder
  /-- function code of each of the 184 pins -/
  pins : List Nat
  /-- window numbers of the optional blocks that CLOCKS leaves out -/
  clkOff : List Nat
  /-- clock plan word, as CLOCKS gives it -/
  clkPlan : Nat
  contactors : Option ImgContactors
  handles : List ImgHandle
  deriving DecidableEq, Repr

/-- A structure image: its bytes (header, section table, bodies, signature) and what its bodies say. -/
structure Image where
  bytes : List Byte
  body : ImgBody
  deriving DecidableEq, Repr

/-! ## Handles (R42 to R70) -/

/-- The four handle states (R48). -/
inductive HState
  | free | stopped | running | faulted
  deriving DecidableEq, Repr

/-- What the module holds per handle index: state, generation counter (R47), owner handle (R45). -/
structure Handle where
  st : HState
  gen : Nat
  owner : Nat
  deriving DecidableEq, Repr

/-- A STOP or START that waits for its boundary (R58). -/
structure StrPend where
  start : Bool
  typ : Nat
  idx : Nat
  /-- fabric cycle of the command -/
  cyc : Nat
  deriving DecidableEq, Repr

/-- The STR block. -/
structure StrUnit where
  img : Option Image
  /-- handles by 65,536 × type + index; an unlisted one is FREE with generation 1 and no owner -/
  handles : List (Nat × Handle)
  pend : Option StrPend
  cmdSeq : Nat
  detail : Nat
  stAfter : HState
  result : Nat
  deriving DecidableEq, Repr

/-! ## Register behaviour (R71 to R122) -/

/-- Occurrences of one fabric cycle held for a status register: the bits they set and the cycle (R94,
R95). -/
structure Held where
  bits : Nat
  cyc : Nat
  deriving DecidableEq, Repr

/-- A status register: SEQ, event bits, the marks of the bits set so far (R93 to R96), the events held
for later 1 µs steps and the fabric cycle of the last post (R95). -/
structure StatReg where
  seq : Nat
  bits : Nat
  marks : List (Nat × Nat)
  held : List Held
  last : Option Nat
  deriving DecidableEq, Repr

/-- An open guarded pair of one block (R99). -/
structure GuardPair where
  win : Nat
  off : Nat
  /-- address of the first write as issued (R111) -/
  addr : Nat
  value : Word
  master : Nat
  cyc : Nat
  deriving DecidableEq, Repr

/-- What the bus answered last: the word, its upper word where the access was of eight bytes, and whether it
was an error response (R72, R85). -/
structure BusReply where
  data : Word
  hi : Word := 0
  error : Bool
  deriving DecidableEq, Repr

/-- The error capture of R82 to R84. -/
structure BusErr where
  addr : Nat
  count : Nat
  master : Nat
  write : Bool
  cause : Nat
  deriving DecidableEq, Repr

/-- A stored word with its four parity bits, that of byte 0 in bit 0 (R113). -/
structure PWord where
  value : Word
  par : Nat
  deriving DecidableEq, Repr

/-- Software's copies: the stored words by first-image address, and the registers that were written in the
fabric cycle of the last write (R116). -/
structure Bank where
  words : List (Nat × PWord)
  wroteAt : Nat
  wrote : List Nat
  deriving DecidableEq, Repr

/-- A write of a shadow that no boundary has copied yet: the word, and the fabric cycle of the write (R87, R88). -/
structure Change where
  key : Nat
  cyc : Nat
  word : Word
  deriving DecidableEq, Repr

/-- The register bank and what the register rules keep beside it. -/
structure RegUnit where
  /-- software's copy of every stored field: RW, WL, W1 and WG values and the shadows of RWS fields,
  by first-image address; unlisted: the reset value with matching parity -/
  cfg : Bank
  /-- active copies of RWS fields and of the island's retained fields; unlisted: the reset value with
  matching parity -/
  act : List (Nat × PWord)
  /-- writes of shadows since the last copy of their instance, in their order (R87, R88) -/
  changed : List Change
  /-- status registers by address; unlisted: never posted to -/
  stat : List (Nat × StatReg)
  /-- open guarded pairs, at most one per block -/
  pairs : List GuardPair
  /-- LO/HI latches by the address of the HI register (R229, R469, R544, R576, R645) -/
  latch : List (Nat × Word)
  busErr : BusErr
  reply : BusReply
  /-- cycle at which the parity scanner found FLT_PARTEST naming no configuration register (R122) -/
  partestSeen : Bool
  deriving DecidableEq, Repr

/-! ## Lantern table control (R123 to R162) -/

/-- A command in the commit queue (R147). -/
structure EditCmd where
  ticket : Nat
  clear : Bool
  index : Nat
  mask : Nat
  src : Nat
  deriving DecidableEq, Repr

/-- The LTB block. The entries themselves are bytes of on-chip SRAM (R123). -/
structure LtbUnit where
  base : Nat
  count : Nat
  heads : List (Nat × Nat)
  queue : List EditCmd
  issued : Nat
  done : Nat
  code : Nat
  dwAddr : Nat
  unknownJoin : Nat
  idleDrop : Nat
  euiFound : Option Nat
  deriving DecidableEq, Repr

/-! ## Scene engine (R163 to R232, R805) -/

/-- A command generated for an entry that has not yet been written into its MIX, LEVEL and EFF_ASN
fields (R195): a SCENE (with the mix at the commanded level) or a LEVEL; the raw count of its effective
instant, the slot written to EFF_ASN, the tick that generated it and how many copies were queued. An empty
mix leaves MIX as it is. -/
structure ScnCmd where
  scene : Bool
  teff : Nat
  asn : Nat
  tseq : Nat
  copies : Nat
  mix : List Nat
  level : Nat
  deriving DecidableEq, Repr

/-- Scene engine state of one entry: the last solve (R195), the level recorded for it (R213), the
limits of its last solve (R199), the triggers it keeps (R200) and the commands not yet in effect. -/
structure ScnEntry where
  mixCap : List Nat
  cap : Nat
  level : Option Nat
  lims : List Nat
  solved : Bool
  trCommit : Bool
  trJoin : Bool
  trStep : Bool
  trHead : Bool
  trTemp : Bool
  trLimit : Bool
  cmds : List ScnCmd
  deriving DecidableEq, Repr

/-- One programme: its chromaticity step and its step in force, the level (R175), and, as a default
programme, the programme and the calendar rule in force (R180); none before the rules were first evaluated. -/
structure ScnProg where
  scene : Option Nat
  step : Option Nat
  level : Nat
  inForce : Option Nat
  rule : Option Nat
  /-- words of the step in force as last evaluated (R176), and of the chromaticity step -/
  words : List Word
  sceneWords : List Word
  deriving DecidableEq, Repr

/-- A record of a SCENE frame (R485). -/
structure SceneRec where
  laddr : Nat
  groups : Nat
  cap : Nat
  level : Nat
  fade : Nat
  curve : Nat
  mix : List Nat
  deriving DecidableEq, Repr

/-- The payload of an engine-queued frame. A SCENE frame keeps its records, since a record can be
withdrawn before launch (R486). -/
inductive EPay
  | scene (asn tseq : Nat) (recs : List SceneRec)
  | octets (b : List Byte)
  deriving DecidableEq, Repr

/-- A frame the scene engine holds because its queue was full (R216). -/
structure HeldFrame where
  lane : Nat
  asn : Nat
  pay : EPay
  deriving DecidableEq, Repr

/-- A calendar date. -/
structure Date where
  y : Nat
  m : Nat
  d : Nat
  deriving DecidableEq, Repr

/-- The SCN block. -/
structure ScnUnit where
  /-- entries by index; unlisted: nothing solved, no trigger -/
  entries : List (Nat × ScnEntry)
  progs : List ScnProg
  /-- date of the current programme day (R169); none before the first -/
  day : Option Date
  watermark : Nat
  /-- ASTRO_STALE already set in this programme day (R177) -/
  staleDone : Bool
  /-- the calendar was written other than by a summer-time command (R173) -/
  calSet : Bool
  /-- DAYSTART by which the programme day runs (R174) -/
  dayStart : Nat
  /-- a PROGRAMME handle was started, or a rule word taken up, since the last evaluation (R181) -/
  progStart : Bool
  /-- ENABLE in force at the last tick (R222) -/
  wasEnabled : Bool
  curveValid : Nat
  held : List HeldFrame
  /-- T_eff of the last tick that queued frames, corrected ns (R209) -/
  lastEff : Nat
  solved : Nat
  solveUs : Nat
  frames : Nat
  margin : Nat
  /-- scene ticks since the last L1 or L2 load (R478) -/
  tseq : Nat
  deriving DecidableEq, Repr

/-! ## Beacons (R439) -/

/-- What an enhanced beacon of a lane says (R439): the module's EUI-64 and the PAN identifier, the slot's ASN, the
slot length in µs, the hopping list, the slotframe's length and the advertised cells as (slot offset, channel
offset, class). Its join metric is 0, and the rest of its timeslot template is the fixed one of the slot's rule. -/
structure Beacon where
  eui : Nat
  pan : Nat
  asn : Nat
  slotLen : Nat
  hops : List Nat
  sfLen : Nat
  links : List (Nat × Nat × Nat)
  deriving DecidableEq, Repr

/-! ## Wave engine (R233 to R282) -/

/-- An input of the wave engine's FIFO (R234). -/
inductive WavIn
  /-- a DETECT: entry, reception and detection raw counts, SPEED, HEADING, HEADING_VALID, CLASS -/
  | detect (entry tRx td speed heading : Nat) (hv : Bool) (cls : Nat)
  /-- a handoff datagram: payload, reception raw count, corrected ns and source IP address octets -/
  | datagram (pay : List Byte) (tRx corr : Nat) (src : List Byte)
  deriving DecidableEq, Repr

/-- A raised entry of a wave (R242): arrival, raise and release times, raw. -/
structure Raised where
  entry : Nat
  lateral : Bool
  /-- bearing of the link that reached it; none at the anchor -/
  bearing : Option Nat
  arrival : Nat
  raise : Nat
  release : Nat
  /-- raise and release times last sent (R263) -/
  sent : Option (Nat × Nat)
  /-- path distance from the anchor of the last search, 0.1 m; none when that search did not reach it -/
  dist : Option Nat
  deriving DecidableEq, Repr

/-- A handoff point of a wave (R253, R266): `gone` while the last search does not reach it. -/
structure HandPt where
  entry : Nat
  peer : Nat
  arrival : Nat
  bearing : Nat
  openSent : Bool
  gone : Bool
  seq : Nat
  deriving DecidableEq, Repr

/-- An open wave (R242). -/
structure Wave where
  num : Nat
  ident : Nat
  anchor : Nat
  t0 : Nat
  speed : Nat
  /-- the heading of the last anchoring input; none when it carried none -/
  heading : Option Nat
  profile : Nat
  /-- the eight profile words copied at opening (R239) -/
  prof : List Word
  set : List Raised
  points : List HandPt
  /-- the peer, the WAVE_ID and the entry of a wave opened by handoff -/
  remote : Option (Nat × Nat × Nat)
  hops : Nat
  cls : Nat
  deriving DecidableEq, Repr

/-- The WAV block. -/
structure WavUnit where
  fifo : List WavIn
  fifoMax : Nat
  /-- open waves, by ascending number -/
  waves : List Wave
  /-- how often each number has opened a wave, modulo 512 -/
  counts : List (Nat × Nat)
  /-- raw detection time of the last accepted DETECT by entry (R236 check 5) -/
  dup : List (Nat × Nat)
  /-- (peer, WAVE_ID, highest SEQ, raw time of acceptance) (R271 check 6) -/
  seqs : List (Nat × Nat × Nat × Nat)
  dAge : Nat
  dState : Nat
  dFilter : Nat
  dRange : Nat
  dOver : Nat
  dDup : Nat
  hoStale : Nat
  hoCheck : Nat
  trunc : Nat
  qfull : Nat
  hoRecv : Nat
  hoSent : Nat
  latCompute : Nat
  latTotal : Nat
  deriving DecidableEq, Repr

end Sys2Proof.Machine
end

