-- ==== Sys2Proof/Config.lean ====
section
/-! DEFINITION. What the spec leaves open: uninterpreted constants without a body. Nothing in Lean can
evaluate one, so a claim about the model holds whatever they are. -/

namespace Sys2Proof.Config

/-! ## Algorithms that the spec names without giving their text (DESIGN CHOICE, log entry 8) -/

/-- SHA-256 of octets (R36, R65, R676). -/
opaque sha256 : List Byte → List Byte
/-- HMAC-SHA-256 of octets under a key (R267, R676): key, octets. -/
opaque hmac : List Byte → List Byte → List Byte
/-- ECDSA P-256 verification over a SHA-256 (R36, R674, R694): public key, hash, signature. -/
opaque ecdsaVerify : List Byte → List Byte → List Byte → Bool
/-- ECDSA P-256 signature (R674, R675): private key, hash, freshness. -/
opaque ecdsaSign : List Byte → List Byte → Nat → List Byte
/-- Public key, x then y, of a P-256 private key (R663). -/
opaque p256Public : List Byte → List Byte
/-- AES key wrap of RFC 3394 (R674): key, clear octets. -/
opaque aesWrap : List Byte → List Byte → List Byte
/-- AES key unwrap of RFC 3394 (R452, R663): key, wrapped octets; none when the integrity check fails. -/
opaque aesUnwrap : List Byte → List Byte → Option (List Byte)
/-- The transport key of a key update message: device private key, ephemeral public key, header. -/
opaque transportKey : List Byte → List Byte → List Byte → List Byte
/-- Octets from the CTR_DRBG (R674): how many, and the free counter. -/
opaque drbg : Nat → Nat → List Byte
/-- CCM* verification of a received frame's MIC (R448 check 7): key, source EUI-64, frame counter and the
frame's octets. -/
opaque micOk : List Byte → Nat → Nat → List Byte → Bool

/-! ## Values fixed outside the spec's text (DESIGN CHOICE, log entries 9 and 10) -/

/-- Values of key slots 0 to 2, written at manufacture (R652, R655): the device identity key, the
provisioning root and the return root. -/
opaque glefaetteSlot : Nat → List Byte
/-- The manufacturing key in the security monitor's ROM (R651). -/
opaque manufacturingKey : List Byte
/-- The content of an image's section bodies, whose layout is private (R34). -/
opaque decodeBody : List Byte → Option Machine.ImgBody
/-- Airtime in µs of a SUN-OFDM PPDU (R435): option, MCS, PSDU octets. -/
opaque ofdmAirUs : Nat → Nat → Nat → Nat
/-- SRAM address of the buffer of an engine-owned queue's descriptor: queue, index. -/
opaque engineBuf : Nat → Nat → Nat
/-- Factory test results shown in MTR_FACTORY (R372). -/
opaque mtrFactory : Nat
/-- Octets of an enhanced beacon's payload, which the standard lays out (R439). -/
opaque beaconOctets : Machine.Beacon → List Byte

/-! ## Filters whose coefficients the spec does not give (DESIGN CHOICE, log entry 67) -/

/-- The DC-removal high-pass filter of 0.5 Hz (R344): its state and a sample; its next state and its output. -/
opaque dcRemoval : List Rat → Rat → List Rat × Rat
/-- The correction of the integrator's leak at a frequency in mHz (R345): frequency, state, the integrator's output. -/
opaque leakFix : Nat → List Rat → Rat → List Rat × Rat
/-- The second-order low-pass filter of 200 Hz (R338). -/
opaque lowPass : List Rat → Rat → List Rat × Rat
/-- Its group delay in raw ticks (R338). -/
opaque lowPassDelay : Rat
/-- The product v_h·i of R342, v_h being v through the Hilbert transformer: state, v, i. -/
opaque quadrature : List Rat → Rat → Rat → List Rat × Rat

/-! ## Free values (DESIGN CHOICE, log entries 10 to 12) -/

/-- An octet of a recorder slot beyond a record's payload, in a page written with it (R622): record number,
offset. -/
opaque padByte : Nat → Nat → Byte

/-- A value the spec leaves open, by the place that uses it and the free counter. -/
opaque freeNat : Nat → Nat → Nat
/-- A rounding the spec leaves open: true takes the integer above. -/
opaque roundUp : Nat → Rat → Bool

end Sys2Proof.Config
end

