-- ==== Sys2Proof/Machine/Types2.lean ====
section
/-! DEFINITION. The data types of the mast drive, the metering island, the energy accounts, the radio
lanes, the queue manager and the timebase. -/

namespace Sys2Proof.Machine

/-! ## Mast drive (R283 to R328) -/

/-- Phases of a sink group (R312). -/
inductive Phase
  | dark | startup | run | test | recovery | tripped | disabled | held
  deriving DecidableEq, Repr

/-- Source of the group estimate (R299). -/
inductive TSource
  | vf | ntc | none
  deriving DecidableEq, Repr

/-- Drive region of a sink (R286, R328). -/
inductive SinkMode
  | off | analog | pwm | stretch
  deriving DecidableEq, Repr

/-- A sample of a string: the raw count at which it was taken, Vf in mV and the sense current in mA (R296). -/
structure VfSample where
  at_ : Nat
  vf : Rat
  i : Nat
  deriving DecidableEq, Repr

/-- A sink controller. -/
structure Sink where
  open_ : Bool
  adjShort : Bool
  ctrl : Bool
  sat : Bool
  vfRange : Bool
  takenOut : Bool
  subst : Bool
  /-- drive of the present period after the clamp -/
  d : Nat
  code : Nat
  /-- on-time of the present period, in 2.5 ns ticks -/
  onTicks : Nat
  mode : SinkMode
  /-- on-time still to be omitted after a stretched pulse, in 2.5 ns ticks (R309) -/
  excess : Nat
  /-- the present period is blanked for its first 4 µs (R310) -/
  blank : Bool
  /-- last sense current in mA and drain voltage in mV -/
  i : Nat
  vds : Nat
  tj : Option Rat
  vf : Nat
  /-- the sink met its target in the period before the present one (R310) -/
  met : Bool
  /-- the SAT condition was seen in the present 100 ms window (R311) -/
  satSeen : Bool
  /-- raw count since which SAT has persisted, until R294 has told of it -/
  satSince : Option Nat
  /-- consecutive checks that found OPEN, and consecutive periods that found CTRL and SAT (R307) -/
  openCnt : Nat
  ctrlCnt : Nat
  satCnt : Nat
  /-- least V_DS in mV sampled since the last action of the headroom loop (R292) -/
  hrMin : Option Nat
  /-- samples of the string for the 100 ms windows not closed, and whether the present period's is among them
  (R296) -/
  samples : List VfSample
  sampled : Bool
  deriving DecidableEq, Repr

/-- A sink group. -/
structure Group where
  phase : Phase
  /-- raw count at which the phase was entered -/
  since : Nat
  /-- HRADJ is driven (R295) -/
  driven : Bool
  code : Nat
  /-- the code held on entering DARK (R295) -/
  saved : Option Nat
  /-- the next leaving of DARK goes to the higher-supply limit (R295) -/
  firstLeave : Bool
  /-- raw count since which every sink has had drive 0 -/
  zeroSince : Option Nat
  tEst : Rat
  source : TSource
  /-- derating limit D of the last window (R301) -/
  derate : Nat
  /-- highest valid string estimate of the most recent window that had one, and windows since (R299) -/
  vfHold : Option (Rat × Nat)
  ntc : Option Rat
  ntcMiss : Nat
  therm : Bool
  interlocked : Bool
  /-- one extra step of the headroom loop is due at the next PERIOD boundary (R293) -/
  extraStep : Bool
  /-- gates are to be clamped off at the next PERIOD boundary (R303, R313) -/
  clampDue : Bool
  spareUsable : Bool
  /-- channel the spare serves -/
  spareTo : Option Nat
  /-- channel a substitution is in progress for (R318, R319) -/
  subBusy : Option Nat
  /-- the group has left TRIPPED and no owning handle has been started since (R312) -/
  afterTrip : Bool
  /-- the tick target of the last 100 ms window computed (R296) -/
  winTick : Option Nat
  /-- a RELEASE of the spare from this channel is due at the next PERIOD boundary (R765) -/
  releaseDue : Option Nat
  /-- raw count of the headroom loop's last action, or of its start (R292) -/
  hrAt : Nat
  /-- corrected time, ns, of the self-test slot of the spare that was last used (R317) -/
  selfAt : Option Nat
  deriving DecidableEq, Repr

/-- A command for a head, from the scene engine (R217). -/
structure HeadCmd where
  mixCap : List Nat
  cap : Nat
  level : Nat
  curve : Nat
  /-- fade time in 0.1 s -/
  fade : Nat
  teff : Nat
  deriving DecidableEq, Repr

/-- A running fade of a head: channel drives from and to, scene level from and to, start (raw) and length in raw ticks
(R205, R206). -/
structure HeadFade where
  src : List Nat
  dst : List Nat
  srcLevel : Nat
  dstLevel : Nat
  curve : Nat
  t0 : Nat
  len : Nat
  deriving DecidableEq, Repr

/-- A wave's command for a head (R261). -/
structure HeadWave where
  ident : Nat
  level : Nat
  raise : Nat
  release : Nat
  /-- RISE and FADEBACK in 10 ms units -/
  rise : Nat
  fadeback : Nat
  curve : Nat
  /-- the level the head ran at at its raise time, once that has come (R255) -/
  start : Option Nat
  deriving DecidableEq, Repr

/-- A head. -/
structure Head where
  cmd : Option HeadCmd
  fade : Option HeadFade
  pend : List HeadCmd
  waves : List HeadWave
  /-- drives held from the stop boundary while the HEAD handle is STOPPED (R51) -/
  hold : Option (List Nat)
  /-- the fade to zero of a transition to VIGIL or OFF (R740) -/
  out : Option HeadFade
  /-- energy of the head's strings since the last close of its feeder, µWh (R405) -/
  energy : Rat
  deriving DecidableEq, Repr

/-- What a calibration measured in one period of a step: the step's number, Vf in mV and the current in mA (R305). -/
structure CalSample where
  step : Nat
  vf : Rat
  i : Nat
  deriving DecidableEq, Repr

/-- A calibration in progress (R305): the periods it has driven, the samples of the last halves of its steps,
whether a sink drew too little, and whether every sink in turn has had its two steps. -/
structure Cal where
  group : Nat
  tRef : Rat
  t0 : Nat
  periods : Nat
  samples : List CalSample
  low : Bool
  ended : Bool
  deriving DecidableEq, Repr

/-- The MST block. -/
structure MstUnit where
  groups : List Group
  sinks : List Sink
  heads : List Head
  cal : Option Cal
  cmdCode : Nat
  deriving DecidableEq, Repr

/-! ## Metering island (R329 to R376) -/

/-- Synchronisation states of the island (R334). -/
inductive SyncState
  | locked | acquiring | holdover
  deriving DecidableEq, Repr

/-- States of the spare converter (R371). -/
inductive SpareState
  | absent | refCheck | checking | substituting | unusable | idle
  deriving DecidableEq, Repr

/-- A converter channel of the island. -/
structure Chan where
  subst : Bool
  estCount : Nat
  chfail : Bool
  deviation : Bool
  stuck : Bool
  clip : Bool
  noload : Bool
  /-- raw count until which the Rogowski integrator settles (R345) -/
  settleTo : Option Nat
  rms : Word
  gainDev : Int
  phaseDev : Int
  /-- temperature correction c, ppm (R347) -/
  corr : Rat
  /-- the converter's last code and how many identical ones have come in a row (R357) -/
  code : Int
  run : Nat
  /-- state of the DC-removal filter (R344) -/
  dc : List Rat
  /-- gains and delays that have been replaced: the stamp up to which samples take them, gain, delay (R350) -/
  past : List (Nat × Rat × Rat)
  deriving DecidableEq, Repr

/-- A sample that the island has taken (R332, R344): its stamp, whether it carries HOLDOVER, the 20 inputs in V after the
DC removal, and the converters at the clip limit. -/
structure TakenSample where
  at_ : Nat
  hold : Bool
  xs : List Rat
  clips : List Nat
  deriving DecidableEq, Repr

/-- What the processing of a channel keeps from one cycle to the next (R345, R346): the integrator's last input and
output, the state of its leak correction, and the last three samples before the delay, newest first. -/
structure ChanDsp where
  x : Rat
  y : Rat
  leak : List Rat
  line : List Rat
  deriving DecidableEq, Repr

/-- Line-cycle state of a feeder. -/
structure FeedCyc where
  last : Option Nat
  synth : Bool
  /-- frequency of the last cycle, mHz -/
  freq : Nat
  /-- last good active and reactive energy of each phase, J (R363) -/
  good : List (Rat × Rat)
  /-- phases whose cycles are estimated until the spare has settled, with the cycles left (R363) -/
  est : List (Nat × Nat)
  /-- a temperature average is to be taken up at the next boundary (R347) -/
  tempDue : Bool
  /-- the next cycle is flagged RESYNC (R336) -/
  resync : Bool
  /-- a release of the spare is due at the next boundary for this channel (R366) -/
  releaseDue : Option Nat
  /-- a substitution takes effect at the next boundary for this channel (R362, R363) -/
  substDue : Option Nat
  /-- a sample of the cycle in progress carries HOLDOVER (R343) -/
  holdSeen : Bool
  /-- the boundary from which the spare's samples replace this channel's has come (R362, R363) -/
  substReady : Option Nat
  /-- stamp from which the feeder has been watched for crossings (R91, R339) -/
  since : Nat
  /-- samples of the cycle in progress and later (R340) -/
  buf : List TakenSample
  /-- processing state of each channel (R345, R346), and of the Hilbert transformer of each phase (R342) -/
  dsp : List (Nat × ChanDsp)
  quad : List (Nat × List Rat)
  /-- crossing detection (R338): the reference channel's last samples, newest first, the low-pass filter's state, its
  last output with its stamp, the stamp since which the output has been below −5 %, and whether that lasted 2 ms -/
  line : List Rat
  lp : List Rat
  prevY : Option (Nat × Rat)
  lowFrom : Option Nat
  lowOk : Bool
  /-- crossings found whose boundary has not been served -/
  cross : List Nat
  deriving DecidableEq, Repr

/-- What the samples of a cycle give for one phase: Σ v·i × 125 µs and Σ v_h·i × 125 µs in J (R342). -/
structure PhaseMeas where
  vi : Rat
  vhi : Rat
  deriving DecidableEq, Repr

/-- What they give for a channel: the mean of the squared samples in primary units, and whether one reached the clip
limit (R342, R357). -/
structure ChanMeas where
  ch : Nat
  meanSq : Rat
  clip : Bool
  deriving DecidableEq, Repr

/-- What one cycle delivers to the accounts for one phase: P and Q in J, Irms in A, flags (R342, R343). -/
structure PhaseCyc where
  p : Rat
  q : Rat
  irms : Rat
  noload : Bool
  clip : Bool
  est : Bool
  chfail : Bool
  settle : Bool
  deriving DecidableEq, Repr

/-- A cycle result (R342). -/
structure CycRes where
  feeder : Nat
  t0 : Nat
  t1 : Nat
  phases : List PhaseCyc
  holdover : Bool
  resync : Bool
  synth : Bool
  freqRange : Bool
  /-- channels of the feeder with a sample at the clip limit (R357) -/
  clips : List Nat
  /-- frequency of the cycle in mHz, and the rms and no-load figures of the feeder's channels (R342, R343) -/
  freq : Nat
  rms : List (Nat × Word)
  noloads : List Nat
  /-- the cycle's end in the count in force, by which a held result ages (R337) -/
  at_ : Int
  deriving DecidableEq, Repr

/-- The MTR block and the island behind it. -/
structure MtrUnit where
  powered : Bool
  chans : List Chan
  feeds : List FeedCyc
  sync : SyncState
  /-- consecutive good pulses, consecutive missing pulses -/
  syncGood : Nat
  syncMiss : Nat
  phaseErr : Int
  /-- raw count of the last good pulse, as its message carried it -/
  lastPulse : Nat
  /-- the island drops its pending interval ends at the next pulse (R396) -/
  restarted : Bool
  linkDown : Bool
  held : List CycRes
  temp : Option Rat
  tempValid : Bool
  spare : SpareState
  spareTarget : Nat
  rounds : Nat
  /-- channels left in the round -/
  todo : List Nat
  /-- a deviation above tolerance is being checked again (R360) -/
  repeating : Bool
  /-- channels confirmed in this round with the sign of their gain deviation (R361) -/
  confirmed : List (Nat × Bool)
  cmdCode : Nat
  /-- an MTR_ISLCTL command waits for a CYCLE boundary -/
  cmdPend : Bool
  /-- the FEEDERS section the island works by: feeders and the spare current channel (R329) -/
  map : List (Nat × ImgFeeder)
  mapSpare : Option Nat
  /-- stamp of the island's next sample: the island's own count (R332, R336) -/
  stamp : Nat
  /-- difference in ns that the sample instants have still to slew (R336) -/
  lag : Rat
  /-- raw count at which the spare's reference check began (R358) -/
  refAt : Int
  deriving DecidableEq, Repr

/-! ## Energy accounts (R377 to R423) -/

/-- An interval record (R398). -/
structure IvRec where
  recno : Nat
  feeder : Nat
  flags : Nat
  startRaw : Nat
  endRaw : Nat
  endCorr : Nat
  startEpoch : Nat
  endEpoch : Nat
  cycles : Nat
  imp : Nat
  exp_ : Nat
  q1 : Nat
  q2 : Nat
  q3 : Nat
  q4 : Nat
  loss : Nat
  residual : Int
  basis : Nat
  estBasis : Nat
  lanterns : Nat
  estimated : Nat
  /-- accumulators of element 0 at the end, kept so that a restoration can use the record (R383) -/
  accs : List Nat
  deriving DecidableEq, Repr

/-- A latched close waiting to be written (R395). -/
structure IvClose where
  startRaw : Nat
  endRaw : Nat
  startEpoch : Nat
  endEpoch : Nat
  endCorr : Nat
  cycles : Nat
  flags : Nat
  /-- the difference of the accumulators k = 0 to 6 of element 0, whole µWh -/
  diff : List Nat
  accs : List Nat
  /-- RESCFG in force at the boundary that closed the interval -/
  rescfg : Word
  /-- energy of each head over the interval, µWh (R405) -/
  headE : List Rat
  deriving DecidableEq, Repr

/-- Interval state of a feeder. -/
structure FeedIv where
  /-- open interval: start, its accumulators (whole µWh), epoch, cycles, flags so far -/
  open_ : Bool
  startRaw : Nat
  endRaw : Nat
  /-- the corrected time in ns that endRaw was converted from (R390, R558) -/
  endAt : Nat
  startAcc : List Nat
  startEpoch : Nat
  cycles : Nat
  flags : Nat
  /-- an interval opens at the next CYCLE boundary with these flags (R393, R397) -/
  opening : Option Nat
  /-- the open interval is to close at the next CYCLE boundary with these flags (R391, R393, R396) -/
  closing : Option Nat
  /-- raw counts that the boundary which opens, or closes, must not precede (R391, R393) -/
  openFrom : Nat
  closeFrom : Nat
  /-- the island has dropped the pending end of the open interval; the accounts block ends it (R396) -/
  dropped : Bool
  /-- the open interval carries on the last latched one, up to the first close after the die returns (R395) -/
  extended : Bool
  /-- energy measured so far on each head at the interval's start, µWh (R405) -/
  startHead : List Rat
  latched : List IvClose
  recno : Nat
  /-- RECNO as IVSTAT shows it (R422) -/
  shown : Nat
  exceed : Nat
  alarm : Bool
  qchange : Bool
  restored : Bool
  deriving DecidableEq, Repr

/-- The report snapshot of an entry (R405). -/
structure Snap where
  energy : Nat
  seq : Nat
  raw : Nat
  deriving DecidableEq, Repr

/-- A pulse output (R410 to R414). -/
structure PulseOut where
  /-- accumulator multiple last credited, held in the backup domain (R413) -/
  mark : Nat
  pending : Nat
  /-- width in force, 0.1 ms -/
  width : Nat
  /-- raw count at which the pulse being emitted ends -/
  until_ : Option Nat
  /-- earliest raw count of the next pulse start -/
  next : Nat
  deriving DecidableEq, Repr

/-- Latched values of a quantity slot (R386). -/
structure SlotLatch where
  hi : Word
  count : Word
  wrap : Word
  /-- COUNT has not been read since the read of UWH_LO that latched it -/
  fresh : Bool
  deriving DecidableEq, Repr

/-- The ACC block. -/
structure AccUnit where
  /-- accumulators by 32 × feeder + 8 × element + k, in units of 2⁻³² µWh (R382) -/
  accs : List (Nat × Nat)
  /-- the values visible in the slots, whole µWh (R384) -/
  vis : List (Nat × Nat)
  slots : List (Nat × SlotLatch)
  /-- in-service flags of current channels and feeders (R394) -/
  chIn : List Nat
  fdIn : List Nat
  ivs : List FeedIv
  /-- interval records by 2,048 × feeder + slot, in MRAM (R399) -/
  ring : List (Nat × IvRec)
  /-- per-lantern totals by entry, in MRAM (R408) -/
  totals : List (Nat × Nat)
  estSum : List (Nat × Nat)
  snaps : List (Nat × Snap)
  pulses : List PulseOut
  /-- (feeder, end of the cycle, P and Q of the feeder in J) of the cycles of the last second (R411) -/
  power : List (Nat × Int × Rat × Rat)
  /-- the two copies of the totals of each feeder's entries, by 2 × feeder + RECNO modulo 2 (R399) -/
  copies : List (Nat × List (Nat × Nat))
  /-- the accumulators were restored from records while the die could not be told (R383) -/
  restoredDue : Bool
  deriving DecidableEq, Repr

/-! ## Radio lanes (R424 to R472) -/

/-- States of the spare transceiver (R472). -/
inductive XSpare
  | free | selftest | rxtest | serving | unusable
  deriving DecidableEq, Repr

/-- A frame launched and waiting for its acknowledgement (R445). -/
structure Await where
  queue : Nat
  /-- slot of the attempt and the entry addressed -/
  slot : Nat
  dest : Nat
  deriving DecidableEq, Repr

/-- A frame a lane has sent (R439, R442): the slot, its destination entry (0xFFFF: broadcast), its form, its frame
counter (none for a beacon), its payload before security and the power it was sent at in dBm (R456, R466). -/
structure TxFrame where
  slot : Nat
  dest : Nat
  formJ : Bool
  fc : Option Nat
  octets : List Byte
  beacon : Bool
  power : Int
  deriving DecidableEq, Repr

/-- An enhanced acknowledgement a lane has sent (R440, R455): the entry it answers, the form of the frame it answers,
its own frame counter, the raw count of its first preamble bit, its power in dBm, and the time correction in µs that
it carries when CTRL.TCORR is 1. -/
structure AckFrame where
  dest : Nat
  formJ : Bool
  fc : Nat
  start : Nat
  power : Int
  corr : Option Int
  deriving DecidableEq, Repr

/-- A lane. -/
structure Lane where
  run : Bool
  /-- raw count of the slot at which the lane starts (R464) -/
  startAt : Option Nat
  /-- ENABLE was taken up as 1 and the start failed (R426, R464) -/
  cfgBad : Bool
  xcvr : Option Nat
  /-- stopped by a transceiver fault with no spare (R458) -/
  faulted : Bool
  /-- a release is due at this raw count (R460) -/
  releaseAt : Option Nat
  /-- slot begun last -/
  slot : Option Nat
  /-- channel tuned in that slot (R428) -/
  tuned : Option Nat
  await : Option Await
  sent : Nat
  retries : Nat
  accepted : Nat
  ackSent : Nat
  dFcs : Nat
  dFormat : Nat
  dSecurity : Nat
  dAddr : Nat
  dMic : Nat
  dReplay : Nat
  lateDrop : Nat
  lateSent : Nat
  collSkip : Nat
  txFail : Nat
  dutySkip : Nat
  /-- transmissions of the last hour: start raw and length in raw ticks, beacons marked (R447) -/
  air : List (Nat × Nat × Bool)
  /-- confirmation counts of R456 -/
  pllFail : Option Nat
  txPwrFail : Nat
  rxTestFail : Nat
  antFail : Nat
  antFault : Bool
  /-- the frame and the acknowledgement sent last -/
  lastTx : Option TxFrame
  lastAck : Option AckFrame
  deriving DecidableEq, Repr

/-- The five LNE instances. -/
structure LneUnit where
  lanes : List Lane
  spare : XSpare
  spareTarget : Nat
  /-- a takeover in progress: lane and t_f (R457) -/
  takeover : Option (Nat × Nat)
  /-- next lane of the receiver test (R459) -/
  rotate : Nat
  /-- raw count at which the spare's last round began (R459) -/
  roundAt : Nat
  cmdCode : Nat
  noKey : Nat
  /-- frame counter of the next secured frame (R453) -/
  fc : Nat
  /-- slot of the last NETLOAD and NETIDX the counter belongs to -/
  fcOwner : Nat × Nat
  /-- the multiple of 65,536 recorded in MRAM, with slot and NETIDX -/
  fcRec : Option (Nat × Nat × Nat)
  /-- the spare has locked (takeover event 3) -/
  locked : Bool
  /-- a TAKEOVER or RELEASE of LNE[4]_CMD is in progress (R472) -/
  cmdBusy : Bool
  deriving DecidableEq, Repr

/-! ## Queue manager (R510 to R545) -/

/-- A transfer in progress or paused on a queue: bytes committed, and of a frame fetched into a lane or a
MAC the octets so far. -/
structure Xfer where
  offset : Nat
  data : List Byte
  deriving DecidableEq, Repr

/-- The frame held in a lane or a MAC after its fetch (R530). -/
structure HeldTx where
  octets : List Byte
  deriving DecidableEq, Repr

/-- A received frame waiting to be moved into a receive buffer (R524). -/
structure RxJob where
  header : List Byte
  frame : List Byte
  foreign : Bool
  deriving DecidableEq, Repr

/-- A hardware queue. -/
structure Queue where
  head : Nat
  tail : Nat
  /-- parked on a fault -/
  parked : Bool
  cause : Nat
  offset : Nat
  faultAddr : Nat
  nobuf : Nat
  trunc : Nat
  xfer : Option Xfer
  held : Option HeldTx
  rx : List RxJob
  /-- attempts made for the head descriptor -/
  attempts : Nat
  lateSent : Bool
  /-- frame counter of the head descriptor's first attempt (R445) -/
  headFc : Option Nat
  /-- a descriptor completion is due: status, length, CFLAGS (DESCRIPTOR_COMPLETE) -/
  done : Option (Nat × Nat × Nat)
  deriving DecidableEq, Repr

/-- The payload of an engine-owned queue's descriptor: queue, index, payload, raw count of queueing. -/
structure EngBuf where
  queue : Nat
  index : Nat
  pay : EPay
  at_ : Nat
  deriving DecidableEq, Repr

/-- The QDM block. -/
structure QdmUnit where
  /-- the QUEUES section (R510) -/
  cfgs : List (Nat × ImgQueue)
  queues : List (Nat × Queue)
  bufs : List EngBuf
  /-- raw count of the TAIL write that handed over each index (R518): queue, index, raw -/
  handed : List (Nat × Nat × Nat)
  /-- descriptors withdrawn before their fetch began: queue, index (R51, R486) -/
  gone : List (Nat × Nat)
  cmdCode : Nat
  erxDrop0 : Nat
  erxDrop1 : Nat
  /-- last queue served, for turns among equal DPRIO (R529) -/
  turn : Nat
  deriving DecidableEq, Repr

/-! ## Timebase and Ethernet (R546 to R584) -/

/-- A slew in progress: signed rate in ppm, total amount in ns, start raw count (R554). -/
structure Slew where
  ppm : Int
  amount : Int
  start : Nat
  deriving DecidableEq, Repr

/-- A timestamp: raw count, corrected ns, fraction in 2⁻¹⁶ ns, epoch (R13). -/
structure Stamp where
  raw : Nat
  corr : Nat
  frac : Nat
  epoch : Nat
  deriving DecidableEq, Repr

/-- An entry of a transmit-timestamp queue (R566). -/
structure TsEntry where
  tag : Nat
  queue : Nat
  attempt : Nat
  stamp : Stamp
  gap : Bool
  deriving DecidableEq, Repr

/-- A transmit-timestamp queue (R565 to R568). -/
structure Tsq where
  entries : List TsEntry
  lost : Nat
  gap : Bool
  latch : Option TsEntry
  deriving DecidableEq, Repr

/-- Milestone states (R582). -/
inductive MsState
  | disarmed | armed | fired
  deriving DecidableEq, Repr

/-- A milestone (R569 to R575). -/
structure Milestone where
  st : MsState
  /-- target in its own basis (raw count or corrected ns) and converted to a raw count -/
  target : Int
  rawTarget : Nat
  late : Bool
  skipped : Nat
  fires : Nat
  fireRaw : Nat
  pin : Bool
  /-- raw count at which the pulse being given ends, and the level it then takes -/
  pulse : Option (Nat × Bool)
  deriving DecidableEq, Repr

/-- A mapping of raw counts to corrected time that is no longer in force, with its epoch: the raw count from which
another was (R548, R550). -/
structure PastMap where
  upTo : Nat
  offset : Int
  rate : Int
  rb : Nat
  db : Rat
  slew : Option Slew
  epoch : Nat
  deriving DecidableEq, Repr

/-- The TBS block. -/
structure TbsUnit where
  offset : Int
  rate : Int
  rb : Nat
  db : Rat
  slew : Option Slew
  epoch : Nat
  unset : Bool
  adjCode : Nat
  adjRaw : Nat
  slewRem : Int
  /-- raw count at which the last adjustment was taken up, for BUSY (R553) -/
  adjAt : Option Nat
  /-- mappings that adjustments have replaced since the raw counter restarted, oldest first -/
  past : List PastMap
  now : Option Stamp
  tickTarget : Nat
  tickPrev : Option Nat
  ppsRaw : Nat
  ppsCount : Nat
  ppsSeen : Bool
  ppsPresent : Bool
  ppsInRange : Bool
  ppsErr : Int
  /-- raw count from which the 1.5 s of R562 run, and PPS_LOST already set since -/
  ppsFrom : Nat
  ppsLostDone : Bool
  tsqs : List Tsq
  ms : List Milestone
  deriving DecidableEq, Repr

/-- An Ethernet MAC: link and the frame sent last. -/
structure EthUnit where
  up : Bool
  speed : Nat
  lastTx : Option (List Byte)
  deriving DecidableEq, Repr

end Sys2Proof.Machine
end

