-- ==== Sys2Proof/Machine/Types3.lean ====
section
/-! DEFINITION. The data types of the calendar clock, the recorder, the key store, the update engine,
the reset, clock and power controller, the integrity unit, the service port and the pins. -/

namespace Sys2Proof.Machine

/-! ## Calendar clock and backup domain (R585 to R617) -/

/-- A calendar date and time of day (R586). -/
structure Clock where
  y : Nat
  mo : Nat
  d : Nat
  h : Nat
  mi : Nat
  s : Nat
  deriving DecidableEq, Repr

/-- A summer-time command that waits for the next second (R593, R594). -/
inductive RtcPend
  | fwd
  | back
  deriving DecidableEq, Repr

/-- The backup domain's calendar, wake logic and retained SRAM. -/
structure RtcUnit where
  clk : Clock
  dst : Bool
  valid : Bool
  /-- the calendar stands at its last value (R588) -/
  ended : Bool
  /-- seconds of the 32 s trim period, and the crystal cycles the second in progress takes (R590) -/
  trimSec : Nat
  secLen : Nat
  /-- most crystal cycles that the seconds begun since the wake counter's restart can have taken, but for the one in
  progress (R602) -/
  wakeSum : Nat
  pend : Option RtcPend
  cmdCode : Nat
  /-- the latches of RTC_TIME and RTC_SUBSEC (R589) -/
  latchTime : Option Word
  latchSub : Option Word
  almLast0 : Word
  almLast1 : Word
  pwron : Bool
  wakeSrc : Nat
  wakeDate : Word
  wakeTime : Word
  /-- a wake event that waits for OFF to be reached: its code, date and time (R604, R606) -/
  wakePend : Option (Nat × Word × Word)
  oscRun : Bool
  /-- RTC_BKP28 and RTC_BKP29 -/
  bkp28 : Word
  bkp29 : Word
  /-- RTC_BKP30 and RTC_BKP31, the mirrors of R714 -/
  bkp30 : Word
  bkp31 : Word
  /-- retained SRAM by offset; unlisted bytes are zero -/
  rsram : List (Nat × Byte)
  /-- offsets whose stored parity does not match (R609) -/
  rsBad : List Nat
  parAddr : Nat
  deriving DecidableEq, Repr

/-! ## Event recorder (R618 to R650) -/

/-- An entry of the Weir, or a record about to be written (R622, R630). -/
structure RecEntry where
  kind : Nat
  source : Nat
  code : Nat
  flags : Nat
  stamp : Stamp
  payload : List Byte
  /-- fabric cycle of the admission (R630) -/
  cyc : Nat
  /-- it occupies one of entries 28 to 31 (R631) -/
  resv : Bool
  deriving DecidableEq, Repr

/-- A pending gap of a source (R631): losses, first and last raw count and epoch. -/
structure Gap where
  lost : Nat
  firstRaw : Nat
  lastRaw : Nat
  firstEpoch : Nat
  lastEpoch : Nat
  deriving DecidableEq, Repr

/-- A tally of a trigger source (R639). -/
structure Tally where
  count : Nat
  min : Nat
  max : Nat
  minRaw : Nat
  maxRaw : Nat
  minEpoch : Nat
  maxEpoch : Nat
  bins : List Nat
  deriving DecidableEq, Repr

/-- The REC block. -/
structure RecUnit where
  cfg : Option ImgRecorder
  weir : List RecEntry
  weirMax : Nat
  /-- credit at raw count `creditAt` (R632) -/
  credit : Rat
  creditAt : Nat
  /-- the record in progress (R626) -/
  writing : Option RecEntry
  /-- ring slots in MRAM, 256 bytes each; unlisted: zero bytes -/
  ring : List (Nat × List Byte)
  /-- next record number, in MRAM -/
  next : Nat
  lost : List (Nat × Nat)
  gaps : List (Nat × Gap)
  tallies : List (Nat × Tally)
  twin : List Word
  /-- edge sets written since the last START of a source using them: (source, set) (R641) -/
  edgeDirty : List (Nat × Nat)
  cmdCode : Nat
  /-- discard count in the backup domain (R637, R638) -/
  backupWord : Nat
  deriving DecidableEq, Repr

/-! ## Key store (R651 to R681) -/

/-- Life-cycle states (R651). -/
inductive LifeCycle
  | factory | provisioned | owned | returned | spent
  deriving DecidableEq, Repr

/-- A key slot: value, policy word and owner generation (R656). -/
structure Slot where
  value : List Byte
  policy : Word
  gen : Nat
  deriving DecidableEq, Repr

/-- The store record and the slots it selects (R666). -/
structure Store where
  lc : LifeCycle
  ownerGen : Nat
  ctr : Nat
  /-- tamper policy word without WRITTEN, and WRITTEN (R670) -/
  tpolicy : Word
  tpolWritten : Bool
  /-- OWNER_IMAGE (R653) -/
  ownerImage : Bool
  /-- slots by number; unlisted: empty -/
  slots : List (Nat × Slot)
  deriving DecidableEq, Repr

/-- A key command in progress (R674): its OP, slot, code and output, and the store that its commit pulse
makes active (R666). -/
structure KeyJob where
  op : Nat
  slot : Nat
  code : Nat
  out : List Byte
  commit : Option Store
  /-- TAG of the service-port message that brought it (KEYMSG) -/
  svcTag : Option Nat
  /-- a life-cycle change, a slot change, an erasure of owner slots, a tamper clear and the SPENT fuse it
  brings -/
  lcChange : Bool
  slotChange : Bool
  erase : Bool
  clearTamper : Bool
  spend : Bool
  deriving DecidableEq, Repr

/-- Content of the working key register (R659). -/
inductive WkrContent
  | empty | network | install | host
  deriving DecidableEq, Repr

/-- The KEY block and the security monitor. -/
structure KeyUnit where
  store : Store
  locked : Bool
  erasing : Bool
  job : Option KeyJob
  code : Nat
  outLen : Nat
  wkr : WkrContent
  /-- the network key held, with the slot of the last NETLOAD -/
  netKey : Option (List Byte)
  netSlot : Nat
  hostSlot : Nat
  /-- HASH or HMAC in progress: operation, slot, octets so far (R676) -/
  stream : Option (Nat × Nat × List Byte)
  latched : List Nat
  active : List Nat
  first : Nat
  tDate : Word
  tTime : Word
  secCnt : Nat
  deriving DecidableEq, Repr

/-! ## Update engine and service port (R682 to R715) -/

/-- States of the Sluice (R710). -/
inductive Sluice
  | idle | receiving | verifying | staged | armed | copying | trial
  deriving DecidableEq, Repr

/-- A part of a firmware set: type, bytes, SHA-256, and for STRUCTURE the image (R683). -/
structure Part where
  typ : Nat
  length : Nat
  hash : List Byte
  image : Option Image
  deriving DecidableEq, Repr

/-- A firmware set with its record (R682, R699, R703). -/
structure FwSet where
  parts : List Part
  secver : Nat
  serial : Nat
  valid : Bool
  /-- the slots under which its manifest and its structure image verified (R653) -/
  manifestSlot : Nat
  imageSlot : Nat
  deriving DecidableEq, Repr

/-- A chunk being written (R692). -/
structure ChunkJob where
  offset : Nat
  data : List Byte
  svcTag : Option Nat
  deriving DecidableEq, Repr

/-- A message on the vendor bulk interface from the module (R706). -/
structure SvcMsg where
  op : Nat
  tag : Nat
  body : List Byte
  deriving DecidableEq, Repr

/-- The UPD block. -/
structure UpdUnit where
  setA : FwSet
  setB : FwSet
  activeB : Bool
  confirmed : Bool
  /-- confirmed security version -/
  secver : Nat
  sluice : Sluice
  manifest : List Byte
  /-- slot under which the journaled manifest verified -/
  manifestSlot : Nat
  imageSlot : Nat
  bytes : Nat
  staging : List (Nat × List Byte)
  stagedImage : Option Image
  /-- blocks recorded of the NOR and host streams (R697) -/
  copyNor : Nat
  copyHost : Nat
  chunk : Option ChunkJob
  code : Nat
  /-- source of the open update session: network -/
  sessNet : Bool
  /-- raw count at which the trial window began -/
  trialAt : Option Nat
  svcPresent : Bool
  deriving DecidableEq, Repr

/-- The USB block: the service port. -/
structure UsbUnit where
  vbus : Bool
  configured : Bool
  highSpeed : Bool
  /-- the message sent last to the USB host -/
  out : Option SvcMsg
  /-- the console octets delivered last to the diagnostic console -/
  console : List Byte
  deriving DecidableEq, Repr

/-! ## Reset, clocks and power (R716 to R750) -/

/-- Power states, coded as SYS_PWRCMD.STATE (R747). -/
inductive Pwr
  | off | hold | vigil | lit
  deriving DecidableEq, Repr

/-- Where the module stands between starts. -/
inductive RunPhase
  /-- the start is complete and the host cluster is released -/
  | up
  /-- the copy step of a start (R697) -/
  | copying
  /-- a start halted by a tamper latch or by SPENT (R654, R672) -/
  | tamperHalt
  /-- the image load of a start has failed, and the next start follows at once (R38, R727) -/
  | loadFail
  /-- clock-halt safe mode (R729) -/
  | clockHalt
  /-- VIN lost, pulses in progress completing within the hold-up (R24) -/
  | dying
  /-- HOLD, or OFF: unpowered -/
  | down
  /-- VIN has returned and the hold-up charges (R787) -/
  | charging
  deriving DecidableEq, Repr

/-- A power-state transition in progress (R739 to R741). -/
structure Trans where
  target : Pwr
  t0 : Nat
  /-- head fade, 0.1 s -/
  fade : Nat
  /-- contactor closures still to come: (closing number k, output) -/
  todo : List (Nat × Nat)
  /-- raw count of the last closure, or of the opening of the contactors -/
  last : Option Nat
  opened : Bool
  /-- event 4 of R739 has passed: the engines run -/
  engines : Bool
  fromLit : Bool
  deriving DecidableEq, Repr

/-- Fuses. -/
structure Fuses where
  rstMap : Nat
  pinMap : Nat
  spent : Bool
  /-- ordering variant: true for YS-4830-U -/
  variantU : Bool
  eui : Nat
  mac0 : Nat
  mac1 : Nat
  deriving DecidableEq, Repr

/-- The reset, clock and power controller. -/
structure SysUnit where
  phase : RunPhase
  /-- reset sources asserted and waiting (R721) -/
  asserted : List Nat
  /-- level and sources of the start in progress or of the last start -/
  level : Nat
  sources : List Nat
  reverted : Bool
  escalated : Bool
  halt : Nat
  pwr : Pwr
  from_ : Pwr
  held : Bool
  result : Nat
  safe : Bool
  trans : Option Trans
  /-- raw count at which the boot window opened; none once BOOTOK has completed (R727) -/
  bootAt : Option Nat
  booted : Bool
  /-- raw count of the last kick of the system watchdog, and the period in force (R759) -/
  wdtAt : Option Nat
  wdtPeriod : Nat
  closed : List Nat
  overCur : List Nat
  openCoil : List Nat
  fuses : Fuses
  /-- fuse maps as read at step 2 of the last L1 or L2 start (R724, R749) -/
  rstMap : Nat
  pinMap : Nat
  fuseCode : Nat
  /-- windows left in reset for want of a clock-good (R725) -/
  clkFail : List Nat
  /-- raw count at which the clock halt, or its last retry, began (R729) -/
  retryAt : Nat
  vin : Bool
  charged : Bool
  hostRun : Bool
  /-- VBAK has fallen below 1.8 V since VIN was lost (R717) -/
  vbakLost : Bool
  /-- windows of lockstep pairs whose outputs are blocked (R757) -/
  blocked : List Nat
  /-- the photocell's closing of the contactors in recovery safe mode: its raw count, and the closures still to
  come as (number, output) (R730) -/
  photo : Option (Nat × List (Nat × Nat))
  deriving DecidableEq, Repr

/-! ## Integrity unit and the Verge (R751 to R773) -/

/-- The FLT block and the Verge record. -/
structure FltUnit where
  sinkRet : List Nat
  xcvrRet : List Nat
  convRet : List Nat
  /-- substitutions in force: sinks served by their group's spare, the channel served by the spare
  converter, the lane served by the spare transceiver -/
  sinkSub : List Nat
  convSub : Option Nat
  laneSub : Option Nat
  /-- remapped SRAM rows and MRAM sectors with the spare that serves them -/
  rows : List (Nat × Nat)
  sectors : List (Nat × Nat)
  /-- correction counts by row and by sector (R762, R763) -/
  rowCnt : List (Nat × Nat)
  secCnt : List (Nat × Nat)
  /-- SRAM row of an uncorrectable error, to be substituted at the next start (R762) -/
  ueRow : Option Nat
  /-- MRAM sectors to be copied, the one in progress first (R763, R764) -/
  copying : List Nat
  sramLow : Bool
  mramLow : Bool
  eccAddr : Nat
  eccMram : Bool
  eccUe : Bool
  eccScrub : Bool
  eccCount : Nat
  code : Nat
  deriving DecidableEq, Repr

/-- Reset states of a multiplexed pin (R732). -/
inductive PinState
  | highZ | pullUp | pullDown | low | high
  deriving DecidableEq, Repr

/-- The pins: input levels of the 184 multiplexed pins (R750). -/
structure PinUnit where
  levels : Nat
  deriving DecidableEq, Repr

end Sys2Proof.Machine
end

