-- ==== Sys2Proof/Machine/State.lean ====
section
/-! DEFINITION. The state of the module, the reasons a step can stop, and the state after reset. -/

namespace Sys2Proof.Machine

/-- Reasons a step faults. -/
inductive Fault
  /-- An access to an address that no memory of the module occupies (R526, R682); raised by the direct
  write of a master to memory. Safe: the model stops where the spec says nothing (DESIGN CHOICE, log entry 13). -/
  | noMemory (addr : Nat)
  deriving DecidableEq, Repr

/-- Reasons a step is refused. -/
inductive Refusal
  /-- The command has no meaning in this model yet. Safe. -/
  | notModelled (mnemonic : String)
  deriving DecidableEq, Repr

/-- The module (plain data). -/
structure State where
  /-- fabric cycles since the raw counter restarted; the raw count is half of it (R546, R731) -/
  cyc : Nat
  /-- the model's own counter of the free values taken so far (log entry 11) -/
  freeCtr : Nat
  regs : RegUnit
  str : StrUnit
  ltb : LtbUnit
  scn : ScnUnit
  wav : WavUnit
  mst : MstUnit
  mtr : MtrUnit
  acc : AccUnit
  lne : LneUnit
  qdm : QdmUnit
  tbs : TbsUnit
  eth0 : EthUnit
  eth1 : EthUnit
  rtc : RtcUnit
  evr : RecUnit
  key : KeyUnit
  upd : UpdUnit
  usb : UsbUnit
  sys : SysUnit
  flt : FltUnit
  pin : PinUnit
  /-- on-chip SRAM and LPDDR4X (R526): canonical list, unlisted bytes read zero -/
  mem : List Host.Cell
  /-- commands that wait, first in, first out -/
  pending : List Instr
  deriving DecidableEq, Repr

/-! ## The state after reset (DESIGN CHOICE where the spec gives no value: log entries 4, 6 and 7) -/

/-- STR after reset: nothing loaded (R64, R68). -/
def StrUnit.reset : StrUnit :=
  { img := none, handles := [], pend := none, cmdSeq := 0, detail := 0, stAfter := .free, result := 0 }

/-- Register rules after reset: every field at its Reset value, every status register 0 but RTC_STATUS,
whose OSC_STOP is 1 (R596, R612). -/
def RegUnit.reset : RegUnit :=
  { cfg := { words := [], wroteAt := 0, wrote := [] }, act := [], changed := [],
    stat := [(0x400B0000, { seq := 0, bits := 0x100, marks := [(8, 0)], held := [], last := none })],
    pairs := [], latch := [], busErr := { addr := 0, count := 0, master := 0, write := false, cause := 0 },
    reply := { data := 0, error := false }, partestSeen := false }

/-- LTB after reset (R153 to R162). -/
def LtbUnit.reset : LtbUnit :=
  { base := 0, count := 0, heads := [], queue := [], issued := 0, done := 0, code := 0, dwAddr := 0,
    unknownJoin := 0, idleDrop := 0, euiFound := none }

/-- An entry about which the scene engine holds nothing. -/
def ScnEntry.empty : ScnEntry :=
  { mixCap := [0, 0, 0, 0, 0, 0], cap := 0, level := none, lims := [0, 0, 0, 0, 0, 0], solved := false,
    trCommit := false, trJoin := false, trStep := false, trHead := false, trTemp := false,
    trLimit := false, cmds := [] }

/-- A programme after reset: no step, no rule evaluated (R231). -/
def ScnProg.reset : ScnProg :=
  { scene := none, step := none, level := 0, inForce := none, rule := none, words := [], sceneWords := [] }

/-- SCN after reset (R219 to R232). -/
def ScnUnit.reset : ScnUnit :=
  { entries := [], progs := List.replicate 16 ScnProg.reset, day := none, watermark := 0, staleDone := false,
    calSet := false, dayStart := 720, progStart := false, wasEnabled := false, curveValid := 0x0F, held := [], lastEff := 0,
    solved := 0, solveUs := 0, frames := 0, margin := 0, tseq := 0 }

/-- WAV after reset (R275 to R282). -/
def WavUnit.reset : WavUnit :=
  { fifo := [], fifoMax := 0, waves := [], counts := [], dup := [], seqs := [], dAge := 0, dState := 0,
    dFilter := 0, dRange := 0, dOver := 0, dDup := 0, hoStale := 0, hoCheck := 0, trunc := 0, qfull := 0,
    hoRecv := 0, hoSent := 0, latCompute := 0, latTotal := 0 }

/-- A sink after reset: gate clamped off (R328, R733). -/
def Sink.reset : Sink :=
  { open_ := false, adjShort := false, ctrl := false, sat := false, vfRange := false, takenOut := false,
    subst := false, d := 0, code := 0, onTicks := 0, mode := .off, excess := 0, blank := false, i := 0, vds := 0,
    tj := none, vf := 0, met := false, satSeen := false, satSince := none, openCnt := 0, ctrlCnt := 0, satCnt := 0,
    hrMin := none, samples := [], sampled := false }

/-- A group that the image does not enable (R312, R326). -/
def Group.reset : Group :=
  { phase := .disabled, since := 0, driven := false, code := 0, saved := none, firstLeave := true,
    zeroSince := some 0, tEst := 0, source := .none, derate := 65535, vfHold := none, ntc := none, ntcMiss := 0,
    therm := false, interlocked := false, extraStep := false, clampDue := false, spareUsable := true,
    spareTo := none, subBusy := none, afterTrip := false, winTick := none, releaseDue := none, hrAt := 0,
    selfAt := none }

/-- A head with no command. -/
def Head.reset : Head :=
  { cmd := none, fade := none, pend := [], waves := [], hold := none, out := none, energy := 0 }

/-- MST after reset (R320 to R328). -/
def MstUnit.reset : MstUnit :=
  { groups := List.replicate 8 Group.reset, sinks := List.replicate 56 Sink.reset,
    heads := List.replicate 8 Head.reset, cal := none, cmdCode := 0 }

/-- A converter channel after reset (R376). -/
def Chan.reset : Chan :=
  { subst := false, estCount := 0, chfail := false, deviation := false, stuck := false, clip := false,
    noload := false, settleTo := none, rms := 0, gainDev := 0, phaseDev := 0, corr := 0, code := 0, run := 0, dc := [],
    past := [] }

/-- Line-cycle state of a feeder with no cycle yet (R373). -/
def FeedCyc.reset : FeedCyc :=
  { last := none, synth := false, freq := 0, good := [(0, 0), (0, 0), (0, 0)], est := [], tempDue := false,
    resync := false, releaseDue := none, substDue := none, holdSeen := true, substReady := none, since := 0,
    buf := [], dsp := [], quad := [], line := [], lp := [], prevY := none, lowFrom := none, lowOk := false, cross := [] }

/-- MTR and the island after reset (R367 to R376). -/
def MtrUnit.reset : MtrUnit :=
  { powered := true, chans := List.replicate 20 Chan.reset, feeds := List.replicate 4 FeedCyc.reset,
    sync := .acquiring, syncGood := 0, syncMiss := 0, phaseErr := 0, lastPulse := 0, restarted := false,
    linkDown := false, held := [], temp := none, tempValid := false, spare := .absent, spareTarget := 0,
    rounds := 0, todo := [], repeating := false, confirmed := [], cmdCode := 0, cmdPend := false, map := [], mapSpare := none,
    stamp := 25000, lag := 0, refAt := 0 }

/-- A feeder with no open interval (R393). -/
def FeedIv.reset : FeedIv :=
  { open_ := false, startRaw := 0, endRaw := 0, endAt := 0, startAcc := [0, 0, 0, 0, 0, 0, 0], startEpoch := 0, cycles := 0,
    flags := 0, opening := none, closing := none, openFrom := 0, closeFrom := 0, dropped := false, extended := false,
    startHead := [], latched := [], recno := 0, shown := 0, exceed := 0, alarm := false, qchange := false,
    restored := false }

/-- A pulse output after reset (R420). -/
def PulseOut.reset : PulseOut :=
  { mark := 0, pending := 0, width := 0, until_ := none, next := 0 }

/-- ACC after reset (R415 to R423). -/
def AccUnit.reset : AccUnit :=
  { accs := [], vis := [], slots := [], chIn := [], fdIn := [], ivs := List.replicate 4 FeedIv.reset, ring := [],
    totals := [], estSum := [], snaps := [], pulses := List.replicate 4 PulseOut.reset, power := [],
    copies := [], restoredDue := false }

/-- Lane n after reset: transceiver n serves it (R425, R469). -/
def Lane.reset (n : Nat) : Lane :=
  { run := false, startAt := none, cfgBad := false, xcvr := some n, faulted := false, releaseAt := none,
    slot := none, tuned := none, await := none, sent := 0, retries := 0, accepted := 0, ackSent := 0, dFcs := 0,
    dFormat := 0, dSecurity := 0, dAddr := 0, dMic := 0, dReplay := 0, lateDrop := 0, lateSent := 0, collSkip := 0,
    txFail := 0, dutySkip := 0, air := [], pllFail := none, txPwrFail := 0, rxTestFail := 0, antFail := 0,
    antFault := false, lastTx := none, lastAck := none }

/-- The LNE instances after reset (R469, R472); the frame counter resumes at 65,536 (R453). -/
def LneUnit.reset : LneUnit :=
  { lanes := (List.range 4).map Lane.reset, spare := .free, spareTarget := 0, takeover := none, rotate := 0,
    roundAt := 0, cmdCode := 0, noKey := 0, fc := 65536, fcOwner := (7, 1), fcRec := none, locked := false,
    cmdBusy := false }

/-- A queue with no descriptor handed over (R516). -/
def Queue.reset : Queue :=
  { head := 0, tail := 0, parked := false, cause := 0, offset := 0, faultAddr := 0, nobuf := 0, trunc := 0,
    xfer := none, held := none, rx := [], attempts := 0, lateSent := false, headFc := none, done := none }

/-- QDM after reset (R538 to R545). -/
def QdmUnit.reset : QdmUnit :=
  { cfgs := [], queues := [], bufs := [], handed := [], gone := [], cmdCode := 0, erxDrop0 := 0, erxDrop1 := 0, turn := 0 }

/-- An empty transmit-timestamp queue (R581). -/
def Tsq.reset : Tsq := { entries := [], lost := 0, gap := false, latch := none }

/-- A disarmed milestone (R582). -/
def Milestone.reset : Milestone :=
  { st := .disarmed, target := 0, rawTarget := 0, late := false, skipped := 0, fires := 0, fireRaw := 0,
    pin := false, pulse := none }

/-- TBS after reset: raw counter at 0, corrected time equal to 5 × raw, UNSET (R549, R576 to R582). -/
def TbsUnit.reset : TbsUnit :=
  { offset := 0, rate := 0, rb := 0, db := 0, slew := none, epoch := 0, unset := true, adjCode := 0, adjRaw := 0,
    slewRem := 0, adjAt := none, past := [], now := none, tickTarget := 100000000, tickPrev := none, ppsRaw := 0,
    ppsCount := 0, ppsSeen := false, ppsPresent := false, ppsInRange := false, ppsErr := 0,
    ppsFrom := 0, ppsLostDone := false,
    tsqs := List.replicate 7 Tsq.reset, ms := List.replicate 32 Milestone.reset }

/-- A MAC after reset: link down (R584). -/
def EthUnit.reset : EthUnit := { up := false, speed := 0, lastTx := none }

/-- The calendar after an L0 reset: 2000-01-01 00:00:00, not valid (R596). -/
def Clock.reset : Clock := { y := 2000, mo := 1, d := 1, h := 0, mi := 0, s := 0 }

/-- The backup domain after an L0 reset (R585, R596, R613 to R617). -/
def RtcUnit.reset : RtcUnit :=
  { clk := Clock.reset, dst := false, valid := false, ended := false, trimSec := 0, secLen := 32768, wakeSum := 0,
    pend := none, cmdCode := 0, latchTime := none, latchSub := none, almLast0 := 0, almLast1 := 0, pwron := true,
    wakeSrc := 0, wakeDate := 0, wakeTime := 0, wakePend := none, oscRun := true, bkp28 := 0, bkp29 := 0,
    bkp30 := 0, bkp31 := 0, rsram := [], rsBad := [], parAddr := 0 }

/-- REC after reset: no RECORDER section, credit 64, records numbered from 1 (R622, R632, R645). -/
def RecUnit.reset : RecUnit :=
  { cfg := none, weir := [], weirMax := 0, credit := 64, creditAt := 0, writing := none, ring := [], next := 1,
    lost := [], gaps := [], tallies := [], twin := List.replicate 32 0, edgeDirty := [], cmdCode := 0,
    backupWord := 0 }

/-- The key store as the module leaves manufacture: PROVISIONED, slots 0 to 2 written, no owner slot, every
tamper action CLEAR_LOCK (R651, R652, R655, R680, R681). -/
def Store.reset : Store :=
  { lc := .provisioned, ownerGen := 0, ctr := 0, tpolicy := 0x2AAA, tpolWritten := false, ownerImage := false,
    slots := [(0, { value := Config.glefaetteSlot 0, policy := 0x50400000, gen := 0 }),
              (1, { value := Config.glefaetteSlot 1, policy := 0x40200000, gen := 0 }),
              (2, { value := Config.glefaetteSlot 2, policy := 0x40200000, gen := 0 })] }

/-- KEY after reset: the working key register is empty (R660, R677 to R681). -/
def KeyUnit.reset : KeyUnit :=
  { store := Store.reset, locked := false, erasing := false, job := none, code := 0, outLen := 0,
    wkr := .empty, netKey := none, netSlot := 0, hostSlot := 0, stream := none, latched := [], active := [],
    first := 0, tDate := 0, tTime := 0, secCnt := 0 }

/-- An empty firmware set. -/
def FwSet.empty : FwSet :=
  { parts := [], secver := 0, serial := 0, valid := false, manifestSlot := 0, imageSlot := 0 }

/-- UPD after reset: set A active and confirmed, the Sluice IDLE (R708 to R713). -/
def UpdUnit.reset : UpdUnit :=
  { setA := FwSet.empty, setB := FwSet.empty, activeB := false, confirmed := true, secver := 0, sluice := .idle,
    manifest := [], manifestSlot := 0, imageSlot := 0, bytes := 0, staging := [], stagedImage := none, copyNor := 0,
    copyHost := 0, chunk := none, code := 0, sessNet := false, trialAt := none, svcPresent := false }

/-- USB after reset (R715). -/
def UsbUnit.reset : UsbUnit :=
  { vbus := false, configured := false, highSpeed := false, out := none, console := [] }

/-- Unprogrammed fuse maps (R717, R732). -/
def Fuses.reset : Fuses :=
  { rstMap := 0, pinMap := 0, spent := false, variantU := false, eui := 0, mac0 := 0, mac1 := 0 }

/-- SYS after reset: a start has ended in VIGIL and the boot window is open (R25, R724, R742 to R749). -/
def SysUnit.reset : SysUnit :=
  { phase := .up, asserted := [], level := 0, sources := [], reverted := false, escalated := false, halt := 0,
    pwr := .vigil, from_ := .vigil, held := false, result := 0, safe := false, trans := none, bootAt := some 0,
    booted := false, wdtAt := none, wdtPeriod := 30, closed := [], overCur := [], openCoil := [],
    fuses := Fuses.reset, rstMap := 0, pinMap := 0, fuseCode := 0, clkFail := [], retryAt := 0, vin := true, charged := true,
    hostRun := true, vbakLost := false, blocked := [], photo := none }

/-- FLT after reset: nothing retired (R768 to R773). -/
def FltUnit.reset : FltUnit :=
  { sinkRet := [], xcvrRet := [], convRet := [], sinkSub := [], convSub := none, laneSub := none, rows := [],
    sectors := [], rowCnt := [], secCnt := [], ueRow := none, copying := [], sramLow := false, mramLow := false,
    eccAddr := 0, eccMram := false, eccUe := false, eccScrub := false, eccCount := 0, code := 0 }

/-- The module right after reset: a start has ended in VIGIL with no structure image loaded, every
register at the Reset value of its field table. -/
def State.reset : State :=
  { cyc := 0, freeCtr := 0, regs := RegUnit.reset, str := StrUnit.reset, ltb := LtbUnit.reset,
    scn := ScnUnit.reset, wav := WavUnit.reset, mst := MstUnit.reset, mtr := MtrUnit.reset, acc := AccUnit.reset,
    lne := LneUnit.reset, qdm := QdmUnit.reset, tbs := TbsUnit.reset, eth0 := EthUnit.reset,
    eth1 := EthUnit.reset, rtc := RtcUnit.reset, evr := RecUnit.reset, key := KeyUnit.reset, upd := UpdUnit.reset,
    usb := UsbUnit.reset, sys := SysUnit.reset, flt := FltUnit.reset, pin := { levels := 0 }, mem := [],
    pending := [] }

end Sys2Proof.Machine
end

