-- ==== Sys2Proof/Machine/RegMap.lean ====
section
/-! DEFINITION. The register map: windows, aliases, and for every register that stores what software
writes its writable bits, reset word, access code and apply domain, from the field tables of the spec. -/

namespace Sys2Proof.Machine

/-! ## Fields of words -/

/-- Bits [hi:lo] of a word as a number (R3). -/
def fld (w : Word) (hi lo : Nat) : Nat := (w.toNat >>> lo) % 2 ^ (hi + 1 - lo)

/-- Bit i of a word. -/
def bit (w : Word) (i : Nat) : Bool := w.getLsbD i

/-- A number of `len` bits as a signed one. -/
def signed (len n : Nat) : Int := if n < 2 ^ (len - 1) then n else (n : Int) - 2 ^ len

/-- The parity bits of a word, one a byte, each making an even number of ones with its byte (R113). -/
def parityOf (w : Word) : Nat :=
  let p := fun k => ((List.range 8).filter (fun i => bit w (8 * k + i))).length % 2
  p 0 + 2 * p 1 + 4 * p 2 + 8 * p 3

/-- A word with matching parity (R113, R114). -/
def sound (v : Word) : PWord := { value := v, par := parityOf v }

/-- The parity of a stored word does not match in some byte (R118). -/
def PWord.bad (w : PWord) : Bool := w.par != parityOf w.value

/-- A signed number as `len` bits. -/
def toBits (len : Nat) (i : Int) : Nat := (i % (2 ^ len : Nat)).toNat

/-! ## Windows (R76 to R80) -/

/-- Window numbers: (block base − 0x4000_0000) / 0x1_0000 (R121, R618). -/
def wSYS : Nat := 0x00
def wSTR : Nat := 0x01
def wSCN : Nat := 0x02
def wWAV : Nat := 0x03
def wLTB : Nat := 0x04
def wMST : Nat := 0x05
def wMTR : Nat := 0x06
def wACC : Nat := 0x07
def wLNE : Nat := 0x08
def wQDM : Nat := 0x09
def wTBS : Nat := 0x0A
def wRTC : Nat := 0x0B
def wREC : Nat := 0x0C
def wKEY : Nat := 0x0D
def wUPD : Nat := 0x0E
def wFLT : Nat := 0x0F
def wETH0 : Nat := 0x10
def wETH1 : Nat := 0x11
def wUSB : Nat := 0x12
def wPIN : Nat := 0x13

/-- Base address of a window (R76). -/
def winBase (w : Nat) : Nat := 0x40000000 + w * 0x10000

/-- Address of a register by window and offset in the first image (R78). -/
def reg (w off : Nat) : Nat := winBase w + off

/-- Image size of a block (R76, R77). -/
def imageSize (w : Nat) : Nat :=
  match w with
  | 0x00 => 0x1000 | 0x01 => 0x100 | 0x02 => 0x4000 | 0x03 => 0x2000 | 0x04 => 0x400
  | 0x05 => 0x1000 | 0x06 => 0x800 | 0x07 => 0x1000 | 0x08 => 0x10000 | 0x09 => 0x4000
  | 0x0A => 0x1000 | 0x0B => 0x400 | 0x0C => 0x1000 | 0x0D => 0x400 | 0x0E => 0x400
  | 0x0F => 0x1000 | 0x10 => 0x4000 | 0x11 => 0x4000 | 0x12 => 0x1000 | 0x13 => 0x800
  | _ => 0

/-- The guarded blocks (R76): SYS, MTR, ACC, TBS, RTC, KEY, UPD, FLT, PIN. -/
def guarded (w : Nat) : Bool := [0x00, 0x06, 0x07, 0x0A, 0x0B, 0x0D, 0x0E, 0x0F, 0x13].contains w

/-- The window an address falls in, if any (R76, R80). -/
def windowOf (addr : Nat) : Option Nat :=
  if addr < 0x40000000 then none
  else
    let w := (addr - 0x40000000) / 0x10000
    if w ≤ 0x13 then some w else none

/-- The address lies in the upper half of a guarded block (R76). -/
def upperHalf (addr : Nat) : Bool :=
  match windowOf addr with
  | some w => guarded w && decide (addr % 0x10000 ≥ 0x8000)
  | none => false

/-- The decoded offset in the first image (R78, R100). -/
def firstOff (w addr : Nat) : Nat := (addr % 0x10000) % imageSize w

/-- The first-image address of an address inside a window (R78). -/
def firstAddr (addr : Nat) : Nat :=
  match windowOf addr with
  | some w => reg w (firstOff w addr)
  | none => addr

/-! ## Register descriptions -/

/-- Access codes of registers that store what software writes (R8). -/
inductive Acc
  | rw | rws | wl | w1 | wg
  deriving DecidableEq, Repr

/-- Apply domain and instance of a register (R9, R90). -/
inductive Dom
  | now
  | tick
  | cycle (feeder : Nat)
  | slot (lane : Nat)
  | period (group : Nat)
  /-- island field of a channel, taken up at the CYCLE boundary of its feeder (R350) -/
  | chan (ch : Nat)
  deriving DecidableEq, Repr

/-- A register that stores what software writes: writable bits, reset word, access, apply domain. -/
structure RegInfo where
  mask : Word
  reset : Word
  acc : Acc
  dom : Dom
  deriving DecidableEq, Repr

/-- A plain RW register. -/
def rRW (mask reset : Word) : Option RegInfo := some ⟨mask, reset, .rw, .now⟩
/-- A guarded register. -/
def rWG (mask reset : Word) : Option RegInfo := some ⟨mask, reset, .wg, .now⟩
/-- A shadowed register of a domain. -/
def rWS (dom : Dom) (mask reset : Word) : Option RegInfo := some ⟨mask, reset, .rws, dom⟩

/-- SYS (R742 to R749). -/
def regSYS (o : Nat) : Option RegInfo :=
  match o with
  | 0x040 => rWG 0xFFFF0003 0
  | 0x048 => rWG 0xF0000000 0
  | 0x04C => rWG 0x00000001 0
  | 0x050 => rRW 0x00000FFF 300
  | 0x060 => rWG 0x800003FF 0
  | _ => none

/-- STR (R62, R67, R69). -/
def regSTR (o : Nat) : Option RegInfo :=
  if o = 0x034 then rRW 0xFFFFFFFF 0
  else if 0x040 ≤ o ∧ o ≤ 0x05C then rRW 0xFFFFFFFF 0
  else none

/-- Word w of a programme step (R165 to R168). -/
def regStep (w : Nat) : Option RegInfo :=
  match w with
  | 0 => rWS .tick 0xF7FFFFFF 0
  | 1 => rWS .tick 0xFFFFFFFF 0
  | 2 => rWS .tick 0xFFFFF000 0
  | _ => rWS .tick 0xFFFFFFFF 0

/-- SCN (R219 to R232, R178, R202); the step window is mapped before this (R163). -/
def regSCN (o : Nat) : Option RegInfo :=
  if o = 0x004 then rWS .tick 0x0000FF01 0x00000A00
  else if o = 0x008 then rWS .tick 0xFFFF00FF 0x0100000A
  else if o = 0x00C then rWS .tick 0x00FFFFFF 0x001A1455
  else if o = 0x010 then rWS .tick 0xFF03FFFF 0x0A0107D0
  else if o = 0x014 then rWS .tick 0x000007FF 720
  else if o = 0x018 then rWS .tick 0x00FFFFFF 0
  else if o = 0x01C then rWS .tick 0x07FF07FF 0x016804B0
  else if o = 0x080 then rRW 0x000003FF 0
  else if 0x1000 ≤ o ∧ o ≤ 0x17FC then
    match (o / 4) % 4 with
    | 0 => rWS .tick 0x80FF007F 0
    | 1 => rWS .tick 0x0F1F0F1F 0
    | 2 => rWS .tick 0x00FF00FF 0
    | _ => rWS .tick 0 0
  else if 0x2800 ≤ o ∧ o ≤ 0x2FFC then rWS .tick 0xFFFFFFFF 0
  else none

/-- WAV (R237, R269, R275 to R278). -/
def regWAV (o : Nat) : Option RegInfo :=
  if o = 0x004 then rWS .tick 0xFFFF0301 0x0A320000
  else if o = 0x008 then rWS .tick 0x800FFFFF 0x00040032
  else if 0x0400 ≤ o ∧ o ≤ 0x05FC then
    match (o / 4) % 8 with
    | 0 => rWS .tick 0x0F0FFFFF 0x0F050000
    | 1 => rWS .tick 0xFFFFFFFF 0x00FA008B
    | 2 => rWS .tick 0xFFFFFFFF 0x000A07D0
    | 3 => rWS .tick 0xFFFFFFFF 0x03E805DC
    | 4 => rWS .tick 0xFFFFFFFF 0x01F4012C
    | 5 => rWS .tick 0xFFFF07FF 0x18180132
    | 6 => rWS .tick 0xFFFFFFFF 0x05DC01F4
    | _ => rWS .tick 0 0
  else if 0x1000 ≤ o ∧ o ≤ 0x17FC then
    let w := (o / 4) % 32
    if w = 0 then rWS .tick 0xE000007F 0
    else if w = 1 ∨ w = 2 ∨ (4 ≤ w ∧ w ≤ 20) then rWS .tick 0xFFFFFFFF 0
    else rWS .tick 0 0
  else none

/-- LTB (R153, R157, R160, R162). -/
def regLTB (o : Nat) : Option RegInfo :=
  match o with
  | 0x010 => rRW 0xFFFFFFFF 0
  | 0x014 => rRW 0x003F0FFF 0
  | 0x020 => rWS .tick 0x0000FFFF 600
  | 0x024 => rWS .tick 0xFFFFFFFF 0xFFFFFFFF
  | 0x030 => rRW 0xFFFFFFFF 0
  | 0x034 => rRW 0xFFFFFFFF 0
  | _ => none

/-- MST (R320, R322, R325, R327). -/
def regMST (o : Nat) : Option RegInfo :=
  if o = 0x004 then rWS .now 0xFFFFFF0F 0x0A0A1403
  else if o = 0x008 then rWS .now 0xFFFFFFFF 0x0A08100A
  else if 0x100 ≤ o ∧ o < 0x200 then
    let g := (o - 0x100) / 0x20
    match (o - 0x100) % 0x20 with
    | 0x0 => rWS (.period g) 0x000001FF 255
    | 0x4 => rWS (.period g) 0xFFFFFFFF 0x3CFFF000
    | 0x8 => rWS (.period g) 0xFFFFFFFF 0x96000042
    | 0xC => rWS (.period g) 0xFFFFFFFF 0x0D6B03E8
    | _ => none
  else if 0x400 ≤ o ∧ o < 0xB00 then
    let c := (o - 0x400) / 0x20
    match (o - 0x400) % 0x20 with
    | 0x0 => rWS (.period (c / 7)) 0xFFFF0FFF 0
    | 0x4 => rWS (.period (c / 7)) 0xFFFFFFFF 0
    | 0x8 => rWS (.period (c / 7)) 0xFFFFFFFF 0
    | 0xC => rWS (.period (c / 7)) 0x8000FFFF 0
    | _ => none
  else none

/-- MTR (R367 to R375). -/
def regMTR (o : Nat) : Option RegInfo :=
  if o = 0x004 then rWS .now 0xFFFFFFFF 0x0A1401F4
  else if o = 0x008 then rWS .now 0x000FFFFF 0x000FFFFF
  else if o = 0x00C then some ⟨1, 0, .wl, .now⟩
  else if o = 0x010 then rWG 0xF000001F 0
  else if 0x100 ≤ o ∧ o < 0x380 then
    let n := (o - 0x100) / 0x20
    match (o - 0x100) % 0x20 with
    | 0x0 => some ⟨0xCF00FFFF, if n < 16 then 0x060003E8 else 0x860008FC, .wl, .chan n⟩
    | 0x4 => some ⟨0xFFFFFFFF, 0x3F800000, .wl, .chan n⟩
    | 0x8 => some ⟨0x00FFFFFF, 0x00400000, .wl, .chan n⟩
    | 0xC => some ⟨0x00000FFF, 1024, .wl, .chan n⟩
    | _ => none
  else if 0x400 ≤ o ∧ o < 0x680 then some ⟨0xFFFFFFFF, 0, .wl, .chan ((o - 0x400) / 0x20)⟩
  else none

/-- ACC (R415 to R422). -/
def regACC (o : Nat) : Option RegInfo :=
  if o = 0x004 then rWG 0x00FF3F07 0x005A0F03
  else if 0x010 ≤ o ∧ o ≤ 0x01C then rWG 0xF0FFFFFF 0xF01E03E8
  else if 0x080 ≤ o ∧ o < 0x100 then
    let f := (o - 0x080) / 0x20
    match (o - 0x080) % 0x20 with
    | 0x0 => rWS (.cycle f) 0xFFFFFFFF 0
    | 0x4 => rWS (.cycle f) 0xFFFFFFFF 0x32192014
    | _ => none
  else if o = 0x180 then rRW 0xC00007FF 0
  else if o = 0x184 then rRW 0xFFFFFFFF 0
  else none

/-- LNE, instances 0 to 3 (R462 to R468) and 4 (R470 to R472); `u` is the -U variant. -/
def regLNE (u : Bool) (o : Nat) : Option RegInfo :=
  let n := o / 0x2000
  let p := o % 0x2000
  if n < 4 then
    if p = 0x004 then rWS (.slot n) 0x00000003 0x00000002
    else if p = 0x008 then rWS (.slot n) 0xFFFF0001 0x33080000
    else if p = 0x00C then
      rWS (.slot n) 0xC0FF0FFF (BitVec.ofNat 32 (n * 0x40000000 + 0x001B0000 + (if u then 1000 else 100)))
    else if p = 0x010 then rWS (.slot n) 0xFFFF07FF 0x27100064
    else if p = 0x014 then rWS (.slot n) 0xFFFFFFFF 0
    else if p = 0x018 then rWS (.slot n) 0xFFFFFFFF 0
    else if p = 0x01C then rWS (.slot n) 0x0000007F 1
    else if 0x100 ≤ p ∧ p ≤ 0x13C then rWS (.slot n) 0xFFFFFFFF 0
    else if 0x1000 ≤ p ∧ p ≤ 0x17FC then rWS (.slot n) 0xFFF003FF 0
    else none
  else if n = 4 then
    if p = 0x010 then
      rWS .now 0xFFFFFFFF (BitVec.ofNat 32 ((if u then 902400 else 863225) * 4096 + 4 * 256 + 10))
    else if p = 0x014 then rWS .now 0xFFFF00FF 0xFFFE0001
    else none
  else none

/-- QDM (R538, R542, R543, R545). The reset words of RING and RINGCFG are the image's (`qdmRingReset`). -/
def regQDM (o : Nat) : Option RegInfo :=
  if 0x1000 ≤ o ∧ o < 0x2000 then
    match (o - 0x1000) % 0x40 with
    | 0x04 => rRW 0xFFFFFFFF 0
    | 0x08 => rRW 0x0000000F 0
    | 0x0C => rRW 0x0000FFFF 0
    | _ => none
  else if 0x2000 ≤ o ∧ o < 0x2800 then
    match (o - 0x2000) % 0x20 with
    | 0x00 => rRW 0xE000003F 0
    | 0x04 => rRW 0xFFFFFFFF 0
    | 0x08 => rRW 0xFFFFFFFF 0
    | 0x0C => rRW 0xFFFFFFFF 0
    | 0x10 => rRW 0xFFFFFFFF 0
    | 0x14 => rRW 0xFFFFFFFF 0
    | 0x18 => rRW 0xFFFFFFFF 0
    | _ => none
  else none

/-- TBS (R576 to R582). -/
def regTBS (o : Nat) : Option RegInfo :=
  if o = 0x004 then rRW 0x00000001 0
  else if o = 0x040 ∨ o = 0x044 then rRW 0xFFFFFFFF 0
  else if o = 0x048 then rWG 0xF0FF0000 0
  else if o = 0x060 then rRW 0xC00000FF 10
  else if 0x400 ≤ o ∧ o < 0x800 then
    match (o - 0x400) % 0x20 with
    | 0x00 => rRW 0xFE00FFFF 1
    | 0x04 => rRW 0xFFFFFFFF 0
    | 0x08 => rRW 0xFFFFFFFF 0
    | 0x0C => rRW 0xFFFFFFFF 0
    | 0x10 => rRW 0xFFFFFFFF 0
    | _ => none
  else none

/-- RTC (R611 to R617). -/
def regRTC (o : Nat) : Option RegInfo :=
  if o = 0x014 then rRW 0x00FFFFFF 0
  else if o = 0x018 then rRW 0x401F3F3F 0
  else if o = 0x01C then rWG 0xF0000003 0
  else if o = 0x024 then rWG 0x000003FF 0
  else if o = 0x028 then rRW 0x01FFFFFF 0
  else if o = 0x040 ∨ o = 0x050 then rRW 0xE000007F 0
  else if o = 0x044 ∨ o = 0x054 then rRW 0x00FFFFFF 0
  else if o = 0x048 ∨ o = 0x058 then rRW 0x401F3F3F 0
  else if 0x100 ≤ o ∧ o ≤ 0x16C then rRW 0xFFFFFFFF 0
  else none

/-- REC (R643 to R650). -/
def regREC (o : Nat) : Option RegInfo :=
  if o = 0x020 then rRW 0x00001FFF 0
  else if o = 0x024 then rRW 0x8000003F 0
  else if o = 0x028 then rRW 0x00003F3F 0
  else if 0x600 ≤ o ∧ o < 0x700 ∧ (o - 0x600) % 0x40 < 0x3C then rRW 0xFFFFFFFF 0
  else none

/-- KEY (R677 to R681). -/
def regKEY (o : Nat) : Option RegInfo :=
  if o = 0x00C then rWG 0xFC00001F 0
  else if o = 0x014 then rRW 0x000003FF 0
  else if o = 0x01C then some ⟨0x000F3FFF, 0x00002AAA, .w1, .now⟩
  else if o = 0x02C then rRW 0x0000001F 0
  else if 0x200 ≤ o ∧ o ≤ 0x3FC then rRW 0xFFFFFFFF 0
  else none

/-- UPD (R708 to R712). -/
def regUPD (o : Nat) : Option RegInfo :=
  match o with
  | 0x010 => rWG 0xF0000000 0
  | 0x018 => rRW 0xFFFFFFFF 0
  | 0x01C => rRW 0xFFFFFFFF 0
  | 0x020 => rRW 0xFFFFFFFF 0
  | 0x024 => rRW 0x001FFFFF 0
  | _ => none

/-- FLT (R121, R768 to R773). -/
def regFLT (o : Nat) : Option RegInfo :=
  match o with
  | 0x010 => rWG 0x000003FF 30
  | 0x014 => rWG 0x00000001 0
  | 0x040 => rWG 0x0000000F 3
  | 0x054 => rWG 0xF000033F 0
  | 0x080 => rWG 0x80FFFFFF 0
  | _ => none

/-- ETH (R583, R584); `mac` is the fused MAC address. -/
def regETH (mac o : Nat) : Option RegInfo :=
  match o with
  | 0x004 => rRW 0x0000003F 0x0000001C
  | 0x00C => rRW 0xFFFFFFFF (BitVec.ofNat 32 mac)
  | 0x010 => rRW 0x0000FFFF (BitVec.ofNat 32 (mac / 2 ^ 32 % 65536))
  | 0x014 => rRW 0xFFFFFFFF 0
  | 0x018 => rRW 0xFFFFFFFF 0
  | 0x01C => rRW 0xFFFFFFFF 0
  | 0x020 => rRW 0xFFFFFFFF 0
  | 0x024 => rRW 0xFFFFFFFF 0
  | 0x028 => rRW 0x0000000F 0x0000000E
  | 0x02C => rRW 0xFFFFFFFF 0x00B8013C
  | 0x030 => rRW 0xFFFFFFFF 0x01A40244
  | 0x034 => rRW 0xFFFFFFFF 0x10681A90
  | _ => none

/-- PIN (R750). -/
def regPIN (o : Nat) : Option RegInfo :=
  if o = 0x004 then some ⟨1, 0, .wl, .now⟩
  else if 0x100 ≤ o ∧ o < 0x3E0 then some ⟨0x000003FF, 0, .wl, .now⟩
  else none

/-- First of the keys that hold the programme steps: step s of programme p, word w, stands at
`stepKey p s w` (R163, R164). -/
def stepBase : Nat := 0x100000000

/-- Key of word w of step s of programme p. -/
def stepKey (p s w : Nat) : Nat := stepBase + ((p * 64 + s) * 4 + w) * 4

/-- What stands at an address (naturally aligned, first image) or step key. -/
def regInfo (fu : Fuses) (a : Nat) : Option RegInfo :=
  if a % 4 ≠ 0 then none
  else if a ≥ stepBase then (if a < stepBase + 0x4000 then regStep ((a / 4) % 4) else none)
  else
    let o := a % 0x10000
    match (a - 0x40000000) / 0x10000 with
    | 0x00 => regSYS o
    | 0x01 => regSTR o
    | 0x02 => regSCN o
    | 0x03 => regWAV o
    | 0x04 => regLTB o
    | 0x05 => regMST o
    | 0x06 => regMTR o
    | 0x07 => regACC o
    | 0x08 => regLNE fu.variantU o
    | 0x09 => regQDM o
    | 0x0A => regTBS o
    | 0x0B => regRTC o
    | 0x0C => regREC o
    | 0x0D => regKEY o
    | 0x0E => regUPD o
    | 0x0F => regFLT o
    | 0x10 => regETH fu.mac0 o
    | 0x11 => regETH fu.mac1 o
    | 0x12 => if o = 0x004 then rRW 0x00000001 1 else none
    | 0x13 => regPIN o
    | _ => none

/-- The word a stored register holds after reset; 0 where there is none. -/
def regReset (fu : Fuses) (a : Nat) : Word :=
  match regInfo fu a with
  | some i => i.reset
  | none => 0

/-! ## Status registers -/

/-- Event bits that a status register has (the RSQ fields of its table); 0: no status register there. -/
def statMask (a : Nat) : Nat :=
  if a < 0x40000000 then 0
  else
  let o := a % 0x10000
  match (a - 0x40000000) / 0x10000 with
  | 0x00 => if o = 0 then 0x7F else 0
  | 0x01 => if o = 0 then 0x0F else 0
  | 0x02 => if o = 0 then 0xFF else 0
  | 0x03 => if o = 0 then 0x3FF else 0
  | 0x04 => if o = 0 then 0xFF else 0
  | 0x05 => if o = 0 then 0x3FFF else 0
  | 0x06 => if o = 0 then 0x7FFF else 0
  | 0x07 => if o = 0 then 0xFFF else 0
  | 0x08 => if o % 0x2000 = 0 ∧ o < 0x8000 then 0x1FFF else if o = 0x8000 then 0x7F else 0
  | 0x09 => if o = 0 then 0xF
            else if 0x1000 ≤ o ∧ o < 0x2000 ∧ (o - 0x1000) % 0x40 = 0x14 then 0x1F else 0
  | 0x0A => if o = 0 then 0x7FFF else 0
  | 0x0B => if o = 0 then 0x1FCF else 0
  | 0x0C => if o = 0 then 0x3F else 0
  | 0x0D => if o = 0 then 0x1FF else 0
  | 0x0E => if o = 0 then 0x1FF else 0
  | 0x0F => if o = 0 then 0xFF else 0
  | 0x10 => if o = 0 then 0x3 else 0
  | 0x11 => if o = 0 then 0x3 else 0
  | 0x12 => if o = 0 then 0x7 else 0
  | 0x13 => if o = 0 then 0x3 else 0
  | _ => 0

end Sys2Proof.Machine
end

