-- ==== Sys2Proof/Machine/Ops.lean ====
section
/-! DEFINITION. Named operations over the state: tables, memory, byte order, the register bank, time and
the handles. -/

namespace Sys2Proof.Machine

/-! ## Tables: association lists with keys strictly rising -/

/-- The value a table lists for a key. -/
def tabGet {α : Type} : List (Nat × α) → Nat → Option α
  | [], _ => none
  | (k', v) :: r, k => if k' = k then some v else tabGet r k

/-- List a value for a key. -/
def tabSet {α : Type} : List (Nat × α) → Nat → α → List (Nat × α)
  | [], k, v => [(k, v)]
  | (k', v') :: r, k, v =>
    if k < k' then (k, v) :: (k', v') :: r
    else if k = k' then (k, v) :: r
    else (k', v') :: tabSet r k v

/-- Drop the entry of a key. -/
def tabDel {α : Type} (l : List (Nat × α)) (k : Nat) : List (Nat × α) := l.filter (fun x => x.1 != k)

/-- List a value for a key, or nothing where it is the value an unlisted key reads as. -/
def tabPut {α : Type} [DecidableEq α] (d : α) (l : List (Nat × α)) (k : Nat) (v : α) : List (Nat × α) :=
  if v = d then tabDel l k else tabSet l k v

/-- The value a key reads as. -/
def tabGetD {α : Type} (d : α) (l : List (Nat × α)) (k : Nat) : α := (tabGet l k).getD d

/-- Keys strictly rising, all above a bound when one is given. -/
def tabRising {α : Type} : Option Nat → List (Nat × α) → Bool
  | _, [] => true
  | none, (k, _) :: r => tabRising (some k) r
  | some b, (k, _) :: r => decide (b < k) && tabRising (some k) r

/-- Element i of a list of like things. -/
def nth {α : Type} (d : α) (l : List α) (i : Nat) : α := (l[i]?).getD d

/-- Change element i of a list; a list too short is unchanged. -/
def modAt {α : Type} : List α → Nat → (α → α) → List α
  | [], _, _ => []
  | x :: r, 0, f => f x :: r
  | x :: r, n + 1, f => x :: modAt r n f

/-- Drop every copy of a number. -/
def without (l : List Nat) (x : Nat) : List Nat := l.filter (fun y => y != x)

/-- A set as a rising list: add a number. -/
def setAdd : List Nat → Nat → List Nat
  | [], x => [x]
  | y :: r, x => if x < y then x :: y :: r else if x = y then y :: r else y :: setAdd r x

/-- The elements of a list with their positions, from a number on. -/
def numberedFrom {α : Type} : Nat → List α → List (Nat × α)
  | _, [] => []
  | n, x :: r => (n, x) :: numberedFrom (n + 1) r

/-- Insert by a key, after the elements with the same key (a stable order). -/
def insertBy {α : Type} (key : α → Nat) (x : α) : List α → List α
  | [] => [x]
  | y :: r => if key x < key y then x :: y :: r else y :: insertBy key x r

/-- Sort by a key, elements of one key in their order. -/
def sortBy {α : Type} (key : α → Nat) (l : List α) : List α :=
  l.foldl (fun acc x => insertBy key x acc) []

/-- The first of a list with the smallest key. -/
def minBy {α : Type} (key : α → Nat) : List α → Option α
  | [] => none
  | x :: r =>
    match minBy key r with
    | none => some x
    | some y => if key y < key x then some y else some x

/-! ## Bytes (R5) -/

/-- The n bytes of a number, least significant first. -/
def leBytes : Nat → Nat → List Byte
  | 0, _ => []
  | n + 1, v => BitVec.ofNat 8 v :: leBytes n (v / 256)

/-- The number that bytes hold, least significant first. -/
def leNat : List Byte → Nat
  | [] => 0
  | b :: r => b.toNat + 256 * leNat r

/-- The number that bytes hold, most significant first. -/
def beNat (l : List Byte) : Nat := leNat l.reverse

/-- The n bytes of a number, most significant first. -/
def beBytes (n v : Nat) : List Byte := (leBytes n v).reverse

/-- Bytes `off` to `off + n − 1` of a list. -/
def slice (l : List Byte) (off n : Nat) : List Byte := (l.drop off).take n

/-- A little-endian field of a list of bytes. -/
def fieldLE (l : List Byte) (off n : Nat) : Nat := leNat (slice l off n)

/-- A big-endian field of a list of bytes. -/
def fieldBE (l : List Byte) (off n : Nat) : Nat := beNat (slice l off n)

/-- Words from bytes, least significant byte first. -/
def leWords : Nat → List Byte → List Word
  | 0, _ => []
  | n + 1, l => BitVec.ofNat 32 (leNat (l.take 4)) :: leWords n (l.drop 4)

/-- One step of CRC-32C, bit by bit with the reflected polynomial 0x82F63B78. -/
def crcBits : Nat → Nat → Nat
  | 0, c => c
  | n + 1, c => crcBits n (if c % 2 = 1 then (c / 2) ^^^ 0x82F63B78 else c / 2)

/-- CRC-32C of bytes, from a running remainder. -/
def crcRun : Nat → List Byte → Nat
  | c, [] => c
  | c, b :: r => crcRun (crcBits 8 (c ^^^ b.toNat)) r

/-- CRC-32C (Castagnoli) of bytes. -/
def crc32c (l : List Byte) : Nat := crcRun 0xFFFFFFFF l ^^^ 0xFFFFFFFF

/-! ## Rounding (R804) -/

/-- A rational rounded to an integer, an exact half to the even one (R804). -/
def roundEven (q : Rat) : Int :=
  let f := q.floor
  let d := q - (f : Rat)
  if d < 1 / 2 then f
  else if d > 1 / 2 then f + 1
  else if f % 2 = 0 then f else f + 1

/-- As `roundEven`, for a value that is not negative. -/
def roundNat (q : Rat) : Nat := (roundEven q).toNat

/-- Sum of a list of rationals. -/
def ratSum (l : List Rat) : Rat := l.foldl (· + ·) 0

/-- Saturate at n bits. -/
def sat (n v : Nat) : Nat := min v (2 ^ n - 1)

/-! ## Time -/

/-- Length of a raw count in raw ticks per ms. -/
def rawMs : Nat := 200000

/-- Raw ticks in a microsecond. -/
def rawUs : Nat := 200

/-- Raw ticks in a second. -/
def rawS : Nat := 200000000

namespace State

/-- The present raw count: 5 ns ticks, two fabric cycles each (R546). -/
def raw (s : State) : Nat := s.cyc / 2

/-- The module has its supply and its clocks run. -/
def powered (s : State) : Bool :=
  match s.sys.phase with
  | .down => false
  | .charging => false
  | _ => true

/-- The module runs: a start has completed (R724). -/
def running (s : State) : Bool := s.sys.phase == .up

/-- Time passes (R546, R731). -/
def elapse (s : State) (dt : Nat) : State := if s.powered then { s with cyc := s.cyc + dt } else s

/-- A fresh index into the free values. -/
def fresh (s : State) : State := { s with freeCtr := s.freeCtr + 1 }

/-! ## Memory (R526, R682): on-chip SRAM and LPDDR4X -/

/-- The address is in on-chip SRAM. -/
def inSram (a : Nat) : Bool := decide (0x20000000 ≤ a ∧ a < 0x20600000)

/-- The address is in LPDDR4X. -/
def inDram (a : Nat) : Bool := decide (0x100000000 ≤ a ∧ a < 0x200000000)

/-- The address is a byte of memory. -/
def isMem (a : Nat) : Bool := inSram a || inDram a

/-- All n bytes from an address are in one memory. -/
def memSpan (a n : Nat) : Bool :=
  (inSram a && inSram (a + n - 1)) || (inDram a && inDram (a + n - 1)) || (n == 0)

/-- One byte of memory. -/
def byte (s : State) (a : Nat) : Byte := tabGetD 0 s.mem a

/-- Write one byte of memory; an address that is no memory is unchanged. -/
def setByte (s : State) (a : Nat) (b : Byte) : State :=
  if isMem a then { s with mem := tabPut 0 s.mem a b } else s

/-- n bytes of memory. -/
def bytes (s : State) (a : Nat) : Nat → List Byte
  | 0 => []
  | n + 1 => s.byte a :: s.bytes (a + 1) n

/-- Write bytes of memory. -/
def setBytes (s : State) (a : Nat) : List Byte → State
  | [] => s
  | b :: r => (s.setByte a b).setBytes (a + 1) r

/-- A little-endian field of memory. -/
def memLE (s : State) (a n : Nat) : Nat := leNat (s.bytes a n)

/-- Write a little-endian field of memory. -/
def setMemLE (s : State) (a n v : Nat) : State := s.setBytes a (leBytes n v)

/-! ## The register bank -/

/-- Software's copy of a stored register with its parity bits (R113). -/
def cfgWord (s : State) (a : Nat) : PWord := tabGetD (sound (regReset s.sys.fuses a)) s.regs.cfg.words a

/-- Software's copy of a stored register: its value, or the shadow of an RWS one (R86). -/
def cfg (s : State) (a : Nat) : Word := (s.cfgWord a).value

/-- The active copy of a register that has one, with its parity bits (R87, R113). -/
def actWord (s : State) (a : Nat) : PWord := tabGetD (sound (regReset s.sys.fuses a)) s.regs.act a

/-- The value in force of a stored register (R87): the active copy where it has one. -/
def act (s : State) (a : Nat) : Word :=
  match regInfo s.sys.fuses a with
  | some i =>
    match i.acc, i.dom with
    | .rws, _ => (s.actWord a).value
    | .wl, .chan _ => (s.actWord a).value
    | _, _ => s.cfg a
  | none => 0

/-- Put a word and its parity bits into software's copy, by a write in the present cycle. -/
def putCfg (s : State) (a : Nat) (w : PWord) : State :=
  let b := s.regs.cfg
  { s with regs := { s.regs with cfg :=
      { words := tabPut (sound (regReset s.sys.fuses a)) b.words a w, wroteAt := s.cyc,
        wrote := if b.wroteAt = s.cyc then setAdd b.wrote a else [a] } } }

/-- Store software's copy of a register, which sets its parity (R114). -/
def setCfg (s : State) (a : Nat) (v : Word) : State := s.putCfg a (sound v)

/-- A refused write stores the bytes that the register holds, with their parity (R109, R114). -/
def refreshCfg (s : State) (a : Nat) : State := if (s.cfgWord a).bad then s.setCfg a (s.cfg a) else s

/-- Put a word and its parity bits into an active copy. -/
def putAct (s : State) (a : Nat) (w : PWord) : State :=
  { s with regs := { s.regs with act := tabPut (sound (regReset s.sys.fuses a)) s.regs.act a w } }

/-- Store an active copy, which sets its parity (R114). -/
def setAct (s : State) (a : Nat) (v : Word) : State := s.putAct a (sound v)

/-- Mark a shadow as changed, with what it holds and the cycle (R87, R88). -/
def markChanged (s : State) (a : Nat) : State :=
  { s with regs := { s.regs with changed := s.regs.changed ++ [{ key := a, cyc := s.cyc, word := s.cfg a }] } }

/-- Take up the last write of a shadow before a fabric cycle; a later one waits for the next boundary (R87, R88). -/
def takeUp (s : State) (c a : Nat) : State :=
  match (s.regs.changed.filter (fun x => x.key == a && decide (x.cyc < c))).getLast? with
  | some x =>
    let t := s.setAct a x.word
    { t with regs := { t.regs with changed := t.regs.changed.filter (fun x => !(x.key == a && decide (x.cyc < c))) } }
  | none => s

/-- The registers whose shadow was written before a fabric cycle and is not taken up yet, in rising order. -/
def changedBefore (s : State) (c : Nat) : List Nat :=
  (s.regs.changed.filter (fun x => decide (x.cyc < c))).foldl (fun l x => setAdd l x.key) []

/-- Register values in force as numbers: bits [hi:lo] of the register at an offset of a window. -/
def actF (s : State) (w off hi lo : Nat) : Nat := fld (s.act (reg w off)) hi lo

/-- Software's copy as a field. -/
def cfgF (s : State) (w off hi lo : Nat) : Nat := fld (s.cfg (reg w off)) hi lo

/-- Status register at an address. -/
def statOf (s : State) (a : Nat) : StatReg :=
  tabGetD { seq := 0, bits := 0, marks := [], held := [], last := none } s.regs.stat a

/-- Change a status register. -/
def setStat (s : State) (a : Nat) (r : StatReg) : State :=
  { s with regs := { s.regs with
      stat := tabPut { seq := 0, bits := 0, marks := [], held := [], last := none } s.regs.stat a r } }

/-- The LO/HI latch of the register at an address; 0 before its first latch. -/
def latchOf (s : State) (a : Nat) : Word := tabGetD 0 s.regs.latch a

/-- Set a LO/HI latch. -/
def setLatch (s : State) (a : Nat) (v : Word) : State :=
  { s with regs := { s.regs with latch := tabPut 0 s.regs.latch a v } }

/-- Change what the bus answers. -/
def answer (s : State) (v : Word) (err : Bool) : State :=
  { s with regs := { s.regs with reply := { data := v, error := err } } }

/-- The upper word of an access of eight bytes (R128). -/
def answerHi (s : State) (v : Word) : State :=
  { s with regs := { s.regs with reply := { s.regs.reply with hi := v } } }

/-! ## Reset sources (R717) -/

/-- A reset source asserts (R717, R720). -/
def raiseReset (s : State) (n : Nat) : State :=
  { s with sys := { s.sys with asserted := setAdd s.sys.asserted n } }

/-! ## Structure image and handles -/

/-- The loaded image's sections. -/
def body (s : State) : Option ImgBody := s.str.img.map Image.body

/-- A loaded image's section entry, or the default. -/
def fromImg {α : Type} (s : State) (d : α) (f : ImgBody → α) : α :=
  match s.body with
  | some b => f b
  | none => d

/-- Key of a handle. -/
def hkey (typ idx : Nat) : Nat := 65536 * typ + idx

/-- The handle of an index: FREE with generation 1 where nothing is listed (R41, R47). -/
def handle (s : State) (typ idx : Nat) : Handle :=
  tabGetD { st := .free, gen := 1, owner := 0 } s.str.handles (hkey typ idx)

/-- Change a handle. -/
def setHandle (s : State) (typ idx : Nat) (h : Handle) : State :=
  { s with str := { s.str with
      handles := tabPut { st := .free, gen := 1, owner := 0 } s.str.handles (hkey typ idx) h } }

/-- State of a handle. -/
def hst (s : State) (typ idx : Nat) : HState := (s.handle typ idx).st

/-- The handle is RUNNING. -/
def isRunning (s : State) (typ idx : Nat) : Bool := s.hst typ idx == .running

/-- The handle is STOPPED. -/
def isStopped (s : State) (typ idx : Nat) : Bool := s.hst typ idx == .stopped

/-- Pool size of a handle type (R42, R70); 0 with no image. -/
def poolSize (s : State) (typ : Nat) : Nat := s.fromImg 0 (fun b => nth 0 b.pools (typ - 1))

end State

/-- Handle types (R11). -/
def tLANTERN : Nat := 1
def tHEAD : Nat := 2
def tSINK : Nat := 3
def tMETER : Nat := 4
def tFEEDER : Nat := 5
def tWAVEPROF : Nat := 6
def tPROGRAMME : Nat := 7
def tQUEUE : Nat := 8
def tMILESTONE : Nat := 9
def tRECSRC : Nat := 10
def tSESSION : Nat := 11

/-- Handle word (R10). -/
def handleWord (gen typ idx : Nat) : Nat := gen * 2 ^ 24 + typ * 2 ^ 20 + idx

/-- Maximum pools (R42). -/
def maxPool (typ : Nat) : Nat :=
  match typ with
  | 1 => 4096 | 2 => 8 | 3 => 56 | 4 => 16 | 5 => 4 | 6 => 16 | 7 => 16 | 8 => 64 | 9 => 32 | 10 => 64
  | 11 => 2 | _ => 0

end Sys2Proof.Machine
end

