-- ==== Sys2Proof/Machine/Float.lean ====
section
/-! DEFINITION. IEEE 754 binary16 and binary32 values as rationals, with round to nearest, ties to even
(R15, R804). -/

namespace Sys2Proof.Machine

/-- 2 to an integer power. -/
def pow2 (e : Int) : Rat := if 0 ≤ e then ((2 ^ e.toNat : Nat) : Rat) else 1 / ((2 ^ (-e).toNat : Nat) : Rat)

/-- ⌊log₂ q⌋ of a positive rational. -/
def log2Rat (q : Rat) : Int :=
  let e : Int := (q.num.toNat.log2 : Int) - (q.den.log2 : Int)
  if q < pow2 e then e - 1 else if pow2 (e + 1) ≤ q then e + 1 else e

/-- A binary format: precision in bits and least normal exponent. -/
structure Fmt where
  p : Nat
  emin : Int
  deriving DecidableEq, Repr

/-- binary16. -/
def fmt16 : Fmt := { p := 11, emin := -14 }

/-- binary32. -/
def fmt32 : Fmt := { p := 24, emin := -126 }

/-- A rational rounded to the precision of a format; no bound on the exponent above. -/
def roundFmt (f : Fmt) (q : Rat) : Rat :=
  if q = 0 then 0
  else
    let a := if q < 0 then -q else q
    let e := max (log2Rat a) f.emin
    let u := pow2 (e - f.p + 1)
    let r := (roundEven (a / u) : Rat) * u
    if q < 0 then -r else r

/-- A rational rounded to binary32. -/
def round32 (q : Rat) : Rat := roundFmt fmt32 q

/-- A rational rounded to binary16. -/
def round16 (q : Rat) : Rat := roundFmt fmt16 q

/-- The code of a rational rounded to a format whose exponent field has `ew` bits; a value too large is
the infinity of its sign. -/
def encodeFmt (f : Fmt) (ew : Nat) (q : Rat) : Nat :=
  let r := roundFmt f q
  let a := if r < 0 then -r else r
  let sgn := if q < 0 then 2 ^ (ew + f.p - 1) else 0
  let bias : Int := 1 - f.emin
  if a = 0 then sgn
  else if a < pow2 f.emin then sgn + (a / pow2 (f.emin - f.p + 1)).floor.toNat
  else
    let e := log2Rat a
    if e > bias then sgn + (2 ^ ew - 1) * 2 ^ (f.p - 1)
    else sgn + (e + bias).toNat * 2 ^ (f.p - 1) + ((a / pow2 (e - f.p + 1)).floor.toNat - 2 ^ (f.p - 1))

/-- The value of a code; none for an infinity or a NaN. -/
def decodeFmt (f : Fmt) (ew : Nat) (n : Nat) : Option Rat :=
  let m := n % 2 ^ (f.p - 1)
  let x := n / 2 ^ (f.p - 1) % 2 ^ ew
  let neg := n / 2 ^ (ew + f.p - 1) % 2 = 1
  if x = 2 ^ ew - 1 then none
  else
    let a : Rat :=
      if x = 0 then (m : Rat) * pow2 (f.emin - f.p + 1)
      else ((2 ^ (f.p - 1) + m : Nat) : Rat) * pow2 ((x : Int) - (1 - f.emin) - f.p + 1)
    some (if neg then -a else a)

/-- Code of a binary16. -/
def enc16 (q : Rat) : Nat := encodeFmt fmt16 5 q

/-- Value of a binary16. -/
def dec16 (n : Nat) : Option Rat := decodeFmt fmt16 5 n

/-- Code of a binary32. -/
def enc32 (q : Rat) : Nat := encodeFmt fmt32 8 q

/-- Value of a binary32. -/
def dec32 (n : Nat) : Option Rat := decodeFmt fmt32 8 n

/-- The NaN code a binary16 field shows (R326, R328). -/
def nan16 : Nat := 0x7E00

/-- Code of a binary16 that may be missing. -/
def enc16? (q : Option Rat) : Nat :=
  match q with
  | some v => enc16 v
  | none => nan16

/-- Value of a binary16, an infinity or NaN read as 0. -/
def dec16D (n : Nat) : Rat := (dec16 n).getD 0

/-- ⌊√n⌋ by bisection on bits, from bit `k` down. -/
def isqrtFrom : Nat → Nat → Nat → Nat
  | 0, _, r => r
  | k + 1, n, r =>
    let c := r + 2 ^ k
    if c * c ≤ n then isqrtFrom k n c else isqrtFrom k n r

/-- ⌊√n⌋. -/
def isqrt (n : Nat) : Nat := isqrtFrom (n.log2 / 2 + 1) n 0

/-- √q to 40 fractional bits, rounded down; q not negative. -/
def sqrtRat (q : Rat) : Rat :=
  ((isqrt ((q.num.toNat * 2 ^ 80) / q.den) : Nat) : Rat) / ((2 ^ 40 : Nat) : Rat)

/-! ## Natural logarithm (R300), to 60 fractional bits (log entry 66) -/

/-- ln 2 in 2⁻⁶⁴ units. -/
def ln2Fix : Int := 12786308645202655660

/-- z + z³/3 + z⁵/5 + … in 2⁻⁶⁴ units, n terms; `p` is the next odd power of z, `k` its exponent. -/
def artanhFix (z2 : Int) : Nat → Int → Int → Int
  | 0, _, _ => 0
  | n + 1, p, k => p / k + artanhFix z2 n (p * z2 / 2 ^ 64) (k + 2)

/-- ln q of a positive rational, to 60 fractional bits: ln m + e ln 2 for q = m × 2ᵉ with m from 1 up to 2, and
ln m = 2 artanh((m − 1)/(m + 1)). -/
def lnRat (q : Rat) : Rat :=
  let e := log2Rat q
  let m := q / pow2 e
  let z := ((m - 1) / (m + 1) * (2 ^ 64 : Nat)).floor
  ((2 * artanhFix (z * z / 2 ^ 64) 32 z 1 + e * ln2Fix : Int) : Rat) / ((2 ^ 64 : Nat) : Rat)

/-! ## The integrator's gain (R345; log entry 66) -/

/-- cos x of a small x, from the terms of its series up to x¹⁰; an error below x¹²/12!. -/
def cosRat (x : Rat) : Rat :=
  let z := x * x
  1 - z / 2 + z * z / 24 - z * z * z / 720 + z * z * z * z / 40320 - z * z * z * z * z / 3628800

/-- The gain G of the integrator y[k] = a·y[k − 1] + G × (x[k] + x[k − 1]) / 2 with a = 1 − 2⁻¹⁴ that makes its gain at the
nominal frequency 1: √(1 − 2a cos ω + a²) / cos (ω/2), ω = 2π × 50 Hz or 60 Hz × 125 µs (R345). -/
def rogowskiGain (hz60 : Bool) : Rat :=
  let pi : Rat := 3141592653589793238462643383 / 1000000000000000000000000000
  let w := pi * (if hz60 then 60 else 50) / 4000
  let a : Rat := 16383 / 16384
  sqrtRat (1 - 2 * a * cosRat w + a * a) / cosRat (w / 2)

end Sys2Proof.Machine
end

