-- ==== Sys2Proof/Machine/Time.lean ====
section
/-! DEFINITION. Corrected time and its conversion to raw counts (R546 to R560). -/

namespace Sys2Proof.Machine

/-- ⌈q⌉. -/
def ceilRat (q : Rat) : Int := -((-q).floor)

/-- A value the spec gives as a fraction and stores as an integer without saying how it rounds. -/
def roundOpen (site : Nat) (q : Rat) : Int :=
  if q.den = 1 then q.num else if Config.roundUp site q then ceilRat q else q.floor

/-- As `roundOpen`, for a value that is not negative. -/
def openNat (site : Nat) (q : Rat) : Nat := (roundOpen site q).toNat

/-- n octets of an answer whose length the spec gives. -/
def fit (n : Nat) (l : List Byte) : List Byte := (l ++ List.replicate n 0).take n

/-- SHA-256, 32 octets. -/
def sha (l : List Byte) : List Byte := fit 32 (Config.sha256 l)

namespace Slew

/-- What a slew has added by raw count r: 5 × (r − start) × ppm × 10⁻⁶ ns, never more than its amount
(R554, R555). -/
def added (w : Slew) (r : Nat) : Rat :=
  let x : Rat := 5 * ((r : Rat) - w.start) * w.ppm / 1000000
  if w.amount < 0 then max x w.amount else min x w.amount

/-- The raw count at which the amount is reached (R555). -/
def endRaw (w : Slew) : Nat :=
  let p : Rat := if w.ppm < 0 then -w.ppm else w.ppm
  let a : Rat := if w.amount < 0 then -w.amount else w.amount
  if p = 0 then w.start else w.start + (ceilRat (a * 1000000 / (5 * p))).toNat

end Slew

namespace TbsUnit

/-- C(r) as an exact number of ns, not reduced modulo 2⁶⁴ (R547, R555). -/
def corr (t : TbsUnit) (r : Nat) : Rat :=
  t.offset + 5 * r + t.db + 5 * ((r : Rat) - t.rb) * t.rate / (2 ^ 48 : Nat) +
    (match t.slew with
     | some w => w.added r - w.added t.rb
     | none => 0)

/-- The timebase with the mapping and the epoch that are, or were, in force at a raw count (R548, R550). -/
def inForce (t : TbsUnit) (r : Nat) : TbsUnit :=
  match t.past.find? (fun p => decide (r < p.upTo)) with
  | some p => { t with offset := p.offset, rate := p.rate, rb := p.rb, db := p.db, slew := p.slew, epoch := p.epoch }
  | none => t

/-- The mapping in force is about to be replaced from raw count r on. -/
def keepPast (t : TbsUnit) (r : Nat) : List PastMap :=
  t.past ++ [{ upTo := r, offset := t.offset, rate := t.rate, rb := t.rb, db := t.db, slew := t.slew, epoch := t.epoch }]

/-- ⌊C(r)⌋ modulo 2⁶⁴: corrected time in ns (R547), under the parameters in force at r. -/
def corrNs (t : TbsUnit) (r : Nat) : Nat := toBits 64 ((t.inForce r).corr r).floor

/-- The timestamp formed at a raw count (R13, R548). -/
def stampAt (t : TbsUnit) (r : Nat) : Stamp :=
  let c := (t.inForce r).corr r
  { raw := r, corr := t.corrNs r, frac := ((c - (c.floor : Rat)) * 65536).floor.toNat, epoch := (t.inForce r).epoch }

/-- The smallest raw count whose corrected time is at or after T (R557). -/
def rawOf (t : TbsUnit) (T : Rat) : Nat :=
  let slope : Rat := 5 * (1 + (t.rate : Rat) / (2 ^ 48 : Nat))
  match t.slew with
  | none => (ceilRat ((T - t.corr t.rb) / slope) + t.rb).toNat
  | some w =>
    let e := w.endRaw
    if T ≤ t.corr e then
      let k := slope + 5 * (w.ppm : Rat) / 1000000
      min e (ceilRat ((T - t.corr t.rb) / k) + t.rb).toNat
    else (ceilRat ((T - t.corr e) / slope) + e).toNat

/-- The smallest whole multiple of 100 ms above (or at) a corrected time (R559). -/
def tickAfter (c : Rat) (orAt : Bool) : Nat :=
  let n := (c / 100000000).floor
  let m : Int := if orAt ∧ (n : Rat) * 100000000 = c then n else n + 1
  (m * 100000000).toNat

/-- Raw count of the next TICK boundary (R559). -/
def tickRaw (t : TbsUnit) : Nat :=
  let r := t.rawOf t.tickTarget
  match t.tickPrev with
  | some p => max r (p + 10000000)
  | none => r

end TbsUnit

namespace State

/-- The timestamp of now. -/
def stamp (s : State) : Stamp := s.tbs.stampAt s.raw

/-- Corrected time now, exact. -/
def corrNow (s : State) : Rat := (s.tbs.inForce s.raw).corr s.raw

end State

end Sys2Proof.Machine
end

