-- ==== Sys2Proof/Machine/LaneInfo.lean ====
section
/-! DEFINITION. What follows from a lane's registers in force: validity, slots, channels and frame sizes
(R426 to R437, R447). -/

namespace Sys2Proof.Machine

/-- Offset of lane n's register p in the LNE window (R77). -/
def lneOff (n p : Nat) : Nat := n * 0x2000 + p

/-- SUN-FSK bits per ms, by PHYCFG.MODE 0 to 3 (R466). -/
def fskRate (mode : Nat) : Nat :=
  match mode with
  | 0 => 50 | 1 => 100 | 2 => 150 | _ => 200

namespace State

/-- A field in force of lane n. -/
def lneF (s : State) (n p hi lo : Nat) : Nat := s.actF wLNE (lneOff n p) hi lo

/-- PHYCFG in force is valid (R466). -/
def phyValid (s : State) (n : Nat) : Bool :=
  let m := s.lneF n 0x008 31 28
  let c := s.lneF n 0x008 27 24
  decide (m ≤ 3) || (decide (m ≤ 5) && decide (1 ≤ c ∧ c ≤ 5))

/-- TIMING in force is valid (R467). -/
def timingValid (s : State) (n : Nat) : Bool :=
  let l := s.lneF n 0x010 31 16
  let f := s.lneF n 0x010 10 0
  decide (6000 ≤ l ∧ l ≤ 20000) && decide (1 ≤ f ∧ f ≤ 1024)

/-- CHPLAN is valid: SPACING is 2 or 4 (R472). -/
def chplanValid (s : State) : Bool :=
  let p := s.lneF 4 0x010 11 8
  p == 2 || p == 4

/-- CTRL.ENABLE in force. -/
def laneEnabled (s : State) (n : Nat) : Bool := s.lneF n 0x004 0 0 == 1

/-- Lane n. -/
def lane (s : State) (n : Nat) : Lane := nth (Lane.reset n) s.lne.lanes n

/-- Change lane n. -/
def setLane (s : State) (n : Nat) (f : Lane → Lane) : State :=
  { s with lne := { s.lne with lanes := modAt s.lne.lanes n f } }

/-- ORIGIN in force, a raw count (R467). -/
def laneOrigin (s : State) (n : Nat) : Nat :=
  (s.act (reg wLNE (lneOff n 0x014))).toNat + 2 ^ 32 * (s.act (reg wLNE (lneOff n 0x018))).toNat

/-- Slot length in raw ticks (R429). -/
def slotRaw (s : State) (n : Nat) : Nat := 200 * s.lneF n 0x010 31 16

/-- Slotframe length, slots. -/
def sfLen (s : State) (n : Nat) : Nat := s.lneF n 0x010 10 0

/-- Raw count of the start of slot a (R429). -/
def slotStart (s : State) (n a : Nat) : Nat := s.laneOrigin n + a * s.slotRaw n

/-- The slot (not reduced modulo 2⁴⁰) that contains a raw count; none before ORIGIN or while TIMING is
not valid (R469). -/
def slotAt (s : State) (n r : Nat) : Option Nat :=
  if s.timingValid n ∧ s.laneOrigin n ≤ r then some ((r - s.laneOrigin n) / s.slotRaw n) else none

/-- The first slot that starts at or after a raw count (R560). -/
def slotFrom (s : State) (n r : Nat) : Nat :=
  let l := max 1 (s.slotRaw n)
  (r - s.laneOrigin n + l - 1) / l

/-- The 40-bit ASN of a slot (R429). -/
def asnOf (a : Nat) : Nat := a % 2 ^ 40

/-- The slot congruent to an ASN modulo 2⁴⁰ that lies nearest the lane's current slot (R560). -/
def slotNear (s : State) (n asn : Nat) : Nat :=
  let c := (s.slotAt n s.raw).getD 0
  let b := c - c % 2 ^ 40 + asn % 2 ^ 40
  if b + 2 ^ 39 < c then b + 2 ^ 40
  else if c + 2 ^ 39 < b ∧ 2 ^ 40 ≤ b then b - 2 ^ 40
  else b

/-- Raw count of an ASN with an offset in µs (R560). -/
def rawOfAsn (s : State) (n asn us : Nat) : Nat := s.slotStart n (s.slotNear n asn) + 200 * us

/-- Frame overhead in octets of SUN-FSK: preamble, SFD and PHR (R435, R466). -/
def fskOverhead (s : State) (n : Nat) : Nat :=
  let p := s.lneF n 0x008 23 16
  (if 4 ≤ p ∧ p ≤ 32 then p else 8) + 4

/-- Airtime of a PSDU in µs (R435). -/
def airUs (s : State) (n psdu : Nat) : Rat :=
  let m := s.lneF n 0x008 31 28
  if m ≤ 3 then ((psdu + s.fskOverhead n) * 8 * 1000 : Nat) / (fskRate m : Rat)
  else (Config.ofdmAirUs (if m = 4 then 3 else 4) (s.lneF n 0x008 27 24) psdu : Rat)

/-- Airtime of a PSDU in raw ticks. -/
def airRaw (s : State) (n psdu : Nat) : Nat := (roundOpen 2 (200 * s.airUs n psdu)).toNat

/-- From the first preamble bit to the end of the SFD in raw ticks: the preamble and the SFD's two octets (R424). An
OFDM PPDU has no SFD, and what precedes its PSDU stands in its place. -/
def shrRaw (s : State) (n : Nat) : Nat :=
  let m := s.lneF n 0x008 31 28
  if m ≤ 3 then (roundOpen 2 (((s.fskOverhead n - 2) * 8 * 200000 : Nat) / (fskRate m : Rat))).toNat
  else s.airRaw n 0

/-- Transmit power in dBm: TXPWR within −10 to 27, and 6 dB less while the antenna is at fault (R456, R466). -/
def txPower (s : State) (n : Nat) : Int :=
  max (-10) (min 27 (signed 8 (s.lneF n 0x00C 23 16))) - (if (s.lane n).antFault then 6 else 0)

/-- The largest PSDU up to a cap whose airtime fits a time in µs; 0 when none does. -/
def psduFit (s : State) (n : Nat) (limit : Rat) : Nat → Nat
  | 0 => 0
  | k + 1 => if s.airUs n (k + 1) ≤ limit then k + 1 else s.psduFit n limit k

/-- Time a frame may occupy in a slot, µs (R431). -/
def slotRoom (s : State) (n : Nat) : Rat := (s.lneF n 0x010 31 16 : Rat) - 2000 - 500

/-- WAVE_MAX (R435). -/
def waveMax (s : State) (n : Nat) : Nat :=
  if s.phyValid n ∧ s.timingValid n then s.psduFit n (s.slotRoom n) 127 else 0

/-- BULK_MAX (R435). -/
def bulkMax (s : State) (n : Nat) : Nat :=
  if s.phyValid n ∧ s.timingValid n then s.psduFit n (s.slotRoom n) 250 else 0

/-- BULK_ACK_MAX (R435): an acknowledgement of 40 octets fits after ACK_DELAY. -/
def bulkAckMax (s : State) (n : Nat) : Nat :=
  if s.phyValid n ∧ s.timingValid n then s.psduFit n (s.slotRoom n - 1000 - s.airUs n 40) 250 else 0

/-- Hopping list length in force (R467). -/
def hopLen (s : State) (n : Nat) : Nat :=
  let h := s.lneF n 0x01C 6 0
  if h = 0 then 1 else min h 64

/-- Entry i of the hopping list in force (R468). -/
def hop (s : State) (n i : Nat) : Nat := s.lneF n (0x100 + 4 * (i / 4)) (8 * (i % 4) + 7) (8 * (i % 4))

/-- Channel of slot a in a cell with offset c (R436). -/
def hopChannel (s : State) (n a c : Nat) : Nat := s.hop n ((a + c) % s.hopLen n)

/-- Centre of channel k in kHz (R427). -/
def chanKHz (s : State) (k : Nat) : Nat := s.lneF 4 0x010 31 12 + k * (100 * s.lneF 4 0x010 11 8)

/-- Spacing of the lane's PHY in kHz (R424). -/
def phySpacing (s : State) (n : Nat) : Nat :=
  match s.lneF n 0x008 31 28 with
  | 0 => 200 | 1 => 200 | 5 => 200 | _ => 400

/-- The channel lies wholly inside the variant's band (R427). -/
def chanInBand (s : State) (n k : Nat) : Bool :=
  let c := s.chanKHz k
  let h := s.phySpacing n / 2
  if s.sys.fuses.variantU then decide (902000 + h ≤ c ∧ c + h ≤ 928000)
  else decide (863000 + h ≤ c ∧ c + h ≤ 876000)

/-- Cell c of lane n: its word in force. -/
def cellWord (s : State) (n c : Nat) : Word := s.act (reg wLNE (lneOff n (0x1000 + 4 * c)))

/-- The lanes use every valid cell: STATE is LIT, or a transition to LIT has ungated the clocks (R437, R739). -/
def fullCells (s : State) : Bool :=
  s.sys.pwr == .lit || (match s.sys.trans with | some t => t.target == .lit | none => false)
    || (s.sys.held && s.sys.from_ == .lit)

/-- A cell is in use in the power state in force (R437). -/
def cellUsed (s : State) (w : Word) : Bool :=
  bit w 31 && decide (fld w 30 28 ≤ 3) && (s.fullCells || bit w 20)

/-- The lane's cell words that are listed, with their numbers; the others are not valid. -/
def laneCells (s : State) (n : Nat) : List (Nat × Word) :=
  s.regs.act.filterMap (fun e =>
    let lo := reg wLNE (lneOff n 0x1000)
    if lo ≤ e.1 ∧ e.1 < lo + 0x800 then some ((e.1 - lo) / 4, e.2.value) else none)

/-- The cell lane n uses in slot a (R433, R437). -/
def cellOf (s : State) (n a : Nat) : Option Word :=
  ((s.laneCells n).find? (fun e => s.cellUsed e.2 && fld e.2 9 0 == a % s.sfLen n)).map (·.2)

/-- Valid cells share a slot offset (R433, CELL_DUP). -/
def cellDup (s : State) (n : Nat) : Bool :=
  let v := (s.laneCells n).filter (fun e => bit e.2 31)
  v.any (fun e => v.any (fun f => decide (e.1 < f.1) && fld e.2 9 0 == fld f.2 9 0))

/-- Transmitted raw ticks of lane n over the last 3,600 s; `b` chooses the beacons alone (R447). -/
def airLastHour (s : State) (n : Nat) (b : Bool) : Nat :=
  (s.lane n).air.foldl (fun t e =>
    if s.raw < e.1 + 3600 * rawS ∧ (e.2.2 ∨ ¬b) then t + e.2.1 else t) 0

/-- DUTY.USED: transmit duty over the last 3,600 s in 0.1 % (R447, R469). -/
def dutyUsed (s : State) (n : Nat) : Nat :=
  (roundOpen 1 ((s.airLastHour n false : Rat) * 1000 / (3600 * rawS : Nat))).toNat

/-- RFCFG.DUTYMAX in 0.1 % (R466). -/
def dutyMax (s : State) (n : Nat) : Nat :=
  let d := s.lneF n 0x00C 11 0
  if d = 0 then 1 else min d 1000

end State

end Sys2Proof.Machine
end

