-- ==== Sys2Proof/Machine/Curves.lean ====
section
/-! DEFINITION. The fade curves (R201 to R204). -/

namespace Sys2Proof.Machine

/-- Gamma 2.2, points 0 to 31. -/
def curveGamma0 : List Nat :=
  [0, 0, 2, 4, 7, 11, 17, 24, 32, 42, 53, 65, 79, 94, 111, 129,
   148, 169, 192, 216, 242, 270, 299, 330, 362, 396, 432, 469, 508, 549, 591, 635]

/-- Gamma 2.2, points 32 to 63. -/
def curveGamma1 : List Nat :=
  [681, 729, 779, 830, 883, 938, 995, 1053, 1113, 1175, 1239, 1305, 1373, 1443, 1514, 1587,
   1663, 1740, 1819, 1900, 1983, 2068, 2155, 2243, 2334, 2427, 2521, 2618, 2717, 2817, 2920, 3024]

/-- Gamma 2.2, points 64 to 95. -/
def curveGamma2 : List Nat :=
  [3131, 3240, 3350, 3463, 3578, 3694, 3813, 3934, 4057, 4182, 4309, 4438, 4570, 4703, 4838, 4976,
   5115, 5257, 5401, 5547, 5695, 5845, 5998, 6152, 6309, 6468, 6629, 6792, 6957, 7124, 7294, 7466]

/-- Gamma 2.2, points 96 to 127. -/
def curveGamma3 : List Nat :=
  [7640, 7816, 7994, 8175, 8358, 8543, 8730, 8919, 9111, 9305, 9501, 9699, 9900, 10102, 10307, 10515,
   10724, 10936, 11150, 11366, 11585, 11806, 12029, 12254, 12482, 12712, 12944, 13179, 13416, 13655, 13896, 14140]

/-- Gamma 2.2, points 128 to 159. -/
def curveGamma4 : List Nat :=
  [14386, 14635, 14885, 15138, 15394, 15652, 15912, 16174, 16439, 16706, 16975, 17247, 17521, 17798, 18077, 18358,
   18642, 18928, 19216, 19507, 19800, 20095, 20393, 20694, 20996, 21301, 21609, 21919, 22231, 22546, 22863, 23182]

/-- Gamma 2.2, points 160 to 191. -/
def curveGamma5 : List Nat :=
  [23504, 23829, 24156, 24485, 24817, 25151, 25487, 25826, 26168, 26512, 26858, 27207, 27558, 27912, 28268, 28627,
   28988, 29351, 29717, 30086, 30457, 30830, 31206, 31585, 31966, 32349, 32735, 33124, 33514, 33908, 34304, 34702]

/-- Gamma 2.2, points 192 to 223. -/
def curveGamma6 : List Nat :=
  [35103, 35507, 35913, 36321, 36732, 37146, 37562, 37981, 38402, 38825, 39252, 39680, 40112, 40546, 40982, 41421,
   41862, 42306, 42753, 43202, 43654, 44108, 44565, 45025, 45487, 45951, 46418, 46888, 47360, 47835, 48313, 48793]

/-- Gamma 2.2, points 224 to 255. -/
def curveGamma7 : List Nat :=
  [49275, 49761, 50249, 50739, 51232, 51728, 52226, 52727, 53230, 53736, 54245, 54756, 55270, 55787, 56306, 56828,
   57352, 57879, 58409, 58941, 59476, 60014, 60554, 61097, 61642, 62190, 62741, 63295, 63851, 64410, 64971, 65535]

/-- Gamma 2.2 (R201). -/
def curveGamma : List Nat :=
  curveGamma0 ++ curveGamma1 ++ curveGamma2 ++ curveGamma3 ++ curveGamma4 ++ curveGamma5 ++ curveGamma6 ++ curveGamma7

/-- Logarithmic 40 dB, points 0 to 31. -/
def curveLog400 : List Nat :=
  [0, 667, 679, 692, 704, 717, 730, 744, 757, 771, 785, 799, 814, 829, 844, 859,
   875, 891, 907, 924, 940, 958, 975, 993, 1011, 1029, 1048, 1067, 1087, 1106, 1127, 1147]

/-- Logarithmic 40 dB, points 32 to 63. -/
def curveLog401 : List Nat :=
  [1168, 1189, 1211, 1233, 1256, 1278, 1302, 1325, 1350, 1374, 1399, 1425, 1451, 1477, 1504, 1531,
   1559, 1588, 1617, 1646, 1676, 1707, 1738, 1769, 1802, 1835, 1868, 1902, 1937, 1972, 2008, 2045]

/-- Logarithmic 40 dB, points 64 to 95. -/
def curveLog402 : List Nat :=
  [2082, 2120, 2158, 2198, 2238, 2279, 2320, 2362, 2405, 2449, 2494, 2539, 2586, 2633, 2681, 2729,
   2779, 2830, 2881, 2934, 2987, 3042, 3097, 3154, 3211, 3270, 3329, 3390, 3452, 3515, 3579, 3644]

/-- Logarithmic 40 dB, points 96 to 127. -/
def curveLog403 : List Nat :=
  [3710, 3778, 3847, 3917, 3988, 4061, 4135, 4210, 4287, 4365, 4445, 4526, 4608, 4692, 4778, 4865,
   4953, 5044, 5136, 5229, 5324, 5422, 5520, 5621, 5723, 5828, 5934, 6042, 6152, 6264, 6378, 6495]

/-- Logarithmic 40 dB, points 128 to 159. -/
def curveLog404 : List Nat :=
  [6613, 6733, 6856, 6981, 7108, 7238, 7370, 7504, 7641, 7780, 7922, 8066, 8213, 8363, 8515, 8670,
   8828, 8989, 9153, 9320, 9490, 9663, 9839, 10018, 10201, 10387, 10576, 10769, 10965, 11165, 11368, 11575]

/-- Logarithmic 40 dB, points 160 to 191. -/
def curveLog405 : List Nat :=
  [11786, 12001, 12220, 12442, 12669, 12900, 13135, 13374, 13618, 13866, 14119, 14376, 14638, 14905, 15177, 15453,
   15735, 16022, 16314, 16611, 16914, 17222, 17536, 17855, 18181, 18512, 18849, 19193, 19543, 19899, 20261, 20631]

/-- Logarithmic 40 dB, points 192 to 223. -/
def curveLog406 : List Nat :=
  [21007, 21389, 21779, 22176, 22580, 22992, 23411, 23837, 24272, 24714, 25164, 25623, 26090, 26565, 27050, 27542,
   28044, 28555, 29076, 29606, 30145, 30695, 31254, 31823, 32403, 32994, 33595, 34207, 34831, 35466, 36112, 36770]

/-- Logarithmic 40 dB, points 224 to 255. -/
def curveLog407 : List Nat :=
  [37440, 38122, 38817, 39524, 40245, 40978, 41725, 42485, 43259, 44048, 44851, 45668, 46500, 47347, 48210, 49089,
   49983, 50894, 51822, 52766, 53728, 54707, 55704, 56719, 57753, 58805, 59877, 60968, 62079, 63210, 64362, 65535]

/-- Logarithmic 40 dB (R201). -/
def curveLog40 : List Nat :=
  curveLog400 ++ curveLog401 ++ curveLog402 ++ curveLog403 ++ curveLog404 ++ curveLog405 ++ curveLog406 ++ curveLog407

/-- Logarithmic 60 dB, points 0 to 31. -/
def curveLog600 : List Nat :=
  [0, 67, 69, 71, 73, 75, 77, 79, 81, 84, 86, 88, 91, 93, 96, 98,
   101, 104, 107, 110, 113, 116, 119, 122, 126, 129, 133, 136, 140, 144, 148, 152]

/-- Logarithmic 60 dB, points 32 to 63. -/
def curveLog601 : List Nat :=
  [156, 160, 165, 169, 174, 179, 183, 188, 194, 199, 204, 210, 216, 222, 228, 234,
   241, 247, 254, 261, 268, 275, 283, 291, 299, 307, 315, 324, 333, 342, 351, 361]

/-- Logarithmic 60 dB, points 64 to 95. -/
def curveLog602 : List Nat :=
  [371, 381, 392, 402, 413, 425, 437, 449, 461, 473, 486, 500, 514, 528, 542, 557,
   572, 588, 604, 621, 638, 655, 673, 692, 711, 730, 750, 771, 792, 814, 836, 859]

/-- Logarithmic 60 dB, points 96 to 127. -/
def curveLog603 : List Nat :=
  [883, 907, 932, 958, 984, 1011, 1039, 1067, 1096, 1127, 1158, 1189, 1222, 1256, 1290, 1325,
   1362, 1399, 1438, 1477, 1518, 1559, 1602, 1646, 1691, 1738, 1786, 1835, 1885, 1937, 1990, 2045]

/-- Logarithmic 60 dB, points 128 to 159. -/
def curveLog604 : List Nat :=
  [2101, 2158, 2218, 2279, 2341, 2405, 2471, 2539, 2609, 2681, 2754, 2830, 2908, 2987, 3069, 3154,
   3240, 3329, 3421, 3515, 3611, 3710, 3812, 3917, 4024, 4135, 4249, 4365, 4485, 4608, 4735, 4865]

/-- Logarithmic 60 dB, points 160 to 191. -/
def curveLog605 : List Nat :=
  [4998, 5136, 5277, 5422, 5570, 5723, 5881, 6042, 6208, 6378, 6554, 6733, 6918, 7108, 7304, 7504,
   7710, 7922, 8139, 8363, 8593, 8828, 9071, 9320, 9576, 9839, 10109, 10387, 10672, 10965, 11266, 11575]

/-- Logarithmic 60 dB, points 192 to 223. -/
def curveLog606 : List Nat :=
  [11893, 12220, 12555, 12900, 13254, 13618, 13992, 14376, 14771, 15177, 15594, 16022, 16462, 16914, 17378, 17855,
   18346, 18849, 19367, 19899, 20445, 21007, 21583, 22176, 22785, 23411, 24054, 24714, 25393, 26090, 26806, 27542]

/-- Logarithmic 60 dB, points 224 to 255. -/
def curveLog607 : List Nat :=
  [28299, 29076, 29874, 30695, 31537, 32403, 33293, 34207, 35147, 36112, 37103, 38122, 39169, 40245, 41350, 42485,
   43652, 44851, 46082, 47347, 48648, 49983, 51356, 52766, 54215, 55704, 57233, 58805, 60420, 62079, 63784, 65535]

/-- Logarithmic 60 dB (R201). -/
def curveLog60 : List Nat :=
  curveLog600 ++ curveLog601 ++ curveLog602 ++ curveLog603 ++ curveLog604 ++ curveLog605 ++ curveLog606 ++ curveLog607

/-- Point i of a fixed curve k, 0 to 3 (R201). -/
def fixedPoint (k i : Nat) : Nat :=
  match k with
  | 0 => 257 * i
  | 1 => nth 0 curveGamma i
  | 2 => nth 0 curveLog40 i
  | _ => nth 0 curveLog60 i

/-- The word that holds points 2j and 2j + 1 of a fixed curve (R201). -/
def curveWord (k j : Nat) : Nat := fixedPoint k (2 * j + 1) * 65536 + fixedPoint k (2 * j)

namespace State

/-- Point i of curve k in force (R201, R202). -/
def curvePoint (s : State) (k i : Nat) : Nat :=
  if k < 4 then fixedPoint k i
  else s.actF wSCN (0x2000 + 0x200 * k + 4 * (i / 2)) (16 * (i % 2) + 15) (16 * (i % 2))

/-- Curve k is valid in the values in force (R202). -/
def curveOk (s : State) (k : Nat) : Bool :=
  k < 4 || (s.curvePoint k 0 == 0 && s.curvePoint k 255 == 65535
    && (List.range 255).all (fun i => decide (s.curvePoint k i ≤ s.curvePoint k (i + 1))))

/-- The curve used where a command names curve k: curve 0 while k is not valid (R202). -/
def curveUsed (s : State) (k : Nat) : Nat := if bit (BitVec.ofNat 32 s.scn.curveValid) k then k else 0

/-- c(x), exact (R204). -/
def curveAt (s : State) (k x : Nat) : Rat :=
  let i := x / 256
  let y := s.curvePoint k i
  if 255 ≤ i then (s.curvePoint k 255 : Rat)
  else (y : Rat) + ((s.curvePoint k (i + 1) : Rat) - y) * ((x % 256 : Nat) : Rat) / 256

/-- c⁻¹(A): the smallest position whose value is A or more (R204). -/
def curveInv (s : State) (k a : Nat) : Nat :=
  match (List.range 256).find? (fun i => decide (a ≤ s.curvePoint k i)) with
  | none => 0xFF00
  | some 0 => 0
  | some (i + 1) =>
    let y := s.curvePoint k i
    let d := s.curvePoint k (i + 1) - y
    256 * i + ((a - y) * 256 + d - 1) / max 1 d

/-- The level that a fade from A to B over D raw ticks gives e ticks after its start (R205). -/
def fadeLevel (s : State) (k a b e d : Nat) : Nat :=
  if d ≤ e then b
  else
    let xa := s.curveInv k a
    let xb := s.curveInv k b
    let x := (xa : Int) + roundEven (((xb : Rat) - xa) * e / d)
    (roundOpen 3 (s.curveAt k x.toNat)).toNat

end State

end Sys2Proof.Machine
end

