-- ==== Sys2Proof/Machine/View.lean ====
section
/-! DEFINITION. What a read of a register returns, without any side effect (R621): the stored registers
and the read-only ones computed from the state. -/

namespace Sys2Proof.Machine

/-- A bit of a word, set or not. -/
def bitIf (b : Bool) (i : Nat) : Nat := if b then 2 ^ i else 0

/-- The number whose bit i is `f i`, for i below n. -/
def packBits : Nat → (Nat → Bool) → Nat
  | 0, _ => 0
  | n + 1, f => packBits n f + bitIf (f n) n

/-- The number with the bits of a list set. -/
def bitSet (l : List Nat) : Nat := packBits 64 (fun i => l.contains i)

/-- The low or high word of a 64-bit number. -/
def half64 (hi : Bool) (n : Nat) : Nat := (if hi then n / 2 ^ 32 else n) % 2 ^ 32

/-- Two 16-bit fields. -/
def two16 (h l : Nat) : Nat := h % 65536 * 65536 + l % 65536

/-! ## Calendar words (R586, R613) -/

/-- Leap years of the calendar, 2000 to 2199 (R586). -/
def leap (y : Nat) : Bool := y % 4 == 0 && (y % 100 != 0 || y % 400 == 0)

/-- Days of a month. -/
def monthDays (y m : Nat) : Nat :=
  match m with
  | 2 => if leap y then 29 else 28
  | 4 => 30 | 6 => 30 | 9 => 30 | 11 => 30
  | _ => 31

/-- Days in the months of a year before month m. -/
def daysBefore (y : Nat) : Nat → Nat
  | 0 => 0
  | 1 => 0
  | m + 1 => daysBefore y m + monthDays y m

/-- Days from 2000-01-01 to a date. -/
def dayNumber (y m d : Nat) : Nat :=
  let k := y - 2000
  365 * k + (k + 3) / 4 - (if k > 100 then (k - 1) / 100 else 0) + (if k > 400 then (k - 1) / 400 else 0)
    + daysBefore y m + d - 1

/-- Weekday of a date, 0 Monday to 6 Sunday; 2000-01-01 is a Saturday (R596). -/
def weekday (y m d : Nat) : Nat := (dayNumber y m d + 5) % 7

/-- RTC_DATE (R613). -/
def dateWord (c : Clock) : Word :=
  BitVec.ofNat 32 (weekday c.y c.mo c.d * 2 ^ 24 + (c.y - 2000) * 2 ^ 16 + c.mo * 2 ^ 8 + c.d)

/-- RTC_TIME (R613). -/
def timeWord (c : Clock) (valid dst : Bool) : Word :=
  BitVec.ofNat 32 (bitIf valid 31 + bitIf dst 30 + c.h * 2 ^ 16 + c.mi * 2 ^ 8 + c.s)

/-! ## Interval records (R398) -/

/-- The 128 bytes of an interval record. -/
def IvRec.bytes (r : IvRec) : List Byte :=
  let b := leBytes 4 r.recno ++ leBytes 1 r.feeder ++ leBytes 1 1 ++ leBytes 2 r.flags ++ leBytes 8 r.startRaw
    ++ leBytes 8 r.endRaw ++ leBytes 8 r.endCorr ++ leBytes 2 r.startEpoch ++ leBytes 2 r.endEpoch
    ++ leBytes 4 r.cycles ++ leBytes 8 r.imp ++ leBytes 8 r.exp_ ++ leBytes 8 r.q1 ++ leBytes 8 r.q2
    ++ leBytes 8 r.q3 ++ leBytes 8 r.q4 ++ leBytes 8 r.loss ++ leBytes 8 (toBits 64 r.residual)
    ++ leBytes 8 r.basis ++ leBytes 8 r.estBasis ++ leBytes 2 r.lanterns ++ leBytes 2 r.estimated
  b ++ leBytes 4 (crc32c b)

/-- The handle state's code (R68). -/
def HState.code (h : HState) : Nat :=
  match h with
  | .free => 0 | .stopped => 1 | .running => 2 | .faulted => 3

/-- Code of a power state (R747). -/
def Pwr.code (p : Pwr) : Nat :=
  match p with
  | .off => 0 | .hold => 1 | .vigil => 2 | .lit => 3

/-- Value of a Sluice state (R710). -/
def Sluice.code (x : Sluice) : Nat :=
  match x with
  | .idle => 0 | .receiving => 1 | .verifying => 2 | .staged => 3 | .armed => 4 | .copying => 5 | .trial => 6

/-- Value of a life-cycle state (R651). -/
def LifeCycle.code (x : LifeCycle) : Nat :=
  match x with
  | .factory => 1 | .provisioned => 2 | .owned => 3 | .returned => 4 | .spent => 5

/-- Value of a group phase (R326). -/
def Phase.code (x : Phase) : Nat :=
  match x with
  | .dark => 0 | .startup => 1 | .run => 2 | .test => 3 | .recovery => 4 | .tripped => 5 | .disabled => 6
  | .held => 7

/-- µWh of the quantum in force (R388). -/
def quantumUWh (qcode : Nat) : Nat :=
  match qcode with
  | 0 => 1000 | 1 => 10000 | 2 => 100000 | 4 => 10000000 | _ => 1000000

/-- Type, OFFSET and LENGTH of entry i of a manifest's part table (R684). -/
def manifestPart (m : List Byte) (i : Nat) : Nat × Nat × Nat :=
  (fieldLE m (64 + 48 * i) 1, fieldLE m (64 + 48 * i + 4) 4, fieldLE m (64 + 48 * i + 8) 4)

/-- TOTAL of a manifest: the end of its last entry (R685). -/
def manifestTotal (m : List Byte) : Nat :=
  let p := manifestPart m (fieldLE m 7 1 - 1)
  p.2.1 + p.2.2

/-- The trial window of a manifest in s (R684). -/
def manifestTrial (m : List Byte) : Nat :=
  let t := fieldLE m 16 2
  if t = 0 then 600 else max 60 (min t 3600)

namespace State

/-- The raw image bytes, empty when none is loaded. -/
def imgBytes (s : State) : List Byte :=
  match s.str.img with
  | some i => i.bytes
  | none => []

/-- Indices of a type that are not FREE. -/
def inUse (s : State) (typ : Nat) : Nat :=
  (s.str.handles.filter (fun e => e.1 / 65536 == typ && e.2.st != .free)).length

/-- STR (R63 to R70). -/
def viewSTR (s : State) (o : Nat) : Nat :=
  let b := s.imgBytes
  if o = 0x004 then
    match s.str.img with
    | some _ => 2 ^ 31 + fieldLE b 7 1 * 2 ^ 20 + fieldLE b 6 1 * 2 ^ 16 + fieldLE b 4 2
    | none => 0
  else if o = 0x008 then fieldLE b 12 4
  else if 0x010 ≤ o ∧ o ≤ 0x02C then (if b = [] then 0 else fieldLE (sha b) (o - 0x010) 4)
  else if o = 0x038 then
    bitIf s.str.pend.isSome 31 + s.str.cmdSeq % 256 * 2 ^ 16 + s.str.detail * 2 ^ 12
      + s.str.stAfter.code * 2 ^ 4 + s.str.result
  else if 0x060 ≤ o ∧ o ≤ 0x088 then
    let t := (o - 0x060) / 4 + 1
    two16 (s.inUse t) (s.poolSize t)
  else 0

/-- SYS (R83, R84, R744 to R749). -/
def viewSYS (s : State) (o : Nat) : Nat :=
  match o with
  | 0x004 => s.rtc.bkp29.toNat
  | 0x008 => s.sys.rstMap % 2 ^ 28
  | 0x00C => bitSet s.sys.clkFail
  | 0x010 => bitSet s.sys.overCur * 256 + bitSet s.sys.openCoil * 16 + bitSet s.sys.closed
  | 0x044 =>
    bitIf s.sys.safe 31 + bitIf s.sys.trans.isSome 30 + bitIf s.sys.held 29 + s.sys.from_.code * 1024
      + s.sys.result * 16 + s.sys.pwr.code
  | 0x064 => s.sys.fuseCode
  | 0x0F0 => s.regs.busErr.addr
  | 0x0F4 =>
    s.regs.busErr.count * 2 ^ 24 + s.regs.busErr.master * 256 + bitIf s.regs.busErr.write 7 + s.regs.busErr.cause
  | _ => 0

/-- The step key that SCN_STEP word w reaches under SCN_STEPSEL (R163, R232). -/
def stepSel (s : State) (w : Nat) : Nat :=
  stepKey (s.cfgF wSCN 0x080 9 6) (s.cfgF wSCN 0x080 5 0) w

/-- Programme state of a programme. -/
def prog (s : State) (p : Nat) : ScnProg := nth ScnProg.reset s.scn.progs p

/-- The programme in force for default programme p: itself until the rules have been evaluated (R180). -/
def progFor (s : State) (p : Nat) : Nat := (s.prog p).inForce.getD p

/-- SCN (R228 to R231, R202). -/
def viewSCN (s : State) (o : Nat) : Nat :=
  if o = 0x020 then s.scn.solved * 65536 + s.scn.solveUs
  else if o = 0x024 then two16 (sat 16 s.scn.frames) (sat 16 s.scn.margin)
  else if o = 0x028 then half64 false s.scn.lastEff
  else if o = 0x02C then (s.latchOf (reg wSCN 0x02C)).toNat
  else if o = 0x030 then s.scn.curveValid
  else if 0x040 ≤ o ∧ o ≤ 0x07C then
    let p := s.prog ((o - 0x040) / 4)
    let n := p.inForce.getD 0
    let q := s.prog n
    (match p.rule with
     | some r => 2 ^ 31 + r * 2 ^ 24
     | none => 0) + n * 2 ^ 20 + q.scene.getD 0 * 256 + q.step.getD 0
  else if 0x084 ≤ o ∧ o ≤ 0x090 then (s.cfg (s.stepSel ((o - 0x084) / 4))).toNat
  else if 0x2000 ≤ o ∧ o ≤ 0x27FC then curveWord ((o - 0x2000) / 0x200) (o % 0x200 / 4)
  else 0

/-- WAV (R279 to R282). -/
def viewWAV (s : State) (o : Nat) : Nat :=
  let w := s.wav
  if o = 0x00C then w.fifoMax * 2 ^ 24 + w.fifo.length * 2 ^ 16 + w.waves.length
  else if o = 0x010 then two16 (sat 16 w.dAge) (sat 16 w.dState)
  else if o = 0x014 then two16 (sat 16 w.dFilter) (sat 16 w.dRange)
  else if o = 0x018 then two16 (sat 16 w.dOver) (sat 16 w.dDup)
  else if o = 0x01C then two16 (sat 16 w.hoStale) (sat 16 w.hoCheck)
  else if o = 0x020 then two16 (sat 16 w.trunc) (sat 16 w.qfull)
  else if o = 0x024 then two16 (sat 16 w.latCompute) (sat 16 w.latTotal)
  else if o = 0x028 then two16 w.hoRecv w.hoSent
  else if 0x0200 ≤ o ∧ o ≤ 0x03FC then
    match w.waves.find? (fun x => x.num == (o - 0x0200) / 4) with
    | some x =>
      2 ^ 31 + bitIf x.remote.isSome 30 + x.profile * 2 ^ 26 + x.set.length * 2 ^ 19 + x.anchor
    | none => 0
  else 0

/-- LTB (R154 to R162). -/
def viewLTB (s : State) (o : Nat) : Nat :=
  match o with
  | 0x004 => s.ltb.base
  | 0x008 => s.ltb.heads.length * 65536 + s.ltb.count
  | 0x01C => s.ltb.issued * 2 ^ 24 + s.ltb.done * 2 ^ 16 + s.ltb.queue.length * 256 + s.ltb.code
  | 0x028 => s.ltb.dwAddr
  | 0x02C => two16 (sat 16 s.ltb.unknownJoin) (sat 16 s.ltb.idleDrop)
  | 0x038 =>
    match s.ltb.euiFound with
    | some i => 2 ^ 31 + i
    | none => 0
  | _ => 0

/-- Sink c. -/
def sink (s : State) (c : Nat) : Sink := nth Sink.reset s.mst.sinks c

/-- Group g. -/
def group (s : State) (g : Nat) : Group := nth Group.reset s.mst.groups g

/-- Entry of group g in the SINKGROUPS section (R32). -/
def imgGroup (s : State) (g : Nat) : ImgGroup :=
  s.fromImg { enabled := false, head := none, interlock := false, ntc := false, spare := false }
    (fun b => nth { enabled := false, head := none, interlock := false, ntc := false, spare := false } b.groups g)

/-- The group is enabled by the image. -/
def groupEnabled (s : State) (g : Nat) : Bool := (s.imgGroup g).enabled

/-- A fault of the sink is in force (R307, R328). -/
def sinkFault (k : Sink) : Bool := k.open_ || k.adjShort || k.ctrl || k.sat || k.vfRange

/-- MST_SPARE.SUB of group g (R324). -/
def spareCode (s : State) (g : Nat) : Nat :=
  if !(s.imgGroup g).spare then 0xD
  else
    match (s.group g).spareTo with
    | some j => j
    | none => if (s.group g).spareUsable then 0xF else 0xE

/-- MST (R323 to R328). -/
def viewMST (s : State) (o : Nat) : Nat :=
  if o = 0x010 then bitIf s.mst.cal.isSome 31 + s.mst.cmdCode
  else if o = 0x014 then
    packBits 8 (fun g => (s.group g).therm) * 2 ^ 24 + packBits 8 (fun g => (s.group g).interlocked) * 2 ^ 16
      + packBits 8 (fun g => (List.range 7).any (fun j => sinkFault (s.sink (7 * g + j)))) * 256
      + packBits 8 (fun g => s.groupEnabled g)
  else if o = 0x018 then (List.range 8).foldl (fun n g => n + s.spareCode g * 16 ^ g) 0
  else if 0x100 ≤ o ∧ o < 0x200 then
    let g := s.group ((o - 0x100) / 0x20)
    match (o - 0x100) % 0x20 with
    | 0x10 =>
      g.phase.code * 2 ^ 29 + (match g.source with | .vf => 0 | .ntc => 1 | .none => 2) * 2 ^ 27 + enc16 g.tEst
    | 0x14 => enc16? g.ntc * 65536 + g.code
    | _ => 0
  else if 0x400 ≤ o ∧ o < 0xB00 then
    let k := s.sink ((o - 0x400) / 0x20)
    match (o - 0x400) % 0x20 with
    | 0x10 =>
      (match k.mode with | .off => 0 | .analog => 1 | .pwm => 2 | .stretch => 3) * 2 ^ 30 + bitIf k.subst 29
        + bitIf k.takenOut 5 + bitIf k.vfRange 4 + bitIf k.sat 3 + bitIf k.ctrl 2 + bitIf k.adjShort 1
        + bitIf k.open_ 0
    | 0x14 => two16 (sat 16 k.vds) (sat 16 k.i)
    | 0x18 => enc16? k.tj * 65536 + sat 16 k.vf
    | _ => 0
  else 0

/-- The registers of R349 in register order: MTR_SEAL, each channel's CHCFG, SCALE, GAIN and DELAY, and
each channel's TC0 to TC7. -/
def calRegs : List Nat :=
  [reg wMTR 0x00C]
    ++ (List.range 20).flatMap (fun n => (List.range 4).map (fun w => reg wMTR (0x100 + 0x20 * n + 4 * w)))
    ++ (List.range 20).flatMap (fun n => (List.range 8).map (fun w => reg wMTR (0x400 + 0x20 * n + 4 * w)))

/-- A converter channel. -/
def chan (s : State) (n : Nat) : Chan := nth Chan.reset s.mtr.chans n

/-- Line-cycle state of a feeder. -/
def feed (s : State) (f : Nat) : FeedCyc := nth FeedCyc.reset s.mtr.feeds f

/-- A feeder of the FEEDERS section. -/
def imgFeeder (s : State) (f : Nat) : Option ImgFeeder := tabGet s.mtr.map f

/-- The spare current channel. -/
def spareCh (s : State) : Option Nat := s.mtr.mapSpare

/-- MTR_SPARE.STATE (R371). -/
def spareStateCode (x : SpareState) : Nat :=
  match x with
  | .absent => 0 | .refCheck => 1 | .checking => 2 | .substituting => 3 | .unusable => 4 | .idle => 5

/-- MTR (R371 to R376). -/
def viewMTR (s : State) (o : Nat) : Nat :=
  if o = 0x014 then s.mtr.cmdCode
  else if o = 0x018 then
    spareStateCode s.mtr.spare * 2 ^ 29 + (s.spareCh.getD 0x1F) * 2 ^ 16 + s.mtr.rounds % 256 * 256
      + s.mtr.spareTarget
  else if o = 0x01C then
    (match s.mtr.sync with | .locked => 0 | .acquiring => 1 | .holdover => 2) * 2 ^ 30 + toBits 16 s.mtr.phaseErr
  else if o = 0x020 then bitIf s.mtr.tempValid 31 + (match s.mtr.temp with | some t => enc16 t | none => 0)
  else if o = 0x024 then crc32c (calRegs.flatMap (fun a => leBytes 4 (s.act a).toNat))
  else if o = 0x028 then Config.mtrFactory % 2 ^ 18
  else if 0x040 ≤ o ∧ o ≤ 0x04C then
    let f := (o - 0x040) / 4
    (match s.imgFeeder f with | some i => bitIf i.hz60 31 | none => 0) + bitIf (s.feed f).synth 30
      + (s.feed f).freq % 2 ^ 17
  else if 0x100 ≤ o ∧ o < 0x380 then
    let n := (o - 0x100) / 0x20
    let c := s.chan (if s.mtr.spare = .substituting ∧ s.spareCh = some n then s.mtr.spareTarget else n)
    match (o - 0x100) % 0x20 with
    | 0x10 =>
      bitIf c.subst 31 + sat 8 c.estCount * 2 ^ 16 + bitIf c.chfail 5 + bitIf c.deviation 4 + bitIf c.stuck 3
        + bitIf c.clip 2
        + bitIf (match c.settleTo with | some t => decide (s.mtr.stamp < t) | none => false) 1 + bitIf c.noload 0
    | 0x14 => c.rms.toNat
    | 0x18 => two16 (toBits 16 c.gainDev) (toBits 16 c.phaseDev)
    | _ => 0
  else 0

/-- Key of accumulator k of element e of feeder f. -/
def accKey (f e k : Nat) : Nat := 32 * f + 8 * e + k

/-- COUNT of an accumulator of A µWh (R385). -/
def countOf (q a : Nat) : Nat := a / q % 2 ^ 32

/-- WRAP of an accumulator of A µWh (R385). -/
def wrapOf (q a : Nat) : Nat := a / (q * 2 ^ 32) % 2 ^ 16

/-- The WRAP register of a slot (R423). -/
def wrapWord (qcode a : Nat) : Word :=
  BitVec.ofNat 32 ((if qcode ≤ 4 then qcode else 3) * 65536 + wrapOf (quantumUWh qcode) a)

/-- Visible value of an accumulator, whole µWh (R384). -/
def accVis (s : State) (f e k : Nat) : Nat := tabGetD 0 s.acc.vis (accKey f e k)

/-- QCODE in force. -/
def qcode (s : State) : Nat := s.cfgF wACC 0x004 2 0

/-- What a slot's registers would latch now (R385, R386). -/
def slotNow (s : State) (f e k : Nat) : SlotLatch :=
  let a := s.accVis f e k
  { hi := BitVec.ofNat 32 (half64 true a), count := BitVec.ofNat 32 (countOf (quantumUWh s.qcode) a),
    wrap := wrapWord s.qcode a, fresh := true }

/-- Latched values of a slot; the present ones before its first latch. -/
def slotLatch (s : State) (f e k : Nat) : SlotLatch := (tabGet s.acc.slots (accKey f e k)).getD (s.slotNow f e k)

/-- What COUNT of a slot reads: the latched value once after UWH_LO, else the present one (R386). -/
def slotCount (s : State) (f e k : Nat) : Word :=
  let l := s.slotLatch f e k
  if l.fresh then l.count else (s.slotNow f e k).count

/-- Interval state of feeder f. -/
def feedIv (s : State) (f : Nat) : FeedIv := nth FeedIv.reset s.acc.ivs f

/-- Pulse output n. -/
def pulse (s : State) (n : Nat) : PulseOut := nth PulseOut.reset s.acc.pulses n

/-- ACC (R420 to R423). -/
def viewACC (s : State) (o : Nat) : Nat :=
  if 0x020 ≤ o ∧ o ≤ 0x02C then
    let p := s.pulse ((o - 0x020) / 4)
    two16 p.width (sat 16 p.pending)
  else if 0x080 ≤ o ∧ o < 0x100 then
    (if (o - 0x080) % 0x20 = 8 then (s.feedIv ((o - 0x080) / 0x20)).shown % 2 ^ 32 else 0)
  else if 0x100 ≤ o ∧ o ≤ 0x17C then
    match tabGet s.acc.ring (2048 * s.cfgF wACC 0x180 31 30 + s.cfgF wACC 0x180 10 0) with
    | some r => fieldLE r.bytes (o - 0x100) 4
    | none => 0
  else if 0x400 ≤ o ∧ o < 0xC00 then
    let f := (o - 0x400) / 0x200
    let e := (o - 0x400) / 0x80 % 4
    let k := (o - 0x400) / 0x10 % 8
    if e ≠ 0 ∧ 6 ≤ k then 0
    else
      match o % 16 with
      | 0x0 => half64 false (s.accVis f e k)
      | 0x4 => (s.slotLatch f e k).hi.toNat
      | 0x8 => (s.slotCount f e k).toNat
      | 0xC => (s.slotLatch f e k).wrap.toNat
      | _ => 0
  else 0

/-- ASN shown in LNE[n]_ASN (R469). -/
def asnShown (s : State) (n : Nat) : Nat :=
  match s.slotAt n s.raw with
  | some a => asnOf a
  | none => 0

/-- LNE, instances 0 to 3 (R469). -/
def viewLane (s : State) (n p : Nat) : Nat :=
  let l := s.lane n
  match p with
  | 0x020 => half64 false (s.asnShown n)
  | 0x024 => (s.latchOf (reg wLNE (lneOff n 0x024))).toNat
  | 0x028 =>
    bitIf l.run 31 + l.xcvr.getD 7 * 2 ^ 24 + s.waveMax n * 2 ^ 16 + s.bulkMax n * 256 + s.bulkAckMax n
  | 0x030 => two16 l.sent l.retries
  | 0x034 => two16 l.accepted l.ackSent
  | 0x038 => two16 l.dFcs l.dFormat
  | 0x03C => two16 l.dSecurity l.dAddr
  | 0x040 => two16 l.dMic l.dReplay
  | 0x044 => two16 l.lateDrop l.lateSent
  | 0x048 => two16 l.collSkip l.txFail
  | 0x04C => two16 (sat 16 l.dutySkip) (s.dutyUsed n % 4096)
  | _ => 0

/-- LNE_SPARE.STATE (R472). -/
def xspareCode (x : XSpare) : Nat :=
  match x with
  | .free => 0 | .selftest => 1 | .rxtest => 2 | .serving => 3 | .unusable => 4

/-- LNE (R469, R472). -/
def viewLNE (s : State) (o : Nat) : Nat :=
  let n := o / 0x2000
  let p := o % 0x2000
  if n < 4 then s.viewLane n p
  else if n = 4 then
    match p with
    | 0x008 => s.lne.cmdCode
    | 0x00C => xspareCode s.lne.spare * 2 ^ 29 + bitSet s.flt.xcvrRet * 256 + s.lne.spareTarget
    | 0x018 => half64 false s.sys.fuses.eui
    | 0x01C => half64 true s.sys.fuses.eui
    | 0x020 => s.lne.fc
    | 0x024 => s.lne.noKey % 65536
    | _ => 0
  else 0

/-- Queue q. -/
def queue (s : State) (q : Nat) : Queue := tabGetD Queue.reset s.qdm.queues q

/-- QUEUES entry of queue q. -/
def imgQueue (s : State) (q : Nat) : Option ImgQueue := tabGet s.qdm.cfgs q

/-- QDM (R540 to R545). -/
def viewQDM (s : State) (o : Nat) : Nat :=
  if o = 0x008 then s.qdm.cmdCode
  else if o = 0x00C then two16 (sat 16 s.qdm.erxDrop1) (sat 16 s.qdm.erxDrop0)
  else if o = 0x010 then packBits 32 (fun q => (s.queue q).parked)
  else if o = 0x014 then packBits 32 (fun q => (s.queue (q + 32)).parked)
  else if 0x1000 ≤ o ∧ o < 0x2000 then
    let q := (o - 0x1000) / 0x40
    let u := s.queue q
    match (o - 0x1000) % 0x40 with
    | 0x00 =>
      match s.imgQueue q with
      | some c =>
        bitIf c.engineOwned 31 + c.cls * 2 ^ 28 + c.target * 2 ^ 24 + c.lprio * 2 ^ 20 + c.dprio * 2 ^ 16
          + c.engine * 256 + c.pcpMask
      | none => 0
    | 0x10 => u.head
    | 0x18 => half64 false u.faultAddr
    | 0x1C => (s.latchOf (reg wQDM o)).toNat
    | 0x20 => u.cause * 2 ^ 28 + u.offset % 65536
    | 0x24 => two16 (sat 16 u.nobuf) (sat 16 u.trunc)
    | _ => 0
  else 0

/-- Word w of a transmit-timestamp entry (R581). -/
def tsWord (e : Option TsEntry) (w : Nat) : Nat :=
  match e with
  | none => 0
  | some t =>
    match w with
    | 0 => 2 ^ 31 + bitIf t.gap 30 + (t.attempt - 1) * 2 ^ 24 + t.queue * 2 ^ 16 + t.tag
    | 1 => half64 false t.stamp.raw
    | 2 => half64 true t.stamp.raw
    | 3 => half64 false t.stamp.corr
    | 4 => half64 true t.stamp.corr
    | 5 => two16 t.stamp.epoch t.stamp.frac
    | _ => 0

/-- Transmit-timestamp queue k. -/
def tsq (s : State) (k : Nat) : Tsq := nth Tsq.reset s.tbs.tsqs k

/-- Milestone m. -/
def mile (s : State) (m : Nat) : Milestone := nth Milestone.reset s.tbs.ms m

/-- Milestone state's code (R582). -/
def msCode (x : MsState) : Nat :=
  match x with
  | .disarmed => 0 | .armed => 1 | .fired => 2

/-- A field of the NOW latch; 0 before the first latch (R548). -/
def nowField (s : State) (f : Stamp → Nat) : Nat :=
  match s.tbs.now with
  | some x => f x
  | none => 0

/-- TBS (R548, R578 to R582). -/
def viewTBS (s : State) (o : Nat) : Nat :=
  let t := s.tbs
  if o = 0x010 then half64 false s.raw
  else if o = 0x014 then s.nowField (fun x => half64 true x.raw)
  else if o = 0x018 then s.nowField (fun x => half64 false x.corr)
  else if o = 0x01C then s.nowField (fun x => half64 true x.corr)
  else if o = 0x020 then s.nowField (fun x => two16 x.epoch x.frac)
  else if o = 0x030 then half64 false (toBits 64 t.offset)
  else if o = 0x034 then (s.latchOf (reg wTBS o)).toNat
  else if o = 0x038 then half64 false (toBits 64 t.rate)
  else if o = 0x03C then (s.latchOf (reg wTBS o)).toNat
  else if o = 0x04C then bitIf t.unset 31 + bitIf t.slew.isSome 30 + t.adjCode
  else if o = 0x050 then half64 false t.adjRaw
  else if o = 0x054 then (s.latchOf (reg wTBS o)).toNat
  else if o = 0x058 then toBits 32 t.slewRem
  else if o = 0x064 then half64 false t.ppsRaw
  else if o = 0x068 then (s.latchOf (reg wTBS o)).toNat
  else if o = 0x06C then
    t.ppsCount % 65536 * 65536 + bitIf t.ppsPresent 15 + bitIf t.ppsInRange 14 + toBits 14 t.ppsErr
  else if 0x100 ≤ o ∧ o < 0x1E0 then
    let q := s.tsq ((o - 0x100) / 0x20)
    match (o - 0x100) % 0x20 with
    | 0x00 => tsWord q.entries.head? 0
    | 0x18 => two16 (sat 16 q.lost) q.entries.length
    | x => if x < 0x18 then tsWord q.latch (x / 4) else 0
  else if 0x400 ≤ o ∧ o < 0x800 then
    let m := s.mile ((o - 0x400) / 0x20)
    match (o - 0x400) % 0x20 with
    | 0x14 => msCode m.st * 2 ^ 30 + bitIf m.late 29 + sat 12 m.skipped * 65536 + m.fires % 65536
    | 0x18 => half64 false m.fireRaw
    | 0x1C => (s.latchOf (reg wTBS o)).toNat
    | _ => 0
  else 0

/-- The prescaler count in force: the model does not run the crystal, so it is a free value below the
cycles of the second in progress (R589, R590). -/
def subNow (s : State) : Word := BitVec.ofNat 32 (Config.freeNat 13 s.freeCtr % max 1 s.rtc.secLen % 32768)

/-- RTC (R607, R613 to R617). -/
def viewRTC (s : State) (o : Nat) : Nat :=
  let r := s.rtc
  match o with
  | 0x008 => (dateWord r.clk).toNat
  | 0x00C => (r.latchTime.getD (timeWord r.clk r.valid r.dst)).toNat
  | 0x010 => (r.latchSub.getD s.subNow).toNat
  | 0x020 => bitIf r.pend.isSome 31 + r.cmdCode
  | 0x02C => r.wakeSrc
  | 0x030 => r.wakeDate.toNat
  | 0x034 => r.wakeTime.toNat
  | 0x038 => r.parAddr
  | 0x04C => r.almLast0.toNat
  | 0x05C => r.almLast1.toNat
  | 0x170 => r.bkp28.toNat
  | 0x174 => r.bkp29.toNat
  | 0x178 => r.bkp30.toNat
  | 0x17C => r.bkp31.toNat
  | _ => 0

/-- The recorder's section, or an empty one. -/
def recCfg (s : State) : ImgRecorder := s.evr.cfg.getD { snapshot := false, log2n := 8, sources := [] }

/-- Trigger source n of the image. -/
def recSource (s : State) (n : Nat) : Option ImgSource := s.recCfg.sources.find? (fun x => x.num == n)

/-- Records the ring holds (R622). -/
def recN (s : State) : Nat := 2 ^ s.recCfg.log2n

/-- The Weir's rate R in records/s (R632). -/
def recRate (s : State) : Nat := min 2000 (s.recN / 4)

/-- The Weir's credit at the present raw count (R632). -/
def creditNow (s : State) : Rat :=
  min 64 (s.evr.credit + (s.recRate : Rat) * ((s.raw : Rat) - s.evr.creditAt) / (rawS : Nat))

/-- REC (R645 to R650). -/
def viewREC (s : State) (o : Nat) : Nat :=
  let e := s.evr
  if o = 0x004 then
    match e.cfg with
    | some c => bitIf c.snapshot 31 + c.log2n * 65536 + s.recRate
    | none => 0
  else if o = 0x008 then half64 false e.next
  else if o = 0x00C then (s.latchOf (reg wREC o)).toNat
  else if o = 0x010 then s.creditNow.floor.toNat * 2 ^ 24 + e.weirMax * 256 + e.weir.length
  else if o = 0x018 then e.cmdCode
  else if o = 0x02C then
    match s.recSource (s.cfgF wREC 0x028 13 8) with
    | some c => nth 0 c.regs (s.cfgF wREC 0x028 5 0)
    | none => 0
  else if 0x030 ≤ o ∧ o ≤ 0x038 then
    let k := (o - 0x030) / 4
    packBits 32 (fun i => (tabGet e.gaps (32 * k + i)).isSome)
  else if 0x100 ≤ o ∧ o ≤ 0x1FC then
    fieldLE (tabGetD (List.replicate 256 0) e.ring (s.cfgF wREC 0x020 12 0 % s.recN)) (o - 0x100) 4
  else if 0x200 ≤ o ∧ o ≤ 0x27C then (nth 0 e.twin ((o - 0x200) / 4)).toNat
  else if 0x300 ≤ o ∧ o ≤ 0x3FC then
    match s.recSource ((o - 0x300) / 4) with
    | some c =>
      c.trig * 2 ^ 30 + c.window * 2 ^ 24 + c.inst * 2 ^ 21 + c.ref * 2 ^ 16 + c.regs.length * 256
        + bitIf c.signed 7 + c.edgeSet * 16
    | none => 0
  else if 0x400 ≤ o ∧ o ≤ 0x57C then sat 32 (tabGetD 0 e.lost ((o - 0x400) / 4))
  else 0

/-- Content of key slot n as it reads: an owner slot of another owner generation is empty (R655, R658). -/
def keySlot (s : State) (n : Nat) : Option Slot :=
  match tabGet s.key.store.slots n with
  | some x => if n ≤ 2 ∨ x.gen = s.key.store.ownerGen then some x else none
  | none => none

/-- The life-cycle state: SPENT while the fuse is blown (R654). -/
def lifeCycle (s : State) : LifeCycle := if s.sys.fuses.spent then .spent else s.key.store.lc

/-- KEY (R679 to R681). -/
def viewKEY (s : State) (o : Nat) : Nat :=
  let k := s.key
  match o with
  | 0x004 => s.lifeCycle.code * 2 ^ 28 + bitIf k.locked 27 + bitIf k.erasing 26 + k.store.ownerGen
  | 0x008 => k.store.ctr
  | 0x010 => bitIf k.job.isSome 31 + k.outLen * 65536 + k.code
  | 0x018 =>
    (match k.wkr with | .empty => 0 | .network => 1 | .install => 2 | .host => 3) * 2 ^ 30 + k.netSlot * 256
      + k.hostSlot
  | 0x01C => bitIf k.store.tpolWritten 31 + k.store.tpolicy.toNat
  | 0x020 => k.first * 2 ^ 20 + bitSet k.active * 256 + bitSet k.latched
  | 0x024 => k.tDate.toNat
  | 0x028 => k.tTime.toNat
  | 0x030 =>
    match s.keySlot (s.cfgF wKEY 0x02C 4 0) with
    | some x => x.policy.toNat / 65536 * 65536 + x.gen
    | none => 0
  | 0x034 => sat 16 k.secCnt
  | _ => 0

/-- The set that is active, and the other one. -/
def activeSet (s : State) : FwSet := if s.upd.activeB then s.upd.setB else s.upd.setA

/-- The inactive set. -/
def inactiveSet (s : State) : FwSet := if s.upd.activeB then s.upd.setA else s.upd.setB

/-- The inactive set is revertible (R703). -/
def revertible (s : State) : Bool := s.inactiveSet.valid && decide (s.upd.secver ≤ s.inactiveSet.secver)

/-- Seconds left in the trial window (R713). -/
def trialLeft (s : State) : Nat :=
  match s.upd.sluice, s.upd.trialAt with
  | .trial, some t =>
    let e := t + manifestTrial s.upd.manifest * rawS
    (e - s.raw + rawS - 1) / rawS
  | _, _ => 0

/-- An update session is open: SESSION handle 0 is not FREE (R687). -/
def sessionOpen (s : State) : Bool := s.hst tSESSION 0 != .free

/-- UPD (R710 to R713). -/
def viewUPD (s : State) (o : Nat) : Nat :=
  let u := s.upd
  let m := u.sluice != .idle
  match o with
  | 0x004 => u.sluice.code * 2 ^ 28 + bitIf s.sessionOpen 27 + bitIf (s.sessionOpen && u.sessNet) 26
              + bitIf u.svcPresent 25
  | 0x008 => u.bytes
  | 0x00C => if m then manifestTotal u.manifest else 0
  | 0x014 => bitIf u.chunk.isSome 31 + u.code
  | 0x028 => bitIf u.activeB 31 + bitIf u.confirmed 30 + bitIf s.revertible 29
  | 0x02C => u.secver
  | 0x030 => s.trialLeft
  | 0x034 => if m then fieldLE u.manifest 8 4 else 0
  | _ => 0

/-- FLT (R770 to R773). -/
def viewFLT (s : State) (o : Nat) : Nat :=
  let f := s.flt
  match o with
  | 0x020 => f.eccAddr % 2 ^ 32
  | 0x024 => bitIf f.eccMram 31 + bitIf f.eccUe 30 + bitIf f.eccScrub 29 + sat 16 f.eccCount
  | 0x044 => (64 - f.sectors.length) * 65536 + (184 - f.rows.length)
  | 0x048 => packBits 32 (fun i => f.sinkRet.contains i)
  | 0x04C => bitSet f.xcvrRet % 32 * 2 ^ 24 + packBits 24 (fun i => f.sinkRet.contains (i + 32))
  | 0x050 => packBits 20 (fun i => f.convRet.contains i)
  | 0x058 => bitIf (s.mst.groups.any (fun g => g.releaseDue.isSome)) 31 + f.code
  | _ => 0

/-- Code of a link speed in Mb/s (R584). -/
def speedCode (n : Nat) : Nat :=
  match n with
  | 10 => 1 | 100 => 2 | 1000 => 3 | _ => 0

/-- ETH (R584). -/
def viewETH (e : EthUnit) (o : Nat) : Nat :=
  if o = 0x008 then bitIf e.up 31 + (if e.up then speedCode e.speed else 0) else 0

/-- USB (R715). -/
def viewUSB (s : State) (o : Nat) : Nat :=
  if o = 0x008 then bitIf s.usb.vbus 31 + bitIf s.usb.configured 30 + bitIf s.usb.highSpeed 29 else 0

/-- Reset state that an entry of the pin fuse map names (R732). -/
def fusePin (v : Nat) : PinState :=
  match v with
  | 1 => .pullUp | 2 => .pullDown | 3 => .low | 4 => .high | _ => .highZ

/-- Pin p is a mast pin of kind k: 0 GATE, 1 SNS, 2 DRN (R779). -/
def mastPin (p k : Nat) : Bool := decide (p < 168) && p % 3 == k

/-- Reset state of multiplexed pin p: that of its fuse entry, but GATE pins, which ignore it and are clamped
low, and SNS and DRN pins, on which driving acts as high impedance (R732, R775, R782). -/
def pinReset (s : State) (p : Nat) : PinState :=
  let f := fusePin (s.sys.pinMap / 2 ^ (3 * p) % 8)
  if mastPin p 0 then .low
  else if p < 168 ∧ (f = .low ∨ f = .high) then .highZ
  else f

/-- The pull that PIN_FUNC gives pin p (R750). -/
def pinPull (s : State) (p : Nat) : PinState :=
  match s.cfgF wPIN (0x100 + 4 * p) 9 8 with
  | 1 => .pullUp | 2 => .pullDown | _ => .highZ

/-- What pin p does now, its mast function apart: its reset state at function code 0x00, the level of the
milestone that drives it, or its pull; undriven while the module has no power (R732, R733, R780; log entry 61). -/
def pinNow (s : State) (p : Nat) : PinState :=
  let c := s.cfgF wPIN (0x100 + 4 * p) 7 0
  if !s.powered then .highZ
  else if c = 0 then s.pinReset p
  else if 0x20 ≤ c ∧ c ≤ 0x3F then (if (s.mile (c - 0x20)).pin then .high else .low)
  else s.pinPull p

/-- The level that pin p shows: what the module drives, else the level on the carrier (log entry 61). -/
def pinLevel (s : State) (p : Nat) : Bool :=
  match s.pinNow p with
  | .low => false
  | .high => true
  | _ => s.pin.levels.testBit p

/-- PIN_INk (R750). -/
def pinIn (s : State) (k : Nat) : Nat :=
  ((List.range 32).map (fun j => bitIf (decide (32 * k + j < 184) && s.pinLevel (32 * k + j)) j)).sum

/-- PIN (R750). -/
def viewPIN (s : State) (o : Nat) : Nat :=
  if 0x040 ≤ o ∧ o ≤ 0x054 then s.pinIn ((o - 0x040) / 4)
  else if 0x600 ≤ o ∧ o ≤ 0x658 then s.sys.pinMap / 2 ^ (6 * (o - 0x600)) % 2 ^ 24
  else 0

/-- The read-only registers of a window. -/
def viewRO (s : State) (w o : Nat) : Nat :=
  match w with
  | 0x00 => s.viewSYS o
  | 0x01 => s.viewSTR o
  | 0x02 => s.viewSCN o
  | 0x03 => s.viewWAV o
  | 0x04 => s.viewLTB o
  | 0x05 => s.viewMST o
  | 0x06 => s.viewMTR o
  | 0x07 => s.viewACC o
  | 0x08 => s.viewLNE o
  | 0x09 => s.viewQDM o
  | 0x0A => s.viewTBS o
  | 0x0B => s.viewRTC o
  | 0x0C => s.viewREC o
  | 0x0D => s.viewKEY o
  | 0x0E => s.viewUPD o
  | 0x0F => s.viewFLT o
  | 0x10 => viewETH s.eth0 o
  | 0x11 => viewETH s.eth1 o
  | 0x12 => s.viewUSB o
  | 0x13 => s.viewPIN o
  | _ => 0

/-- A status register's word (R93). -/
def statWord (r : StatReg) : Word := BitVec.ofNat 32 (r.seq % 256 * 2 ^ 24 + r.bits % 2 ^ 24)

/-- What a read of a first-image address returns, with no side effect (R79, R621). -/
def view (s : State) (a : Nat) : Word :=
  let o := a % 0x10000
  if statMask a ≠ 0 then statWord (s.statOf a)
  else if a = reg wKEY 0x01C then BitVec.ofNat 32 (s.viewKEY 0x01C)
  else
    match regInfo s.sys.fuses a with
    | some _ => s.cfg a
    | none => BitVec.ofNat 32 (s.viewRO ((a - 0x40000000) / 0x10000) o)

end State

end Sys2Proof.Machine
end

