-- ==== Sys2Proof/Machine/Record.lean ====
section
/-! DEFINITION. Recorder occurrences and status events: admission to the Weir, tallies, recorder events
and the setting of event bits (R93 to R95, R618 to R642). -/

namespace Sys2Proof.Machine

/-! ## Items of EVENT records (R624) -/

/-- One item: TAG, LEN and the octets (R623). -/
def item (tag : Nat) (d : List Byte) : List Byte := leBytes 1 tag ++ leBytes 1 d.length ++ d

def iAddr (v : Nat) : List Byte := item 0x01 (leBytes 4 v)
def iValue (v : Nat) : List Byte := item 0x02 (leBytes 4 v)
def iValue2 (v : Nat) : List Byte := item 0x03 (leBytes 4 v)
def iMaster (v : Nat) : List Byte := item 0x04 (leBytes 1 v)
def iCause (v : Nat) : List Byte := item 0x05 (leBytes 1 v)
def iIndex (v : Nat) : List Byte := item 0x06 (leBytes 2 v)
def iEui (v : Nat) : List Byte := item 0x07 (leBytes 8 v)
def iNumber (v : Nat) : List Byte := item 0x08 (leBytes 4 v)
def iMeas (q : Rat) : List Byte := item 0x09 (leBytes 4 (enc32 q))
def iTime (v : Nat) : List Byte := item 0x0A (leBytes 8 v)
def iParity (v : Nat) : List Byte := item 0x0B (leBytes 1 v)
/-- Octets of the writing block, 1 to 64 of them. -/
def iBlob (d : List Byte) : List Byte := item 0x0C (d.take 64)

/-- Items placed whole up to 216 octets, and whether some were left out (R623). -/
def placeItems : List Byte → List (List Byte) → List Byte × Bool
  | acc, [] => (acc, false)
  | acc, i :: r => if acc.length + i.length ≤ 216 then placeItems (acc ++ i) r else (acc, true)

/-! ## Records in the ring (R622, R625, R626) -/

/-- Bytes 12 to 39 + LENGTH of a record. -/
def recBody (e : RecEntry) : List Byte :=
  leBytes 1 e.kind ++ leBytes 1 e.source ++ leBytes 2 e.code ++ leBytes 2 e.flags ++ leBytes 2 e.payload.length
    ++ leBytes 2 e.stamp.epoch ++ leBytes 2 e.stamp.frac ++ leBytes 8 e.stamp.raw ++ leBytes 8 e.stamp.corr ++ e.payload

/-- A record with its number and CRC. -/
def recBytes (n : Nat) (e : RecEntry) : List Byte :=
  let b := recBody e
  leBytes 8 n ++ leBytes 4 (crc32c (leBytes 8 n ++ b)) ++ b

/-- Pages of a slot that a record of a length takes. -/
def pagesOf (len : Nat) : Nat := (len + 63) / 64

/-- A slot after pages `lo` to `hi − 1` of record n have been written over it. -/
def writePages (old : List Byte) (n lo hi : Nat) (b : List Byte) : List Byte :=
  (List.range 256).map (fun i =>
    if lo * 64 ≤ i ∧ i < hi * 64 then (match b[i]? with | some x => x | none => Config.padByte n i)
    else nth 0 old i)

/-- The slot holds a record whose CRC matches (R622). -/
def slotCrcOk (b : List Byte) : Bool :=
  let len := fieldLE b 18 2
  decide (len ≤ 216) && fieldLE b 8 4 == crc32c (slice b 0 8 ++ slice b 12 (28 + len))

namespace State

/-- Content of a ring slot. -/
def recSlot (s : State) (k : Nat) : List Byte := tabGetD (List.replicate 256 0) s.evr.ring k

/-- A record takes the next number and its slot (R626). -/
def recStore (s : State) (e : RecEntry) : State :=
  let n := s.evr.next
  let b := recBytes n e
  { s with evr := { s.evr with
      ring := tabSet s.evr.ring (n % s.recN) (writePages (s.recSlot (n % s.recN)) n 0 (pagesOf b.length) b),
      next := (n + 1) % 2 ^ 64, writing := none } }

/-! ## Bypass records (R636, R756) -/

/-- A record that bypasses the Weir: the record in progress is abandoned, and this one takes its slot and
number, as page 0 alone. -/
def recBypass (s : State) (kind source code : Nat) (payload : List Byte) : State :=
  s.recStore
    { kind := kind, source := source, code := code, flags := 1, stamp := s.stamp, payload := payload, cyc := s.cyc,
      resv := false }

/-! ## Blocks in reset or not enabled (R81, R725, R726, R801) -/

/-- The INRESET or NOTENABLED cause of a window: 3, 4, or 0 for a block that answers. -/
def blockCause (s : State) (w : Nat) : Nat :=
  let inReset : Bool :=
    s.sys.clkFail.contains w ||
    (match s.sys.phase with
     | .clockHalt => w != wSYS
     | .loadFail => !([wSYS, wTBS, wRTC, wKEY, wUPD].contains w)
     | .copying => !([wSYS, wTBS, wRTC, wKEY, wUPD].contains w)
     | .tamperHalt => !([wSYS, wTBS, wRTC, wKEY].contains w)
     | _ => false)
  if inReset then 3
  else if s.fromImg false (fun b => b.clkOff.contains w) then 4
  else 0

/-- The block in a window answers. -/
def blockOn (s : State) (w : Nat) : Bool := s.blockCause w == 0

/-- A capture read of an address: the word, and whether it could be read (R621). -/
def capture (s : State) (a : Nat) : Word × Bool :=
  match windowOf a with
  | none => (0, false)
  | some w =>
    if s.blockOn w ∧ a % 4 = 0 then (if upperHalf a then (0, true) else (s.view (firstAddr a), true)) else (0, false)

/-! ## Event bits -/

/-- Set event bits in a status register at once: SEQ advances and the bits take the new mark (R94). -/
def setBits (s : State) (a : Nat) (bits : Nat) : State :=
  let r := s.statOf a
  let q := (r.seq + 1) % 256
  let b := (List.range 24).filter (fun i => (bits >>> i) % 2 = 1)
  s.setStat a { r with
    seq := q, bits := r.bits ||| bits, marks := b.foldl (fun m i => tabSet m i q) r.marks, last := some s.cyc }

/-- Set event bits that share the advance of an earlier setting in the same fabric cycle (R94). -/
def joinBits (s : State) (a : Nat) (bits : Nat) : State :=
  let r := s.statOf a
  let b := (List.range 24).filter (fun i => (bits >>> i) % 2 = 1)
  s.setStat a { r with bits := r.bits ||| bits, marks := b.foldl (fun m i => tabSet m i r.seq) r.marks }

/-- Hold event bits for a later 1 µs step (R95). -/
def holdBits (s : State) (a : Nat) (bits : Nat) : State :=
  let r := s.statOf a
  match r.held.getLast? with
  | some h =>
    if h.cyc = s.cyc then s.setStat a { r with held := r.held.dropLast ++ [{ h with bits := h.bits ||| bits }] }
    else s.setStat a { r with held := r.held ++ [{ bits := bits, cyc := s.cyc }] }
  | none => s.setStat a { r with held := [{ bits := bits, cyc := s.cyc }] }

/-! ## Admission to the Weir -/

/-- An occurrence of source n is lost (R631); `set` sets a bit of REC_STATUS. -/
def recLoseBy (set : State → Nat → State) (s : State) (n : Nat) (st : Stamp) : State :=
  let g : Gap :=
    match tabGet s.evr.gaps n with
    | some g => { g with lost := sat 32 (g.lost + 1), lastRaw := st.raw, lastEpoch := st.epoch }
    | none => { lost := 1, firstRaw := st.raw, lastRaw := st.raw, firstEpoch := st.epoch, lastEpoch := st.epoch }
  set { s with evr := { s.evr with
    lost := tabPut 0 s.evr.lost n (sat 32 (tabGetD 0 s.evr.lost n + 1)), gaps := tabSet s.evr.gaps n g } } 2

/-- Where an occurrence of source n may stand in the Weir: in entries 0 to 27, in entries 28 to 31, or
nowhere (R631). -/
def weirRoom (s : State) (n : Nat) : Option Bool :=
  let r := (s.evr.weir.filter (fun e => e.resv)).length
  if s.evr.weir.length - r < 28 then some false
  else if (n = 77 ∨ n = 79) ∧ r < 4 then some true
  else none

/-- Insert behind every entry but those of the same fabric cycle with a higher source number (R630). -/
def weirInsert (x : RecEntry) : List RecEntry → List RecEntry
  | [] => [x]
  | y :: r => if y.cyc = x.cyc ∧ x.source < y.source then x :: y :: r else y :: weirInsert x r

/-- An occurrence enters the Weir or is lost (R630, R631). -/
def weirAdmitBy (set : State → Nat → State) (s : State) (x : RecEntry) : State :=
  match s.weirRoom x.source with
  | some rv =>
    let w := weirInsert { x with cyc := s.cyc, resv := rv } s.evr.weir
    { s with evr := { s.evr with weir := w, weirMax := max s.evr.weirMax w.length } }
  | none => s.recLoseBy set x.source x.stamp

/-! ## Trigger sources (R619 to R621, R639) -/

/-- Octets of a SNAPSHOT record and whether a register could not be read (R623). -/
def snapshotPayload (s : State) (regs : List Nat) : List Byte × Bool :=
  let v := (regs.take 48).map s.capture
  let words := v.flatMap (fun x => leBytes 4 x.1.toNat)
  let mask := packBits 48 (fun i => match v[i]? with | some x => !x.2 | none => false)
  (fit 192 words ++ leBytes 6 mask, mask != 0)

/-- A tally before its first trigger. -/
def tallyZero : Tally :=
  { count := 0, min := 0, max := 0, minRaw := 0, maxRaw := 0, minEpoch := 0, maxEpoch := 0,
    bins := List.replicate 16 0 }

/-- Tally of source n. -/
def tally (s : State) (n : Nat) : Tally := tabGetD tallyZero s.evr.tallies n

/-- A value as its source takes it (R639). -/
def asSigned (sg : Bool) (v : Nat) : Int := if sg then signed 32 v else v

/-- Edges e₁ to e₁₅ of set e as a source takes them; a set that does not ascend acts as fifteen times e₁
(R641). -/
def edges (s : State) (e : Nat) (sg : Bool) : List Int :=
  let l := (List.range 15).map (fun k => asSigned sg (s.cfg (reg wREC (0x600 + 0x40 * e + 4 * k))).toNat)
  if (l.zip (l.drop 1)).all (fun p => decide (p.1 ≤ p.2)) then l else List.replicate 15 (l.headD 0)

/-- The bin of a value: the number of edges at or below it (R639). -/
def binOf (es : List Int) (v : Int) : Nat := (es.filter (fun e => decide (e ≤ v))).length

/-- One trigger of a tally (R639). -/
def tallyStep (t : Tally) (sg : Bool) (es : List Int) (v : Nat) (st : Stamp) : Tally :=
  let x := asSigned sg v
  let t1 := if t.count = 0 ∨ x < asSigned sg t.min then { t with min := v, minRaw := st.raw, minEpoch := st.epoch }
            else t
  let t2 := if t.count = 0 ∨ asSigned sg t.max < x then { t1 with max := v, maxRaw := st.raw, maxEpoch := st.epoch }
            else t1
  { t2 with count := sat 32 (t.count + 1), bins := modAt t.bins (binOf es x) (fun b => sat 32 (b + 1)) }

/-- A trigger of source n takes place (R620, R630, R634). -/
def triggerBy (set : State → Nat → State) (s : State) (n : Nat) : State :=
  match s.recSource n with
  | none => s
  | some c =>
    if s.isRunning tRECSRC n then
      if s.recCfg.snapshot then
        let p := s.snapshotPayload c.regs
        let t := if p.2 then set s 4 else s
        t.weirAdmitBy set
          { kind := 2, source := n, code := 0, flags := bitIf p.2 1, stamp := s.stamp, payload := p.1, cyc := s.cyc,
            resv := false }
      else
        let v := s.capture (nth 0 c.regs 0)
        let o := s.tally n
        let u := tallyStep o c.signed (s.edges c.edgeSet c.signed) v.1.toNat s.stamp
        let t := { s with evr := { s.evr with tallies := tabPut tallyZero s.evr.tallies n u } }
        let full := fun x : Nat => x == 2 ^ 32 - 1
        let r :=
          if (full u.count && !full o.count) || (List.range 16).any (fun i => full (nth 0 u.bins i) && !full (nth 0 o.bins i)) then
            set t 3
          else t
        if v.2 then r else set r 4
    else s

/-- Trigger sources in ascending number. -/
def triggerAllBy (set : State → Nat → State) (s : State) : List Nat → State
  | [] => s
  | n :: r => (s.triggerBy set n).triggerAllBy set r

/-- The STATUS sources that the setting of event bits at a status register triggers (R619). -/
def statusSources (s : State) (a bits : Nat) : List Nat :=
  let w := (a - 0x40000000) / 0x10000
  let o := a % 0x10000
  (sortBy (fun c => c.num) (s.recCfg.sources.filter (fun c =>
    c.trig == 3 && c.window == w && (bits >>> c.ref) % 2 == 1
      && (if w = wLNE then o == c.inst * 0x2000 else o == 0)))).map (·.num)

/-- The recorder sets an event bit of REC_STATUS: at once where R95 lets it, with the sources bound to it, or
together with an earlier setting of the cycle, in which a bit set already is the same setting (R94); else held.
Bits that its own triggers set in turn go `n` deep, and there are no more than three of them. -/
def recBitN : Nat → State → Nat → State
  | 0, s, i => s.holdBits (reg wREC 0) (2 ^ i)
  | n + 1, s, i =>
    let a := reg wREC 0
    let r := s.statOf a
    if r.held ≠ [] then s.holdBits a (2 ^ i)
    else if r.last = some s.cyc then
      if tabGet r.marks i = some r.seq then s
      else (s.joinBits a (2 ^ i)).triggerAllBy (recBitN n) (s.statusSources a (2 ^ i))
    else if r.last.map (· / 400) = some (s.cyc / 400) then s.holdBits a (2 ^ i)
    else (s.setBits a (2 ^ i)).triggerAllBy (recBitN n) (s.statusSources a (2 ^ i))

/-- The recorder sets an event bit of REC_STATUS (R94, R95). -/
def recBit (s : State) (i : Nat) : State := recBitN 4 s i

/-- An occurrence enters the Weir or is lost (R630, R631). -/
def weirAdmit (s : State) (x : RecEntry) : State := s.weirAdmitBy recBit x

/-- A trigger of source n takes place (R620, R630, R634). -/
def trigger (s : State) (n : Nat) : State := s.triggerBy recBit n

/-- Trigger sources in ascending number. -/
def triggerAll (s : State) (l : List Nat) : State := s.triggerAllBy recBit l

/-- An EVENT record of the block in window w: the status bit set by the same occurrence, if any, and the
items (R622, R623). -/
def event (s : State) (w : Nat) (bitNo : Option Nat) (items : List (List Byte)) : State :=
  let p := placeItems [] items
  s.weirAdmit
    { kind := 1, source := 64 + w, code := w * 256 + bitNo.getD 0xFF, flags := bitIf p.2 2, stamp := s.stamp,
      payload := p.1, cyc := s.cyc, resv := false }

/-- Set event bits of a status register and trigger the sources bound to them (R94, R619). -/
def postNow (s : State) (a bits : Nat) : State := (s.setBits a bits).triggerAll (s.statusSources a bits)

/-- A block sets event bits of the status register at an address (R94, R95): together with an earlier
setting of the same cycle, at once, or held for a later 1 µs step. -/
def post (s : State) (a bits : Nat) : State :=
  let b := bits % 2 ^ 24 &&& statMask a
  if b = 0 then s
  else
    let r := s.statOf a
    if r.last = some s.cyc ∧ r.held = [] then (s.joinBits a b).triggerAll (s.statusSources a b)
    else if r.held ≠ [] ∨ r.last.map (· / 400) = some (s.cyc / 400) then s.holdBits a b
    else s.postNow a b

/-- Set one event bit of the status register of the block in window w. -/
def postBit (s : State) (w i : Nat) : State := s.post (reg w 0) (2 ^ i)

/-- Set one event bit of lane instance n. -/
def postLane (s : State) (n i : Nat) : State := s.post (reg wLNE (lneOff n 0)) (2 ^ i)

/-- A block sets an event bit of its status register and writes the recorder event of the same occurrence. -/
def postEvent (s : State) (w i : Nat) (items : List (List Byte)) : State :=
  (s.postBit w i).event w (some i) items

/-- The oldest held event of a status register is posted at a 1 µs step after the last post (R95). -/
def postHeld (s : State) (a : Nat) : State :=
  let r := s.statOf a
  match r.held with
  | [] => s
  | h :: t =>
    if r.last.map (· / 400) = some (s.cyc / 400) then s
    else (s.setStat a { r with held := t }).postNow a h.bits

end State

end Sys2Proof.Machine
end

