-- ==== Sys2Proof/Machine/Gate.lean ====
section
/-! DEFINITION. How the fabric and the register rules treat an access: error responses, guarded pairs,
locks, shadows and the copy at a boundary (R71 to R112). -/

namespace Sys2Proof.Machine

namespace State

/-! ## Error responses (R81 to R85) -/

/-- The register windows answer host cores 0 to 3 and the debug port (R75). -/
def masterOk (m : Nat) : Bool := decide (m ≤ 3) || m == 0xF

/-- The first cause of an error response for an access to the register space, 0 for none (R81). -/
def errCause (s : State) (master addr size : Nat) : Nat :=
  if size ≠ 4 ∨ addr % 4 ≠ 0 then 1
  else
    match windowOf addr with
    | none => 2
    | some w =>
      if s.blockCause w ≠ 0 then s.blockCause w
      else if masterOk master then 0 else 5

/-- The address belongs to the register space (R80). -/
def isRegSpace (addr : Nat) : Bool := decide (0x40000000 ≤ addr ∧ addr < 0x50000000)

/-- An access gets an error response: the first since BUSERR was cleared is captured, later ones are
counted (R82, R85). -/
def busError (s : State) (master addr : Nat) (write : Bool) (cause : Nat) : State :=
  let r := s.statOf (reg wSYS 0)
  let seen := r.bits % 2 = 1 ∨ r.held.any (fun h => h.bits % 2 = 1)
  let t :=
    if seen then
      { s with regs := { s.regs with busErr := { s.regs.busErr with count := sat 8 (s.regs.busErr.count + 1) } } }
    else
      ({ s with regs := { s.regs with
          busErr := { addr := addr % 2 ^ 32, count := 0, master := master, write := write, cause := cause } } }).postBit
        wSYS 0
  t.answer 0 true

/-! ## Guarded pairs (R99 to R103) -/

/-- GUARD_VIOL's bit in a guarded block's status register. -/
def guardBit (w : Nat) : Nat :=
  match w with
  | 0x06 => 13 | 0x0A => 13 | 0x0B => 12 | 0x0D => 8 | 0x0E => 8 | 0x0F => 7
  | _ => 1

/-- The open pair of the block in a window. -/
def openPair (s : State) (w : Nat) : Option GuardPair := s.regs.pairs.find? (fun p => p.win == w)

/-- Close the open pair of a block. -/
def dropPair (s : State) (w : Nat) : State :=
  { s with regs := { s.regs with pairs := s.regs.pairs.filter (fun p => p.win != w) } }

/-- GUARD_FAIL (R101, R102): GUARD_VIOL and one recorder event. -/
def guardFail (s : State) (w off first second cause master : Nat) : State :=
  s.postEvent w (guardBit w)
    [iAddr (winBase w), iAddr off, iValue first, iValue2 second, iCause cause, iMaster master]

/-- An open pair fails (R101). -/
def failPair (s : State) (p : GuardPair) (cause second : Nat) : State :=
  (s.dropPair p.win).guardFail p.win p.off p.value.toNat second cause p.master

/-- A pair whose 32 fabric cycles have passed fails as TIMEOUT (R99, R101). -/
def expirePair (s : State) (w : Nat) : State :=
  match s.openPair w with
  | some p => if p.cyc + 32 < s.cyc then s.failPair p 1 0 else s
  | none => s

/-- An access to the block that is not the pair's second write fails an open pair as INTERVENE (R101). -/
def intervene (s : State) (w second : Nat) : State :=
  let t := s.expirePair w
  match t.openPair w with
  | some p => t.failPair p 3 second
  | none => t

/-- A first write opens a pair (R99). -/
def openPairAt (s : State) (w off addr master : Nat) (v : Word) : State :=
  { s with regs := { s.regs with
      pairs := insertBy (fun p => p.win) { win := w, off := off, addr := addr, value := v, master := master, cyc := s.cyc }
        s.regs.pairs } }

/-- An access that the fabric lets through to the register at an address in the lower half, by a row that
names the register: it fails any open pair of the block, then acts. -/
def access (s : State) (master addr : Nat) (write : Bool) (k : State → State) : State :=
  if !s.powered then s
  else
    let c := s.errCause master addr 4
    if c ≠ 0 then s.busError master addr write c
    else
      let w := (windowOf addr).getD 0
      k ((if guarded w then s.intervene w 0 else s).answer 0 false)

/-- A pair of writes to a WG register that completes (R99): the first write fails any open pair of the
block, the second completes this one. -/
def pairWrite (s : State) (master addr : Nat) (k : State → State) : State := s.access master addr true k

/-- An occurrence in the module after some time: nothing happens in a module without its supply. -/
def occur (s : State) (dt : Nat) (k : State → State) : State :=
  let t := s.elapse dt
  if t.powered then k t else t

/-- An occurrence in the block of window w, which does nothing while the block is in reset or not enabled
(R725, R726), or its lockstep pair's outputs are blocked (R757). -/
def occurIn (s : State) (dt w : Nat) (k : State → State) : State :=
  s.occur dt (fun t => if t.blockOn w && !t.sys.blocked.contains w then k t else t)

/-! ## Owners of fields -/

/-- The handle that owns usable sink c (R42, R44, R802): the SINK handle where one is created, else the HEAD of the
group's head; none for the spare (R43). -/
def sinkOwner (s : State) (c : Nat) : Option (Nat × Nat) :=
  if c % 7 = 6 then none
  else
    match (s.imgGroup (c / 7)).head with
    | some h => if s.hst tHEAD h = .free ∧ s.hst tSINK c ≠ .free then some (tSINK, c) else some (tHEAD, h)
    | none => some (tSINK, c)

/-- The handle to which the fields at an address belong (R52, R53), as its chapter states: type and index. -/
def ownerOf (s : State) (a : Nat) : Option (Nat × Nat) :=
  if a ≥ stepBase then some (tPROGRAMME, (a - stepBase) / 0x400)
  else
    let o := a % 0x10000
    match (a - 0x40000000) / 0x10000 with
    | 0x03 => if 0x0400 ≤ o ∧ o ≤ 0x05FC then some (tWAVEPROF, (o - 0x0400) / 0x20) else none
    | 0x05 =>
      if 0x400 ≤ o ∧ o < 0xB00 then s.sinkOwner ((o - 0x400) / 0x20) else none
    | 0x06 =>
      let n := if 0x400 ≤ o then (o - 0x400) / 0x20 else (o - 0x100) / 0x20
      if 0x100 ≤ o ∧ o < 0x680 ∧ n < 16 then some (tMETER, n) else none
    | 0x07 => if 0x080 ≤ o ∧ o < 0x100 then some (tFEEDER, (o - 0x080) / 0x20) else none
    | 0x09 => if 0x1000 ≤ o ∧ o < 0x2000 then some (tQUEUE, (o - 0x1000) / 0x40) else none
    | 0x0A => if 0x400 ≤ o ∧ o < 0x800 then some (tMILESTONE, (o - 0x400) / 0x20) else none
    | _ => none

/-- The owning handle of the fields at an address is STOPPED (R53, R92). -/
def heldByStop (s : State) (a : Nat) : Bool :=
  match s.ownerOf a with
  | some (t, i) => s.isStopped t i
  | none => false

/-! ## Locked writes (R109 to R111) -/

/-- LOCKED_WRITE's address and bit for the register at a first-image address. -/
def lockedBit (a : Nat) : Nat × Nat :=
  let o := a % 0x10000
  match (a - 0x40000000) / 0x10000 with
  | 0x05 => (reg wMST 0, 0)
  | 0x06 => (reg wMTR 0, 14)
  | 0x07 => (reg wACC 0, 0)
  | 0x08 => if o / 0x2000 = 4 then (reg wLNE 0x8000, 6) else (reg wLNE (lneOff (o / 0x2000) 0), 12)
  | 0x09 => (reg wQDM 0, 0)
  | 0x0A => (reg wTBS 0, 14)
  | 0x0C => (reg wREC 0, 0)
  | _ => (reg wPIN 0, 0)

/-- The stored word that the register at a first-image address shows: the selected step's for SCN_STEP0 to 3 (R163,
R219), else its own. -/
def storedKey (s : State) (a : Nat) : Nat :=
  if reg wSCN 0x084 ≤ a ∧ a ≤ reg wSCN 0x090 ∧ a % 4 = 0 then s.stepSel ((a - reg wSCN 0x084) / 4) else a

/-- A write is refused as to a locked register: LOCKED_WRITE in the block's status register, one recorder
event, and STR_STATUS.LOCKED_WRITE for a field written only while stopped (R109, R111). It sets the parity of what
the register holds (R114). -/
def lockedWrite (s : State) (master addr : Nat) (v : Word) (stoppedOnly : Bool) : State :=
  let b := lockedBit (firstAddr addr)
  let w := (windowOf addr).getD 0
  let r := s.refreshCfg (firstAddr addr)
  let t := (r.post b.1 (2 ^ b.2)).event w (some b.2) [iAddr addr, iValue v.toNat, iMaster master]
  if stoppedOnly then t.postBit wSTR 3 else t

/-! ## Shadows (R86 to R92) -/

/-- Lane n has slot boundaries (R91, R458): it runs, or it was stopped under R458. -/
def hasSlots (s : State) (n : Nat) : Bool := (s.lane n).run || (s.lane n).faulted

/-- Writes to an instance are taken up at once: it has no boundaries (R91); a feeder that the image does not declare
is taken for such an instance (DESIGN CHOICE: log entry 62). -/
def noBoundary (s : State) (d : Dom) : Bool :=
  match d with
  | .now => true
  | .tick => false
  | .slot n => !s.hasSlots n
  | .period g => !s.groupEnabled g
  | .cycle f => (s.imgFeeder f).isNone
  | .chan c =>
    !(s.mtr.map.any (fun f => f.2.phases.contains c || f.2.volts.contains c || f.2.neutral == some c))

/-- A write of an RWS register: the shadow takes it, and a 64-bit field becomes eligible with its upper
register (R86, R89). -/
def shadowWrite (s : State) (a : Nat) (mask v : Word) : State :=
  let t := s.setCfg a (v &&& mask)
  let o := a % 0x2000
  let lneOrigin := (a - 0x40000000) / 0x10000 = wLNE ∧ a % 0x10000 < 0x8000
  if lneOrigin ∧ o = 0x014 then t
  else if lneOrigin ∧ o = 0x018 then (t.markChanged (a - 4)).markChanged a
  else t.markChanged a

/-- The shadows written before fabric cycle c that a boundary in it copies, those of STOPPED handles left out
(R87, R88, R92). -/
def eligible (s : State) (c : Nat) (p : Nat → Dom → Bool) : List Nat :=
  (s.changedBefore c).filter (fun a =>
    match regInfo s.sys.fuses a with
    | some i => p a i.dom && !s.heldByStop a
    | none => false)

/-- Take up a list of shadows in fabric cycle c (R87). -/
def takeUpAll (s : State) (c : Nat) : List Nat → State
  | [] => s
  | a :: r => (s.takeUp c a).takeUpAll c r

/-- The register that shows a stored word: SCN_STEP0 to 3 for a word of a step. -/
def shownAt (a : Nat) : Nat := if a < stepBase then a else reg wSCN (0x084 + a % 16)

/-- A byte whose parity does not match is found: the CFG_PARITY record past the Weir with the register, the stored
word and its stored parity bits, then the CFG_PARITY reset source (R118, R636). -/
def parityFault (s : State) (addr : Nat) (w : PWord) : State :=
  (s.recBypass 5 79 0 (iAddr addr ++ iValue w.value.toNat ++ iParity w.par)).raiseReset 6

/-- The shadow of a register has bad parity. -/
def shadowBad (s : State) (a : Nat) : Bool := (s.cfgWord a).bad

/-- The copy of a list of shadows at a boundary in fabric cycle c: each is checked, and one whose parity does not
match is handled as the scan's, its active copy left unchanged (R87, R117). -/
def copyAll (s : State) (c : Nat) (l : List Nat) : State :=
  ((l.filter s.shadowBad).foldl (fun t a => t.parityFault (shownAt a) (s.cfgWord a)) s).takeUpAll c
    (l.filter (fun a => !s.shadowBad a))

/-- The copy at a boundary of an apply domain instance in fabric cycle c (R87). -/
def copyDomain (s : State) (c : Nat) (d : Dom) : State := s.copyAll c (s.eligible c (fun _ e => decide (e = d)))

/-- The shadows written before fabric cycle c that belong to a handle (R53). -/
def ownedChanged (s : State) (c typ idx : Nat) : List Nat :=
  (s.changedBefore c).filter (fun a => s.ownerOf a == some (typ, idx))

end State

end Sys2Proof.Machine
end

