-- ==== Sys2Proof/Machine/Entries.lean ====
section
/-! DEFINITION. Fields and states of lantern-table entries, faults of handles and the end of a handle
command (R49, R60, R68, R123 to R141). -/

namespace Sys2Proof.Machine

namespace State

/-! ## Entry fields (R127) -/

/-- Address of byte `off` of entry n (R123). -/
def ltAddr (s : State) (n off : Nat) : Nat := s.ltb.base + 384 * n + off

/-- A field of entry n; 0 at or above the entry count. -/
def lt (s : State) (n off size : Nat) : Nat := if n < s.ltb.count then s.memLE (s.ltAddr n off) size else 0

/-- Write a field of entry n. -/
def setLt (s : State) (n off size v : Nat) : State :=
  if n < s.ltb.count then s.setMemLE (s.ltAddr n off) size v else s

/-- KIND of entry n. -/
def ltKind (s : State) (n : Nat) : Nat := s.lt n 0x008 1

/-- STATE of entry n. -/
def ltState (s : State) (n : Nat) : Nat := s.lt n 0x009 1

/-- EUI-64 of entry n. -/
def ltEui (s : State) (n : Nat) : Nat := s.lt n 0x000 8

/-- The address lies inside the LTABLE region (R125). -/
def inLtable (s : State) (a : Nat) : Bool :=
  decide (s.ltb.base ≤ a ∧ a < s.ltb.base + 384 * s.ltb.count)

/-- Indices of the entries. -/
def entryIds (s : State) : List Nat := List.range s.ltb.count

/-- The entry with KIND 0x01 or 0x03 that holds an EUI-64 (R162); of two border references that hold it the lowest
(DESIGN CHOICE: log entry 62). -/
def findEui (s : State) (eui : Nat) : Option Nat :=
  s.entryIds.find? (fun n => (s.ltKind n == 1 || s.ltKind n == 3) && s.ltEui n == eui)

/-- The radio lantern's entry that holds an EUI-64 (R448). -/
def findLantern (s : State) (eui : Nat) : Option Nat :=
  s.entryIds.find? (fun n => s.ltKind n == 1 && s.ltEui n == eui)

/-- Entry of head h (R802). -/
def entryOfHead (s : State) (h : Nat) : Option Nat := (s.ltb.heads.find? (fun e => e.2 == h)).map (·.1)

/-- Head number of an entry that the LTABLE section makes a head entry (R137). -/
def headOfEntry (s : State) (n : Nat) : Option Nat := (s.ltb.heads.find? (fun e => e.1 == n)).map (·.2)

/-- The handle of entry n: HEAD for a head entry, LANTERN for another. -/
def entryHandle (s : State) (n : Nat) : Nat × Nat :=
  match s.headOfEntry n with
  | some h => (tHEAD, h)
  | none => (tLANTERN, n)

/-- The entry's handle is RUNNING. -/
def entryRunning (s : State) (n : Nat) : Bool := s.isRunning (s.entryHandle n).1 (s.entryHandle n).2

/-- FAULTS holds a bit of LTB_FAULTMASK in force (R139). -/
def masked (s : State) (n : Nat) : Bool :=
  s.lt n 0x104 4 &&& (s.act (reg wLTB 0x024)).toNat != 0

/-- The event bit of LTB_STATUS that entering a state sets (R154). -/
def stateBit (v : Nat) : Option Nat :=
  match v with
  | 3 => some 6 | 4 => some 7 | 5 => some 5 | _ => none

/-- Entry n enters a state (R139, R154). -/
def enterState (s : State) (n v : Nat) : State :=
  if s.ltState n = v then s
  else
    let t := s.setLt n 0x009 1 v
    match stateBit v with
    | some b => t.postBit wLTB b
    | none => t

/-- JOINED, or FAULTY when a masked bit is set (R140). -/
def enterJoined (s : State) (n : Nat) : State := s.enterState n (if s.masked n then 4 else 2)

/-! ## Handle commands' end and handle faults -/

/-- A handle command completes (R68). Results: 0 OK, 1 BUSY, 2 CONFLICT, 3 STALE, 4 NOSPACE, 5 BADARG, 6 DENIED. -/
def strDone (s : State) (result detail : Nat) (st : HState) : State :=
  ({ s with str := { s.str with
      pend := none, cmdSeq := (s.str.cmdSeq + 1) % 256, result := result,
      detail := if result = 2 ∨ result = 3 ∨ result = 5 ∨ result = 6 then detail else 0, stAfter := st } }).postBit wSTR 0

/-- A STOP or START pending on a handle that its block faults completes with DENIED (R60). -/
def strFaulted (s : State) (typ idx : Nat) : State :=
  match s.str.pend with
  | some p => if p.typ = typ ∧ p.idx = idx then s.strDone 6 0xF .faulted else s
  | none => s

/-- The owning block faults a handle (R48, R49, R60, R63). -/
def faultHandle (s : State) (typ idx : Nat) : State :=
  if s.hst typ idx = .stopped ∨ s.hst typ idx = .running then
    let a := (s.setHandle typ idx { s.handle typ idx with st := .faulted }).postBit wSTR 2
    let b :=
      if typ = tHEAD then
        match a.entryOfHead idx with
        | some n => a.enterState n 4
        | none => a
      else a
    b.strFaulted typ idx
  else if s.hst typ idx = .faulted then s.strFaulted typ idx
  else s

/-- Entry n enters MISMATCH and its LANTERN handle is faulted (R141). -/
def enterMismatch (s : State) (n : Nat) : State := (s.enterState n 5).faultHandle tLANTERN n

end State

end Sys2Proof.Machine
end

