-- ==== Sys2Proof/Machine/Accounts.lean ====
section
/-! DEFINITION. Energy accounts: accumulation by cycle, metering intervals, allocation and pulse outputs
(R377 to R423). -/

namespace Sys2Proof.Machine

/-! ## Record flags (R398) -/

def fSTEP : Nat := 1
def fSHORT : Nat := 2
def fOUTAGE : Nat := 4
def fRESTART : Nat := 8
def fESTCYCLE : Nat := 16
def fCHFAIL : Nat := 32
def fQUALITY : Nat := 64
def fEXPORT : Nat := 128
def fRESALARM : Nat := 256
def fESTHIGH : Nat := 512
def fNOLANTERN : Nat := 1024
def fQCHANGE : Nat := 2048
def fRESTORED : Nat := 4096

/-- Absolute value. -/
def absRat (q : Rat) : Rat := if q < 0 then -q else q

/-- µWh of an energy in J: 1 µWh is 3.6 mJ (R382). -/
def uWhOf (j : Rat) : Rat := j * 1000000 / 3600

/-- An energy in J in units of 2⁻³² µWh (R382). -/
def accUnits (j : Rat) : Nat := (roundOpen 6 (uWhOf j * (2 ^ 32 : Nat))).toNat

/-- The reactive register of a P and a Q: k = 2 to 5 (R377). -/
def quadrant (p q : Rat) : Nat := if 0 ≤ p then (if 0 ≤ q then 2 else 5) else (if 0 ≤ q then 3 else 4)

namespace State

/-! ## Accumulators (R377 to R384, R401) -/

/-- Accumulator k of element e of feeder f in 2⁻³² µWh. -/
def accOf (s : State) (f e k : Nat) : Nat := tabGetD 0 s.acc.accs (accKey f e k)

/-- Its whole µWh. -/
def accWhole (s : State) (f e k : Nat) : Nat := s.accOf f e k / 2 ^ 32

/-- Add to an accumulator. -/
def accAdd (s : State) (f e k n : Nat) : State :=
  { s with acc := { s.acc with
      accs := tabPut 0 s.acc.accs (accKey f e k) ((s.accOf f e k + n) % 2 ^ 96) } }

/-- One active and one reactive register of an element take a cycle (R379). -/
def accElement (s : State) (f e : Nat) (p q : Rat) : State :=
  (s.accAdd f e (if 0 ≤ p then 0 else 1) (accUnits (absRat p))).accAdd f e (quadrant p q) (accUnits (absRat q))

/-- What a phase adds: nothing under NOLOAD or CHFAIL, or while its channel is out of service (R380). -/
def phaseAdds (s : State) (f i : Nat) (x : PhaseCyc) : Bool :=
  !x.noload && !x.chfail
    && (match s.imgFeeder f with
        | some c => s.acc.chIn.contains (nth 0 c.phases i)
        | none => false)

/-- The phases of a result with their numbers 0 to 2. -/
def numbered {α : Type} (l : List α) : List (Nat × α) := (List.range l.length).zip l

/-- Seconds from one raw count to a later one; across a restart of the raw counter the spec gives no
duration. -/
def secs (s : State) (a b : Nat) : Rat :=
  if a ≤ b then ((b - a : Nat) : Rat) / (rawS : Nat) else ((Config.freeNat 10 s.freeCtr : Nat) : Rat) / (rawS : Nat)

/-- Loss model of a cycle in J (R401). -/
def lossJ (s : State) (r : CycRes) : Rat :=
  let dt := s.secs r.t0 r.t1
  let rr : Rat := (s.actF wACC (0x080 + 0x20 * r.feeder) 15 0 : Rat) / 1000
  let fx : Rat := (s.actF wACC (0x080 + 0x20 * r.feeder) 31 16 : Rat) / 10
  let i2 := ((numbered r.phases).filter (fun x => s.phaseAdds r.feeder x.1 x.2)).foldl
    (fun a x => a + x.2.irms * x.2.irms) (0 : Rat)
  (rr * i2 + fx) * dt

/-- The phases of a result add to elements 1 to 3. -/
def accPhases (s : State) (f : Nat) : List (Nat × PhaseCyc) → State
  | [] => s
  | x :: r => (if s.phaseAdds f x.1 x.2 then s.accElement f (x.1 + 1) x.2.p x.2.q else s).accPhases f r

/-- P and Q of the feeder element in a cycle, J (R378, R380). -/
def cycNet (s : State) (r : CycRes) : Rat × Rat :=
  let adds := ((numbered r.phases).filter (fun x => s.phaseAdds r.feeder x.1 x.2)).map (·.2)
  (adds.foldl (fun a x => a + x.p) (0 : Rat), adds.foldl (fun a x => a + x.q) (0 : Rat))

/-- Every register of the feeder takes a cycle (R377 to R382). -/
def accCycle (s : State) (r : CycRes) : State :=
  let p := (s.cycNet r).1
  let q := (s.cycNet r).2
  let a := (s.accPhases r.feeder (numbered r.phases)).accElement r.feeder 0 p q
  let b := a.accAdd r.feeder 0 6 (accUnits (s.lossJ r))
  if r.phases.any (fun x => x.est) then b.accAdd r.feeder 0 7 (accUnits (absRat p)) else b

/-! ## Intervals (R389 to R397) -/

/-- Change the interval state of feeder f. -/
def setIv (s : State) (f : Nat) (g : FeedIv → FeedIv) : State :=
  { s with acc := { s.acc with ivs := modAt s.acc.ivs f g } }

/-- Interval length in ns (R389, R418). -/
def ivLen (s : State) : Nat :=
  let m := s.cfgF wACC 0x004 13 8
  (if [1, 2, 3, 4, 5, 6, 10, 12, 15, 20, 30, 60].contains m then m else 15) * 60 * 1000000000

/-- The accumulators k = 0 to 6 of element 0, whole µWh. -/
def accList (s : State) (f : Nat) : List Nat := (List.range 7).map (fun k => s.accWhole f 0 k)

/-- Energy measured so far on each head, µWh (R405). -/
def headEnergies (s : State) : List Rat := s.mst.heads.map Head.energy

/-- The corrected time in ns at which an interval that starts, or goes on, at raw count b is to end (R389). -/
def ivEnd (s : State) (b : Nat) : Nat := (((s.tbs.corr b / (s.ivLen : Rat)).floor + 1) * (s.ivLen : Int)).toNat

/-- The end, in corrected ns and as a raw count, of an interval of feeder f that starts, or goes on, at raw count b (R389,
R390); before the first pulse after a restart of the raw counter the island carries its schedule on by its own count
(R395, R396; log entry 69). -/
def ivNext (s : State) (f b : Nat) : Nat × Nat :=
  let v := s.feedIv f
  if s.mtr.restarted then (v.endAt + s.ivLen, v.endRaw + s.ivLen / 5) else (s.ivEnd b, s.tbs.rawOf (s.ivEnd b))

/-- An interval of feeder f opens at a raw count (R389, R390, R392). -/
def ivOpen (s : State) (f b flags : Nat) : State :=
  s.setIv f (fun v => { v with
    open_ := true, startRaw := b, endAt := (s.ivNext f b).1, endRaw := (s.ivNext f b).2, startAcc := s.accList f,
    startEpoch := s.tbs.epoch, cycles := 0, flags := flags, opening := none, closing := none, closeFrom := 0,
    dropped := false, extended := false, startHead := s.headEnergies })

/-- A close of the open interval is latched at a raw count (R390, R395); before the first pulse after a restart of the
raw counter the corrected time of the boundary is left open. -/
def ivLatch (s : State) (f b flags : Nat) : State :=
  let now := s.accList f
  let v := s.feedIv f
  let c : IvClose :=
    { startRaw := v.startRaw, endRaw := b, startEpoch := v.startEpoch,
      endEpoch := if s.mtr.restarted then v.startEpoch else s.tbs.epoch,
      endCorr := if s.mtr.restarted then Config.freeNat 22 (4 * b + f) % 2 ^ 64 else s.tbs.corrNs b,
      cycles := v.cycles, flags := v.flags ||| flags, diff := (now.zip v.startAcc).map (fun x => x.1 - x.2), accs := now,
      rescfg := s.act (reg wACC (0x084 + 0x20 * f)),
      headE := (numberedFrom 0 s.headEnergies).map (fun x => x.2 - nth 0 v.startHead x.1) }
  s.setIv f (fun v => { v with latched := v.latched ++ [c], open_ := false, closing := none, extended := false })

/-- An end that finds four latched closes is not latched: the last latched interval goes on (R395). -/
def ivExtend (s : State) (f b : Nat) : State :=
  s.setIv f (fun v =>
    let w := { v with endAt := (s.ivNext f b).1, endRaw := (s.ivNext f b).2, extended := true }
    match v.latched.getLast? with
    | some c =>
      if v.extended then w
      else { w with
        startRaw := c.startRaw, startEpoch := c.startEpoch, cycles := c.cycles + v.cycles, flags := c.flags ||| v.flags,
        startAcc := (c.accs.zip c.diff).map (fun x => x.1 - x.2),
        startHead := (numberedFrom 0 v.startHead).map (fun x => x.2 - nth 0 c.headE x.1), latched := v.latched.dropLast }
    | none => w)

/-- The flags a cycle gives its interval's record (R398). -/
def cycFlags (r : CycRes) : Nat :=
  (if r.phases.any (fun x => x.est) then fESTCYCLE else 0)
    + (if r.phases.any (fun x => x.chfail) then fCHFAIL else 0)
    + (if r.synth || r.freqRange || r.holdover || r.resync || r.phases.any (fun x => x.clip || x.settle)
       then fQUALITY else 0)

/-- The close that waits for a boundary is due at raw count b (R391, R393, R396, R397). -/
def closeDue (v : FeedIv) (b : Nat) : Bool := v.closing.isSome && decide (v.closeFrom ≤ b)

/-- The open interval ends at the boundary b (R390 to R397): an end that the island has dropped is the accounts block's,
after the start. -/
def ivDue (s : State) (v : FeedIv) (b : Nat) : Bool :=
  v.open_ && (if v.dropped then s.running && closeDue v b else closeDue v b || decide (v.endRaw ≤ b))

/-- The island's interval work at a CYCLE boundary of feeder f: the cycle that ends there, if one does, counts for the
open interval by its start; then an end at or before the boundary closes it, and the next one opens while the feeder is
in service (R390 to R397). -/
def ivBoundary (s : State) (f b : Nat) (r : Option CycRes) : State :=
  let a :=
    match r with
    | some r => s.setIv f (fun v => if v.open_ then { v with cycles := v.cycles + 1, flags := v.flags ||| cycFlags r } else v)
    | none => s
  let v := a.feedIv f
  let inServ := a.acc.fdIn.contains f
  if a.ivDue v b then
    if v.latched.length < 4 ∧ !(v.extended && !a.running) then
      let c := a.ivLatch f b ((if closeDue v b then v.closing.getD 0 else 0) ||| (if a.running then 0 else fRESTART))
      let d := if inServ then c.ivOpen f b (v.opening.getD 0) else c
      if closeDue v b then d else d.setIv f (fun w => { w with closing := v.closing, closeFrom := v.closeFrom })
    else a.ivExtend f b
  else if !v.open_ ∧ inServ ∧ v.opening.isSome ∧ v.openFrom ≤ b then a.ivOpen f b (v.opening.getD 0)
  else a

/-! ## Delivery: visible values and pulse credits (R384, R410, R412) -/

/-- The pulse outputs of feeder f. -/
def pulsesOf (s : State) (f : Nat) : List Nat :=
  match s.imgFeeder f with
  | some c => c.pulse.toList
  | none => []

/-- The feeder of pulse output n. -/
def pulseFeeder (s : State) (n : Nat) : Option Nat :=
  (s.mtr.map.find? (fun f => f.2.pulse == some n)).map (·.1)

/-- Change pulse output n. -/
def setPulse (s : State) (n : Nat) (g : PulseOut → PulseOut) : State :=
  { s with acc := { s.acc with pulses := modAt s.acc.pulses n g } }

/-- Weight of output n in µWh; 0: output off (R410, R419). -/
def pulseWeight (s : State) (n : Nat) : Nat :=
  if s.cfgF wACC (0x010 + 4 * n) 31 28 ≤ 5 then 1000 * s.cfgF wACC (0x010 + 4 * n) 15 0 else 0

/-- Whole µWh of the quantity that drives output n. -/
def pulseValue (s : State) (n : Nat) : Nat :=
  match s.pulseFeeder n with
  | some f => s.accWhole f 0 (s.cfgF wACC (0x010 + 4 * n) 31 28)
  | none => 0

/-- Credit every multiple that output n's quantity has passed (R410, R412). -/
def pulseCredit (s : State) (n : Nat) : State :=
  let w := s.pulseWeight n
  if w = 0 then s
  else
    let m := s.pulseValue n / w
    let p := s.pulse n
    let total := p.pending + (m - p.mark)
    let t := s.setPulse n (fun x => { x with mark := m, pending := min 65535 total })
    if 65535 < total then t.postBit wACC 7 else t

/-- Rebase the mark of output n to the present accumulator value. -/
def pulseMark (s : State) (n : Nat) : State :=
  let w := s.pulseWeight n
  s.setPulse n (fun x => { x with mark := if w = 0 then 0 else s.pulseValue n / w })

/-- Rebase the mark and discard pending pulses (R414). -/
def pulseRebase (s : State) (n : Nat) : State := (s.pulseMark n).setPulse n (fun x => { x with pending := 0 })

/-- The whole µWh of every accumulator of feeder f become visible (R384). -/
def visUpdate (s : State) (f : Nat) : State :=
  { s with acc := { s.acc with
      vis := (List.range 32).foldl (fun l i => tabPut 0 l (32 * f + i) (s.accWhole f (i / 8) (i % 8))) s.acc.vis } }

/-- The power of a feeder over its last second takes a cycle (R411). -/
def powerNote (s : State) (r : CycRes) : State :=
  let old := s.acc.power.filter (fun x => x.1 != r.feeder || decide (r.at_ < x.2.1 + rawS))
  { s with acc := { s.acc with power := old ++ [(r.feeder, r.at_, s.cycNet r)] } }

/-- Output n takes the cycle's credits, while the feeder is in service (R394, R410). -/
def pulseCycle (s : State) (r : CycRes) (n : Nat) : State := if s.acc.fdIn.contains r.feeder then s.pulseCredit n else s

/-- Pulse outputs of a list take the cycle. -/
def pulseCycles (s : State) (r : CycRes) : List Nat → State
  | [] => s
  | n :: l => (s.pulseCycle r n).pulseCycles r l

/-- A cycle result reaches the controller die (R384, R410). -/
def accDeliver (s : State) (r : CycRes) : State :=
  ((s.visUpdate r.feeder).powerNote r).pulseCycles r (s.pulsesOf r.feeder)

/-! ## In-service flags (R393, R394) -/

/-- CREATE takes a current channel into service. -/
def chService (s : State) (ch : Nat) (on : Bool) : State :=
  { s with acc := { s.acc with chIn := if on then setAdd s.acc.chIn ch else without s.acc.chIn ch } }

/-- The first count that a boundary after now can have. -/
def boundaryFrom (s : State) : Nat := if s.mtr.restarted then s.mtr.stamp else s.raw + 1

/-- CREATE takes a feeder into service, its pulse credits starting from now; DESTROY takes it out (R393, R394). -/
def fdService (s : State) (f : Nat) (on : Bool) : State :=
  if on then
    if s.acc.fdIn.contains f then s
    else
      let a := ({ s with acc := { s.acc with fdIn := setAdd s.acc.fdIn f } }).setIv f
        (fun v => { v with opening := some fSHORT, openFrom := s.boundaryFrom })
      (s.pulsesOf f).foldl (fun t n => t.pulseMark n) a
  else
    ({ s with acc := { s.acc with fdIn := without s.acc.fdIn f } }).setIv f
      (fun v => { v with
        opening := none, closing := if v.open_ then some (v.closing.getD 0 ||| fSHORT) else none, closeFrom := s.boundaryFrom })

/-! ## Pulse emission (R411) -/

/-- WIDTH of output n in ms (R419). -/
def pulseWidthMs (s : State) (n : Nat) : Nat := max 10 (min 100 (s.cfgF wACC (0x010 + 4 * n) 23 16))

/-- Energy in 2⁻³² µWh that a source k took in a cycle with a P and a Q in J (R377). -/
def sourceUnits (k : Nat) (p q : Rat) : Nat :=
  if k = (if 0 ≤ p then 0 else 1) then accUnits (absRat p) else if k = quadrant p q then accUnits (absRat q) else 0

/-- Energy in 2⁻³² µWh that the source of output n took over the last second (R411). -/
def pulsePower (s : State) (n : Nat) : Nat :=
  let k := s.cfgF wACC (0x010 + 4 * n) 31 28
  (s.acc.power.filter (fun x => s.pulseFeeder n == some x.1 && decide ((s.raw : Int) ≤ x.2.1 + rawS))).foldl
    (fun a x => a + sourceUnits k x.2.2.1 x.2.2.2) (0 : Nat)

/-- Width of the next pulse of output n in 0.1 ms (R411). -/
def pulseWidth (s : State) (n : Nat) : Nat :=
  let e := s.pulsePower n
  let full := 10 * s.pulseWidthMs n
  if e = 0 then full
  else
    -- the expected period W / P in 0.1 ms, with P = e per second
    let t : Rat := (s.pulseWeight n : Rat) * (2 ^ 32 : Nat) * 10000 / e
    if t < 2 * full then max 10 (t / 2).floor.toNat else full

/-- Output n emits one pending pulse (R411). -/
def pulseStart (s : State) (n : Nat) : State :=
  let p := s.pulse n
  if 0 < p.pending ∧ p.next ≤ s.raw then
    let w := s.pulseWidth n
    s.setPulse n (fun x => { x with
      pending := x.pending - 1, width := w, until_ := some (s.raw + w * 20000), next := s.raw + 2 * w * 20000 })
  else s

/-! ## Allocation (R405 to R408) -/

/-- Entries eligible for feeder f (R405). -/
def eligibleEntries (s : State) (f : Nat) : List Nat :=
  s.entryIds.filter (fun n => (s.ltKind n == 1 || s.ltKind n == 2) && s.lt n 0x00C 1 % 4 == f)

/-- The report snapshot of an entry; none while it has accepted no REPORT (R406). -/
def snapOf (s : State) (n : Nat) : Option Snap :=
  if s.lt n 0x118 8 = 0 ∧ s.lt n 0x114 4 = 0 then none
  else some { energy := s.lt n 0x110 4, seq := s.lt n 0x114 4, raw := s.lt n 0x118 8 }

/-- A later snapshot holds a newer REPORT (R405). -/
def newerSeq (a b : Nat) : Bool := let d := (a + 2 ^ 32 - b) % 2 ^ 32; decide (1 ≤ d ∧ d < 2 ^ 31)

/-- HEAD_EFF in force (R418). -/
def headEff (s : State) : Nat :=
  let e := s.cfgF wACC 0x004 23 16
  if 50 ≤ e ∧ e ≤ 100 then e else 90

/-- The basis of entry n in µWh over a duration in s, with the energy of each head over the interval, and whether it is
estimated (R405). -/
def basisOf (s : State) (n : Nat) (dur : Rat) (headE : List Rat) : Nat × Bool :=
  if s.ltKind n = 2 then
    match s.headOfEntry n with
    | some h => ((roundOpen 8 (nth 0 headE h * 100 / s.headEff)).toNat, false)
    | none => (0, false)
  else
    let est := match dec16 (s.lt n 0x012 2) with
      | some w =>
        if 0 < w then (roundOpen 7 (uWhOf (w * (s.lt n 0x14C 2 : Rat) / 65535 * dur))).toNat else 0
      | none => 0
    match s.snapOf n, tabGet s.acc.snaps n with
    | some a, some b =>
      if newerSeq a.seq b.seq then
        (10000 * ((a.energy + 2 ^ 32 - b.energy) % 2 ^ 32) - tabGetD 0 s.acc.estSum n, false)
      else (est, true)
    | _, _ => (est, true)

/-- An entry's snapshot, ESTSUM and MISSED after its basis has been formed (R406). -/
def basisNote (s : State) (n : Nat) (b : Nat × Bool) : State :=
  if s.ltKind n = 2 then s
  else
    let t := { s with acc := { s.acc with
      snaps := (match s.snapOf n with | some a => tabSet s.acc.snaps n a | none => s.acc.snaps),
      estSum := tabPut 0 s.acc.estSum n (if b.2 then tabGetD 0 s.acc.estSum n + b.1 else 0) } }
    t.setLt n 0x120 2 (if b.2 then sat 16 (s.lt n 0x120 2 + 1) else 0)

/-- Bases of a list of entries, noted one by one. -/
def basisNotes (s : State) : List (Nat × Nat × Bool) → State
  | [] => s
  | x :: r => (s.basisNote x.1 x.2).basisNotes r

/-- Divide IMP over (entry, basis) pairs: the floors, and one µWh more for the entries with the largest
remainders, lower index first (R407). -/
def allocate (imp : Nat) (bases : List (Nat × Nat)) : List (Nat × Nat) :=
  let total := bases.foldl (fun a x => a + x.2) 0
  let b := if total = 0 then bases.map (fun x => (x.1, 1)) else bases
  let sum := b.foldl (fun a x => a + x.2) 0
  let floors := b.map (fun x => (x.1, imp * x.2 / sum))
  let left := imp - floors.foldl (fun a x => a + x.2) 0
  let order := (sortBy (fun x : Nat × Nat => sum - imp * x.2 % sum) b).map (·.1)
  let more := order.take left
  floors.map (fun x => (x.1, if more.contains x.1 then x.2 + 1 else x.2))

/-- ACC_ALLOCBASE can take the table (R408). -/
def allocOk (s : State) : Bool :=
  let b := s.cfgF wACC 0x184 31 0
  let n := 16 * s.ltb.count
  b % 16 == 0 && inSram b && inSram (b + n - 1)
    && !(decide (b < s.ltb.base + 384 * s.ltb.count) && decide (s.ltb.base < b + n))

/-- LAST as it stands in the table; the spec states none for an allocation of 2³² µWh or more (R408). -/
def lastWord (s : State) (a : Nat) : Nat := if a < 2 ^ 32 then a else Config.freeNat 11 s.freeCtr % 2 ^ 32

/-- The table entries of a list of (entry, allocation, basis) (R408). -/
def allocWrite (s : State) : List (Nat × Nat × Nat) → State
  | [] => s
  | x :: r =>
    (s.setBytes (s.cfgF wACC 0x184 31 0 + 16 * x.1)
      (leBytes 4 (s.lastWord x.2.1) ++ leBytes 4 (sat 32 x.2.2) ++ leBytes 8 (tabGetD 0 s.acc.totals x.1))).allocWrite r

/-- Add allocations to the totals (R408). -/
def totalsAdd (s : State) (l : List (Nat × Nat)) : State :=
  { s with acc := { s.acc with
      totals := l.foldl (fun t x => tabPut 0 t x.1 ((tabGetD 0 t x.1 + x.2) % 2 ^ 64)) s.acc.totals } }

/-- The copy of the totals area that a record of feeder f with this number brings (R399). -/
def totalsCopy (s : State) (f recno : Nat) (ids : List Nat) : State :=
  { s with acc := { s.acc with
      copies := tabSet s.acc.copies (2 * f + recno % 2) (ids.map (fun n => (n, tabGetD 0 s.acc.totals n))) } }

/-! ## The close (R398 to R404) -/

/-- Wh of µWh, for recorder items. -/
def whOf (n : Int) : Rat := (n : Rat) / 1000000

/-- The bound of an interval's residual in µWh (R402, R421). -/
def resBound (rescfg : Word) (dur : Rat) (basis : Nat) : Rat :=
  max (uWhOf ((fld rescfg 11 0 : Rat) * dur)) ((fld rescfg 31 24 : Rat) * basis / 1000)

/-- The residual of an interval is judged (R403): the exceed count, the alarm and their reports. -/
def resJudge (s : State) (f recno : Nat) (residual : Int) (bound : Rat) (count : Nat) : State × Bool :=
  let v := s.feedIv f
  if absRat (residual : Rat) > bound then
    let n := v.exceed + 1
    let alarm := decide (max 1 count ≤ n)
    let t := s.setIv f (fun v => { v with exceed := n, alarm := v.alarm || alarm })
    if alarm ∧ ¬v.alarm then
      (t.postEvent wACC 4 [iIndex f, iNumber recno, iMeas (whOf residual), iMeas (bound / 1000000)], true)
    else (t, alarm || v.alarm)
  else
    let t := s.setIv f (fun v => { v with exceed := 0, alarm := false })
    if v.alarm then (t.postEvent wACC 5 [iIndex f, iNumber recno], false) else (t, false)

/-- The oldest latched close of feeder f is written: snapshot, bases, residual, allocation, totals, record
and allocation table (R398 to R408). -/
def ivWrite (s : State) (f : Nat) (c : IvClose) : State :=
  let dur := s.secs c.startRaw c.endRaw
  let ids := s.eligibleEntries f
  let bs := ids.map (fun n => (n, s.basisOf n dur c.headE))
  let basis : Nat := bs.foldl (fun a x => a + x.2.1) 0
  let estB : Nat := bs.foldl (fun a x => if x.2.2 then a + x.2.1 else a) 0
  let imp := nth 0 c.diff 0
  let exp := nth 0 c.diff 1
  let residual : Int := (imp : Int) - exp - nth 0 c.diff 6 - basis
  let high := decide (min 100 (fld c.rescfg 23 16) * basis < estB * 100)
  let v := s.feedIv f
  let recno := (v.recno + 1) % 2 ^ 32
  let a := (s.setIv f (fun v => { v with latched := v.latched.drop 1, qchange := false, restored := false })).basisNotes bs
  let judged := c.flags &&& (fOUTAGE + fRESTART + fCHFAIL) = 0 ∧ ¬high
  let b := if judged then a.resJudge f recno residual (resBound c.rescfg dur basis) (fld c.rescfg 15 12) else (a, false)
  let d := if 0 < exp then b.1.postEvent wACC 6 [iIndex f, iNumber recno, iMeas (whOf exp)] else b.1
  let e := if ids = [] then d.postBit wACC 3 else d
  let al := if ids = [] then [] else allocate imp (bs.map (fun x => (x.1, x.2.1)))
  let flags := c.flags ||| (if 0 < exp then fEXPORT else 0) ||| (if b.2 then fRESALARM else 0)
    ||| (if high then fESTHIGH else 0) ||| (if ids = [] then fNOLANTERN else 0)
    ||| (if v.qchange then fQCHANGE else 0) ||| (if v.restored then fRESTORED else 0)
  let rec_ : IvRec :=
    { recno := recno, feeder := f, flags := flags, startRaw := c.startRaw, endRaw := c.endRaw, endCorr := c.endCorr,
      startEpoch := c.startEpoch, endEpoch := c.endEpoch, cycles := c.cycles, imp := imp, exp_ := exp,
      q1 := nth 0 c.diff 2, q2 := nth 0 c.diff 3, q3 := nth 0 c.diff 4, q4 := nth 0 c.diff 5, loss := nth 0 c.diff 6,
      residual := residual, basis := basis, estBasis := estB, lanterns := ids.length,
      estimated := (bs.filter (fun x => x.2.2)).length, accs := c.accs }
  let g := (e.totalsAdd al).totalsCopy f recno ids
  let h := { g with acc := { g.acc with ring := tabSet g.acc.ring (2048 * f + recno % 2048) rec_ } }
  let i := if h.allocOk then
      h.allocWrite ((al.zip bs).map (fun x => (x.1.1, x.1.2, x.2.2.1)))
    else h.postBit wACC 11
  ((i.setIv f (fun v => { v with recno := recno, shown := if h.allocOk then recno else v.shown })).fresh).postBit wACC 2

/-- The feeders whose oldest latched close is the earliest or within 22 ms of it: their closes run together (R400). -/
def closeGroup (s : State) : List Nat :=
  let l := (List.range 4).filterMap (fun f => match (s.feedIv f).latched with | c :: _ => some (f, c.endRaw) | [] => none)
  match minBy (fun x : Nat × Nat => x.2) l with
  | some e => (l.filter (fun x => decide (x.2 < e.2 + 22 * rawMs))).map (·.1)
  | none => []

/-- The close of feeder f runs when one is latched, the island's link holds and no lower feeder's close of the same
moment waits (R400). -/
def ivClose (s : State) (f : Nat) : State :=
  if s.mtr.linkDown ∨ s.closeGroup.head? ≠ some f then s
  else
    match (s.feedIv f).latched with
    | c :: _ => s.ivWrite f c
    | [] => s

/-! ## Registers (R386, R387, R414, R416) -/

/-- MTR_SEAL.SEAL, which also locks ACC_CFG and ACC_PULSE0 to 3 (R352, R416). -/
def sealed (s : State) : Bool := bit (s.cfg (reg wMTR 0x00C)) 0

/-- A completed pair to ACC_CFG (R387, R416). -/
def accCfgSet (s : State) (master addr : Nat) (v : Word) : State :=
  if s.sealed then s.lockedWrite master addr v false
  else
    let t := s.setCfg (reg wACC 0x004) (v &&& 0x00FF3F07)
    if t.qcode ≠ s.qcode then
      ({ t with acc := { t.acc with ivs := t.acc.ivs.map (fun (x : FeedIv) => { x with qchange := true }) } }).postBit wACC 9
    else t

/-- A completed pair to ACC_PULSEn (R414, R416). -/
def accPulseSet (s : State) (master addr n : Nat) (v : Word) : State :=
  if s.sealed then s.lockedWrite master addr v false
  else
    let a := reg wACC (0x010 + 4 * n)
    let t := s.setCfg a (v &&& 0xF0FFFFFF)
    if fld v 31 28 ≠ fld (s.cfg a) 31 28 ∨ fld v 15 0 ≠ fld (s.cfg a) 15 0 then t.pulseRebase n else t

/-- A slot is unimplemented (R415). -/
def slotAbsent (e k : Nat) : Bool := e != 0 && decide (6 ≤ k)

/-- A read of a slot's UWH_LO (R386). -/
def slotRead (s : State) (f e k : Nat) : State :=
  if slotAbsent e k then s.answer 0 false
  else
    ({ s with acc := { s.acc with slots := tabSet s.acc.slots (accKey f e k) (s.slotNow f e k) } }).answer
      (BitVec.ofNat 32 (half64 false (s.accVis f e k))) false

/-- A read of a slot's COUNT (R386). -/
def slotCountRead (s : State) (f e k : Nat) : State :=
  if slotAbsent e k then s.answer 0 false
  else
    let l := s.slotLatch f e k
    let n := if (tabGet s.acc.slots (accKey f e k)).isSome ∧ l.fresh then { l with fresh := false }
      else { l with wrap := (s.slotNow f e k).wrap, fresh := false }
    ({ s with acc := { s.acc with slots := tabSet s.acc.slots (accKey f e k) n } }).answer (s.slotCount f e k) false

end State

/-- The totals at a start: for each feeder those of the copy that its last record brought (R399). -/
def AccUnit.totalsTaken (a : AccUnit) : List (Nat × Nat) :=
  (List.range 4).foldl (fun t f =>
    (tabGetD [] a.copies (2 * f + (nth FeedIv.reset a.ivs f).recno % 2)).foldl (fun u x =>
      tabPut 0 u x.1 (max (tabGetD 0 u x.1) x.2)) t) a.totals

/-! ## Meanings -/

/-- An interval's close runs (R390 to R408). -/
def execIntervalClose (dt feeder : Nat) (s : State) : Host.Outcome State Fault Refusal :=
  .next (s.occurIn dt wACC (fun t => t.ivClose feeder))

/-- A pulse output emits a pulse (R411). -/
def execPulseEmit (dt output : Nat) (s : State) : Host.Outcome State Fault Refusal :=
  .next (s.occurIn dt wACC (fun t => t.pulseStart output))

/-- ACC_CFG (R387). -/
def execAccCfgWrite (dt master : Nat) (value : Word) (s : State) : Host.Outcome State Fault Refusal :=
  .next ((s.elapse dt).pairWrite master (reg wACC 0x004) (fun t => t.accCfgSet master (reg wACC 0x004) value))

/-- ACC_PULSEn (R414). -/
def execAccPulseWrite (dt master output : Nat) (value : Word) (s : State) : Host.Outcome State Fault Refusal :=
  .next ((s.elapse dt).pairWrite master (reg wACC (0x010 + 4 * output))
    (fun t => t.accPulseSet master (reg wACC (0x010 + 4 * output)) output value))

/-- UWH_LO of a slot read (R386). -/
def execAccSlotRead (dt master feeder element k : Nat) (s : State) : Host.Outcome State Fault Refusal :=
  .next ((s.elapse dt).access master (reg wACC (0x400 + 0x200 * feeder + 0x80 * element + 0x10 * k)) false
    (fun t => t.slotRead feeder element k))

end Sys2Proof.Machine
end

