-- ==== Sys2Proof/Machine/Samples.lean ====
section
/-! DEFINITION. The island's sample stream: sampling and stamps, input checks, the channel processing, zero crossings
and the quantities of a line cycle (R329 to R332, R338 to R346, R350, R357). -/

namespace Sys2Proof.Machine

/-- Raw ticks between two samples: 125 µs (R332). -/
def sampleRaw : Nat := 25000

/-- The first sample instant after a raw count (R332). -/
def nextSample (r : Nat) : Nat := (r / sampleRaw + 1) * sampleRaw

/-- Code at which an input counts as clipped (R357). -/
def clipCode : Nat := 0x7F0000

/-- V of a code: a step is 0.5 V / 2²³ (R330). -/
def codeVolt (c : Int) : Rat := (c : Rat) / (2 ^ 24 : Nat)

/-- The four-tap cubic Lagrange interpolator at a delay of d samples, newest sample first (R346). -/
def lagrange (d : Rat) (l : List Rat) : Rat :=
  nth 0 l 0 * ((1 - d) * (2 - d) * (3 - d) / 6) + nth 0 l 1 * (d * (2 - d) * (3 - d) / 2)
    - nth 0 l 2 * (d * (1 - d) * (3 - d) / 2) + nth 0 l 3 * (d * (1 - d) * (2 - d) / 6)

/-- The integrator of a Rogowski channel over some samples (R345): gain G, frequency of the previous cycle in mHz. -/
def integrate (g : Rat) (freq : Nat) : ChanDsp → List Rat → List Rat × ChanDsp
  | d, [] => ([], d)
  | d, x :: r =>
    let y := 16383 / 16384 * d.y + g * (x + d.x) / 2
    let f := Config.leakFix freq d.leak y
    let t := integrate g freq { d with x := x, y := y, leak := f.1 } r
    (f.2 :: t.1, t.2)

/-- Samples through the delay and the gain in force at each stamp (R344, R346); `line` holds the three samples before
them, newest first. -/
def delayed (delay gain : Nat → Rat) : List Rat → List (Nat × Rat) → List Rat
  | _, [] => []
  | line, x :: r =>
    let l := x.2 :: line
    (gain x.1 * lagrange (delay x.1) l) :: delayed delay gain (l.take 3) r

/-- Sums over a cycle's samples of v·i and of v_h·i, with the Hilbert transformer's state (R342). -/
def phaseSums : List Rat → List (Rat × Rat) → PhaseMeas × List Rat
  | q, [] => ({ vi := 0, vhi := 0 }, q)
  | q, x :: r =>
    let h := Config.quadrature q x.1 x.2
    let t := phaseSums h.1 r
    ({ vi := t.1.vi + x.1 * x.2 / 8000, vhi := t.1.vhi + h.2 / 8000 }, t.2)

namespace State

/-! ## Channels and feeders -/

/-- Change channel n. -/
def setChan (s : State) (n : Nat) (f : Chan → Chan) : State :=
  { s with mtr := { s.mtr with chans := modAt s.mtr.chans n f } }

/-- Change the cycle state of feeder f. -/
def setFeed (s : State) (f : Nat) (g : FeedCyc → FeedCyc) : State :=
  { s with mtr := { s.mtr with feeds := modAt s.mtr.feeds f g } }

/-- A feeder uses a channel. -/
def usesChan (f : ImgFeeder) (n : Nat) : Bool := f.phases.contains n || f.volts.contains n || f.neutral == some n

/-- The feeder whose CYCLE boundary takes up a channel's fields: the lowest-numbered one it serves (R350). -/
def chanFeeder (s : State) (n : Nat) : Option Nat := (s.mtr.map.find? (fun f => usesChan f.2 n)).map (·.1)

/-- The phases of a feeder that a channel serves. -/
def chanPhases (f : ImgFeeder) (n : Nat) : List Nat :=
  (List.range f.phases.length).filter (fun i => nth 255 f.phases i == n || nth 255 f.volts i == n)

/-- The channels of a feeder. -/
def feederUses (f : ImgFeeder) : List Nat := f.phases ++ f.volts ++ f.neutral.toList

/-- SENSOR in force; 3 is off, and so is a value the channel does not allow (R374). -/
def sensor (s : State) (n : Nat) : Nat :=
  let v := s.actF wMTR (0x100 + 0x20 * n) 31 30
  if (n < 16 ∧ v < 2) ∨ (16 ≤ n ∧ v = 2) then v else 3

/-- SCALE × GAIN / 2²² × (1 + c × 10⁻⁶) of a channel; 0 when it is off (R344, R374). -/
def chanGain (s : State) (n : Nat) : Rat :=
  if s.sensor n = 3 then 0
  else
    let g := min 0x600000 (max 0x200000 (s.actF wMTR (0x108 + 0x20 * n) 23 0))
    (dec32 (s.act (reg wMTR (0x104 + 0x20 * n))).toNat).getD 0 * ((g : Rat) / (2 ^ 22 : Nat))
      * (1 + (s.chan n).corr / 1000000)

/-- DELAY of a channel in samples; values above 2,048 act as 2,048 (R346, R374). -/
def chanDelay (s : State) (n : Nat) : Rat := (min 2048 (s.actF wMTR (0x10C + 0x20 * n) 11 0) : Nat) / 1024

/-- Start-up threshold of a current channel in A (R354). -/
def startThr (s : State) (n : Nat) : Rat :=
  let t := min 9 (max 1 (s.actF wMTR (0x100 + 0x20 * n) 27 24))
  (t : Rat) * (s.actF wMTR (0x100 + 0x20 * n) 15 0 : Rat) / 100000

/-- The converter whose samples a channel takes: the spare's while it substitutes (R362, R363). -/
def converter (s : State) (n : Nat) : Nat := if (s.chan n).subst then s.spareCh.getD n else n

/-- The gain and the delay that a sample of channel n takes by its stamp (R350). -/
def gainAt (s : State) (n a : Nat) : Rat × Rat :=
  match (s.chan n).past.find? (fun p => decide (a < p.1)) with
  | some p => p.2
  | none => (s.chanGain n, s.chanDelay n)

/-- A change of what channel n's samples are processed with from stamp a on (R350): samples before it keep what they
had, as long as a feeder's cycle in progress can hold one. -/
def recal (s : State) (a n : Nat) (k : State → State) : State :=
  let t := k s
  if t.chanGain n = s.chanGain n ∧ t.chanDelay n = s.chanDelay n then t
  else
    t.setChan n (fun c => { c with
      past := (c.past.filter (fun p => s.mtr.feeds.any (fun f => match f.last with | some b => decide (b < p.1) | none => true)))
        ++ [(a, s.chanGain n, s.chanDelay n)] })

/-! ## Taking samples (R332, R335, R336, R338, R344, R357) -/

/-- Nominal period of a feeder in raw ticks. -/
def nominalRaw (i : ImgFeeder) : Rat := (200000000 : Rat) / (if i.hz60 then 60 else 50)

/-- A crossing at stamp t1 counts as a boundary: not earlier than 0.8 × the nominal period after the last one, which does
not bind the first crossing after synthesis (R339). -/
def crossingCounts (x : FeedCyc) (t1 : Nat) (img : ImgFeeder) : Bool :=
  match x.cross.getLast? with
  | some t0 => decide (4 * nominalRaw img / 5 ≤ (t1 : Rat) - t0)
  | none =>
    match x.last with
    | some t0 => decide (t0 ≤ t1) && (x.synth || decide (4 * nominalRaw img / 5 ≤ (t1 : Rat) - t0))
    | none => true

/-- The detection of one feeder takes a sample of its reference channel, after delay and gain (R338): `un` is Un in V. -/
def seeRef (x : FeedCyc) (img : ImgFeeder) (a : Nat) (v un : Rat) : FeedCyc :=
  let f := Config.lowPass x.lp v
  let y := f.2
  let low := if y < 0 ∧ un * un / 200 < y * y then some (x.lowFrom.getD a) else none
  let ok := x.lowOk || (match low with | some b => decide (b + 2 * rawMs ≤ a) | none => false)
  let z := { x with lp := f.1, prevY := some (a, y), lowFrom := low, lowOk := ok }
  match x.prevY with
  | some p =>
    if p.2 < 0 ∧ 0 ≤ y ∧ ok then
      let t1 := openNat 20 ((p.1 : Rat) + ((a : Rat) - p.1) * (-p.2) / (y - p.2) - Config.lowPassDelay)
      if crossingCounts x t1 img then { z with cross := z.cross ++ [t1], lowOk := false } else z
    else z
  | none => z

/-- A feeder takes a sample (R338, R340): its detection works on the voltage channel of phase L1 (R331). -/
def feedSample (s : State) (f : Nat) (img : ImgFeeder) (x : TakenSample) : State :=
  let ref := nth 255 img.volts 0
  let un : Rat := (s.actF wMTR (0x100 + 0x20 * ref) 15 0 : Nat) / 10
  s.setFeed f (fun c =>
    let line := (nth 0 x.xs (s.converter ref) :: c.line).take 4
    let d := seeRef c img x.at_ (s.chanGain ref * lagrange (s.chanDelay ref) line) un
    { d with line := line, buf := d.buf ++ [x] })

/-- A converter takes a code (R344, R357). -/
def chanCode (c : Chan) (code : Int) : Chan × Rat :=
  let f := Config.dcRemoval c.dc (codeVolt code)
  ({ c with code := code, run := if code = c.code then c.run + 1 else 1, dc := f.1 }, f.2)

/-- What is left of a difference to slew after a sample: at most 100 ppm of 125 µs, 12.5 ns (R336). -/
def slewed (q : Rat) : Rat := if q < 0 then min 0 (q + 25 / 2) else max 0 (q - 25 / 2)

/-- The island takes a sample of all 20 channels (R332): it is stamped with the island's count, which advances by one
sample period whatever the synchronisation does (R335). -/
def takeSample (s : State) (codes : List Int) : State :=
  let r := (numbered s.mtr.chans).map (fun (c : Nat × Chan) => chanCode c.2 (nth 0 codes c.1))
  let x : TakenSample :=
    { at_ := s.mtr.stamp, hold := s.mtr.sync != .locked, xs := r.map Prod.snd,
      clips := (List.range 20).filter (fun n => decide (clipCode ≤ (nth 0 codes n).natAbs)) }
  let a := { s with mtr := { s.mtr with
    chans := r.map Prod.fst, stamp := s.mtr.stamp + sampleRaw, lag := slewed s.mtr.lag } }
  a.mtr.map.foldl (fun t (f : Nat × ImgFeeder) => t.feedSample f.1 f.2 x) a

/-- The island takes the samples that have been converted since the last ones: while its count is the die's, none whose
instant has not come (R332). -/
def takeSamples (s : State) : List (List Int) → State
  | [] => s
  | c :: r =>
    if s.mtr.powered && sampleOk c && (s.mtr.restarted || decide (s.mtr.stamp ≤ s.raw)) then (s.takeSample c).takeSamples r else s

/-! ## The quantities of a cycle (R340, R342, R344 to R346) -/

/-- What the samples of a cycle give: its phases, its channels, the processing state at its end, and whether a sample
carries HOLDOVER (R342, R343). -/
structure CycMeas where
  phases : List PhaseMeas
  chans : List ChanMeas
  dsp : List (Nat × ChanDsp)
  quad : List (Nat × List Rat)
  hold : Bool
  deriving DecidableEq, Repr

/-- The values of channel n over a cycle's samples in primary units, and its processing state at the end (R344). -/
def chanRun (s : State) (f n : Nat) (img : ImgFeeder) (l : List TakenSample) : List Rat × ChanDsp :=
  let d := tabGetD { x := 0, y := 0, leak := [], line := [] } (s.feed f).dsp n
  let xs := l.map (fun x => nth 0 x.xs (s.converter n))
  let r := if s.sensor n = 1 then integrate (rogowskiGain img.hz60) (s.feed f).freq d xs else (xs, d)
  (delayed (fun a => (s.gainAt n a).2) (fun a => (s.gainAt n a).1) d.line ((l.map TakenSample.at_).zip r.1),
    { r.2 with line := (r.1.reverse ++ d.line).take 3 })

/-- The samples of the cycle of feeder f that ends at stamp t1: those before it (R14, R340). -/
def cycSamples (s : State) (f t1 : Nat) : List TakenSample := (s.feed f).buf.filter (fun x => decide (x.at_ < t1))

/-- The mean square of a channel over a cycle (R342). -/
def meanSquare (l : List Rat) : Rat := if l = [] then 0 else ratSum (l.map (fun x => x * x)) / l.length

/-- The quantities of the cycle of feeder f that ends at stamp t1. -/
def cycMeas (s : State) (f t1 : Nat) (img : ImgFeeder) : CycMeas :=
  let l := s.cycSamples f t1
  let runs := (feederUses img).map (fun n => (n, s.chanRun f n img l))
  let value := fun n => (tabGetD ([], { x := 0, y := 0, leak := [], line := [] }) runs n).1
  let ph := (List.range img.phases.length).map (fun i =>
    (i, phaseSums (tabGetD [] (s.feed f).quad i) ((value (nth 255 img.volts i)).zip (value (nth 255 img.phases i)))))
  { phases := ph.map (fun p => p.2.1),
    chans := runs.map (fun r =>
      { ch := r.1, meanSq := meanSquare r.2.1, clip := l.any (fun x => x.clips.contains (s.converter r.1)) }),
    dsp := runs.map (fun r => (r.1, r.2.2)),
    quad := ph.map (fun p => (p.1, p.2.2)),
    hold := l.any (fun x => x.hold) }

/-- The samples and the processing state that the next cycle of feeder f begins with (R340). -/
def cycTaken (s : State) (f t1 : Nat) (m : CycMeas) : State :=
  s.setFeed f (fun x => { x with
    buf := x.buf.filter (fun v => decide (t1 ≤ v.at_)), dsp := m.dsp, quad := m.quad })

end State

end Sys2Proof.Machine
end

