-- ==== Sys2Proof/Machine/Recorder.lean ====
section
/-! DEFINITION. The recorder's writer, its commands and its behaviour at starts (R622 to R642). -/

namespace Sys2Proof.Machine

namespace State

/-! ## The writer (R632, R633) -/

/-- The writer can start a record: a RECORDER section is loaded, no record is in progress and a credit is
there. -/
def writerReady (s : State) : Bool := s.evr.cfg.isSome && s.evr.writing.isNone && decide (1 ≤ s.creditNow)

/-- A record starts, at the cost of one credit. -/
def writerStart (s : State) (e : RecEntry) : State :=
  { s with evr := { s.evr with writing := some e, credit := s.creditNow - 1, creditAt := s.raw } }

/-- The writer takes the oldest entry of the Weir (R632). -/
def writerTake (s : State) : State :=
  match s.evr.weir with
  | e :: r => if s.writerReady then let t := s.writerStart e; { t with evr := { t.evr with weir := r } } else s
  | [] => s

/-- The record in progress is committed (R626). -/
def writerCommit (s : State) : State :=
  match s.evr.writing with
  | some e => s.recStore e
  | none => s

/-- A GAP record (R623). -/
def gapEntry (s : State) (n lost r0 r1 e0 e1 : Nat) : RecEntry :=
  { kind := 3, source := n, code := 0, flags := 0, stamp := s.stamp, cyc := s.cyc, resv := false,
    payload := leBytes 4 lost ++ leBytes 8 r0 ++ leBytes 8 r1 ++ leBytes 2 e0 ++ leBytes 2 e1 }

/-- With the Weir empty, a GAP record starts for the lowest-numbered source with pending losses (R633). -/
def writerGap (s : State) : State :=
  match s.evr.weir, s.evr.gaps with
  | [], (n, g) :: r =>
    if s.writerReady then
      let t := s.writerStart (s.gapEntry n g.lost g.firstRaw g.lastRaw g.firstEpoch g.lastEpoch)
      { t with evr := { t.evr with gaps := r } }
    else s
  | _, _ => s

/-! ## Commands (R635, R640, R646) -/

/-- Words of the tally window (R648). -/
def tallyWords (t : Tally) : List Word :=
  ([t.count, t.min, t.max, half64 false t.minRaw, half64 true t.minRaw, half64 false t.maxRaw, half64 true t.maxRaw,
    two16 t.maxEpoch t.minEpoch] ++ t.bins ++ List.replicate 8 0).map (BitVec.ofNat 32)

/-- A REC_CMD command ends with a code (R646). -/
def recCmdEnd (s : State) (code : Nat) : State :=
  ({ s with evr := { s.evr with cmdCode := code } }).postBit wREC 1

/-- REC_CMD DUMP (R635, R646). -/
def recDumpCmd (s : State) (n : Nat) : State :=
  if s.recCfg.snapshot then s.recCmdEnd 1
  else if (s.weirRoom n).isNone then s.recCmdEnd 2
  else
    (s.weirAdmit
      { kind := 4, source := n, code := 0, flags := 0, stamp := s.stamp, cyc := s.cyc, resv := false,
        payload := ((tallyWords (s.tally n)).take 24).flatMap (fun w => leBytes 4 w.toNat) }).recCmdEnd 0

/-- REC_CMD SOFT (R619, R646). -/
def recSoftCmd (s : State) (n : Nat) : State :=
  match s.recSource n with
  | some c => if c.trig = 1 ∧ s.isRunning tRECSRC n then (s.trigger n).recCmdEnd 0 else s.recCmdEnd 3
  | none => s.recCmdEnd 3

/-- A write to REC_TSEL latches a tally and, with CLEAR, zeroes it (R640). -/
def recTsel (s : State) (v : Word) : State :=
  let n := fld v 5 0
  let t := s.setCfg (reg wREC 0x024) (v &&& 0x8000003F)
  { t with evr := { t.evr with
      twin := tallyWords (s.tally n),
      tallies := if bit v 31 then tabDel t.evr.tallies n else t.evr.tallies } }

/-- A write to an edge register (R641): refused unless every handle whose source uses the set is STOPPED. -/
def recEdgeWrite (s : State) (master addr a : Nat) (v : Word) : State :=
  let e := (a - reg wREC 0x600) / 0x40
  let users := (s.recCfg.sources.filter (fun c => c.edgeSet == e)).map (·.num)
  if users.all (fun n => s.isStopped tRECSRC n) then
    let t := s.setCfg a v
    if s.cfg a = v then t
    else { t with evr := { t.evr with edgeDirty := t.evr.edgeDirty ++ users.map (fun n => (n, e)) } }
  else s.lockedWrite master addr v true

/-- A source's handle starts: its bins are zeroed when its edge set has changed since its last START
(R641). -/
def recSrcStart (s : State) (n : Nat) : State :=
  if s.evr.edgeDirty.any (fun x => x.1 == n) then
    let t := s.tally n
    { s with evr := { s.evr with
        edgeDirty := s.evr.edgeDirty.filter (fun x => x.1 != n),
        tallies := tabPut tallyZero s.evr.tallies n { t with bins := List.replicate 16 0 } } }
  else s

/-! ## Resets and starts (R637, R638) -/

/-- A record in progress is cut at the end of a page pulse: how many payload pages then hold its bytes is
open (R637). -/
def recTear (s : State) : State :=
  match s.evr.writing with
  | some e =>
    let n := s.evr.next
    let b := recBytes n e
    let p := pagesOf b.length
    let k := Config.freeNat 12 s.freeCtr % p
    ({ s with evr := { s.evr with
        ring := tabSet s.evr.ring (n % s.recN) (writePages (s.recSlot (n % s.recN)) n 1 (1 + k) b),
        writing := none } }).fresh
  | none => s

/-- The Weir's entries are lost, and their count goes to the backup domain (R637). -/
def recDiscard (s : State) : State :=
  { s with evr := { s.evr with backupWord := s.evr.backupWord + s.evr.weir.length, weir := [] } }

/-- The recorder's own state at an L1 or L2 start: counters, gaps, tallies and credit (R632, R642, R650). -/
def recClear (s : State) : State :=
  { s with evr := { s.evr with
      weirMax := 0, credit := 64, creditAt := s.raw, lost := [], gaps := [], tallies := [],
      twin := List.replicate 32 0, edgeDirty := [], cmdCode := 0 } }

/-- The START record of an L0, L1 or L2 start, and the GAP record after a loss (R638). -/
def recStart (s : State) (level : Nat) : State :=
  let n := s.evr.next
  let slot := s.recSlot (n % s.recN)
  let whole := slotCrcOk slot
  let held := whole && fieldLE slot 0 8 == n
  let disc := if level = 0 then 0 else s.evr.backupWord
  let torn := if whole then 0 else 1
  let a := { s with evr := { s.evr with next := if held then n + 1 else n, backupWord := 0 } }
  let b := a.recStore
    { kind := 6, source := 0xFF, code := 0, flags := 0, stamp := s.stamp, cyc := s.cyc, resv := false,
      payload := leBytes 4 disc ++ leBytes 1 torn ++ leBytes 1 level ++ leBytes 2 0 }
  if torn = 1 ∨ disc ≠ 0 then
    (({ b with evr := { b.evr with credit := b.evr.credit - 1 } }).recStore
      (b.gapEntry 0xFF disc 0 0 0 0)).postBit wREC 5
  else b

end State

/-! ## Meanings -/

/-- The writer starts the next record (R632). -/
def execWeirWriterStart (dt : Nat) (s : State) : Host.Outcome State Fault Refusal :=
  .next (s.occurIn dt wREC State.writerTake)

/-- The record in progress is committed (R626). -/
def execRecordCommit (dt : Nat) (s : State) : Host.Outcome State Fault Refusal :=
  .next (s.occurIn dt wREC State.writerCommit)

/-- A GAP record starts (R633). -/
def execGapRecord (dt : Nat) (s : State) : Host.Outcome State Fault Refusal :=
  .next (s.occurIn dt wREC State.writerGap)

/-- REC_CMD DUMP (R646). -/
def execRecDump (dt master source : Nat) (s : State) : Host.Outcome State Fault Refusal :=
  .next ((s.elapse dt).access master (reg wREC 0x014) true (fun t => t.recDumpCmd (source % 64)))

/-- REC_CMD SOFT (R619). -/
def execRecSoft (dt master source : Nat) (s : State) : Host.Outcome State Fault Refusal :=
  .next ((s.elapse dt).access master (reg wREC 0x014) true (fun t => t.recSoftCmd (source % 64)))

/-- REC_TSEL written (R640). -/
def execRecTselWrite (dt master : Nat) (value : Word) (s : State) : Host.Outcome State Fault Refusal :=
  .next ((s.elapse dt).access master (reg wREC 0x024) true (fun t => t.recTsel value))

end Sys2Proof.Machine
end

