-- ==== Sys2Proof/Machine/Verge.lean ====
section
/-! DEFINITION. The integrity unit: scrubbing, lockstep, clock monitors, the system watchdog, the parity
scanner, and the Verge, which holds the spare capacity (R113 to R122, R751 to R773). -/

namespace Sys2Proof.Machine

namespace State

/-- The recorder event of R756, written past the Weir: block window, address where one applies, cause. -/
def integrityRecord (s : State) (w : Nat) (addr : Option Nat) (cause : Nat) : State :=
  let items := [iIndex w] ++ (match addr with | some a => [iAddr a] | none => []) ++ [iCause cause]
  s.recBypass 1 79 (wFLT * 256 + 0xFF) (placeItems [] items).1

/-! ## Pools of the Verge (R761) -/

/-- The pools: 0 sink controllers, 1 converters, 2 transceivers, 3 SRAM rows, 4 MRAM sectors. -/
def spareLeft (s : State) (pool : Nat) : Nat :=
  match pool with
  | 0 => ((List.range 8).filter (fun g => s.groupEnabled g && s.spareCode g == 0xF)).length
  | 1 => if s.mtr.spare == .idle ∨ s.mtr.spare == .refCheck ∨ s.mtr.spare == .checking then 1 else 0
  | 2 => if s.lne.spare == .free ∨ s.lne.spare == .selftest ∨ s.lne.spare == .rxtest then 1 else 0
  | 3 => 184 - s.flt.rows.length
  | _ => 64 - s.flt.sectors.length

/-- The recorder event of a substitution, release or retest (R767). -/
def vergeEvent (s : State) (subst : Bool) (pool elem spare cause : Nat) : State :=
  let items := [iIndex pool, iIndex elem, iIndex spare, iCause cause, iNumber (s.spareLeft pool)]
  if subst then s.postEvent wFLT 3 items else s.event wFLT none items

/-- A trigger finds the pool empty (R764). -/
def poolEmpty (s : State) : State := s.postBit wFLT 5

/-- The spares of the SRAM or MRAM pool fall to one quarter (R766). -/
def poolLow (s : State) : State :=
  let a :=
    if s.spareLeft 3 ≤ 46 ∧ !s.flt.sramLow then
      { s with flt := { s.flt with sramLow := true } }.postEvent wFLT 4 [iIndex 3, iNumber (s.spareLeft 3)]
    else s
  if a.spareLeft 4 ≤ 16 ∧ !a.flt.mramLow then
    { a with flt := { a.flt with mramLow := true } }.postEvent wFLT 4 [iIndex 4, iNumber (a.spareLeft 4)]
  else a

/-- CE_LIMIT in force; 0 acts as 1 (R771). -/
def ceLimit (s : State) : Nat := max 1 (s.cfgF wFLT 0x040 3 0)

/-- A row of on-chip SRAM is served by the next spare row (R762). -/
def rowSubst (s : State) (row cause : Nat) : State :=
  let n := s.flt.rows.length
  if 184 ≤ n then s.poolEmpty
  else
    ({ s with flt := { s.flt with
        rows := s.flt.rows ++ [(row, n)], rowCnt := tabDel s.flt.rowCnt row } }.vergeEvent true 3 row n cause).poolLow

/-- A sector copy is to run: at once, or after the one in progress (R763, R764). -/
def sectorCopy (s : State) (sec : Nat) : State :=
  if s.flt.copying.contains sec then s
  else if 64 ≤ s.flt.sectors.length + s.flt.copying.length then s.poolEmpty
  else { s with flt := { s.flt with copying := s.flt.copying ++ [sec] } }

/-- The sector copy in progress ends and its remap is committed (R763). -/
def sectorCommit (s : State) : State :=
  match s.flt.copying with
  | [] => s
  | sec :: r =>
    let n := s.flt.sectors.length
    ({ s with flt := { s.flt with
        copying := r, sectors := s.flt.sectors ++ [(sec, n)], secCnt := tabDel s.flt.secCnt sec } }.vergeEvent true 4
      sec n 0).poolLow

/-- FLT_ECCADDR and FLT_ECCINFO take the last error (R770). -/
def eccNote (s : State) (mram ue scrub : Bool) (addr : Nat) : State :=
  { s with flt := { s.flt with
      eccAddr := addr, eccMram := mram, eccUe := ue, eccScrub := scrub,
      eccCount := if ue then s.flt.eccCount else sat 16 (s.flt.eccCount + 1) } }

/-- A corrected error: counted by row or sector, which is substituted at the limit (R762, R763). -/
def corrected (s : State) (mram : Bool) (addr : Nat) : State :=
  let a := (s.eccNote mram false true addr).postBit wFLT (if mram then 1 else 0)
  if mram then
    let k := addr / 4096
    let n := tabGetD 0 a.flt.secCnt k + 1
    let b := { a with flt := { a.flt with secCnt := tabSet a.flt.secCnt k n } }
    if s.ceLimit ≤ n then b.sectorCopy k else b
  else
    let k := (addr - 0x20000000) / 1024
    let n := tabGetD 0 a.flt.rowCnt k + 1
    let b := { a with flt := { a.flt with rowCnt := tabSet a.flt.rowCnt k n } }
    if s.ceLimit ≤ n then b.rowSubst k 0 else b

/-- FLT_VERGERES takes a code, and the command has completed (R769, R773). -/
def vergeDone (s : State) (code : Nat) : State :=
  { s with flt := { s.flt with code := code } }.postBit wFLT 6

/-- Number of elements of a KIND of FLT_VERGECMD (R773). -/
def vergeSize (kind : Nat) : Nat :=
  match kind with
  | 0 => 56 | 1 => 20 | 2 => 5 | _ => 0

/-- The element is retired (R764). -/
def retired (s : State) (kind index : Nat) : Bool :=
  match kind with
  | 0 => s.flt.sinkRet.contains index
  | 1 => s.flt.convRet.contains index
  | _ => s.flt.xcvrRet.contains index

/-- A command of the Verge is in progress (R773): a release that waits for its PERIOD boundary. -/
def vergeBusy (s : State) : Bool := s.mst.groups.any (fun g => g.releaseDue.isSome)

/-- RETEST of a retired element (R765). -/
def vergeTest (s : State) (kind index : Nat) (pass : Bool) : State :=
  if s.vergeBusy then s.vergeDone 4
  else if vergeSize kind ≤ index then s.vergeDone 3
  else if !s.retired kind index then s.vergeDone 2
  else if !pass then (s.vergeEvent false kind index 0 1).vergeDone 1
  else
    let f := s.flt
    let g : FltUnit :=
      match kind with
      | 0 => { f with sinkRet := without f.sinkRet index }
      | 1 => { f with convRet := without f.convRet index }
      | _ => { f with xcvrRet := without f.xcvrRet index }
    ({ s with flt := g }.vergeEvent false kind index 0 0).vergeDone 0

/-- RELEASE of a sink: at the next PERIOD boundary of its group (R765). -/
def vergeFree (s : State) (kind index : Nat) : State :=
  if s.vergeBusy then s.vergeDone 4
  else if kind ≠ 0 ∨ 56 ≤ index then s.vergeDone 3
  else if !s.flt.sinkSub.contains index then s.vergeDone 2
  else
    { s with mst := { s.mst with
        groups := modAt s.mst.groups (index / 7) (fun g => { g with releaseDue := some (index % 7) }) } }

/-! ## Parity (R113 to R122) -/

/-- The first-image address of a block in a window names a configuration register (R113, R219). -/
def isConfig (s : State) (a : Nat) : Bool := (regInfo s.sys.fuses (s.storedKey a)).isSome

/-- Stored bits of a configuration register change by themselves: a word and its parity bits in one of its copies
(R113). -/
def corruptWord (s : State) (c : Corrupt) : State :=
  let k := s.storedKey (firstAddr c.addr)
  let w : PWord := { value := c.value, par := c.parity % 16 }
  if s.isConfig (firstAddr c.addr) ∧ (windowOf c.addr).any s.blockOn then
    if c.active then s.putAct k w
    else
      let t := s.putCfg k w
      { t with regs := { t.regs with
          cfg := { t.regs.cfg with wroteAt := s.regs.cfg.wroteAt, wrote := s.regs.cfg.wrote },
          changed := t.regs.changed.map (fun x => if x.key = k ∧ x.word = s.cfg k then { x with word := c.value } else x) } }
  else s

/-- The block of a stored word is scanned: out of reset and enabled (R115). -/
def scanned (s : State) (a : Nat) : Bool := (windowOf (shownAt a)).any s.blockOn

/-- The registers of which a scan finds a byte in some copy to mismatch, with the word found: `again` for those
whose first result was discarded, since a write fell in the cycle of the check (R115, R116). -/
def scanFinds (s : State) (again : Bool) : List (Nat × PWord) :=
  (s.regs.cfg.words ++ s.regs.act).filter (fun x =>
    x.2.bad && s.scanned x.1 && (again == (s.regs.cfg.wroteAt == s.cyc && s.regs.cfg.wrote.contains x.1)))

/-- What the armed test of FLT_PARTEST finds in this scan: the register that it names, with the bits as they stand
(R118, R121). One whose block is held in reset or not enabled is not scanned: the test waits, armed (DESIGN CHOICE: log
entry 62). -/
def testFinds (s : State) : List (Nat × PWord) :=
  let r := s.cfg (reg wFLT 0x080)
  let a := reg (fld r 23 16) (fld r 15 0)
  if bit r 31 ∧ s.isConfig a ∧ s.blockOn (fld r 23 16) then [(s.storedKey a, s.cfgWord (s.storedKey a))] else []

/-- ARM after a scan period: cleared where the test has fired (DESIGN CHOICE: log entry 62), and after one full period
where it names no configuration register (R122). -/
def testEnd (s : State) : State :=
  let r := s.cfg (reg wFLT 0x080)
  let disarm := fun t : State => t.setCfg (reg wFLT 0x080) (r &&& 0x7FFFFFFF)
  if !bit r 31 then s
  else if s.isConfig (reg (fld r 23 16) (fld r 15 0)) then (if s.testFinds = [] then s else disarm s)
  else if s.regs.partestSeen then disarm { s with regs := { s.regs with partestSeen := false } }
  else { s with regs := { s.regs with partestSeen := true } }

/-- One scan period: what the checks and the armed test find, in the order of the registers, and then the registers
checked again (R115, R116, R118, R121). -/
def parityScan (s : State) : State :=
  let l := sortBy (fun x => shownAt x.1) (s.scanFinds false ++ s.testFinds) ++ s.scanFinds true
  l.foldl (fun t x => t.parityFault (shownAt x.1) x.2) s.testEnd

/-! ## Clock monitors (R758) -/

/-- Blocks on a clock outside the mandatory ones: ETH 6, USB 7 (R758). -/
def clockBlocks (clock : Nat) : List Nat :=
  match clock with
  | 6 => [wETH0, wETH1]
  | 7 => [wUSB]
  | _ => []

/-- A block is held in reset for its clock: SYS_CLKINFO, CLK_FAIL and a recorder event (R758). -/
def clockLost (s : State) (w : Nat) : State :=
  if s.blockOn w then
    ({ s with sys := { s.sys with clkFail := setAdd s.sys.clkFail w } }).postEvent wSYS 4 [iIndex w]
  else s

/-- A completed pair to FLT_WDTKICK: a KICK of 1 restarts the period, and PERIOD is taken up (R759). -/
def wdtKick (s : State) (v : Word) : State :=
  let t := s.setCfg (reg wFLT 0x014) (v &&& 1)
  if bit v 0 ∧ t.sys.wdtAt.isSome then
    { t with sys := { t.sys with wdtAt := some t.raw, wdtPeriod := min 600 (max 1 (t.cfgF wFLT 0x010 9 0)) } }
  else t

/-- A completed pair to FLT_PARTEST (R121). -/
def partestArm (s : State) (v : Word) : State :=
  { s with regs := { s.regs with partestSeen := false } }.setCfg (reg wFLT 0x080) (v &&& 0x80FFFFFF)

end State

open State

/-- SCRUB (R755, R762, R763): a corrected error of on-chip SRAM or MRAM. -/
def execScrub (dt : Nat) (mram : Bool) (addr : Nat) (error : Bool) (s : State) : Host.Outcome State Fault Refusal :=
  .next (s.occurIn dt wFLT (fun t =>
    if error ∧ (if mram then addr < 0x1000000 else inSram addr) then t.corrected mram addr else t))

/-- SRAM_UNCORRECTABLE (R754, R756, R762). -/
def execSramUncorrectable (dt addr : Nat) (scrub : Bool) (s : State) : Host.Outcome State Fault Refusal :=
  .next (s.occurIn dt wFLT (fun t =>
    if inSram addr then
      let a := t.eccNote false true scrub addr
      let b := { a with flt := { a.flt with ueRow := some ((addr - 0x20000000) / 1024) } }
      (b.integrityRecord wFLT (some addr) 7).raiseReset 7
    else t))

/-- MRAM_ERROR (R754, R763). -/
def execMramError (dt addr : Nat) (uncorrectable scrub : Bool) (s : State) : Host.Outcome State Fault Refusal :=
  .next (s.occurIn dt wFLT (fun t =>
    if addr < 0x1000000 then
      let a := if uncorrectable then t.eccNote true true scrub addr else t
      (a.postBit wFLT 2).sectorCopy (addr / 4096)
    else t))

/-- MRAM_REMAP_COMMIT (R763). -/
def execMramRemapCommit (dt : Nat) (s : State) : Host.Outcome State Fault Refusal :=
  .next (s.occurIn dt wFLT (fun t => t.sectorCommit))

/-- LOCKSTEP_MISMATCH (R756, R757). -/
def execLockstepMismatch (dt win : Nat) (s : State) : Host.Outcome State Fault Refusal :=
  .next (s.occurIn dt wFLT (fun t =>
    if [wSYS, wSCN, wWAV, wLNE, wQDM, wTBS, wKEY].contains win then
      let a := { t with sys := { t.sys with blocked := setAdd t.sys.blocked win } }
      (a.integrityRecord win none 8).raiseReset 8
    else t))

/-- CLOCK_MONITOR_FAULT (R758): clocks 0 REF, 1 SYS, 2 TB, 3 SECM, 4 HOST, 5 output-hold, 6 ETH, 7 USB. -/
def execClockMonitorFault (dt clock : Nat) (s : State) : Host.Outcome State Fault Refusal :=
  .next (s.occur dt (fun t =>
    if clock ≤ 5 then t.raiseReset 9 else (clockBlocks clock).foldl (fun u w => u.clockLost w) t))

/-- SECMON_FAULT (R754, R756): the security monitor's watchdog (0) or ROM self-check (1) fails. -/
def execSecmonFault (dt cause : Nat) (s : State) : Host.Outcome State Fault Refusal :=
  .next (s.occurIn dt wKEY (fun t => (t.integrityRecord wKEY none cause).raiseReset 10))

/-- FLT_WDTKICK (R759): a KICK of 1 restarts the period, and PERIOD is taken up. -/
def execFltWdtkick (dt master : Nat) (value : Word) (s : State) : Host.Outcome State Fault Refusal :=
  .next ((s.elapse dt).pairWrite master (reg wFLT 0x014) (fun t => t.wdtKick value))

/-- FLT_VERGECMD RETEST (R765). -/
def execVergeRetest (dt master kind index : Nat) (pass : Bool) (s : State) : Host.Outcome State Fault Refusal :=
  .next ((s.elapse dt).pairWrite master (reg wFLT 0x054) (fun t =>
    (t.setCfg (reg wFLT 0x054) (BitVec.ofNat 32 (2 ^ 28 + kind % 4 * 256 + index % 64))).vergeTest (kind % 4)
      (index % 64) pass))

/-- FLT_VERGECMD RELEASE (R765). -/
def execVergeRelease (dt master kind index : Nat) (s : State) : Host.Outcome State Fault Refusal :=
  .next ((s.elapse dt).pairWrite master (reg wFLT 0x054) (fun t =>
    (t.setCfg (reg wFLT 0x054) (BitVec.ofNat 32 (2 * 2 ^ 28 + kind % 4 * 256 + index % 64))).vergeFree (kind % 4)
      (index % 64)))

/-- FLT_PARTEST (R121). -/
def execFltPartest (dt master : Nat) (value : Word) (s : State) : Host.Outcome State Fault Refusal :=
  .next ((s.elapse dt).pairWrite master (reg wFLT 0x080) (fun t => t.partestArm value))

/-- PARITY_SCAN (R115 to R118, R121, R122): one 1 ms period, with a corruption of a stored word in it or none; a
late one comes after the register's check, and the next scan or copy finds it. -/
def execParityScan (dt : Nat) (corrupt : Option Corrupt) (s : State) : Host.Outcome State Fault Refusal :=
  .next (s.occurIn dt wFLT (fun t =>
    match corrupt with
    | some c => if c.late then t.parityScan.corruptWord c else (t.corruptWord c).parityScan
    | none => t.parityScan))

end Sys2Proof.Machine
end

