-- ==== Sys2Proof/Machine/Metering.lean ====
section
/-! DEFINITION. The metering island: line cycles and their results, synchronisation, temperature, self-check, the spare
channel and the seal (R329 to R376). -/

namespace Sys2Proof.Machine

namespace State

/-- The die's side of an occurrence in the island: nothing while the MTR block is held in reset. -/
def onDie (s : State) (k : State → State) : State := if s.powered && s.blockOn wMTR then k s else s

/-! ## Take-up of calibration fields (R345, R350, R351) -/

/-- A channel's fields are taken up at a boundary in fabric cycle c, stamp a; a change of SENSOR to Rogowski starts the
settling, and one away from it ends it. -/
def takeUpChan (s : State) (c a n : Nat) : State :=
  let old := s.sensor n
  let t := s.recal a n (fun u => u.copyDomain c (.chan n))
  if t.sensor n = old then t
  else t.setChan n (fun x => { x with settleTo := if t.sensor n = 1 then some (a + 10 * rawS) else none })

/-- The channels of a feeder whose boundary takes them up. -/
def feederChans (s : State) (f : Nat) : List Nat := (List.range 20).filter (fun n => s.chanFeeder n == some f)

/-- The take-up of a CYCLE boundary's channel fields. -/
def takeUpFeeder (s : State) (f c a : Nat) : State := (s.feederChans f).foldl (fun t n => t.takeUpChan c a n) s

/-! ## Temperature (R347, R348) -/

/-- The correction of a channel at a temperature, in ppm (R347). -/
def corrAt (s : State) (n : Nat) (t : Rat) : Rat :=
  let x := min 110 (max (-40) t)
  let y := (x + 40) / 10
  let i := min 14 y.floor.toNat
  let p := fun k : Nat => (signed 16 (s.actF wMTR (0x400 + 0x20 * n + 4 * (k / 2)) (16 * (k % 2) + 15) (16 * (k % 2))) : Rat)
  p i + (p (i + 1) - p i) * (y - i)

/-- The correction of a list of channels is set from the last average, for the samples from stamp a on. -/
def setCorr (s : State) (a : Nat) (l : List Nat) : State :=
  match s.mtr.temp with
  | some t => l.foldl (fun u n => u.recal a n (fun v => v.setChan n (fun c => { c with corr := s.corrAt n t }))) s
  | none => s

/-- A temperature average completes, or none does in 2 s (R347, R348, R357). -/
def tempAverage (s : State) (t : Option Rat) : State :=
  let ok := match t with | some x => decide (-50 ≤ x ∧ x ≤ 150) | none => false
  if ok then
    let a := { s with mtr := { s.mtr with
      temp := t, tempValid := true, feeds := s.mtr.feeds.map (fun (f : FeedCyc) => { f with tempDue := true }) } }
    a.setCorr s.mtr.stamp ((List.range 20).filter (fun n => (s.chanFeeder n).isNone))
  else
    ({ s with mtr := { s.mtr with temp := (match t with | some x => some x | none => s.mtr.temp), tempValid := false } }).onDie
      (fun u => u.postEvent wMTR 2 (match t with | some x => [iMeas x] | none => []))

/-! ## The spare (R358 to R366) -/

/-- The spare exists, is usable and serves no channel (R363, R365). -/
def spareFree (s : State) : Bool :=
  s.spareCh.isSome && (s.mtr.spare == .idle || s.mtr.spare == .refCheck || s.mtr.spare == .checking)
    && !s.mtr.feeds.any (fun f => f.substDue.isSome || f.substReady.isSome)

/-- An MTR_ISLCTL command completes (R368, R371). -/
def islDone (s : State) (code : Nat) : State :=
  { s with mtr := { s.mtr with cmdCode := code, cmdPend := false } }.postBit wMTR 12

/-- An MTR_ISLCTL command while another waits is refused; the one that waits goes on (R371). -/
def islBusy (s : State) : State := { s with mtr := { s.mtr with cmdCode := 5 } }.postBit wMTR 12

/-- A command that waited for a CYCLE boundary completes. -/
def islPendDone (s : State) : State := if s.mtr.cmdPend then s.islDone 0 else s

/-- The spare's samples replace channel n's: R364, and the retirement of the converter (R764, R767). A channel that had
failed is served again (R376); the cycle in progress of another feeder that shares a voltage channel is the last one
estimated (R363). -/
def substitute (s : State) (n cause : Nat) : State :=
  let a := (s.setChan n (fun c => { c with subst := true, chfail := false }))
  let b := { a with mtr := { a.mtr with
    spare := .substituting, spareTarget := n, repeating := false,
    feeds := a.mtr.feeds.map (fun (f : FeedCyc) => { f with
      est := f.est.map (fun (e : Nat × Nat) => (e.1, min e.2 1)),
      substDue := if f.substDue = some n then none else f.substDue,
      substReady := if f.substReady = some n then none else f.substReady }) } }
  let c := { b with flt := { b.flt with convRet := setAdd b.flt.convRet n, convSub := some n } }
  ((c.onDie (fun u => u.postEvent wMTR 9 [iIndex n])).vergeEvent true 1 n (s.spareCh.getD 0x1F) cause).islPendDone

/-- A substitution of channel n begins; it takes effect at a CYCLE boundary of its feeder, or at once when it
has none (R362, R363). -/
def substBegin (s : State) (n : Nat) (stuck : Bool) : State :=
  match s.chanFeeder n with
  | some f =>
    let a := s.setFeed f (fun x => { x with substDue := some n })
    if stuck then
      { a with mtr := { a.mtr with feeds := (numbered a.mtr.feeds).map (fun x =>
          match tabGet s.mtr.map x.1 with
          | some i => { x.2 with est := x.2.est ++ (chanPhases i n).map (fun p => (p, 3)) }
          | none => x.2) } }
    else a
  | none => s.substitute n (if stuck then 0 else 1)

/-- Channel n fails with no spare: its phases carry CHFAIL, and its METER handle is faulted (R365, R764). -/
def chanFails (s : State) (n : Nat) : State :=
  let a := (s.setChan n (fun c => { c with chfail := true })).poolEmpty
  if n < 16 then a.faultHandle tMETER n else a

/-- A channel is checked in a round: MTR_CHECKMASK in force names it, and it is neither the spare nor substituted nor
failed (R359, R369). -/
def roundChan (s : State) (n : Nat) : Bool :=
  bit (s.act (reg wMTR 0x008)) n && s.spareCh != some n && !(s.chan n).subst && !(s.chan n).chfail

/-- The next channel of the round, or its end (R359, R366). -/
def roundNext (s : State) : State :=
  match s.mtr.todo.dropWhile (fun n => !s.roundChan n) with
  | n :: r => { s with mtr := { s.mtr with spare := .checking, spareTarget := n, todo := r, repeating := false } }
  | [] => { s with mtr := { s.mtr with
      spare := .idle, spareTarget := 0, rounds := (s.mtr.rounds + 1) % 256, todo := [], repeating := false,
      confirmed := [] } }

/-- The channels a round goes through, in ascending order (R359). -/
def roundChans : List Nat := List.range 20

/-- The spare becomes unusable, and its round ends. -/
def spareBad (s : State) : State :=
  { s with mtr := { s.mtr with spare := .unusable, spareTarget := 0, todo := [], repeating := false, confirmed := [] } }

/-- The rms of the internal reference, 0.3000 V peak, in V (R358). -/
def refRms : Rat := sqrtRat (9 / 200)

/-- A round begins: the reference is applied to the spare for 1 s (R358). -/
def refBegin (s : State) : State :=
  { s with mtr := { s.mtr with spare := .refCheck, spareTarget := 0, refAt := s.raw } }

/-- The reference check of a round ends (R358): the deviation is a fraction. The spare's registers report it (R376; log
entry 68). -/
def refChecked (s : State) (dev : Rat) : State :=
  let n := s.spareCh.getD 31
  let bad := decide (absRat dev > 1 / 2000)
  let a := s.setChan n (fun c => { c with
    gainDev := roundOpen 17 (dev * 100000), phaseDev := 0, rms := BitVec.ofNat 32 (enc32 (refRms * (1 + dev))),
    deviation := bad, clip := false, noload := false })
  if bad then a.spareBad.onDie (fun u => u.postBit wMTR 10)
  else { a with mtr := { a.mtr with todo := roundChans, confirmed := [] } }.roundNext

/-- A deviation of channel n is confirmed (R360 to R362). -/
def devConfirmed (s : State) (n : Nat) (gain phase : Int) : State :=
  let l := s.mtr.confirmed ++ [(n, decide (0 ≤ gain))]
  let a := ({ s with mtr := { s.mtr with confirmed := l } }.setChan n (fun c => { c with deviation := true })).onDie
    (fun u => u.postEvent wMTR 8 [iIndex n, iValue (toBits 32 gain), iValue2 (toBits 32 phase)])
  if 3 ≤ (l.filter (fun x => x.2 == decide (0 ≤ gain))).length then
    a.spareBad.onDie (fun u => u.postBit wMTR 11)
  else if a.spareFree then a.substBegin n false
  else (a.chanFails n).roundNext

/-- The cycles of a check (R359, R369). -/
def checkCycles (s : State) : Nat := max 50 (s.actF wMTR 0x004 15 0)

/-- The cycles of a check that count: the rms at or above 5 % of full scale, 0.5 V (R330, R359; log entry 68). -/
def checkCounted (l : List CheckCyc) : List CheckCyc := l.filter (fun c => decide ((1 / 40) * (1 / 40) ≤ c.live))

/-- The gain deviation in 0.001 %: the relative difference of the summed squares (R359; log entry 68). -/
def checkGain (l : List CheckCyc) : Int :=
  let a := ratSum ((checkCounted l).map CheckCyc.live)
  let b := ratSum ((checkCounted l).map CheckCyc.spare)
  if b = 0 then 0 else roundOpen 17 (100000 * (a - b) / b)

/-- The phase deviation in 0.0001°: the mean difference of the zero-crossing times (R359). -/
def checkPhase (l : List CheckCyc) : Int :=
  let c := checkCounted l
  if c = [] then 0 else roundOpen 17 (10000 * ratSum (c.map CheckCyc.phase) / c.length)

/-- A parallel check completes (R359, R360): gain deviation in 0.001 %, phase deviation in 0.0001°. -/
def chanChecked (s : State) (counted : Nat) (gain phase : Int) : State :=
  let n := s.mtr.spareTarget
  let w := s.act (reg wMTR 0x004)
  let cycles := s.checkCycles
  if 2 * counted < cycles then s.roundNext
  else
    let a := s.setChan n (fun c => { c with gainDev := gain, phaseDev := phase })
    let past := decide (10 * max 1 (fld w 31 24) < gain.natAbs) || decide (10 * max 1 (fld w 23 16) < phase.natAbs)
    if !past then a.roundNext
    else if !s.mtr.repeating then { a with mtr := { a.mtr with repeating := true } }
    else a.devConfirmed n gain phase

/-- A substitution ends: the channel returns to its own converter and the spare to its rounds (R366). -/
def substRelease (s : State) (n : Nat) : State :=
  let a := s.setChan n (fun c => { c with subst := false, stuck := false, deviation := false })
  let b := { a with flt := { a.flt with convSub := none } }
  let c := { b with mtr := { b.mtr with spare := .idle, spareTarget := 0 } }
  let d := if c.mtr.todo = [] then c else c.roundNext
  (d.vergeEvent false 1 n (s.spareCh.getD 0x1F) 2).islPendDone

/-! ## A line cycle (R338 to R343, R354, R363, R365) -/

/-- A channel's measurement in a list. -/
def chanMeasOf (l : List ChanMeas) (n : Nat) : ChanMeas :=
  (l.find? (fun m => m.ch == n)).getD { ch := n, meanSq := 0, clip := false }

/-- Rms of a channel over a cycle in primary units (R342). -/
def chanRms (l : List ChanMeas) (n : Nat) : Rat := sqrtRat (chanMeasOf l n).meanSq

/-- What a cycle that starts at raw count t0 delivers for phase i of a feeder (R342, R343, R354, R363, R365). -/
def phaseCyc (s : State) (f : Nat) (img : ImgFeeder) (t0 : Nat) (ms : List PhaseMeas) (l : List ChanMeas) (i : Nat) :
    PhaseCyc :=
  let ci := nth 0 img.phases i
  let cv := nth 0 img.volts i
  let m := nth { vi := 0, vhi := 0 } ms i
  let irms := chanRms l ci
  let fail := (s.chan ci).chfail || (s.chan cv).chfail
  let est := !fail && ((s.feed f).est.any (fun e => e.1 == i))
  let good := nth (0, 0) (s.feed f).good i
  let noload := !est && !fail && decide (irms < s.startThr ci)
  { p := if fail || noload then 0 else if est then good.1 else m.vi,
    q := if fail || noload then 0 else if est then good.2 else m.vhi,
    irms := irms, noload := noload, clip := (chanMeasOf l ci).clip || (chanMeasOf l cv).clip, est := est,
    chfail := fail,
    settle := match (s.chan ci).settleTo with | some t => decide (t0 < t) | none => false }

/-- The registers show a delivered cycle's measurements (R337, R373, R376). -/
def noteChans (s : State) (r : CycRes) : State :=
  r.rms.foldl (fun t p =>
    t.setChan p.1 (fun c => { c with rms := p.2, clip := r.clips.contains p.1, noload := r.noloads.contains p.1 }))
    (s.setFeed r.feeder (fun y => { y with freq := r.freq }))

/-- The result of a cycle of feeder f that ends at raw count t1 (R341 to R343; log entry 12). -/
def cycResult (s : State) (f t0 t1 : Nat) (img : ImgFeeder) (syn : Bool) (m : CycMeas) : CycRes :=
  let x := s.feed f
  let n := nominalRaw img
  let len : Rat := ((t1 - t0 : Nat) : Rat)
  let uses := feederUses img
  { feeder := f, t0 := t0, t1 := t1,
    phases := (List.range img.phases.length).map (s.phaseCyc f img t0 m.phases m.chans),
    holdover := x.holdSeen || m.hold, resync := x.resync, synth := syn || x.synth,
    freqRange := decide (absRat (len - n) > n / 10),
    clips := uses.filter (fun n => (chanMeasOf m.chans n).clip),
    freq := if t0 < t1 then sat 17 (openNat 18 (200000000000 / len)) else 0,
    rms := uses.map (fun n => (n, BitVec.ofNat 32 (enc32 (chanRms m.chans n)))),
    noloads := uses.filter (fun n => decide (n < 16) && decide (chanRms m.chans n < s.startThr n)),
    at_ := t1 }

/-- The die takes a cycle result: its registers, its status bits and its delivery to the accounts (R337, R341, R357,
R384). -/
def dieCycle (s0 : State) (r : CycRes) : State :=
  let s := s0.noteChans r
  let a := if r.freqRange then s.postBit wMTR 4 else s
  let b := r.clips.foldl (fun t n => t.postEvent wMTR 5 [iIndex n]) a
  b.accDeliver r

/-- A cycle result leaves the island: delivered, or held for up to 2 s while the link or the die is down
(R337, R384). -/
def sendCycle (s : State) (r : CycRes) : State :=
  if s.mtr.linkDown || !(s.powered && s.blockOn wMTR) then
    { s with mtr := { s.mtr with held := s.mtr.held ++ [r] } }
  else s.dieCycle r

/-- The held results of the last 2 s are delivered in order (R337). -/
def deliverHeld (s : State) : State :=
  let l := s.mtr.held.filter (fun r => decide ((s.mtr.stamp : Int) < r.at_ + 2 * rawS))
  l.foldl (fun t r => t.dieCycle r) { s with mtr := { s.mtr with held := [] } }

/-- A substitution whose boundary has come, not yet noted (R362 to R364). -/
def substServe (s : State) (f : Nat) : State :=
  match (s.feed f).substReady with
  | some n => s.substitute n (if (s.chan n).stuck then 0 else 1)
  | none => s

/-- The boundary's changes of the island's processing at stamp a: substitution, release, estimates left and temperature
(R347, R362, R363, R366). -/
def boundaryMoves (s : State) (f a : Nat) : State :=
  let x := s.feed f
  let est := x.est.map (fun e => (e.1, e.2 - 1))
  let past := x.est == [] || est.any (fun e => e.2 == 0)
  let b := s.setFeed f (fun y =>
    if past then { y with est := [], substReady := y.substDue, substDue := none }
    else { y with est := est.filter (fun e => decide (0 < e.2)) })
  let c :=
    match x.releaseDue with
    | some n => (b.setFeed f (fun y => { y with releaseDue := none })).substRelease n
    | none => b
  if x.tempDue then (c.setFeed f (fun y => { y with tempDue := false })).setCorr a (s.feederChans f) else c

/-- Cycles estimated so far on the channel being replaced (R376). -/
def countEst (s : State) (f : Nat) : State :=
  match (s.feed f).substDue with
  | some n => if (s.feed f).est = [] then s else s.setChan n (fun c => { c with estCount := sat 8 (c.estCount + 1) })
  | none => s

/-- A boundary of feeder f at stamp t1: the cycle that ends is computed, accumulated and delivered, and the next one
begins (R340, R377, R390). -/
def lineBoundary (s0 : State) (f t1 : Nat) (img : ImgFeeder) (syn : Bool) : State :=
  let s := s0.substServe f
  let x := s.feed f
  let m := s.cycMeas f t1 img
  let a :=
    match x.last with
    | some t0 =>
      let r := s.cycResult f t0 t1 img syn m
      let b := ((s.countEst f).setFeed f (fun y => { y with
        good := (numbered r.phases).map (fun (p : Nat × PhaseCyc) =>
          if p.2.est || p.2.chfail then nth (0, 0) y.good p.1 else (p.2.p, p.2.q)) })).accCycle r
      (b.ivBoundary f t1 (some r)).sendCycle r
    | none => s.ivBoundary f t1 none
  let b := if syn ∧ !x.synth then a.onDie (fun u => u.postEvent wMTR 3 [iIndex f]) else a
  ((b.cycTaken f t1 m).setFeed f (fun y => { y with
    last := some t1, synth := syn, resync := false, holdSeen := s.mtr.sync != SyncState.locked,
    lowOk := !syn && y.lowOk, lowFrom := if syn then y.lowFrom.map (max t1) else y.lowFrom })).boundaryMoves f t1

/-- The stamp at which a boundary is due by synthesis: 60 ms after the last crossing, then every nominal period; for a
feeder with no boundary yet the 60 ms run from when the island began to watch it (R91, R339; log entries 12 and 62). -/
def synthAt (x : FeedCyc) (img : ImgFeeder) : Nat :=
  match x.last with
  | some t0 => if x.synth then t0 + openNat 19 (nominalRaw img) else t0 + 60 * rawMs
  | none => x.since + 60 * rawMs

/-- A boundary of feeder f is due by synthesis: the island's count has reached it, and no crossing has been found (R91,
R339). -/
def synthDue (s : State) (f : Nat) (img : ImgFeeder) : Bool :=
  (s.feed f).cross == [] && decide (synthAt (s.feed f) img ≤ s.mtr.stamp)

/-- The next crossing of feeder f whose boundary is to be served, one that no longer counts being passed over (R339). -/
def nextCrossing (s : State) (f : Nat) (img : ImgFeeder) : Option Nat :=
  (s.feed f).cross.find? (fun t => crossingCounts { s.feed f with cross := [] } t img)

/-! ## Synchronisation (R333 to R336) -/

/-- Samples in progress carry HOLDOVER from now. -/
def markHold (s : State) : State :=
  { s with mtr := { s.mtr with feeds := s.mtr.feeds.map (fun (f : FeedCyc) => { f with holdSeen := true }) } }

/-- A stamp after the island's count has moved by d (R336). -/
def stampMoved (d : Int) (a : Nat) : Nat := ((a : Int) + d).toNat

/-- What a feeder holds in the island's count moves with it, and its cycle is flagged RESYNC (R336). -/
def feedStepped (d : Int) (f : FeedCyc) : FeedCyc :=
  { f with
    last := f.last.map (stampMoved d), since := stampMoved d f.since, cross := f.cross.map (stampMoved d),
    prevY := f.prevY.map (fun p => (stampMoved d p.1, p.2)), lowFrom := f.lowFrom.map (stampMoved d),
    buf := f.buf.map (fun x => { x with at_ := stampMoved d x.at_ }), resync := true }

/-- What a channel holds in the island's count. -/
def chanStepped (d : Int) (c : Chan) : Chan :=
  { c with settleTo := c.settleTo.map (stampMoved d), past := c.past.map (fun p => (stampMoved d p.1, p.2)) }

/-- After a restart of the raw counter the island drops the end it holds for an open interval, which the accounts block
then closes with RESTART and STEP (R396). -/
def ivDropped (v : FeedIv) : FeedIv :=
  if v.open_ then { v with dropped := true, closeFrom := 0, closing := some (v.closing.getD 0 ||| fRESTART ||| fSTEP) } else v

/-- The island steps its timestamps to the pulse's count at the next sample (R336, R396). -/
def stepStamps (s : State) : State :=
  let n := nextSample s.raw
  let d : Int := (n : Int) - s.mtr.stamp
  let a := { s with mtr := { s.mtr with
    stamp := n, lag := 0, feeds := s.mtr.feeds.map (feedStepped d), chans := s.mtr.chans.map (chanStepped d),
    held := (s.mtr.held.filter (fun (r : CycRes) => decide ((s.mtr.stamp : Int) < r.at_ + 2 * rawS))).map (fun (r : CycRes) => { r with at_ := r.at_ + d }) } }
  let b := if s.mtr.restarted then { a with acc := { a.acc with ivs := a.acc.ivs.map ivDropped } } else a
  { b with mtr := { b.mtr with restarted := false } }.onDie (fun u => u.postBit wMTR 0)

/-- A synchronisation pulse is due: present, with its message, and its error in ns. A difference of at most 62.5 µs on
leaving HOLDOVER, with the count going on, is slewed out; else the timestamps step (R334, R336). -/
def syncStep (s : State) (present msg : Bool) (err : Int) : State :=
  let m := s.mtr
  let near := decide (err.natAbs ≤ 1000)
  if present && msg then
    let stepNow := m.restarted || (m.sync == .holdover && decide (62500 < err.natAbs))
    let a := { s with mtr := { m with
      phaseErr := err, lastPulse := s.raw, lag := if m.sync = SyncState.holdover then (err : Rat) else m.lag } }
    let b := if stepNow then a.stepStamps else a
    match m.sync with
    | .holdover =>
      { b with mtr := { b.mtr with sync := .acquiring, syncGood := if near then 1 else 0, syncMiss := 0 } }
    | .acquiring =>
      let g := if near then m.syncGood + 1 else 0
      { b with mtr := { b.mtr with sync := if 3 ≤ g then .locked else .acquiring, syncGood := g, syncMiss := 0 } }
    | .locked =>
      let miss := if near then 0 else m.syncMiss + 1
      if 3 ≤ miss then
        ({ b with mtr := { b.mtr with sync := .holdover, syncGood := 0, syncMiss := 0 } }.markHold).onDie
          (fun u => u.postEvent wMTR 1 [])
      else { b with mtr := { b.mtr with syncMiss := miss } }
  else
    let miss := m.syncMiss + 1
    if 3 ≤ miss ∧ m.sync ≠ .holdover then
      ({ s with mtr := { m with sync := .holdover, syncGood := 0, syncMiss := 0 } }.markHold).onDie
        (fun u => u.postEvent wMTR 1 [])
    else { s with mtr := { m with syncGood := 0, syncMiss := if m.sync = .holdover then 0 else miss } }

/-! ## Supply of the island (R383, R397) -/

/-- The accumulators of a feeder after a power-up whose retained copy failed: element 0 from the latest
interval record; the record holds no other register, and those are left open, at or below their values. -/
def restoreFeeder (s : State) (f : Nat) : State :=
  let v := s.feedIv f
  let rec0 := match tabGet s.acc.ring (2048 * f + v.recno % 2048) with
    | some r => if v.recno = 0 then [] else r.accs
    | none => []
  let put := fun (l : List (Nat × Nat)) (i : Nat) =>
    let old := tabGetD 0 l (32 * f + i)
    let new := if i < 7 then nth 0 rec0 i * 2 ^ 32 else Config.freeNat 17 (s.freeCtr + i) % (old + 1)
    tabPut 0 l (32 * f + i) new
  let a := { s with acc := { s.acc with accs := (List.range 32).foldl put s.acc.accs } }
  a.setIv f (fun v => { v with restored := true })

/-- The accumulators are restored from the interval records; the die is told, after its next start when it is down
(R383). -/
def restoreAll (s : State) : State :=
  let t := ((List.range 4).foldl (fun t f => t.restoreFeeder f) s).fresh
  if t.powered && t.blockOn wACC then t.postEvent wACC 10 []
  else { t with acc := { t.acc with restoredDue := true } }

/-- The island powers up (R334, R345, R383, R397). -/
def islandUp (s : State) (retained : Bool) : State :=
  let a := if retained then s else s.restoreAll
  let n := nextSample s.raw
  let chans := (numbered a.mtr.chans).map (fun x =>
    { x.2 with settleTo := if s.sensor x.1 = 1 then some (n + 10 * rawS) else none, run := 0, dc := [], past := [] })
  let feeds := a.mtr.feeds.map (fun (f : FeedCyc) => { f with
    last := none, synth := false, est := [], holdSeen := true, resync := false, since := n, buf := [], dsp := [], quad := [],
    line := [], lp := [], prevY := none, lowFrom := none, lowOk := false, cross := [] })
  let b := { a with mtr := { a.mtr with
    powered := true, stamp := n, lag := 0, sync := .acquiring, syncGood := 0, syncMiss := 0, chans := chans, feeds := feeds, held := [],
    todo := [], repeating := false, confirmed := [],
    spare := match a.mtr.spare with | .checking => .idle | .refCheck => .idle | x => x } }
  { b with acc := { b.acc with ivs := b.acc.ivs.map (fun (v : FeedIv) =>
      if v.open_ then { v with closing := some (v.closing.getD 0 ||| fOUTAGE) } else v) } }

end State

open State

/-- SYNC_PULSE (R333, R334, R336): the timebase sends a pulse at the raw counts that are multiples of 200,000. -/
def execSyncPulse (dt : Nat) (present msg : Bool) (err : Int) (s : State) : Host.Outcome State Fault Refusal :=
  let t := s.elapse dt
  .next (if t.mtr.powered ∧ (present = true → t.raw % 200000 = 0) then t.syncStep present msg err else t)

/-- A batch from the island carries the CRC-32C of its octets (R357). -/
def batchOk (octets : List Byte) (crc : Nat) : Bool := crc32c octets == crc

/-- MTR_LINK_TIMEOUT (R337, R357): 2 ms have passed, and none of the batches that came in them is good. -/
def execMtrLinkTimeout (dt : Nat) (batches : List (List Byte × Nat)) (s : State) : Host.Outcome State Fault Refusal :=
  .next (s.occurIn dt wMTR (fun t =>
    if t.mtr.linkDown || batches.any (fun b => batchOk b.1 b.2) then t
    else { t with mtr := { t.mtr with linkDown := true } }.postEvent wMTR 6 []))

/-- MTR_LINK_RESTORE (R337, R357, R384): a batch comes, and is good. -/
def execMtrLinkRestore (dt : Nat) (octets : List Byte) (crc : Nat) (s : State) : Host.Outcome State Fault Refusal :=
  .next (s.occurIn dt wMTR (fun t =>
    if t.mtr.linkDown && batchOk octets crc then { t with mtr := { t.mtr with linkDown := false } }.deliverHeld else t))

/-- MTR_TEMP_AVERAGE (R347, R348). -/
def execMtrTempAverage (dt : Nat) (temp : Option Rat) (s : State) : Host.Outcome State Fault Refusal :=
  let t := s.elapse dt
  .next (if t.mtr.powered then t.tempAverage temp else t)

/-- SPARE_REF_CHECK (R358, R371): a round of an idle spare begins with the reference applied for 1 s; the check then
ends with the deviation found. -/
def execSpareRefCheck (dt : Nat) (dev : Rat) (s : State) : Host.Outcome State Fault Refusal :=
  let t := s.elapse dt
  .next (
    if t.mtr.powered ∧ t.spareCh.isSome ∧ t.spareFree then
      if t.mtr.spare = .idle then t.refBegin
      else if t.mtr.spare = .refCheck ∧ t.mtr.refAt + rawS ≤ (t.raw : Int) then t.refChecked dev
      else t
    else t)

/-- CHANNEL_CHECK_DONE (R359 to R362). -/
def execChannelCheckDone (dt : Nat) (cycles : List CheckCyc) (s : State) : Host.Outcome State Fault Refusal :=
  let t := s.elapse dt
  .next (
    if t.mtr.powered ∧ t.mtr.spare = .checking ∧ t.spareFree ∧ cycles.length = t.checkCycles then
      t.chanChecked (State.checkCounted cycles).length (State.checkGain cycles) (State.checkPhase cycles)
    else t)

/-- A converter gives 64 identical codes (R357, R363, R365): its channel's spare is routed, or the channel fails; a spare
that is stuck is unusable, and so fails the channel it serves. -/
def State.stuckFound (t : State) (ch : Nat) : State :=
  let a := (t.setChan ch (fun c => { c with stuck := true })).onDie (fun u => u.postEvent wMTR 7 [iIndex ch])
  if t.spareCh = some ch then
    if t.mtr.spare = .substituting then
      let n := t.mtr.spareTarget
      let b := (a.setChan n (fun c => { c with subst := false })).spareBad
      ({ b with flt := { b.flt with convSub := none } }).chanFails n
    else a.spareBad
  else if (t.chan ch).subst then a
  else if t.spareFree then a.substBegin ch true
  else a.chanFails ch

/-- MTR_STUCK (R357, R363, R365): the island has taken the samples, and the converter's last 64 codes are identical. -/
def execMtrStuck (dt ch : Nat) (samples : List (List Int)) (s : State) : Host.Outcome State Fault Refusal :=
  let t := (s.elapse dt).takeSamples samples
  .next (
    let c := t.chan ch
    if t.mtr.powered ∧ ch < 20 ∧ (t.sensor ch ≠ 3 ∨ t.spareCh = some ch) ∧ !c.stuck ∧ 64 ≤ c.run then t.stuckFound ch
    else t)

/-- METER_SUBSTITUTION (R362 to R364): at the CYCLE boundary from which the spare's samples replace the channel's. -/
def execMeterSubstitution (dt feeder : Nat) (s : State) : Host.Outcome State Fault Refusal :=
  let t := s.elapse dt
  .next (if t.mtr.powered then t.substServe feeder else t)

/-- Value of MTR_ISLCTL of an operation on a channel (R370). -/
def islWord (op ch : Nat) : Word := BitVec.ofNat 32 (op * 2 ^ 28 + ch % 32)

/-- MTR_ISLCTL SEALRST (R353): only while SVC_PRESENTn is asserted, with a recorder event carrying MTR_CALCRC. -/
def State.islSealrst (s : State) : State :=
  if s.mtr.cmdPend then s.islBusy
  else if !s.upd.svcPresent then s.islDone 1
  else
    let a := s.setCfg (reg wMTR 0x00C) 0
    (a.islDone 0).event wMTR (some 12) [iValue (a.viewMTR 0x024)]

/-- The channel of a command of MTR_ISLCTL cannot be served: the spare, above 19 or off (R371). -/
def State.islBadChan (s : State) (ch : Nat) : Bool := decide (19 < ch) || s.spareCh == some ch || s.sensor ch == 3

/-- MTR_ISLCTL SUBST (R370). -/
def State.islSubst (s : State) (ch : Nat) : State :=
  if s.mtr.cmdPend then s.islBusy
  else if s.islBadChan ch then s.islDone 4
  else if !s.spareFree then s.islDone 2
  else { s with mtr := { s.mtr with cmdPend := true } }.substBegin ch false

/-- MTR_ISLCTL RELEASE (R366): at the next CYCLE boundary of the channel's feeder. -/
def State.islRelease (s : State) (ch : Nat) : State :=
  if s.mtr.cmdPend then s.islBusy
  else if s.islBadChan ch then s.islDone 4
  else if !(s.chan ch).subst then s.islDone 3
  else
    let a := { s with mtr := { s.mtr with cmdPend := true } }
    match s.chanFeeder ch with
    | some f => a.setFeed f (fun x => { x with releaseDue := some ch })
    | none => a.substRelease ch

/-- MTR_ISLCTL CHECKNOW (R370). -/
def State.islCheck (s : State) : State :=
  if s.mtr.cmdPend then s.islBusy
  else if s.spareFree ∧ s.mtr.spare = .idle then s.refBegin.islDone 0
  else s.islDone 2

/-- MTR_ISLCTL SEALRST (R353). -/
def execIslctlSealrst (dt master : Nat) (s : State) : Host.Outcome State Fault Refusal :=
  .next ((s.elapse dt).pairWrite master (reg wMTR 0x010) (fun t => (t.setCfg (reg wMTR 0x010) (islWord 1 0)).islSealrst))

/-- MTR_ISLCTL SUBST (R370). -/
def execIslctlSubst (dt master ch : Nat) (s : State) : Host.Outcome State Fault Refusal :=
  .next ((s.elapse dt).pairWrite master (reg wMTR 0x010) (fun t =>
    (t.setCfg (reg wMTR 0x010) (islWord 2 ch)).islSubst (ch % 32)))

/-- MTR_ISLCTL RELEASE (R366). -/
def execIslctlRelease (dt master ch : Nat) (s : State) : Host.Outcome State Fault Refusal :=
  .next ((s.elapse dt).pairWrite master (reg wMTR 0x010) (fun t =>
    (t.setCfg (reg wMTR 0x010) (islWord 3 ch)).islRelease (ch % 32)))

/-- MTR_ISLCTL CHECKNOW (R370). -/
def execIslctlChecknow (dt master : Nat) (s : State) : Host.Outcome State Fault Refusal :=
  .next ((s.elapse dt).pairWrite master (reg wMTR 0x010) (fun t => (t.setCfg (reg wMTR 0x010) (islWord 4 0)).islCheck))

/-- ISLAND_SUPPLY_FAIL (R383). -/
def execIslandSupplyFail (dt : Nat) (s : State) : Host.Outcome State Fault Refusal :=
  let t := s.elapse dt
  .next { t with mtr := { t.mtr with powered := false } }

/-- ISLAND_POWER_UP (R383, R397). -/
def execIslandPowerUp (dt : Nat) (retained : Bool) (s : State) : Host.Outcome State Fault Refusal :=
  let t := s.elapse dt
  .next (if t.mtr.powered then t else t.islandUp retained)

end Sys2Proof.Machine
end

