-- ==== Sys2Proof/Machine/Calendar.lean ====
section
/-! DEFINITION. The calendar clock, its alarms, the wake logic and the retained SRAM (R585 to R617). -/

namespace Sys2Proof.Machine

namespace Clock

/-- Seconds since 2000-01-01 00:00:00. -/
def secs (c : Clock) : Nat := dayNumber c.y c.mo c.d * 86400 + c.h * 3600 + c.mi * 60 + c.s

/-- The last value of the calendar (R588). -/
def last : Clock := { y := 2199, mo := 12, d := 31, h := 23, mi := 59, s := 59 }

/-- The next day, at the same time of day. -/
def nextDay (c : Clock) : Clock :=
  if c.d < monthDays c.y c.mo then { c with d := c.d + 1 }
  else if c.mo < 12 then { c with mo := c.mo + 1, d := 1 }
  else { c with y := c.y + 1, mo := 1, d := 1 }

/-- The day before, at the same time of day. -/
def prevDay (c : Clock) : Clock :=
  if 1 < c.d then { c with d := c.d - 1 }
  else if 1 < c.mo then { c with mo := c.mo - 1, d := monthDays c.y (c.mo - 1) }
  else { c with y := c.y - 1, mo := 12, d := 31 }

/-- One hour later. -/
def addHour (c : Clock) : Clock := if c.h < 23 then { c with h := c.h + 1 } else { c.nextDay with h := 0 }

/-- One hour earlier. -/
def subHour (c : Clock) : Clock := if 0 < c.h then { c with h := c.h - 1 } else { c.prevDay with h := 23 }

/-- One second later. -/
def addSec (c : Clock) : Clock :=
  if c.s < 59 then { c with s := c.s + 1 }
  else if c.mi < 59 then { c with mi := c.mi + 1, s := 0 }
  else { c.addHour with mi := 0, s := 0 }

end Clock

/-- The first reason a date and time are refused for, 0 for none (R591). -/
def clockBad (c : Clock) : Nat :=
  if 2199 < c.y then 3
  else if c.mo = 0 ∨ 12 < c.mo then 4
  else if c.d = 0 ∨ monthDays c.y c.mo < c.d then 5
  else if 23 < c.h then 6
  else if 59 < c.mi then 7
  else if 59 < c.s then 8
  else 0

namespace State

/-- The backup domain keeps its state: it draws from VIN or from a VBAK of 1.8 V or more (R610, R717). -/
def backupOn (s : State) : Bool := s.sys.vin || !s.sys.vbakLost

/-- RTC event bits: posted as any block's while the module has its clocks, else set at once (R585). -/
def rtcPost (s : State) (bits : Nat) : State :=
  if bits = 0 then s else if s.powered then s.post (reg wRTC 0) bits else s.setBits (reg wRTC 0) bits

/-- Clear a bit of a status register. -/
def clearStatBit (s : State) (a i : Nat) : State :=
  let r := s.statOf a
  s.setStat a { r with
    bits := if (r.bits >>> i) % 2 = 1 then r.bits - 2 ^ i else r.bits, marks := tabDel r.marks i,
    held := r.held.map (fun h => if (h.bits >>> i) % 2 = 1 then { h with bits := h.bits - 2 ^ i } else h) }

/-! ## Wake events (R603 to R606) -/

/-- RTC_WAKESRC, its date and its time. -/
def wakeNote (s : State) (src : Nat) (d t : Word) : State :=
  { s with rtc := { s.rtc with wakeSrc := src, wakeDate := d, wakeTime := t } }

/-- The module stands in OFF with VIN present and PWRON low (R604). -/
def inOff (s : State) : Bool := s.sys.phase == .down && s.sys.pwr == .off && s.sys.vin && !s.rtc.pwron

/-- A transition to OFF is in progress. -/
def goingOff (s : State) : Bool :=
  match s.sys.trans with
  | some t => t.target == .off
  | none => false

/-- PWRON goes high and a start with source WAKE is due (R604, R719). -/
def wakeUp (s : State) (src : Nat) (d t : Word) : State :=
  let u := s.wakeNote src d t
  { u with rtc := { u.rtc with pwron := true, wakePend := none },
           sys := { u.sys with asserted := setAdd u.sys.asserted 2 } }

/-- A wake event: 1 RESETn, 3 and 4 alarms, 5 periodic wake (R604, R615). -/
def wakeEvent (s : State) (src : Nat) : State :=
  let d := dateWord s.rtc.clk
  let t := timeWord s.rtc.clk s.rtc.valid s.rtc.dst
  if s.inOff then s.wakeUp src d t
  else if s.goingOff ∧ s.rtc.wakePend.isNone then { s with rtc := { s.rtc with wakePend := some (src, d, t) } }
  else s

/-! ## Alarms (R598 to R601) -/

/-- Offset of alarm a's registers. -/
def almOff (a : Nat) : Nat := 0x040 + 0x10 * a

/-- MODE of alarm a. -/
def almMode (s : State) (a : Nat) : Nat := s.cfgF wRTC (almOff a) 31 30

/-- Seconds of the day of alarm a. -/
def almTod (s : State) (a : Nat) : Nat :=
  s.cfgF wRTC (almOff a + 8) 20 16 * 3600 + s.cfgF wRTC (almOff a + 8) 13 8 * 60 + s.cfgF wRTC (almOff a + 8) 5 0

/-- Day number of a date word. -/
def wordDay (w : Word) : Nat := dayNumber (2000 + fld w 23 16) (fld w 15 8) (fld w 7 0)

/-- The instant of a ONCE alarm, in seconds. -/
def almOnce (s : State) (a : Nat) : Nat := wordDay (s.cfg (reg wRTC (almOff a + 4))) * 86400 + s.almTod a

/-- ALMLAST of alarm a. -/
def almLast (s : State) (a : Nat) : Word := if a = 0 then s.rtc.almLast0 else s.rtc.almLast1

/-- The first day on which alarm a may fire again (R598). -/
def almFrom (s : State) (a : Nat) : Nat := if s.almLast a = 0 then 0 else wordDay (s.almLast a) + 1

/-- Alarm a is for a day, by its weekday mask; weekday of day number n (R598). -/
def almDayOk (s : State) (a n : Nat) : Bool :=
  s.almMode a == 2 || (s.almMode a == 3 && bit (s.cfg (reg wRTC (almOff a))) ((n + 5) % 7))

/-- Alarm a fires at a calendar value equal to its time (R598). -/
def almAt (s : State) (a v : Nat) : Bool :=
  match s.almMode a with
  | 0 => false
  | 1 => v == s.almOnce a
  | _ => v % 86400 == s.almTod a && s.almDayOk a (v / 86400) && decide (s.almFrom a ≤ v / 86400)

/-- Alarm a would have fired at a value after `old` and before `new` (R599). -/
def almBetween (s : State) (a old new : Nat) : Bool :=
  match s.almMode a with
  | 0 => false
  | 1 => decide (old < s.almOnce a ∧ s.almOnce a < new)
  | _ =>
    let t := s.almTod a
    let lo := max (s.almFrom a) (if t ≤ old then (old - t) / 86400 + 1 else 0)
    (List.range 7).any (fun i => decide (t < 86400 ∧ (lo + i) * 86400 + t < new) && s.almDayOk a (lo + i))

/-- Alarm a fires (R601); a ONCE alarm returns to OFF. -/
def almFire (s : State) (a : Nat) (late : Bool) : State :=
  let d := dateWord s.rtc.clk
  let t := { s with rtc := if a = 0 then { s.rtc with almLast0 := d } else { s.rtc with almLast1 := d } }
  let c := t.cfg (reg wRTC (almOff a))
  let u := if t.almMode a = 1 then t.setCfg (reg wRTC (almOff a)) (c &&& 0x3FFFFFFF) else t
  let v := u.rtcPost (2 ^ a + bitIf late 2)
  if bit c 29 then v.wakeEvent (3 + a) else v

/-- Alarm a after the calendar has taken a new value from `old`, by a second increment or a command. -/
def almCheck (s : State) (old : Nat) (command : Bool) (a : Nat) : State :=
  let v := s.rtc.clk.secs
  if !s.rtc.valid then s
  else if command ∧ s.almBetween a old v then s.almFire a true
  else if s.almAt a v then s.almFire a false
  else s

/-- Both alarms after the calendar has taken a new value. -/
def almChecks (s : State) (old : Nat) (command : Bool) : State := (s.almCheck old command 0).almCheck old command 1

/-- A write to a register of an alarm: ALMLAST is cleared and the alarm armed again (R600). -/
def almWrite (s : State) (a : Nat) (v : Word) : State :=
  let n := (a - reg wRTC 0x040) / 0x10
  let m := match regInfo s.sys.fuses a with | some i => i.mask | none => 0
  let t := s.setCfg a (v &&& m)
  let u := { t with rtc := if n = 0 then { t.rtc with almLast0 := 0 } else { t.rtc with almLast1 := 0 } }
  if u.rtc.valid ∧ u.almMode n = 1 ∧ u.almOnce n ≤ u.rtc.clk.secs then u.almFire n true else u

/-! ## Commands (R591 to R594) -/

/-- A refused command (R591). -/
def rtcRefuse (s : State) (code : Nat) : State :=
  ({ s with rtc := { s.rtc with cmdCode := code } }).rtcPost (2 ^ 7)

/-- The date and time that a SET with a mask would give, with DST. -/
def setTarget (s : State) (mask : Nat) : Clock × Bool :=
  let d := s.cfg (reg wRTC 0x014)
  let t := s.cfg (reg wRTC 0x018)
  let c := if mask % 2 = 1 then { s.rtc.clk with y := 2000 + fld d 23 16, mo := fld d 15 8, d := fld d 7 0 }
    else s.rtc.clk
  if 2 ≤ mask then ({ c with h := fld t 20 16, mi := fld t 13 8, s := fld t 5 0 }, bit t 30) else (c, s.rtc.dst)

/-- SET (R591, R592). -/
def rtcDoSet (s : State) (mask : Nat) : State :=
  let x := s.setTarget mask
  if mask = 0 then s.rtcRefuse 2
  else if clockBad x.1 ≠ 0 then s.rtcRefuse (clockBad x.1)
  else
    let old := s.rtc.clk.secs
    let t := { s with
      rtc := { s.rtc with
        clk := x.1, dst := x.2, valid := true, ended := false, cmdCode := 0,
        secLen := if 2 ≤ mask then 32768 else s.rtc.secLen,
        wakeSum := if 2 ≤ mask then s.rtc.wakeSum + s.rtc.secLen else s.rtc.wakeSum },
      scn := { s.scn with calSet := true } }
    ((t.clearStatBit (reg wRTC 0) 9).rtcPost (2 ^ 6)).almChecks old true

/-- A summer-time command (R593). -/
def rtcDst (s : State) (fwd : Bool) : State :=
  let t := s.rtc.clk.secs + 1
  if s.rtc.dst = fwd then s.rtcRefuse 9
  else if (fwd ∧ Clock.last.secs < t + 3600) ∨ (¬fwd ∧ t < 3600) then s.rtcRefuse 0xA
  else { s with rtc := { s.rtc with pend := some (if fwd then .fwd else .back), cmdCode := 0 } }

/-- A write of RTC_WAKEPER: the wake counter starts again (R602). -/
def wakeperStore (s : State) (v : Word) : State :=
  let t := s.setCfg (reg wRTC 0x028) (v &&& 0x01FFFFFF)
  { t with rtc := { t.rtc with wakeSum := 0 } }

/-- Crystal cycles of the period in force (R602). -/
def wakeCycles (s : State) : Nat := 128 * min 22118400 (s.cfgF wRTC 0x028 24 0)

/-- The wake counter can have counted its period (R602). -/
def wakeRipe (s : State) : Bool :=
  decide (0 < s.wakeCycles ∧ s.wakeCycles ≤ s.rtc.wakeSum + s.rtc.secLen)

/-- A completed pair to RTC_CMD (R591, R594, R614). -/
def rtcCommand (s : State) (v : Word) : State :=
  let t := s.setCfg (reg wRTC 0x01C) (v &&& 0xF0000003)
  if t.rtc.pend.isSome then t.rtcRefuse 1
  else
    match fld v 31 28 with
    | 1 => t.rtcDoSet (fld v 1 0)
    | 2 => t.rtcDst true
    | 3 => t.rtcDst false
    | _ => t.rtcRefuse 2

/-! ## The second (R588, R590, R593) -/

/-- Crystal cycles of the second that follows this increment, and the seconds of the trim period (R590). -/
def trimStep (s : State) : State :=
  let n := s.rtc.trimSec + 1
  let trim := signed 10 (s.cfgF wRTC 0x024 9 0)
  let sum := s.rtc.wakeSum + s.rtc.secLen
  { s with rtc := if n = 32 then { s.rtc with trimSec := 0, secLen := (32768 - trim).toNat, wakeSum := sum }
                  else { s.rtc with trimSec := n, secLen := 32768, wakeSum := sum } }

/-- The prescaler completes its count (R588, R593). -/
def rtcTick (s : State) : State :=
  let a := s.trimStep
  let old := a.rtc.clk
  match a.rtc.pend with
  | some .fwd =>
    ((({ a with rtc := { a.rtc with clk := old.addSec.addHour, dst := true, pend := none } }).rtcPost (2 ^ 6)).almChecks
      old.secs true)
  | some .back =>
    let c := if old = Clock.last then { old with h := 23, mi := 0, s := 0 } else old.addSec.subHour
    ((({ a with rtc := { a.rtc with clk := c, dst := false, pend := none, ended := false } }).rtcPost (2 ^ 6)).almChecks
      old.secs true)
  | none =>
    if old = Clock.last then
      if a.rtc.ended then a else ({ a with rtc := { a.rtc with ended := true } }).rtcPost (2 ^ 9)
    else ({ a with rtc := { a.rtc with clk := old.addSec } }).almChecks old.secs false

/-! ## Reads (R589, R609) -/

/-- A read of RTC_DATE latches the time and the prescaler count (R589). -/
def dateRead (s : State) (sub : Nat) : State :=
  ({ s with rtc := { s.rtc with
      latchTime := some (timeWord s.rtc.clk s.rtc.valid s.rtc.dst),
      latchSub := some (BitVec.ofNat 32 (sub % 32768)) } }).answer (dateWord s.rtc.clk) false

/-- A read of RTC_TIME uses up its latch (R589). -/
def timeRead (s : State) : State :=
  ({ s with rtc := { s.rtc with latchTime := none } }).answer
    (s.rtc.latchTime.getD (timeWord s.rtc.clk s.rtc.valid s.rtc.dst)) false

/-- A read of RTC_SUBSEC uses up its latch (R589). -/
def subRead (s : State) : State :=
  (({ s with rtc := { s.rtc with latchSub := none } }).answer (s.rtc.latchSub.getD s.subNow) false).fresh

/-- A byte of retained SRAM. -/
def rsByte (s : State) (off : Nat) : Byte := tabGetD 0 s.rtc.rsram off

/-- Write a byte of retained SRAM; its parity is set (R609). -/
def setRsByte (s : State) (off : Nat) (b : Byte) : State :=
  { s with rtc := { s.rtc with rsram := tabPut 0 s.rtc.rsram off b, rsBad := without s.rtc.rsBad off } }

/-- Write bytes of retained SRAM; the security monitor's part discards a host's writes (R608). -/
def hostRsWrite (s : State) (off : Nat) : List Byte → State
  | [] => s
  | b :: r => (if off < 0xC00 then s.setRsByte off b else s).hostRsWrite (off + 1) r

/-- A read of retained SRAM that may find a byte whose parity does not match (R608, R609). -/
def rsRead (s : State) (off size : Nat) (corrupt : Option Byte) : State :=
  let a :=
    match corrupt with
    | some b =>
      if off < 0xC00 then
        { s with rtc := { s.rtc with rsram := tabPut 0 s.rtc.rsram off b, rsBad := setAdd s.rtc.rsBad off } }
      else s
    | none => s
  let offs := (List.range size).map (off + ·)
  let v := leNat (offs.map (fun o => if o < 0xC00 then a.rsByte o else 0))
  let b :=
    match offs.find? (fun o => decide (o < 0xC00) && a.rtc.rsBad.contains o) with
    | some o =>
      let t := if a.statOf (reg wRTC 0) |>.bits.testBit 11 then a
        else { a with rtc := { a.rtc with parAddr := 0x21000000 + o } }
      t.rtcPost (2 ^ 11)
    | none => a
  b.answer (BitVec.ofNat 32 v) false

end State

/-! ## Meanings -/

/-- RTC_DATE read (R589). -/
def execRtcDateRead (dt master sub : Nat) (s : State) : Host.Outcome State Fault Refusal :=
  .next ((s.elapse dt).access master (reg wRTC 0x008) false (fun t => t.dateRead sub))

/-- The prescaler completes a second (R588). -/
def execRtcSecond (dt : Nat) (s : State) : Host.Outcome State Fault Refusal :=
  .next (let t := s.elapse dt; if t.backupOn ∧ t.rtc.oscRun then t.rtcTick else t)

/-- RTC_CMD SET with a mask (R591, R592). -/
def execRtcSet (dt master mask : Nat) (s : State) : Host.Outcome State Fault Refusal :=
  .next ((s.elapse dt).pairWrite master (reg wRTC 0x01C)
    (fun t => t.rtcCommand (BitVec.ofNat 32 (0x10000000 + mask % 4))))

/-- RTC_CMD DSTFWD (R593). -/
def execRtcDstfwd (dt master : Nat) (s : State) : Host.Outcome State Fault Refusal :=
  .next ((s.elapse dt).pairWrite master (reg wRTC 0x01C) (fun t => t.rtcCommand 0x20000000))

/-- RTC_CMD DSTBACK (R593). -/
def execRtcDstback (dt master : Nat) (s : State) : Host.Outcome State Fault Refusal :=
  .next ((s.elapse dt).pairWrite master (reg wRTC 0x01C) (fun t => t.rtcCommand 0x30000000))

/-- RTC_TRIM (R590). -/
def execRtcTrimWrite (dt master : Nat) (value : Word) (s : State) : Host.Outcome State Fault Refusal :=
  .next ((s.elapse dt).pairWrite master (reg wRTC 0x024)
    (fun t => t.setCfg (reg wRTC 0x024) (value &&& 0x000003FF)))

/-- An alarm's register written (R600). -/
def execAlarmWrite (dt master addr : Nat) (value : Word) (s : State) : Host.Outcome State Fault Refusal :=
  .next (
    let a := firstAddr addr
    if [0x040, 0x044, 0x048, 0x050, 0x054, 0x058].any (fun o => a == reg wRTC o) ∧ ¬upperHalf addr then
      (s.elapse dt).access master addr true (fun t => t.almWrite a value)
    else s.elapse dt)

/-- RTC_WAKEPER written: the counter starts again (R602). -/
def execWakeperWrite (dt master : Nat) (value : Word) (s : State) : Host.Outcome State Fault Refusal :=
  .next ((s.elapse dt).access master (reg wRTC 0x028) true
    (fun t => t.wakeperStore value))

/-- The periodic wake period elapses (R602). -/
def execPeriodicWake (dt : Nat) (s : State) : Host.Outcome State Fault Refusal :=
  .next (let t := s.elapse dt
         if t.backupOn ∧ t.rtc.oscRun ∧ t.wakeRipe then
           ({ t with rtc := { t.rtc with wakeSum := 0 } }.rtcPost (2 ^ 3)).wakeEvent 5
         else t)

/-- No oscillator edge for 1 ms (R596). -/
def execOscStop (dt : Nat) (s : State) : Host.Outcome State Fault Refusal :=
  .next (let t := s.elapse dt
         if t.backupOn then ({ t with rtc := { t.rtc with oscRun := false, valid := false } }).rtcPost (2 ^ 8) else t)

/-- The oscillator resumes (R596). -/
def execOscResume (dt : Nat) (s : State) : Host.Outcome State Fault Refusal :=
  .next (let t := s.elapse dt
         if t.backupOn then { t with rtc := { t.rtc with oscRun := true } } else t)

/-- The comparison of VBAK, in mV, with 2.0 V while the domain draws from it (R610). -/
def execVbakCheck (dt mv : Nat) (s : State) : Host.Outcome State Fault Refusal :=
  .next (let t := s.elapse dt
         if t.backupOn ∧ ¬t.sys.vin ∧ mv < 2000 then t.rtcPost (2 ^ 10) else t)

/-- A read of retained SRAM by a host core or the debug port (R608, R609). -/
def execRsramRead (dt master off size : Nat) (corrupt : Option Byte) (s : State) :
    Host.Outcome State Fault Refusal :=
  .next (s.occur dt (fun t =>
    if State.masterOk master ∧ (size = 1 ∨ size = 2 ∨ size = 4) ∧ off + size ≤ 0x1000 then t.rsRead off size corrupt
    else t.answer 0 true))

end Sys2Proof.Machine
end

