-- ==== Sys2Proof/Machine/Mast.lean ====
section
/-! DEFINITION. The mast drive: drives, the limit clamp, headroom, junction temperature, calibration,
diagnostics, group phases and the spare sinks (R283 to R328). -/

namespace Sys2Proof.Machine

/-- Change a sink. -/
def State.setSink (s : State) (c : Nat) (f : Sink → Sink) : State :=
  { s with mst := { s.mst with sinks := modAt s.mst.sinks c f } }

/-- Change a group. -/
def State.setGroup (s : State) (g : Nat) (f : Group → Group) : State :=
  { s with mst := { s.mst with groups := modAt s.mst.groups g f } }

/-- Change a head. -/
def State.setHead (s : State) (h : Nat) (f : Head → Head) : State :=
  { s with mst := { s.mst with heads := modAt s.mst.heads h f } }

/-- Drain voltage of a sink in mV: V_DS and the drop over the 100 mΩ sense resistor (R283, R292). -/
def drainMv (m : SinkMeas) : Rat := (m.vds : Rat) + (m.i : Rat) / 10

/-- Forward voltage of the string in mV (R296). -/
def stringVf (m : SinkMeas) : Rat := (m.vsup : Rat) - drainMv m

namespace State

/-- Head h. -/
def head (s : State) (h : Nat) : Head := nth Head.reset s.mst.heads h

/-- The enabled group bound to head h (R32). -/
def groupOfHead (s : State) (h : Nat) : Option Nat :=
  (List.range 8).find? (fun g => s.groupEnabled g && (s.imgGroup g).head == some h)

/-- The handles that own the sinks of group g: the head's, or each usable sink's (R42, R44, R54, R802). -/
def groupOwners (s : State) (g : Nat) : List (Nat × Nat) := (List.range 6).filterMap (fun j => s.sinkOwner (7 * g + j)) |>.eraseDups

/-- Now is a PERIOD boundary of group g (R287). -/
def atPeriod (s : State) (g : Nat) : Bool := s.raw % 62500 == 7800 * g

/-- The engines run: STATE is LIT, or event 4 of a transition to LIT has passed (R738, R739). -/
def mastLit (s : State) : Bool :=
  s.sys.pwr == .lit || (match s.sys.trans with | some t => t.engines | none => false)

/-- The mast drive forms drives: as `mastLit`; through an L3 start until the next power-state command, which
continues with the drives it finds; and in a transition that fades heads out (R25, R733, R740). -/
def mastDrives (s : State) : Bool :=
  s.mastLit || (s.sys.level == 3 && s.sys.held) || (match s.sys.trans with | some t => t.fromLit | none => false)

/-! ## Drives of a head (R205 to R207, R217, R255 to R261) -/

end State

/-- A channel's drive at a level: MIX_CAP × min(level, cap) / cap (R188, R258). -/
def mixAt (mixCap cap level : Nat) : Nat :=
  if cap = 0 then 0 else roundNat ((mixCap * min level cap : Nat) / (cap : Rat))

/-- The six drives of a head command at a level. -/
def HeadCmd.at_ (c : HeadCmd) (level : Nat) : List Nat :=
  (List.range 6).map (fun i => mixAt (nth 0 c.mixCap i) c.cap level)

namespace State

/-- A fade's drives at raw count r (R206, R288). -/
def fadeAt (s : State) (f : HeadFade) (r : Nat) : List Nat :=
  (List.range 6).map (fun i =>
    s.fadeLevel (s.curveUsed f.curve) (nth 0 f.src i) (nth 0 f.dst i) (r - f.t0) f.len)

/-- Scene drives of a head (R206, R258). -/
def sceneDrives (s : State) (h : Head) (r : Nat) : List Nat :=
  match h.fade with
  | some f => s.fadeAt f r
  | none => List.replicate 6 0

/-- Scene level of a head at raw count r, which follows the fade of its command (R205, R258). -/
def sceneLevel (s : State) (h : Head) (r : Nat) : Nat :=
  match h.fade with
  | some f => s.fadeLevel (s.curveUsed f.curve) f.srcLevel f.dstLevel (r - f.t0) f.len
  | none => 0

/-- The release that governs: the highest among the waves that raise the head (R260). -/
def waveRelease (h : Head) : Nat := (h.waves.filter (fun w => w.start.isSome)).foldl (fun m w => max m w.release) 0

/-- The level a wave gives a head at raw count r, none outside its raise and fade-back; the highest release
among the waves in force governs, and the fade-back heads for the scene level in force at r (R255, R259, R260). -/
def waveLevel (s : State) (h : Head) (w : HeadWave) (r : Nat) : Option Nat :=
  match w.start with
  | none => none
  | some p =>
    let rel := waveRelease h
    let rise := w.rise * 2000000
    let back := w.fadeback * 2000000
    let k := s.curveUsed w.curve
    if r < w.raise ∨ rel + back ≤ r then none
    else if rel ≤ r then
      some (s.fadeLevel k w.level (s.sceneLevel h r) (r - rel) back)
    else some (s.fadeLevel k p w.level (r - w.raise) rise)

/-- The highest wave level on a head (R260). -/
def waveTop (s : State) (h : Head) (r : Nat) : Option Nat :=
  (h.waves.filterMap (fun w => s.waveLevel h w r)).foldl
    (fun m v => some (match m with | some x => max x v | none => v)) none

/-- The level a head runs at (R255): its scene level, or a higher wave level. -/
def headLevel (s : State) (h : Head) (r : Nat) : Nat :=
  max (s.sceneLevel h r) ((s.waveTop h r).getD 0)

/-- Drives of a head before the clamp (R258, R285): while STOPPED the drives held (R51), in a transition to
VIGIL the fade to zero (R740). -/
def headDrives (s : State) (h : Head) (r : Nat) : List Nat :=
  match h.out with
  | some f => s.fadeAt f r
  | none =>
    match h.hold with
    | some l => l
    | none =>
      let sc := s.sceneDrives h r
      match s.waveTop h r, h.cmd with
      | some w, some c => (sc.zip (c.at_ w)).map (fun p => max p.1 p.2)
      | _, _ => sc

/-- The sink serves no drive: taken out, or a substitution to it is in progress (R313, R318). -/
def sinkOut (s : State) (c : Nat) : Bool :=
  (s.sink c).takenOut || (s.group (c / 7)).subBusy == some (c % 7)

/-- The clamp of a head's drives to the limits of its entry (R289). -/
def clampHead (s : State) (g e : Nat) (d : List Nat) : List Nat :=
  let lim := fun i => min (s.lt e (0x0A0 + 2 * i) 2) (s.lt e (0x0AC + 2 * i) 2)
  let use := (List.range 6).filter (fun i => decide (0 < nth 0 d i) && !s.sinkOut (7 * g + i))
  let d' :=
    if use.any (fun i => decide (lim i < nth 0 d i)) then
      let k := use.foldl (fun (m : Rat) i => min m ((lim i : Rat) / nth 0 d i)) 1
      d.map (fun x : Nat => roundNat (k * (x : Rat)))
    else d
  (List.range 6).map (fun i => if s.sinkOut (7 * g + i) then 0 else nth 0 d' i)

/-- The drive of a sink of a SINK handle (R285, R290, R301). -/
def sinkDrive (s : State) (c : Nat) : Nat :=
  if s.isRunning tSINK c && !s.sinkOut c then min (s.actF wMST (0x400 + 0x20 * c) 31 16) (s.group (c / 7)).derate else 0

/-- Drives of the six usable sinks of group g at this PERIOD boundary (R285, R289, R290, R312, R314, R51): the head's,
or each sink's own where no HEAD handle has the group (R44, R802). -/
def groupDrives (s : State) (g : Nat) : List Nat :=
  let zero := List.replicate 6 0
  if !s.groupEnabled g || (s.group g).phase == .tripped || !s.mastDrives then zero
  else
    match (s.imgGroup g).head with
    | some h =>
      if s.isRunning tHEAD h || s.isStopped tHEAD h then
        match s.entryOfHead h with
        | some e => s.clampHead g e (s.headDrives (s.head h) s.raw)
        | none => zero
      else (List.range 6).map (fun j => s.sinkDrive (7 * g + j))
    | none => (List.range 6).map (fun j => s.sinkDrive (7 * g + j))

/-! ## Regions and periods (R284, R286, R309, R310) -/

/-- Full-drive code F of sink c (R284). -/
def fullCode (s : State) (c : Nat) : Nat :=
  min 60000 ((s.actF wMST (0x100 + 0x20 * (c / 7)) 7 0 + 1) * s.actF wMST (0x400 + 0x20 * c) 11 0 / 16)

end State

/-- The drive of a period begins: its sample is still to come. -/
def Sink.begin_ (k : Sink) : Sink := { k with blank := false, sampled := false }

/-- A drive applied to a sink for one period, with full-drive code f: region, code and on-time, the excess of
a stretched pulse omitted from it (R286, R309). -/
def Sink.drive (k0 : Sink) (f d : Nat) : Sink :=
  let k := k0.begin_
  if d = 0 ∨ f = 0 then { k with d := d, code := 0, onTicks := 0, mode := .off, excess := 0 }
  else if 8192 ≤ d then
    { k with d := d, code := roundNat ((f * d : Nat) / 65535), onTicks := 125000, mode := .analog, excess := 0 }
  else
    let on := roundNat ((125000 * d : Nat) / 8192)
    let cut := min k.excess on
    { k with d := d, code := roundNat ((f * 8192 : Nat) / 65535), onTicks := on - cut,
             mode := if k.excess = 0 then .pwm else .stretch, excess := k.excess - cut }

/-- The current of a calibration step applied to a sink for one period: full drive, or a quarter of it (R305). -/
def Sink.calDrive (k0 : Sink) (f : Nat) (quarter : Bool) : Sink :=
  { k0.begin_ with
    d := if quarter then 16384 else 65535, code := if quarter then roundNat ((f : Rat) / 4) else f, onTicks := 125000,
    mode := .analog, excess := 0 }

/-- Target current of a sink in mA: 50 µA a code step (R283). -/
def Sink.targetMa (k : Sink) : Rat := (k.code : Rat) / 20

/-- The sink conducts 3.5 µs into the period (R310). -/
def Sink.conducts (k : Sink) : Bool := decide (1400 < k.onTicks) && !k.blank

/-- The gate of a sink is clamped off at once. -/
def Sink.clampOff (k : Sink) : Sink := { k with d := 0, code := 0, onTicks := 0, mode := .off, excess := 0 }

namespace State

/-- The usable sinks of a group that a calibration drives, in channel order (R305). -/
def calSinks (s : State) (g : Nat) : List Nat :=
  ((List.range 6).map (fun j => 7 * g + j)).filter (fun k => decide (s.actF wMST (0x400 + 0x20 * k) 11 0 ≠ 0))

/-- The sink that a calibration of group g drives in the period now beginning, and whether at a quarter: 32 periods
of 312.5 µs are one step of 10 ms (R287, R305). -/
def calStep (s : State) (g : Nat) : Option (Nat × Bool) :=
  match s.mst.cal with
  | some c =>
    if c.group = g ∧ !c.low ∧ s.mastDrives then ((s.calSinks g)[c.periods / 64]?).map (fun k => (k, c.periods / 32 % 2 == 1))
    else none
  | none => none

/-- A period of a calibration begins: the sink in turn is driven. -/
def calApply (s : State) (g : Nat) : State :=
  match s.calStep g with
  | some p =>
    let a := s.setSink p.1 (fun k => k.calDrive (s.fullCode p.1) p.2)
    { a with mst := { a.mst with cal := a.mst.cal.map (fun (c : Cal) => { c with periods := c.periods + 1 }) } }
  | none => s

/-- The drives of a group take effect on its sinks (R285, R286); a HELD group keeps its outputs (R734). -/
def driveGroup (s : State) (g : Nat) : State :=
  if (s.group g).phase = .held then s
  else
    let d := s.groupDrives g
    (List.range 6).foldl (fun t j => t.setSink (7 * g + j) (fun k => k.drive (s.fullCode (7 * g + j)) (nth 0 d j))) s

/-! ## Headroom codes (R291 to R295) -/

/-- The phases in which the headroom loop runs (R292). -/
def hrPhase (p : Phase) : Bool :=
  match p with
  | .startup => true | .run => true | .test => true | .recovery => true
  | _ => false

/-- The lower-supply and the higher-supply limit of group g; MIN above MAX acts as MAX (R291, R325). -/
def hrLimits (s : State) (g : Nat) : Nat × Nat :=
  let w := s.act (reg wMST (0x104 + 0x20 * g))
  let mx := fld w 23 12
  let mn := min (fld w 11 0) mx
  if bit w 31 then (mx, mn) else (mn, mx)

/-- The code after n steps towards the higher or the lower supply, never outside [MIN, MAX] (R292). -/
def hrMoved (s : State) (g : Nat) (higher : Bool) (n : Nat) : Nat :=
  let l := s.hrLimits g
  let c := (s.group g).code
  let up := higher == decide (l.1 ≤ l.2)
  min (max (if up then c + n else c - n) (min l.1 l.2)) (max l.1 l.2)

/-- The group leaves DARK: its code returns, or goes to the higher-supply limit the first time (R295). -/
def leaveDark (s : State) (g : Nat) : State :=
  let hi := (s.hrLimits g).2
  s.setGroup g (fun x =>
    { x with code := if x.firstLeave then hi else x.saved.getD hi, driven := true, firstLeave := false })

/-- The headroom loop runs in this phase (R292). -/
def hrRuns (s : State) (g : Nat) : Bool := hrPhase (s.group g).phase

/-- The headroom loop starts, or has acted: a new interval begins (R292). -/
def hrBegin (s : State) (g : Nat) : State :=
  ((List.range 7).foldl (fun t j => t.setSink (7 * g + j) (fun k => { k with hrMin := none })) s).setGroup g
    (fun x => { x with hrAt := s.raw })

/-- The group enters a phase (R292, R295, R312). -/
def enterPhase (s : State) (g : Nat) (p : Phase) : State :=
  let old := (s.group g).phase
  let lo := (s.hrLimits g).1
  let a := if old = .dark ∧ p ≠ .dark then s.leaveDark g else s
  (if !hrPhase old && hrPhase p then a.hrBegin g else a).setGroup g (fun x =>
    let y := { x with phase := p, since := s.raw }
    if p = .dark ∧ old ≠ .dark then { y with saved := some x.code, code := lo } else y)


/-! ## Faults (R307 to R316, R318, R319) -/

/-- The sink is checked: it drives, its handle is not STOPPED and its group is in a phase that checks (R308). -/
def sinkChecked (s : State) (c : Nat) : Bool :=
  decide (c < 56 ∧ c % 7 < 6) && s.groupEnabled (c / 7) && decide (0 < (s.sink c).d) && s.hrRuns (c / 7)
    && !(s.sinkOwner c).any (fun o => s.isStopped o.1 o.2)

/-- The group trips: every owning handle is faulted and the phase is TRIPPED; its gates are clamped off at the
next PERIOD boundary (R303, R313). -/
def tripGroup (s : State) (g : Nat) (therm : Bool) (items : List (List Byte)) : State :=
  let a := (s.enterPhase g .tripped).setGroup g (fun x =>
    { x with therm := therm, interlocked := !therm, clampDue := false })
  let b := (s.groupOwners g).foldl (fun t o => t.faultHandle o.1 o.2) a
  b.postEvent wMST (if therm then 9 else 10) items

/-- The reaction of R313 to a fault no spare masks; a group that has tripped meanwhile has reacted. -/
def react (s : State) (c : Nat) : State :=
  let g := c / 7
  if (s.group g).phase = .tripped then s
  else
  let strict : Bool := match (s.group g).phase with
    | .startup => true | .test => true | .recovery => true
    | _ => false
  if strict && (s.imgGroup g).interlock then s.tripGroup g false [iIndex g]
  else
    let a := s.setSink c (fun k => { k.clampOff with takenOut := true })
    if s.sinkOwner c = some (tSINK, c) then a.faultHandle tSINK c else a

/-- Status bit of a fault's cause (R321): 0 OPEN, 1 ADJ_SHORT, 2 CTRL, 3 SAT; VF_RANGE has none of its own. -/
def faultBit (cause : Nat) : Option Nat := if cause < 4 then some (cause + 1) else none

/-- A fault bit of a sink. -/
def setFault (k : Sink) (cause : Nat) : Sink :=
  match cause with
  | 0 => { k with open_ := true }
  | 1 => { k with adjShort := true }
  | 2 => { k with ctrl := true }
  | 3 => { k with sat := true, satSeen := true }
  | _ => { k with vfRange := true }

/-- The fault is in force. -/
def hasFault (k : Sink) (cause : Nat) : Bool :=
  match cause with
  | 0 => k.open_ | 1 => k.adjShort | 2 => k.ctrl | 3 => k.sat | _ => k.vfRange

/-- A sink enters a fault: its bits and one recorder event with the sink, the fault, I in A, V_DS in V, the
drive and the phase (R311). -/
def enterFault (s : State) (c cause i vds : Nat) : State :=
  let k := s.sink c
  let items := [iIndex c, iCause cause, iMeas ((i : Rat) / 1000), iMeas ((vds : Rat) / 1000), iNumber k.d,
    iCause (s.group (c / 7)).phase.code]
  let a := s.setSink c (fun k => { setFault k cause with
    i := i, vds := vds, satSince := if cause = 3 then some s.raw else k.satSince })
  match faultBit cause with
  | some b => a.postEvent wMST b items
  | none => a.event wMST none items

/-- A sink with CTRL: its gate is clamped off, and the group's spare is routed to it or R313 follows (R318,
R319). -/
def ctrlFault (s : State) (c : Nat) : State :=
  let g := c / 7
  let x := s.group g
  let a := s.setSink c Sink.clampOff
  if (s.imgGroup g).spare then
    if x.subBusy.isSome then a
    else if x.spareUsable ∧ x.spareTo.isNone then a.setGroup g (fun y => { y with subBusy := some (c % 7) })
    else a.poolEmpty.react c
  else a.react c

/-- A confirmed fault on a sink that has not got it yet. -/
def sinkFaulted (s : State) (c cause i vds : Nat) : State :=
  if hasFault (s.sink c) cause then s
  else
    let a := s.enterFault c cause i vds
    match cause with
    | 0 => a.react c
    | 1 => a.react c
    | 2 => a.ctrlFault c
    | 3 => a.setGroup (c / 7) (fun x => { x with extraStep := true })
    | _ => a

/-- An acknowledgement clears a sink's faults and returns it to service (R315). -/
def ackSink (s : State) (c : Nat) : State :=
  s.setSink c (fun k => { k with
    open_ := false, adjShort := false, ctrl := false, sat := false, vfRange := false, takenOut := false, satSince := none })

/-- After the STOP of a FAULTED owner: a TRIPPED group with no FAULTED owner left is acknowledged and DARK
(R312, R315). -/
def groupAck (s : State) (g : Nat) : State :=
  if (s.group g).phase = .tripped ∧ (s.groupOwners g).all (fun o => s.hst o.1 o.2 != .faulted) then
    let a := (List.range 6).foldl (fun t j => t.ackSink (7 * g + j)) s
    (a.enterPhase g .dark).setGroup g (fun x => { x with therm := false, interlocked := false, afterTrip := true })
  else s

/-- The START of an owning handle after a trip (R312). -/
def groupStarted (s : State) (g : Nat) : State :=
  if (s.group g).afterTrip then
    let a := s.setGroup g (fun x => { x with afterTrip := false })
    if (s.group g).phase = .dark then a.enterPhase g .recovery else a
  else s

/-! ## Commands for heads (R207, R217, R261) -/

/-- A head command starts: its fade runs from the scene drives in force (R207, R217). -/
def headStart (s : State) (h : Nat) (c : HeadCmd) : State :=
  s.setHead h (fun x => { x with
    cmd := some c, pend := x.pend.erase c,
    fade := some { src := s.sceneDrives x s.raw, dst := c.at_ c.level, srcLevel := s.sceneLevel x s.raw,
                   dstLevel := c.level, curve := c.curve, t0 := s.raw, len := c.fade * 20000000 } })

/-- The head's commands whose T_eff has come start, in the order of their T_eff; one that finds the handle not RUNNING
is dropped (R51, R208, R217). -/
def headDueN (s : State) (h : Nat) : Nat → State
  | 0 => s
  | n + 1 =>
    match minBy HeadCmd.teff (s.head h).pend with
    | some c =>
      if c.teff ≤ s.raw then
        (if s.isRunning tHEAD h then s.headStart h c else s.setHead h (fun x => { x with pend := x.pend.erase c })).headDueN h n
      else s
    | none => s

/-- All due commands of a head. -/
def headDue (s : State) (h : Nat) : State := s.headDueN h (s.head h).pend.length

/-- The wave times of a head that have come: a wave whose fade-back from the governing release has ended is dropped,
and the level at a raise time is recorded (R255, R260, R261). -/
def headWaves (s : State) (h : Nat) : State :=
  let x := s.head h
  let rel := waveRelease x
  let kept := x.waves.filter (fun w => w.start.isNone || decide (s.raw < rel + w.fadeback * 2000000))
  let p := s.headLevel { x with waves := kept } s.raw
  s.setHead h (fun x => { x with waves := kept.map (fun w =>
    if w.start.isNone ∧ w.raise ≤ s.raw then { w with start := some p, raise := s.raw } else w) })

/-! ## The PERIOD boundary's work (R285, R293, R303, R312) -/

/-- Raw count at which the sample of a period is taken: at the end of an on-time of at least 8 µs, mid-period in the
analog region; none in a period without such an on-time (R296). `start` is the period's start. -/
def sampleAt (k : Sink) (start : Nat) : Option Nat :=
  if k.mode = .analog then some (start + 31250)
  else if 3200 ≤ k.onTicks then some (start + (if k.blank then 800 else 0) + k.onTicks / 2)
  else none

/-- The sink keeps a sample of its string, once in a period (R296). -/
def sinkSample (k : Sink) (start : Nat) (m : SinkMeas) : Sink :=
  match sampleAt k start with
  | some t =>
    if k.sampled then k
    else { k with sampled := true, samples := k.samples ++ [{ at_ := t, vf := stringVf m, i := m.i }] }
  | none => k

/-- OPEN is found: less than 10 % of the target with the gate at its upper clamp (R307). -/
def openSeen (t : Rat) (m : SinkMeas) : Bool := m.clamp && decide ((m.i : Rat) < t / 10)

/-- CTRL is found: more than 10 % off the target with V_DS of at least 300 mV and at least 10 % of it (R307). -/
def ctrlSeen (t : Rat) (m : SinkMeas) : Bool :=
  decide (300 ≤ m.vds ∧ t / 10 ≤ (m.i : Rat) ∧ ((m.i : Rat) < 9 * t / 10 ∨ 11 * t / 10 < (m.i : Rat)))

/-- SAT is found: V_DS below 150 mV with 10 % to 90 % of the target (R307). -/
def satFound (t : Rat) (m : SinkMeas) : Bool :=
  decide (m.vds < 150 ∧ t / 10 ≤ (m.i : Rat) ∧ (m.i : Rat) < 9 * t / 10)

/-- The checks of R307 on a sink over a period that ends; those of a sink that is not checked are discarded (R308).
One check in a stretched pulse confirms OPEN. -/
def countChecks (k : Sink) (checked : Bool) (m : SinkMeas) : Sink :=
  if !checked then { k with openCnt := 0, ctrlCnt := 0, satCnt := 0 }
  else
    let t := k.targetMa
    let on := decide (0 < k.onTicks)
    { k with
      openCnt :=
        if 3200 ≤ k.onTicks then (if openSeen t m then (if k.mode = .stretch then 15 else min 15 (k.openCnt + 1)) else 0)
        else k.openCnt
      ctrlCnt := if on && ctrlSeen t m then min 3 (k.ctrlCnt + 1) else 0
      satCnt := if on && satFound t m then min 3 (k.satCnt + 1) else 0 }

/-- What a period measured on a sink (R292, R296, R307, R310, R328, R405). -/
def measure (s : State) (g : Nat) (m : SinkMeas) : State :=
  let c := m.sink
  if c / 7 = g ∧ c % 7 < 6 then
    let k := s.sink c
    let t := k.targetMa
    let met := decide (0 < k.onTicks) && decide (9 * t / 10 ≤ (m.i : Rat) ∧ (m.i : Rat) ≤ 11 * t / 10)
    let sat := decide (0 < k.onTicks) && satFound t m
    let checked := s.sinkChecked c
    let a := s.setSink c (fun k =>
      let x := sinkSample (countChecks k checked m) (s.raw - 62500) m
      { x with
        i := m.i, vds := m.vds, met := met, satSeen := x.satSeen || sat,
        hrMin := if 3200 ≤ k.onTicks then some (match k.hrMin with | some v => min v m.vds | none => m.vds) else k.hrMin })
    match (s.imgGroup g).head with
    | some h =>
      let e : Rat := (m.vsup * m.i * k.onTicks : Nat) * (25 / 10000000000) / 3600
      a.setHead h (fun x => { x with energy := x.energy + e })
    | none => a
  else s

/-- Mean of some values; 0 of none. -/
def mean (l : List Rat) : Rat := if l = [] then 0 else ratSum l / l.length

/-- Mean Vf and current of a step of a calibration (R305). -/
def calMean (c : Cal) (step : Nat) : Rat × Rat :=
  let l := c.samples.filter (fun x => x.step == step)
  (mean (l.map CalSample.vf), mean (l.map (fun x => (x.i : Rat))))

/-- What a period of a calibration measured: a sample of the last 5 ms of its step, and at the step's end whether the
sink drew less than 10 % of the step's current (R305). -/
def calMeasure (s : State) (g : Nat) (meas : List SinkMeas) : State :=
  match s.mst.cal with
  | some c =>
    if c.group = g ∧ 0 < c.periods ∧ !c.ended ∧ s.mastDrives then
      let p := c.periods - 1
      match (s.calSinks g)[p / 64]? with
      | some k =>
        let new := (meas.filter (fun m => m.sink == k && decide (16 ≤ p % 32))).map (fun m =>
          ({ step := p / 32, vf := stringVf m, i := m.i } : CalSample))
        let d : Cal := { c with samples := c.samples ++ new }
        let full : Rat := (s.fullCode k : Rat) / 20
        let target := if p / 32 % 2 = 1 then full / 4 else full
        let low := p % 32 == 31 && decide ((calMean d (p / 32)).2 < target / 10)
        { s with mst := { s.mst with cal := some { d with
          low := c.low || low, ended := c.periods == 64 * (s.calSinks g).length } } }
      | none => s
    else s
  | none => s

/-- TEST taken up at a boundary (R312). -/
def testTaken (s : State) (g : Nat) : State :=
  match (s.group g).phase with
  | .tripped => s
  | .held => s
  | .disabled => s
  | p =>
    if s.actF wMST (0x100 + 0x20 * g) 8 8 = 1 then (if p = .test then s else s.enterPhase g .test)
    else if p = .test then s.enterPhase g .run
    else s

/-- A release of the group's spare takes effect (R765). -/
def spareReleased (s : State) (g : Nat) : State :=
  match (s.group g).releaseDue with
  | some j =>
    let c := 7 * g + j
    let a := (s.setSink c (fun k => { k with subst := false })).setGroup g (fun x =>
      { x with releaseDue := none, spareTo := none })
    ({ a with flt := { a.flt with sinkSub := without a.flt.sinkSub c } }.vergeEvent false 0 c (7 * g + 6) 2).vergeDone 0
  | none => s

/-- The extra headroom step of R293; while the loop runs the code stays in the [MIN, MAX] in force (R292). -/
def extraHr (s : State) (g : Nat) : State :=
  let n := s.hrMoved g true (if (s.group g).extraStep then s.actF wMST 0x008 15 8 else 0)
  s.setGroup g (fun x => { x with extraStep := false, code := if s.hrRuns g then n else x.code })

/-- Zero-drive time and the leaving of DARK (R312). -/
def phaseMoves (s : State) (g : Nat) : State :=
  let pos := (List.range 6).any (fun j => decide (0 < (s.sink (7 * g + j)).d))
  let a := s.setGroup g (fun x =>
    { x with zeroSince := if pos then none else some (x.zeroSince.getD s.raw) })
  if pos ∧ (s.group g).phase = .dark then a.enterPhase g .startup else a

/-- What the period that ends measured, and the thermal trip due at this boundary, which comes before a handle command
that completes here (R60, R303, R316). -/
def periodFaults (s : State) (g : Nat) (meas : List SinkMeas) : State :=
  let a := (meas.foldl (fun t m => t.measure g m) s).calMeasure g meas
  if (a.group g).clampDue then a.tripGroup g true [iIndex g, iMeas (a.group g).tEst] else a

/-- The work of a PERIOD boundary of an enabled group after its shadow copies, its trip and its handle commands: due
head commands and wave times, drives, headroom and phases. -/
def periodWork (s : State) (g : Nat) (test : Bool) : State :=
  let c := s.spareReleased g
  let d := if test then c.testTaken g else c
  let e :=
    match (d.imgGroup g).head with
    | some h => (d.headDue h).headWaves h
    | none => d
  (((e.driveGroup g).calApply g).extraHr g).phaseMoves g

/-! ## The 100 ms window (R296 to R303) -/

/-- Knee in °C, SLOPE and FLOOR of SCN_DERATE in force (R224). -/
def derateDefaults (s : State) : Nat × Nat × Nat :=
  let w := s.act (reg wSCN 0x00C)
  let k := fld w 7 0
  let sl := fld w 15 8
  (if k < 60 ∨ 150 < k then 85 else k, min 100 (max 10 sl), fld w 23 16)

/-- The derating limit at a temperature with a knee (R197, R301). -/
def derateAt (s : State) (knee t : Rat) : Nat :=
  if t ≤ knee then 65535
  else
    let d := s.derateDefaults
    max (257 * d.2.2) (roundNat (65535 * (1 - (d.2.1 : Rat) * (t - knee) / 1000)))

/-- The averages of a string over a window (R296). -/
structure StringAvg where
  samples : Nat
  vf : Rat
  i : Rat
  deriving DecidableEq, Repr

/-- The averages of sink c over the window from raw count lo to hi (R14, R296). -/
def stringAvg (s : State) (c lo hi : Nat) : StringAvg :=
  let l := (s.sink c).samples.filter (fun x => decide (lo ≤ x.at_ ∧ x.at_ < hi))
  { samples := l.length, vf := mean (l.map VfSample.vf), i := mean (l.map (fun x => (x.i : Rat))) }

/-- The string estimate of sink c from the averages of a window (R297); none where K_VF is 0. -/
def stringTj (s : State) (c : Nat) (m : StringAvg) : Option Rat :=
  let v0 := s.act (reg wMST (0x404 + 0x20 * c))
  let v1 := s.act (reg wMST (0x408 + 0x20 * c))
  let v2 := s.act (reg wMST (0x40C + 0x20 * c))
  let k := signed 16 (fld v1 31 16)
  if k = 0 then none
  else
    some (dec16D (fld v1 15 0)
      + (m.vf - (fld v0 15 0 : Rat) - (fld v2 15 0 : Rat) / 1000 * (m.i - (fld v0 31 16 : Rat))) / ((k : Rat) / 100))

/-- VFCAL2.VALID is 1 and K_VF is negative (R298). -/
def stringCal (s : State) (c : Nat) : Bool :=
  bit (s.act (reg wMST (0x40C + 0x20 * c))) 31 && decide (signed 16 (fld (s.act (reg wMST (0x408 + 0x20 * c))) 31 16) < 0)

/-- The last three checks of R298; without an estimate they fail. -/
def stringOk (s : State) (c : Nat) (m : StringAvg) (tj : Option Rat) (ntc : Option Rat) : Bool :=
  let vr : Rat := s.actF wMST (0x404 + 0x20 * c) 15 0
  match tj with
  | some t =>
    decide (vr / 2 ≤ m.vf ∧ m.vf ≤ 3 * vr / 2 ∧ -40 ≤ t ∧ t ≤ 175)
      && (match ntc with | some n => decide (n - 20 ≤ t) | none => true)
  | none => false

/-- The average of the 16 samples of an NTC input in a window; none when they are not complete (R300). -/
def ntcMean (l : List Rat) : Option Rat := if l.length = 16 then some (mean l) else none

/-- The NTC reading (R300). -/
def ntcRead (s : State) (g : Nat) (ohms : Option Rat) : Option Rat :=
  let r25 : Rat := 10 * s.actF wMST (0x10C + 0x20 * g) 15 0
  let b : Rat := s.actF wMST (0x10C + 0x20 * g) 31 16
  match ohms with
  | some r =>
    if 0 < r ∧ 0 < r25 ∧ 0 < b then
      let x : Rat := 100 / 29815 + lnRat (r / r25) / b
      if x = 0 then none
      else
        let t := 1 / x - 27315 / 100
        if -50 ≤ t ∧ t ≤ 150 then some t else none
    else none
  | none => none

/-- One string's window: its estimate, VF_RANGE and its measurements (R297, R298, R308, R311, R328; log entries 12
and 35). -/
def stringWindow (s : State) (c lo hi : Nat) (ntc : Option Rat) : State × Option Rat :=
  let m := s.stringAvg c lo hi
  let tj := s.stringTj c m
  let ok := s.stringOk c m tj ntc
  let good := s.stringCal c && decide (0 < m.samples) && ok
  let bad := decide (0 < m.samples) && !ok && s.sinkChecked c
  let k0 := s.sink c
  let a := s.setSink c (fun k => { k with
    tj := if good then tj else none, vf := if 0 < m.samples then openNat 16 m.vf else k.vf,
    vfRange := k.vfRange && bad, samples := k.samples.filter (fun x => decide (hi ≤ x.at_)) })
  let b := if bad && !k0.vfRange then a.enterFault c 4 k0.i k0.vds else a
  (if bad then b.postBit wMST 6 else b, if good then tj else none)

/-- The six strings of a group, and the highest valid estimate. -/
def stringsWindow (s : State) (g lo hi : Nat) (ntc : Option Rat) : State × Option Rat :=
  (List.range 6).foldl (fun p j =>
    let r := p.1.stringWindow (7 * g + j) lo hi ntc
    (r.1, match p.2, r.2 with | some x, some y => some (max x y) | none, y => y | x, none => x)) (s, none)

/-- The NTC part of a window: two consecutive windows without a reading set NTC_FAULT (R300). -/
def ntcWindow (s : State) (g : Nat) (ntc : Option Rat) : State :=
  let miss := if ntc.isSome then 0 else (s.group g).ntcMiss + 1
  let a := s.setGroup g (fun x => { x with ntc := ntc, ntcMiss := miss })
  if miss = 2 then a.postEvent wMST 7 [iIndex g] else a

/-- The group estimate and its source (R299). -/
def estimate (s : State) (g : Nat) (best ntc : Option Rat) : Rat × TSource × Option (Rat × Nat) :=
  let hold :=
    match best with
    | some t => some (t, 0)
    | none => match (s.group g).vfHold with
      | some (t, n) => if n < 20 then some (t, n + 1) else none
      | none => none
  match hold with
  | some (t, n) => (t, .vf, some (t, n))
  | none =>
    match ntc with
    | some t =>
      let off := match ((s.imgGroup g).head).bind s.entryOfHead with
        | some e => dec16D (s.lt e 0x02A 2)
        | none => 0
      (t + off, .ntc, none)
    | none => (150, .none, none)

/-- The knee of a group (R301). -/
def groupKnee (s : State) (g : Nat) : Rat :=
  let d : Rat := s.derateDefaults.1
  match ((s.imgGroup g).head).bind s.entryOfHead with
  | some e => let k := dec16D (s.lt e 0x028 2); if k = 0 then d else k
  | none =>
    let k := s.actF wMST (0x108 + 0x20 * g) 23 16
    if k < 60 ∨ 150 < k then d else k

/-- The derating limit of a window: a rise is limited by RECOVER (R301). -/
def windowDerate (s : State) (g : Nat) (t : Rat) : Nat :=
  let d := s.derateAt (s.groupKnee g) t
  let prev := (s.group g).derate
  if prev < d then min d (prev + max 1 (s.actF wMST (0x108 + 0x20 * g) 15 0)) else d

/-- The head entry's TEMP, DERATE and LAST_RX (R302). -/
def writeHeadEntry (s : State) (g e : Nat) (t : Rat) (d : Nat) : State :=
  let a := s.setLt e 0x100 2 (enc16 t)
  let b := (List.range 6).foldl (fun u i =>
    u.setLt e (0x0AC + 2 * i) 2 (if (s.sink (7 * g + i)).takenOut then 0 else d)) a
  b.setLt e 0x108 8 s.raw

/-- SAT bits of strings clear after a window that has not seen it (R311). -/
def satWindow (s : State) (g : Nat) : State :=
  (List.range 6).foldl (fun t j => t.setSink (7 * g + j) (fun k =>
    { k with sat := k.sat && k.satSeen, satSince := if k.satSeen then k.satSince else none, satSeen := false })) s

/-- The estimate and limit of a window are taken up, with DERATE_EVT on a fall from full drive (R299, R301). -/
def takeEstimate (s : State) (g : Nat) (e : Rat × TSource × Option (Rat × Nat)) (d : Nat) : State :=
  let a := s.setGroup g (fun x => { x with
    tEst := e.1, source := e.2.1, vfHold := e.2.2, derate := d, winTick := some s.tbs.tickTarget })
  if (s.group g).derate = 65535 ∧ d < 65535 then a.postBit wMST 8 else a

/-- The thermal trip of R303 is due at the next PERIOD boundary. -/
def tripDue (s : State) (g : Nat) : State :=
  let x := s.group g
  let trip : Nat := max 100 (s.actF wMST (0x108 + 0x20 * g) 31 24)
  if x.source ≠ .none ∧ (trip : Rat) ≤ x.tEst ∧ x.phase ≠ .tripped ∧ x.phase ≠ .held then
    s.setGroup g (fun x => { x with clampDue := true })
  else s

/-- The window of the coming TICK boundary: raw counts of its start and its end (R14, R296). -/
def tjBounds (s : State) : Nat × Nat :=
  (s.tbs.rawOf ((s.tbs.tickTarget : Rat) - 100200000), s.tbs.rawOf ((s.tbs.tickTarget : Rat) - 200000))

/-- Raw count at which the period of group g in progress began (R287). -/
def periodStart (s : State) (g : Nat) : Nat := s.raw - (s.raw + 62500 - 7800 * g % 62500) % 62500

/-- The sample that a sink of group g has already given in the period in progress (R296). -/
def sampleNow (s : State) (g : Nat) (m : SinkMeas) : State :=
  if m.sink / 7 = g ∧ m.sink % 7 < 6 then
    s.setSink m.sink (fun k =>
      let x := sinkSample k (s.periodStart g) m
      if x.samples.any (fun v => decide (s.raw < v.at_)) then k else x)
  else s

/-- The 100 ms window of group g closes (R296 to R303): what the period in progress has given, and the samples of the
NTC. -/
def tjWindow (s0 : State) (g : Nat) (last : List SinkMeas) (ohms : List Rat) : State :=
  let s := last.foldl (fun t m => t.sampleNow g m) s0
  let w := s.tjBounds
  let fitted := (s.imgGroup g).ntc
  let ntc := if fitted then s.ntcRead g (ntcMean ohms) else none
  let a := if fitted then s.ntcWindow g ntc else s
  let p := (a.satWindow g).stringsWindow g w.1 w.2 ntc
  let e := p.1.estimate g p.2 ntc
  let d := p.1.windowDerate g e.1
  let c := p.1.takeEstimate g e d
  let w :=
    match ((s.imgGroup g).head).bind s.entryOfHead with
    | some n => c.writeHeadEntry g n e.1 d
    | none => c
  w.tripDue g

/-! ## Calibration (R304 to R306) -/

/-- An MST_CMD command completes (R321, R323). -/
def mstDone (s : State) (code : Nat) : State :=
  { s with mst := { s.mst with cmdCode := code } }.postBit wMST 13

/-- CALIBRATE (R304, R323). -/
def calStart (s : State) (g : Nat) : State :=
  let x := s.group g
  if s.mst.cal.isSome then s.mstDone 6
  else if !s.groupEnabled g then s.mstDone 5
  else if (s.groupOwners g).any (fun o => s.hst o.1 o.2 != .stopped && s.hst o.1 o.2 != .free) then s.mstDone 1
  else
    match x.zeroSince, x.ntc with
    | some z, some t =>
      if s.raw < z + 1800 * rawS then s.mstDone 2
      else { s with mst := { s.mst with cal := some { group := g, tRef := t, t0 := s.raw, periods := 0, samples := [], low := false, ended := false } } }
    | some z, none => if s.raw < z + 1800 * rawS then s.mstDone 2 else s.mstDone 3
    | none, _ => s.mstDone 2

/-- The calibration ends (R305, R306). -/
def calEnd (s : State) (code : Nat) : State := { s with mst := { s.mst with cal := none } }.mstDone code

/-- A START of a handle is issued: it ends a calibration of a group whose sink it owns (R306). -/
def calAbort (s : State) (typ idx : Nat) : State :=
  match s.mst.cal with
  | some c => if (s.groupOwners c.group).contains (typ, idx) then s.calEnd 7 else s
  | none => s

/-- The fields a calibration writes for one sink from the averages of its two steps (R305; log entry 12); the dynamic
resistance of two equal currents is left open. -/
def calWrite (s : State) (c : Nat) (tRef : Rat) (full quarter : Rat × Rat) : State :=
  let a := reg wMST (0x404 + 0x20 * c)
  let rd : Nat :=
    if full.2 = quarter.2 then Config.freeNat 14 s.freeCtr
    else openNat 15 (1000 * (full.1 - quarter.1) / (full.2 - quarter.2))
  let w := fun (t : State) (b : Nat) (v : Nat) => t.shadowWrite b 0xFFFFFFFF (BitVec.ofNat 32 v)
  let t0 := w s.fresh a (two16 (sat 16 (openNat 15 full.2)) (sat 16 (openNat 15 full.1)))
  let t1 := w t0 (a + 4) (two16 (fld (s.cfg (a + 4)) 31 16) (enc16 tRef))
  w t1 (a + 8) (2 ^ 31 + sat 16 rd)

/-- Every sink in turn has had its two steps, the last period's end included; at once where none has a current
(R305). -/
def calDone (s : State) (c : Cal) : Bool := c.ended || (s.calSinks c.group).isEmpty

/-- A calibration ends: with NO_CURRENT once a sink has drawn too little, else with its fields written once every step
is over (R305). -/
def calFinish (s : State) : State :=
  match s.mst.cal with
  | none => s
  | some c =>
    if c.low then s.calEnd 4
    else if s.calDone c then
      ((numberedFrom 0 (s.calSinks c.group)).foldl (fun t x =>
        t.calWrite x.2 c.tRef (calMean c (2 * x.1)) (calMean c (2 * x.1 + 1))) s).calEnd 0
    else s

/-- ACK of a sink (R315, R323). -/
def mstAckSink (s : State) (c : Nat) : State :=
  let g := c / 7
  if s.mst.cal.isSome then s.mstDone 6
  else if 55 < c ∨ c % 7 = 6 ∨ !s.groupEnabled g then s.mstDone 5
  else
    let a := s.ackSink c
    let p := (s.group g).phase
    (if p = .tripped ∨ p = .held then a else a.enterPhase g .recovery).mstDone 0

/-! ## Blanking and stretching (R309, R310) -/

/-- Both sinks of a pair enter ADJ_SHORT in one check; then the group reacts to each that has newly entered it (R310,
R311, R313). -/
def adjPair (s : State) (c ic d id : Nat) : State :=
  let enter := fun (t : State) (k i : Nat) =>
    if hasFault (s.sink k) 1 then t else t.enterFault k 1 i (s.sink k).vds
  let react := fun (t : State) (k : Nat) => if hasFault (s.sink k) 1 then t else t.react k
  react (react (enter (enter s c ic) d id) c) d

/-- The checks of a blanked sink, from the sense currents at 3.5 µs (R310). -/
def blankChecks (s : State) (c i : Nat) (adj : List (Nat × Nat)) : State :=
  let full : Rat := (s.fullCode c : Rat) / 20
  let a := if full / 20 < (i : Rat) then s.sinkFaulted c 1 i (s.sink c).vds else s
  adj.foldl (fun t p =>
    let d := p.1
    let k := s.sink d
    if d / 7 = c / 7 ∧ (d = c + 1 ∨ d + 1 = c) ∧ k.conducts ∧ k.met ∧ (p.2 : Rat) < 3 * k.targetMa / 4 then
      t.adjPair c i d p.2
    else t) a

/-- The sinks whose pins adjoin those of sink c (R776). -/
def adjoining (c : Nat) : List Nat :=
  (List.range 7).filterMap (fun j =>
    let d := 7 * (c / 7) + j
    if d = c + 1 ∨ d + 1 = c then some d else none)

/-- Raw count of the first period of group g that starts at or after a corrected time in ns (R287, R309, R310). -/
def firstPeriod (s : State) (g : Nat) (T : Rat) : Nat :=
  let r := s.tbs.rawOf T
  r + (62500 + 7800 * g % 62500 - r % 62500) % 62500

/-- The stretch of sink c falls in the period that begins now: period 16 × c from the whole second (R309). -/
def stretchDue (s : State) (c : Nat) : Bool :=
  let sec : Rat := ((s.corrNow / 1000000000).floor : Rat) * 1000000000
  s.raw == s.firstPeriod (c / 7) sec + 16 * c * 62500

/-- The blanking of sink c falls in the period that begins now: the first that starts 1.75 ms × c into a 100 ms
(R310). -/
def blankDue (s : State) (c : Nat) : Bool :=
  let base : Rat := ((s.corrNow / 100000000).floor : Rat) * 100000000
  s.raw == s.firstPeriod (c / 7) (base + 1750000 * c)

/-- Corrected time, ns, of the self-test slot of the spare of group g that contains or precedes now (R317). -/
def selfSlot (s : State) (g : Nat) : Nat :=
  let off : Rat := 1250000000 * g
  ((((s.corrNow - off) / 10000000000).floor : Rat) * 10000000000 + off).floor.toNat

/-- Blank a sink for the first 4 µs of the period (R310). -/
def blankSink (s : State) (c : Nat) : State :=
  s.setSink c (fun k => { k with blank := true, onTicks := min k.onTicks (125000 - 1600) })

/-- The supply hold of R734 ends: the present output of each head channel is where its next fade starts; the
group runs on, or is DARK when nothing drives it. -/
def leaveHeld (s : State) (g : Nat) : State :=
  if (s.group g).phase = .held then
    let held := (List.range 6).map (fun j => (s.sink (7 * g + j)).d)
    let a :=
      match (s.imgGroup g).head with
      | some h =>
        let st := s.isStopped tHEAD h
        s.setHead h (fun x => { x with
          cmd := none, waves := [], hold := if st then some held else none,
          fade := some { src := held, dst := held, srcLevel := 0, dstLevel := 0, curve := 0, t0 := s.raw, len := 0 } })
      | none => s
    let b := (a.setGroup g (fun x => { x with phase := .run, since := s.raw })).driveGroup g
    let pos := (List.range 6).any (fun j => decide (0 < (b.sink (7 * g + j)).d))
    if pos then b.setGroup g (fun x => { x with zeroSince := none })
    else (b.enterPhase g .dark).setGroup g (fun x => { x with zeroSince := some s.raw })
  else s

/-- A transition to VIGIL or OFF starts: each head fades to zero over F along curve 0 (R740). -/
def fadeOut (s : State) (h fade : Nat) : State :=
  match s.groupOfHead h with
  | some g =>
    let x := s.head h
    let src :=
      match s.entryOfHead h with
      | some e => s.clampHead g e (s.headDrives x s.raw)
      | none => List.replicate 6 0
    let next := s.raw + (62500 + 7800 * g - s.raw % 62500) % 62500
    s.setHead h (fun x => { x with
      out := some { src := src, dst := List.replicate 6 0, srcLevel := 0, dstLevel := 0, curve := 0, t0 := next, len := fade * 20000000 } })
  | none => s

/-- A takeover in LIT: the heads start dark, with no command (R739). -/
def headsDark (s : State) : State :=
  { s with mst := { s.mst with heads := s.mst.heads.map (fun h =>
      if h.out.isSome then { h with cmd := none, fade := none, pend := [], waves := [], hold := none, out := none } else h) } }

end State

open State

/-- HEAD_COMMAND_START (R217): at a PERIOD boundary of the head's group at or after T_eff. -/
def execHeadCommandStart (dt head : Nat) (s : State) : Host.Outcome State Fault Refusal :=
  .next (s.occurIn dt wMST (fun t =>
    match t.groupOfHead head with
    | some g => if t.atPeriod g then (t.headDue head).driveGroup g else t
    | none => t))

/-- HEAD_WAVE_TIME (R261). -/
def execHeadWaveTime (dt head : Nat) (s : State) : Host.Outcome State Fault Refusal :=
  .next (s.occurIn dt wMST (fun t =>
    match t.groupOfHead head with
    | some g => if t.atPeriod g then (t.headWaves head).driveGroup g else t
    | none => t))

/-- The code after an action of the headroom loop on the least V_DS of an interval, in mV (R292). -/
def State.hrAction (t : State) (g v : Nat) : Nat :=
  let target := 10 * t.actF wMST (0x104 + 0x20 * g) 30 24
  let band := 10 * t.actF wMST 0x008 7 0
  if v + band < target then t.hrMoved g true (t.actF wMST 0x008 15 8)
  else if target + band < v then t.hrMoved g false (t.actF wMST 0x008 23 16)
  else (t.group g).code

/-- HEADROOM_LOOP_STEP (R292): once every INTERVAL ms, on the sinks without a fault that conducted long enough. -/
def execHeadroomLoopStep (dt group : Nat) (s : State) : Host.Outcome State Fault Refusal :=
  .next (s.occurIn dt wMST (fun t =>
    if group < 8 ∧ t.hrRuns group ∧ (t.group group).hrAt + max 1 (t.actF wMST 0x008 31 24) * rawMs ≤ t.raw then
      let l := (List.range 6).filterMap (fun j =>
        let k := t.sink (7 * group + j)
        if sinkFault k then none else k.hrMin)
      let code := match minBy (fun v => v) l with
        | some v => t.hrAction group v
        | none => (t.group group).code
      (t.hrBegin group).setGroup group (fun x => { x with code := code })
    else t))

/-- HR_LIMIT (R294): told once for each time SAT persists. -/
def execHrLimit (dt group : Nat) (s : State) : Host.Outcome State Fault Refusal :=
  .next (s.occurIn dt wMST (fun t =>
    let long := fun (k : Sink) => k.sat && (match k.satSince with | some r => decide (r + 100 * rawMs ≤ t.raw) | none => false)
    if group < 8 ∧ t.hrRuns group ∧ (t.group group).code = (t.hrLimits group).2
        ∧ (List.range 6).any (fun j => long (t.sink (7 * group + j))) then
      ((List.range 6).foldl (fun u j => u.setSink (7 * group + j) (fun k =>
        if long k then { k with satSince := none } else k)) t).postEvent wMST 5 [iIndex group, iNumber (t.group group).code]
    else t))

/-- MST_TJ_WINDOW (R296 to R303): from 200 µs before the next TICK boundary, once for each boundary. -/
def execMstTjWindow (dt group : Nat) (last : List SinkMeas) (ntcOhms : List Rat) (s : State) :
    Host.Outcome State Fault Refusal :=
  .next (s.occurIn dt wMST (fun t =>
    if group < 8 ∧ t.groupEnabled group ∧ (t.tbs.tickTarget : Rat) - 200000 ≤ t.corrNow
        ∧ (t.group group).winTick ≠ some t.tbs.tickTarget then
      t.tjWindow group last ntcOhms
    else t))

/-- MST_CMD CALIBRATE (R304). -/
def execMstCalibrate (dt master group : Nat) (s : State) : Host.Outcome State Fault Refusal :=
  .next ((s.elapse dt).access master (reg wMST 0x00C) true (fun t => t.calStart (group % 8)))

/-- CALIBRATION_DONE (R305). -/
def execCalibrationDone (dt : Nat) (s : State) : Host.Outcome State Fault Refusal :=
  .next (s.occurIn dt wMST (fun t => t.calFinish))

/-- MST_CMD ACK (R315). -/
def execMstAck (dt master sink : Nat) (s : State) : Host.Outcome State Fault Refusal :=
  .next ((s.elapse dt).access master (reg wMST 0x00C) true (fun t => t.mstAckSink (sink % 64)))

/-- SINK_FAULT_OPEN (R307, R311, R313): OPEN_CONF consecutive checks confirm it, or one in a stretched pulse. -/
def execSinkFaultOpen (dt sink : Nat) (s : State) : Host.Outcome State Fault Refusal :=
  .next (s.occurIn dt wMST (fun t =>
    let k := t.sink sink
    if t.sinkChecked sink ∧ max 1 (t.actF wMST 0x004 3 0) ≤ k.openCnt then t.sinkFaulted sink 0 k.i k.vds else t))

/-- SINK_FAULT_CTRL (R307, R311, R318): three consecutive periods confirm it. -/
def execSinkFaultCtrl (dt sink : Nat) (s : State) : Host.Outcome State Fault Refusal :=
  .next (s.occurIn dt wMST (fun t =>
    let k := t.sink sink
    if t.sinkChecked sink ∧ 3 ≤ k.ctrlCnt then t.sinkFaulted sink 2 k.i k.vds else t))

/-- SINK_OVERCURRENT (R307): a current above 125 % of the target for 2 µs; the gate is clamped off at once, in HELD as
well (R308, R734). -/
def execSinkOvercurrent (dt sink i vds : Nat) (s : State) : Host.Outcome State Fault Refusal :=
  .next (s.occurIn dt wMST (fun t =>
    let k := t.sink sink
    let held := (t.group (sink / 7)).phase = .held ∧ 0 < k.d ∧ sink < 56 ∧ sink % 7 < 6
    if (t.sinkChecked sink ∨ held) ∧ 5 * k.targetMa / 4 < (i : Rat) then
      (t.sinkFaulted sink 2 i vds).setSink sink Sink.clampOff
    else t))

/-- SINK_FAULT_SAT (R293, R307): three consecutive periods confirm it. -/
def execSinkFaultSat (dt sink : Nat) (s : State) : Host.Outcome State Fault Refusal :=
  .next (s.occurIn dt wMST (fun t =>
    let k := t.sink sink
    if t.sinkChecked sink ∧ 3 ≤ k.satCnt then t.sinkFaulted sink 3 k.i k.vds else t))

/-- SINK_BLANKING (R310): in the sink's period of the 100 ms, with the sense currents at 3.5 µs. -/
def execSinkBlanking (dt sink i : Nat) (adj : List (Nat × Nat)) (s : State) : Host.Outcome State Fault Refusal :=
  .next (s.occurIn dt wMST (fun t =>
    if t.sinkChecked sink ∧ t.blankDue sink then (t.blankSink sink).blankChecks sink i adj else t))

/-- PULSE_STRETCH (R309, R310): in the sink's period of the second the pulse becomes 8 µs, and the excess is owed; it
starts at 4 µs, and the adjoining sinks are blanked and checked, with the sense currents at 3.5 µs. -/
def execPulseStretch (dt sink : Nat) (cur : List (Nat × Nat)) (s : State) : Host.Outcome State Fault Refusal :=
  .next (s.occurIn dt wMST (fun t =>
    let k := t.sink sink
    if sink < 56 ∧ sink % 7 < 6 ∧ (t.group (sink / 7)).phase ≠ .held ∧ t.stretchDue sink ∧ k.mode = .pwm ∧ 15 ≤ k.onTicks
        ∧ k.onTicks < 3200 then
      let a := t.setSink sink (fun k => { k with
        mode := .stretch, excess := k.excess + (3200 - k.onTicks), onTicks := 3200, blank := true })
      let l := adjoining sink
      let b := l.foldl (fun u c => u.blankSink c) a
      l.foldl (fun u c => if u.sinkChecked c then u.blankChecks c (tabGetD 0 cur c) cur else u) b
    else t))

/-- SPARE_SINK_SELFTEST (R317, R327): once in every 10 s, with what the test measured; its registers report the checks
of R307 at 50 mA (log entry 65). -/
def execSpareSinkSelftest (dt group : Nat) (ok : Bool) (meas : SinkMeas) (s : State) : Host.Outcome State Fault Refusal :=
  .next (s.occurIn dt wMST (fun t =>
    let x := t.group group
    if group < 8 ∧ t.groupEnabled group ∧ (t.imgGroup group).spare ∧ x.spareTo.isNone ∧ x.subBusy.isNone
        ∧ x.selfAt ≠ some (t.selfSlot group) then
      let a := (t.setSink (7 * group + 6) (fun k => { k with
        i := meas.i, vds := meas.vds, vf := openNat 16 (stringVf meas), tj := none, open_ := openSeen 50 meas,
        ctrl := ctrlSeen 50 meas, sat := satFound 50 meas })).setGroup group (fun y =>
          { y with selfAt := some (t.selfSlot group) })
      if ok then a
      else (a.setGroup group (fun y => { y with spareUsable := false })).postEvent wMST 12 [iIndex group]
    else t))

/-- SPARE_SINK_TAKEOVER (R318, R319, R764): the spare serves the sink, and a fault that waited for it finds none. -/
def execSpareSinkTakeover (dt group : Nat) (s : State) : Host.Outcome State Fault Refusal :=
  .next (s.occurIn dt wMST (fun t =>
    match (t.group group).subBusy with
    | some j =>
      let c := 7 * group + j
      let a := (t.setGroup group (fun x => { x with spareTo := some j, subBusy := none })).setSink c (fun k =>
        { k with subst := true, ctrl := false })
      let b := { a with flt := { a.flt with
        sinkRet := setAdd a.flt.sinkRet c, sinkSub := setAdd a.flt.sinkSub c } }
      let d := (b.postEvent wMST 11 [iIndex c]).vergeEvent true 0 c (7 * group + 6) 0
      (List.range 6).foldl (fun u i =>
        let k := u.sink (7 * group + i)
        if k.ctrl ∧ !k.takenOut ∧ (u.group group).phase ≠ .tripped then u.poolEmpty.react (7 * group + i) else u) d
    | none => t))

/-- GROUP_DARK (R312). -/
def execGroupDark (dt group : Nat) (s : State) : Host.Outcome State Fault Refusal :=
  .next (s.occurIn dt wMST (fun t =>
    match (t.group group).zeroSince with
    | some z =>
      if group < 8 ∧ (t.group group).phase = .run ∧ z + max 1 (t.actF wMST 0x004 31 24) * rawS ≤ t.raw then
        t.enterPhase group .dark
      else t
    | none => t))

/-- GROUP_STARTUP_END (R312). -/
def execGroupStartupEnd (dt group : Nat) (s : State) : Host.Outcome State Fault Refusal :=
  .next (s.occurIn dt wMST (fun t =>
    if group < 8 ∧ (t.group group).phase = .startup
        ∧ (t.group group).since + max 1 (t.actF wMST 0x004 15 8) * (100 * rawMs) ≤ t.raw then
      t.enterPhase group .run
    else t))

/-- GROUP_RECOVERY_END (R312). -/
def execGroupRecoveryEnd (dt group : Nat) (s : State) : Host.Outcome State Fault Refusal :=
  .next (s.occurIn dt wMST (fun t =>
    if group < 8 ∧ (t.group group).phase = .recovery
        ∧ (t.group group).since + max 1 (t.actF wMST 0x004 23 16) * rawS ≤ t.raw then
      t.enterPhase group .run
    else t))

end Sys2Proof.Machine
end

