-- ==== Sys2Proof/Machine/Ltable.lean ====
section
/-! DEFINITION. Editing the lantern table: the commit queue, its checks, the EUI lookup, direct writes and
silence (R125, R140, R146 to R162). -/

namespace Sys2Proof.Machine

/-! ## Checks of a commit (R151) -/

/-- The regions by mask bit: first offset and length (R146). -/
def editRegions : List (Nat × Nat × Nat) :=
  [(0, 0x000, 0x20), (1, 0x020, 0x80), (2, 0x0A0, 0x0C), (3, 0x0C0, 0x20), (4, 0x0E0, 0x20), (5, 0x160, 0x18)]

/-- Offsets of the host-owned bytes of a region. -/
def regionOffs (b : Nat) : List Nat :=
  match editRegions.find? (fun r => r.1 == b) with
  | some r => (List.range r.2.2).map (fun i => r.2.1 + i)
  | none => []

/-- The entry that results when the masked regions of a buffer replace those of an entry; STATE, which
the module owns, stays (R124, R146). -/
def editMerge (mask : Nat) (cur buf : List Byte) : List Byte :=
  (List.range 384).map (fun i =>
    if i ≠ 0x009 ∧ editRegions.any (fun r => (mask >>> r.1) % 2 == 1 && decide (r.2.1 ≤ i ∧ i < r.2.1 + r.2.2))
    then nth 0 buf i else nth 0 cur i)

/-- A byte of an entry. -/
def eb (e : List Byte) (o : Nat) : Nat := (nth 0 e o).toNat

/-- The first offset of a list at which a byte fails its condition. -/
def firstBad (l : List (Nat × Bool)) : Option Nat := (l.find? (fun x => !x.2)).map (·.1)

/-- A binary16 field that is a finite number within bounds. -/
def f16In (e : List Byte) (o : Nat) (p : Rat → Bool) : Bool :=
  match dec16 (fieldLE e o 2) with
  | some q => p q
  | none => false

/-- Conditions on channel record c in use (R129). -/
def calChan (e : List Byte) (c : Nat) : List (Nat × Bool) :=
  let o := 0x040 + 16 * c
  [(o, f16In e o (fun q => decide (0 < q ∧ q < 65 / 100))),
   (o + 2, f16In e (o + 2) (fun q => decide (0 < q ∧ q < 60 / 100))),
   (o + 4, f16In e (o + 4) (fun q => decide (0 < q))),
   (o + 6, f16In e (o + 6) (fun q => decide (0 < q))),
   (o + 8, f16In e (o + 8) (fun q => decide (-2 / 100 ≤ q ∧ q ≤ 0))),
   (o + 10, f16In e (o + 10) (fun q => decide (-1 / 1000 ≤ q ∧ q ≤ 1 / 1000))),
   (o + 12, f16In e (o + 12) (fun q => decide (-1 / 1000 ≤ q ∧ q ≤ 1 / 1000))),
   (o + 14, f16In e (o + 14) (fun _ => true))]

/-- The first failing byte of BADCAL (R130, R151). -/
def badCal (e : List Byte) : Option Nat :=
  if eb e 8 = 3 then firstBad ((regionOffs 1).map (fun o => (o, eb e o == 0)))
  else
    let n := eb e 0x024
    firstBad
      ([(0x024, decide (1 ≤ n ∧ n ≤ 6)), (0x025, eb e 0x025 == 1),
        (0x026, f16In e 0x026 (fun q => decide (0 < q))),
        (0x028, f16In e 0x028 (fun q => decide (q = 0 ∨ (60 ≤ q ∧ q ≤ 150)))),
        (0x02A, f16In e 0x02A (fun q => decide (0 ≤ q ∧ q ≤ 60)))]
       ++ (List.range 6).flatMap (fun c =>
          if c < n then calChan e c
          else (List.range 16).map (fun i => (0x040 + 16 * c + i, eb e (0x040 + 16 * c + i) == 0))))

/-- The first byte of a border reference that breaks R135. -/
def badPeerBorder (e : List Byte) : Option Nat :=
  firstBad
    ((regionOffs 0).filterMap (fun o =>
        if o < 8 ∨ o = 8 ∨ o = 9 then none
        else if 0x00D ≤ o ∧ o ≤ 0x011 then some (o, eb e o == 0xFF) else some (o, eb e o == 0))
     ++ (regionOffs 1 ++ regionOffs 2).map (fun o => (o, eb e o == 0))
     ++ (regionOffs 3).map (fun o => (o, if o % 8 < 2 then eb e o == 0xFF else eb e o == 0))
     ++ (regionOffs 4).filterMap (fun o =>
        if o = 0x0E0 then some (o, decide (eb e o ≤ 15))
        else if o = 0x0E2 ∨ o = 0x0E3 then none else some (o, eb e o == 0))
     ++ (regionOffs 5).map (fun o => (o, eb e o == 0)))

/-- The first failing byte of BADPEER: R135 is about border references only (R135, R151). -/
def badPeer (e : List Byte) : Option Nat := if eb e 8 = 3 then badPeerBorder e else none

/-- The first byte marked zero that is not zero (R127). -/
def badReserved (e : List Byte) : Option Nat :=
  firstBad (((List.range 8).map (0x018 + ·) ++ (List.range 20).map (0x02C + ·) ++ (List.range 8).map (0x0B8 + ·)
    ++ [0x0E1] ++ (List.range 28).map (0x0E4 + ·)).map (fun o => (o, eb e o == 0)))

/-- The first failing byte of BADFIELD, for the head number bound to the entry if any (R151). -/
def badField (e : List Byte) (head : Option Nat) : Option Nat :=
  if eb e 8 = 3 then none
  else
    let small := fun o lim => decide (eb e o < lim) || eb e o == 0xFF
    firstBad
      [(0x00C, decide (eb e 0x00C < 16)), (0x00D, small 0x00D 16), (0x00E, small 0x00E 16), (0x00F, small 0x00F 4),
       (0x010, fieldLE e 0x010 2 == head.getD 0xFFFF)]

namespace State

/-- Conditions on link k of entry n (R132, R133). -/
def linkOk (s : State) (n : Nat) (e : List Byte) (k : Nat) : List (Nat × Bool) :=
  let o := 0x0C0 + 8 * k
  let t := fieldLE e o 2
  if t = 0xFFFF then (List.range 6).map (fun i => (o + 2 + i, eb e (o + 2 + i) == 0))
  else
    [(o, decide (t < s.ltb.count ∧ t ≠ n) && s.ltKind t != 0), (o + 2, fieldLE e (o + 2) 2 != 0),
     (o + 5, decide (eb e (o + 5) < 2))]

/-- The first failing byte of BADLINK. -/
def badLink (s : State) (n : Nat) (e : List Byte) : Option Nat :=
  firstBad ((List.range 4).flatMap (s.linkOk n e))

/-- BADEUI: a radio lantern's EUI-64 zero, all ones, or that of another entry (R151). -/
def badEui (s : State) (n : Nat) (e : List Byte) : Bool :=
  let u := fieldLE e 0 8
  eb e 8 == 1 && (u == 0 || u == 2 ^ 64 - 1
    || s.entryIds.any (fun m => m != n && (s.ltKind m == 1 || s.ltKind m == 3) && s.ltEui m == u))

/-- BADSRC (R151). -/
def badSrc (s : State) (src : Nat) : Bool :=
  src % 32 != 0 || !(inSram src && inSram (src + 383))
    || (decide (src < s.ltb.base + 384 * s.ltb.count) && decide (s.ltb.base < src + 384))

/-- A check is made when the commit defines an empty entry or its mask names one of some regions (R151). -/
def checked (mask : Nat) (defines : Bool) (regions : List Nat) : Bool :=
  defines || regions.any (fun b => (mask >>> b) % 2 == 1)

/-- The checks of a commit: 0 and 0, or the code and the offset of the first that fails (R151). -/
def commitCheck (s : State) (c : EditCmd) : Nat × Nat :=
  if s.badSrc c.src then (2, 0)
  else if s.ltb.count ≤ c.index then (3, 0)
  else
    let e := editMerge c.mask (s.bytes (s.ltAddr c.index 0) 384) (s.bytes c.src 384)
    let id := c.mask % 2 = 1
    let kind := eb e 8
    let old := s.ltKind c.index
    let h := s.headOfEntry c.index
    let st := s.hst (s.entryHandle c.index).1 (s.entryHandle c.index).2
    let defines := old == 0
    let at_ := fun (regions : List Nat) (code : Nat) (bad : Option Nat) =>
      if checked c.mask defines regions then bad.map (fun o => (code, o)) else none
    if id ∧ ((kind = 2) ≠ (h.isSome = true)) then (6, 8)
    else if 3 < kind ∨ (old = 0 ∧ (¬id ∨ kind = 0)) ∨ (old ≠ 0 ∧ kind ≠ old) then (4, 8)
    else if id ∧ (st = .running ∨ st = .faulted) then (5, 0)
    else
      ((at_ [0] 7 (if s.badEui c.index e then some 0 else none)).or
        ((at_ [0, 1] 8 (badCal e)).or
          ((at_ [3] 9 (s.badLink c.index e)).or
            ((at_ [0, 1, 2, 3, 4, 5] 0xA (badPeer e)).or
              ((at_ [0, 1, 4] 0xB (badReserved e)).or
                (at_ [0] 0xC (badField e h))))))).getD (0, 0)

/-- The checks of a CLEAR (R150, R151). Offset 8 of HEADENTRY is DESIGN CHOICE (log entry 62). -/
def clearCheck (s : State) (c : EditCmd) : Nat × Nat :=
  if s.ltb.count ≤ c.index then (3, 0)
  else if (s.headOfEntry c.index).isSome then (6, 8)
  else if s.ltKind c.index = 0 then (4, 0)
  else if s.hst tLANTERN c.index ≠ .free then (5, 0)
  else (0, 0)

/-- Scene engine state of an entry. -/
def scnEntry (s : State) (n : Nat) : ScnEntry := tabGetD ScnEntry.empty s.scn.entries n

/-- Change the scene engine's state of an entry. -/
def setScnEntry (s : State) (n : Nat) (f : ScnEntry → ScnEntry) : State :=
  { s with scn := { s.scn with entries := tabPut ScnEntry.empty s.scn.entries n (f (s.scnEntry n)) } }

/-- A commit that passed its checks copies its regions in one step (R146, R149). SOLVE_STATUS of an entry that
has had no solve reads 0xFF from then on (R127; DESIGN CHOICE: log entry 60). -/
def commitApply (s : State) (c : EditCmd) : State :=
  let a := s.ltAddr c.index 0
  let cur := s.bytes a 384
  let e := editMerge c.mask cur (s.bytes c.src 384)
  let t := s.setBytes a e
  let t := if (s.scnEntry c.index).solved then t else t.setLt c.index 0x152 1 0xFF
  let t := if eb cur 8 = 0 then t.enterState c.index (if eb e 8 = 3 then 6 else 1) else t
  if slice cur 0 0xAC ≠ slice e 0 0xAC then t.setScnEntry c.index (fun x => { x with trCommit := true }) else t

/-- A CLEAR that passed its checks empties the entry (R140). -/
def clearApply (s : State) (n : Nat) : State :=
  let t := s.setBytes (s.ltAddr n 0) (List.replicate 384 0)
  { t with scn := { t.scn with entries := tabDel t.scn.entries n } }

/-- A command completes with a code and an offset (R151). -/
def editEnd (s : State) (c : EditCmd) (r : Nat × Nat) : State :=
  let t := { s with ltb := { s.ltb with done := c.ticket, code := r.1, queue := s.ltb.queue.drop 1 } }
  if r.1 = 0 then t.postBit wLTB 1
  else
    (t.post (reg wLTB 0) (2 ^ 1 + 2 ^ 2)).event wLTB (some 2)
      [iIndex c.ticket, iIndex c.index, iCause r.1, iAddr r.2]

/-- The command at the head of the commit queue is checked and applied, or fails (R148, R151). -/
def editHead (s : State) : State :=
  match s.ltb.queue with
  | [] => s
  | c :: _ =>
    let r := if c.clear then s.clearCheck c else s.commitCheck c
    let t := if r.1 ≠ 0 then s else if c.clear then s.clearApply c.index else s.commitApply c
    t.editEnd c r

/-- Complete the commands queued, n of them at most, in ticket order (R149). -/
def editAll (s : State) : Nat → State
  | 0 => s
  | n + 1 => (s.editHead).editAll n

/-- The command at the head waits for the next TICK boundary (R148). -/
def editWaits (s : State) : Bool :=
  match s.ltb.queue with
  | c :: _ => s.entryRunning c.index
  | [] => true

/-- A command written to LTB_EDITCMD (R147, R158): OP 1 COMMIT, 2 CLEAR, others ignored. LTB_EDITSRC and LTB_EDITCTL
are taken at this write (R146; DESIGN CHOICE: log entry 62). -/
def editCommand (s : State) (op : Nat) : State :=
  if op ≠ 1 ∧ op ≠ 2 then s
  else if 64 ≤ s.ltb.queue.length then s.postBit wLTB 3
  else
    let t := (s.ltb.issued + 1) % 256
    { s with ltb := { s.ltb with
        issued := t
        queue := s.ltb.queue ++ [{ ticket := t, clear := op == 2, index := s.cfgF wLTB 0x014 11 0,
                                   mask := s.cfgF wLTB 0x014 21 16, src := s.cfgF wLTB 0x010 31 0 }] } }

/-- A write to LTB_EUIHI starts the lookup (R162). -/
def euiHiWrite (s : State) (v : Word) : State :=
  let t := s.setCfg (reg wLTB 0x034) v
  { t with ltb := { t.ltb with euiFound := t.findEui (t.cfgF wLTB 0x030 31 0 + 2 ^ 32 * v.toNat) } }

/-- The event bit i of a status register is set, or held to be set. -/
def statSet (s : State) (a i : Nat) : Bool :=
  let r := s.statOf a
  (r.bits >>> i) % 2 == 1 || r.held.any (fun h => (h.bits >>> i) % 2 == 1)

/-- A write inside the LTABLE region is discarded and recorded (R125, R155). -/
def ltbDiscard (s : State) (a : Nat) : State :=
  let t := if s.statSet (reg wLTB 0) 0 then s else { s with ltb := { s.ltb with dwAddr := a } }
  t.postBit wLTB 0

/-- Write bytes of memory as a master does: those inside the LTABLE region are discarded (R125). -/
def masterBytes (s : State) (a : Nat) : List Byte → State
  | [] => s
  | b :: r => (if s.inLtable a then s else s.setByte a b).masterBytes (a + 1) r

/-- A write of a master other than the lantern table control to memory (R125). -/
def masterWrite (s : State) (a : Nat) (d : List Byte) : State :=
  let hit := (List.range d.length).find? (fun i => s.inLtable (a + i))
  let t := s.masterBytes a d
  match hit with
  | some i => t.ltbDiscard (if i = 0 then a else a + i)
  | none => t

/-- Silence of entry n was found at the last TICK boundary (R140, R160). -/
def silentDue (s : State) (n : Nat) : Bool :=
  match s.tbs.tickPrev with
  | some p =>
    s.ltKind n == 1 && (s.ltState n == 2 || s.ltState n == 4)
      && decide (s.lt n 0x108 8 + max 10 (s.actF wLTB 0x020 15 0) * rawS ≤ p)
  | none => false

end State

/-! ## Meanings -/

/-- LTB_EDITCMD COMMIT (R146, R147). -/
def execLtbCommit (dt master : Nat) (s : State) : Host.Outcome State Fault Refusal :=
  .next ((s.elapse dt).access master (reg wLTB 0x018) true (fun t => t.editCommand 1))

/-- LTB_EDITCMD CLEAR (R147, R150). -/
def execLtbClear (dt master : Nat) (s : State) : Host.Outcome State Fault Refusal :=
  .next ((s.elapse dt).access master (reg wLTB 0x018) true (fun t => t.editCommand 2))

/-- The command at the head of the commit queue completes, unless it waits for a TICK boundary (R148). -/
def execLtbCommitComplete (dt : Nat) (s : State) : Host.Outcome State Fault Refusal :=
  .next (s.occurIn dt wLTB (fun t => if t.editWaits then t else t.editHead))

/-- LTB_EUIHI written (R162). -/
def execLtbEuiLookup (dt master : Nat) (value : Word) (s : State) : Host.Outcome State Fault Refusal :=
  .next ((s.elapse dt).access master (reg wLTB 0x034) true (fun t => t.euiHiWrite value))

/-- A master's write to memory (R125): it stores where memory is and the LTABLE region is not. -/
def execLtableDirectWrite (dt _master addr : Nat) (data : List Byte) (s : State) : Host.Outcome State Fault Refusal :=
  if State.memSpan addr data.length then .next (s.occur dt (fun t => t.masterWrite addr data))
  else .fault (.noMemory addr)

/-- An entry becomes SILENT (R140). -/
def execEntrySilent (dt entry : Nat) (s : State) : Host.Outcome State Fault Refusal :=
  .next (s.occurIn dt wLTB (fun t => if t.silentDue entry then t.enterState entry 3 else t))

end Sys2Proof.Machine
end

