-- ==== Sys2Proof/Machine/Queues.lean ====
section
/-! DEFINITION. The queue manager: rings, descriptors, translation windows, transfers and their faults
(R510 to R545). -/

namespace Sys2Proof.Machine

/-- A descriptor as the queue manager reads it (R520). -/
structure Desc where
  addr : Nat
  len : Nat
  flags : Nat
  /-- bytes 12 to 21 -/
  timing : List Byte
  dest : Nat
  tag : Nat
  deriving DecidableEq, Repr

/-- ACKREQ, RETRY, TSREQ, LATE, NOTIFY and JOINFORM (R520). -/
def Desc.ackReq (d : Desc) : Bool := d.flags % 2 == 1
def Desc.retry (d : Desc) : Nat := d.flags / 2 % 8
def Desc.tsReq (d : Desc) : Bool := d.flags / 16 % 2 == 1
def Desc.late (d : Desc) : Bool := d.flags / 32 % 2 == 1
def Desc.notify (d : Desc) : Bool := d.flags / 64 % 2 == 1
def Desc.joinForm (d : Desc) : Bool := d.flags / 128 % 2 == 1
/-- LAUNCH and DEADLINE of a lane frame, absolute slot numbers (R520). -/
def Desc.launch (d : Desc) : Nat := fieldLE d.timing 0 5
def Desc.deadline (d : Desc) : Nat := fieldLE d.timing 5 5
/-- LAUNCH_RAW of an ETX frame, or DST of a COPY (R520). -/
def Desc.word64 (d : Desc) : Nat := fieldLE d.timing 0 8

/-- Causes of a DMA fault (R544). -/
inductive DmaCause
  | noWindow | perm | memErr | ring
  deriving DecidableEq, Repr

/-- FAULTINFO.CAUSE (R544). -/
def DmaCause.code (c : DmaCause) : Nat :=
  match c with
  | .noWindow => 1 | .perm => 2 | .memErr => 3 | .ring => 4

namespace State

/-! ## Queues and rings (R510 to R519) -/

/-- Change queue q. -/
def setQueue (s : State) (q : Nat) (f : Queue → Queue) : State :=
  { s with qdm := { s.qdm with queues := tabPut Queue.reset s.qdm.queues q (f (s.queue q)) } }

/-- Class of queue q; 7 where the image names none. -/
def qClass (s : State) (q : Nat) : Nat := match s.imgQueue q with | some c => c.cls | none => 7

/-- The queue is engine-owned. -/
def qEngine (s : State) (q : Nat) : Bool := match s.imgQueue q with | some c => c.engineOwned | none => false

/-- The lane or port of queue q. -/
def qTarget (s : State) (q : Nat) : Nat := match s.imgQueue q with | some c => c.target | none => 15

/-- The serving engine of queue q: 0 host, 1 scene, 2 wave, 3 LCS handler. -/
def qServer (s : State) (q : Nat) : Nat := match s.imgQueue q with | some c => c.engine | none => 0

/-- Ring size exponent and base in force. -/
def ringLog (s : State) (q : Nat) : Nat := s.cfgF wQDM (0x1008 + 0x40 * q) 3 0
def ringN (s : State) (q : Nat) : Nat := 2 ^ s.ringLog q
def ringBase (s : State) (q : Nat) : Nat := s.cfgF wQDM (0x1004 + 0x40 * q) 31 0

/-- Address of descriptor i of the ring (R515). -/
def descAddr (s : State) (q i : Nat) : Nat := s.ringBase q + 32 * (i % s.ringN q)

/-- The ring keeps R515: 16 to 4,096 descriptors, aligned, in SRAM, outside the LTABLE region. -/
def ringOk (s : State) (q : Nat) : Bool :=
  let b := s.ringBase q
  let n := 32 * s.ringN q
  decide (4 ≤ s.ringLog q ∧ s.ringLog q ≤ 12) && b % 32 == 0 && inSram b && inSram (b + n - 1)
    && !(decide (b < s.ltb.base + 384 * s.ltb.count) && decide (s.ltb.base < b + n))

/-- Descriptors handed over and not completed (R516). -/
def qCount (s : State) (q : Nat) : Nat := ((s.queue q).tail + 65536 - (s.queue q).head) % 65536

/-- An engine runs: ENABLE of SCN or WAV; the LCS handler always (R512). -/
def engineOn (s : State) (e : Nat) : Bool :=
  match e with
  | 1 => s.actF wSCN 0x004 0 0 == 1
  | 2 => s.actF wWAV 0x004 0 0 == 1
  | _ => true

/-- The queue is run: by its engine, or while its handle is RUNNING (R512). -/
def qRuns (s : State) (q : Nat) : Bool :=
  match s.imgQueue q with
  | some c => if c.engineOwned then s.engineOn c.engine else s.isRunning tQUEUE q
  | none => false

/-- The descriptor at an index of a ring. -/
def descAt (s : State) (q i : Nat) : Desc :=
  let a := s.descAddr q i
  { addr := s.memLE a 8, len := s.memLE (a + 8) 2, flags := s.memLE (a + 10) 2, timing := s.bytes (a + 12) 10,
    dest := s.memLE (a + 22) 2, tag := s.memLE (a + 24) 2 }

/-- The head descriptor. -/
def headDesc (s : State) (q : Nat) : Desc := s.descAt q (s.queue q).head

/-- TAIL takes an index, and the new descriptors count as handed over at raw count r (R517, R518). -/
def setTailAt (s : State) (q v r : Nat) : State :=
  let old := (s.queue q).tail
  let n := (v + 65536 - old) % 65536
  let a := (s.setQueue q (fun x => { x with tail := v })).setCfg (reg wQDM (0x100C + 0x40 * q)) (BitVec.ofNat 32 v)
  { a with qdm := { a.qdm with
      handed := a.qdm.handed ++ (List.range n).map (fun i => (q, (old + i) % 65536, r)) } }

/-- TAIL takes an index now. -/
def setTail (s : State) (q v : Nat) : State := s.setTailAt q v s.raw

/-- Raw count at which an index was handed over. -/
def handedAt (s : State) (q i : Nat) : Nat :=
  match s.qdm.handed.find? (fun h => h.1 == q && h.2.1 == i) with
  | some h => h.2.2
  | none => 0

/-- A write to TAIL of a host-available queue (R517). -/
def tailWrite (s : State) (master addr q v : Nat) (w : Word) : State :=
  if s.qEngine q then s.lockedWrite master addr w false
  else
    let h := (s.queue q).head
    let n := (v + 65536 - h) % 65536
    if s.qCount q ≤ n ∧ n ≤ s.ringN q then s.setTail q v
    else s.post (reg wQDM (0x1014 + 0x40 * q)) (2 ^ 2)

/-! ## Engine-owned queues -/

/-- The payload an engine queued at the head of its queue. -/
def engPay (s : State) (q i : Nat) : Option EngBuf :=
  s.qdm.bufs.find? (fun b => b.queue == q && b.index == i % 65536)

/-- Octets of a SCENE record (R485). -/
def recOctets (r : SceneRec) : List Byte :=
  leBytes 2 (r.laddr % 4096 + 4096 * r.mix.length) ++ leBytes 2 r.groups ++ leBytes 2 r.cap ++ leBytes 2 r.level
    ++ leBytes 2 r.fade ++ leBytes 1 (r.curve % 8) ++ r.mix.flatMap (leBytes 2)

/-- Octets of an engine's payload: a SCENE frame (R485) or what it was built as. -/
def payOctets (p : EPay) : List Byte :=
  match p with
  | .scene asn tseq recs =>
    leBytes 1 0x59 ++ leBytes 1 1 ++ leBytes 5 asn ++ leBytes 2 tseq ++ leBytes 1 recs.length ++ recs.flatMap recOctets
  | .octets b => b

/-- A free descriptor stands in the ring. -/
def qFree (s : State) (q : Nat) : Bool := decide (s.qCount q < s.ringN q)

/-- An engine writes a descriptor and its payload and hands it over at raw count r (R510, R520). -/
def enqueueAt (s : State) (q : Nat) (p : EPay) (flags launch deadline dest r : Nat) : State :=
  let i := (s.queue q).tail
  let a := s.descAddr q i
  let t := s.masterWrite a (leBytes 8 (Config.engineBuf q i) ++ leBytes 2 (payOctets p).length ++ leBytes 2 flags
    ++ leBytes 5 launch ++ leBytes 5 deadline ++ leBytes 2 dest ++ leBytes 2 0 ++ leBytes 6 0)
  let u := { t with qdm := { t.qdm with bufs := t.qdm.bufs ++ [({ queue := q, index := i, pay := p, at_ := r } : EngBuf)] } }
  u.setTailAt q ((i + 1) % 65536) r

/-- As `enqueueAt`, now. -/
def enqueue (s : State) (q : Nat) (p : EPay) (flags launch deadline dest : Nat) : State :=
  s.enqueueAt q p flags launch deadline dest s.raw

/-- An engine's Ethernet descriptor: no LAUNCH_RAW (R520). -/
def enqueueEth (s : State) (q : Nat) (p : EPay) : State := s.enqueue q p 0 0 0 0

/-! ## Completion (R519, R520) -/

/-- The head descriptor completes: bytes 26 to 31 are written, then HEAD advances (R519). -/
def complete (s : State) (q status len cflags : Nat) : State :=
  let x := s.queue q
  let d := s.headDesc q
  let a := s.masterWrite (s.descAddr q x.head + 26)
    (leBytes 2 len ++ leBytes 1 status ++ leBytes 1 x.attempts ++ leBytes 1 (cflags ||| 1) ++ leBytes 1 0)
  let h := (x.head + 1) % 65536
  let b := a.setQueue q (fun x => { x with
    head := h, xfer := none, held := none, attempts := 0, lateSent := false, headFc := none, done := none })
  let c := { b with qdm := { b.qdm with
    bufs := b.qdm.bufs.filter (fun e => !(e.queue == q && e.index == x.head)),
    handed := b.qdm.handed.filter (fun e => !(e.1 == q && e.2.1 == x.head)),
    gone := b.qdm.gone.filter (fun e => !(e.1 == q && e.2 == x.head)) } }
  if d.notify then c.post (reg wQDM (0x1014 + 0x40 * q)) 1 else c

/-- A completion that is due is written (R531). -/
def settle (s : State) (q : Nat) : State :=
  match (s.queue q).done with
  | some (st, len, cf) => s.complete q st len cf
  | none => s

/-- Complete n descriptors with FLUSHED (R537). -/
def flushN (s : State) (q : Nat) : Nat → State
  | 0 => s
  | n + 1 => (s.complete q 4 0 0).flushN q n

/-- Every descriptor from HEAD to TAIL completes with FLUSHED, in ring order (R536, R537). -/
def flush (s : State) (q : Nat) : State := let t := s.settle q; t.flushN q (t.qCount q)

/-- The fetch of the descriptor at an index has begun (R530). -/
def fetching (s : State) (q i : Nat) : Bool :=
  (s.queue q).head == i && ((s.queue q).xfer.isSome || (s.queue q).held.isSome)

/-- Complete withdrawn descriptors that stand at the head of queue q, at most n (R486, R520). -/
def sweepN (s : State) (q : Nat) : Nat → State
  | 0 => s
  | n + 1 =>
    if 0 < s.qCount q ∧ s.qdm.gone.contains (q, (s.queue q).head) ∧ !s.fetching q (s.queue q).head then
      (s.complete q 3 0 0).sweepN q n
    else s

/-- Complete the withdrawn descriptors at the head of queue q. -/
def sweep (s : State) (q : Nat) : State := s.sweepN q (s.qCount q)

/-- Withdraw the descriptor at an index of queue q, unless its fetch has begun or it has been launched. -/
def withdrawDesc (s : State) (q i : Nat) : State :=
  if s.fetching q i ∨ ((s.queue q).head = i ∧ 0 < (s.queue q).attempts) then s
  else { s with qdm := { s.qdm with gone := s.qdm.gone ++ [(q, i)] } }.sweep q

/-- Indices of the descriptors handed over and not completed. -/
def liveIdx (s : State) (q : Nat) : List Nat :=
  (List.range (s.qCount q)).map (fun k => ((s.queue q).head + k) % 65536)

/-! ## Checks of a descriptor (R521 to R523) -/

/-- Largest LEN of a lane descriptor: the lane's PSDU limit less the octets of its form (R523). -/
def lenLimit (s : State) (lane cls : Nat) (d : Desc) : Nat :=
  if cls = 0 then s.waveMax lane - 33
  else if d.dest = 0xFFFF then s.bulkMax lane - 33
  else if d.joinForm then (if d.ackReq then s.bulkAckMax lane else s.bulkMax lane) - 39
  else (if d.ackReq then s.bulkAckMax lane else s.bulkMax lane) - 38

/-- The descriptor's frame is for a lantern whose handle is FAULTED: the module sends it none (R141). -/
def toFaulted (s : State) (d : Desc) : Bool := d.dest != 0xFFFF && decide (s.hst tLANTERN d.dest = .faulted)

/-- The entry is a joined radio lantern (R522). -/
def joinedLantern (s : State) (n : Nat) : Bool :=
  s.ltKind n == 1 && (s.ltState n == 2 || s.ltState n == 3 || s.ltState n == 4)

/-- The code with which a descriptor completes when it is read, none when it passes (R521 to R523). -/
def descCheck (s : State) (q : Nat) (d : Desc) : Option Nat :=
  let cls := s.qClass q
  let lane := decide (cls < 2)
  let zeros := fun (o n : Nat) => fieldLE d.timing o n == 0
  let zeroBad : Bool :=
    decide (256 ≤ d.flags)
      || (match cls with
          | 0 => false | 1 => false
          | 3 => !zeros 8 2
          | 5 => !zeros 8 2
          | _ => !zeros 0 10)
      || (!lane && d.dest != 0)
  let joinBad := d.joinForm && (cls != 1 || s.qServer q != 3 || d.dest == 0xFFFF)
  if zeroBad || d.len == 0 || joinBad || (lane && d.dest != 0xFFFF && decide (s.ltb.count ≤ d.dest)) then some 7
  else
    let long : Bool :=
      match cls with
      | 0 => decide (s.lenLimit (s.qTarget q) 0 d < d.len)
      | 1 => decide (s.lenLimit (s.qTarget q) 1 d < d.len)
      | 3 => decide (d.len < 14 ∨ 1518 < d.len)
      | 5 => false
      | _ => decide (d.len < 32)
    if long then some 8
    else if lane && d.dest != 0xFFFF && !s.joinedLantern d.dest then some 0xA
    else none

/-- Frames addressed to the lantern alone that have not been launched are withdrawn (R51, R141). -/
def withdrawUnicast (s : State) (n : Nat) : State :=
  let qs := s.qdm.cfgs.filter (fun c => c.2.cls < 2)
  qs.foldl (fun t c =>
    ((t.liveIdx c.1).filter (fun i => (t.descAt c.1 i).dest == n)).foldl (fun u i => u.withdrawDesc c.1 i) t) s

/-! ## Translation (R525 to R528) -/

/-- A register of window w. -/
def winReg (s : State) (w off : Nat) : Word := s.cfg (reg wQDM (0x2000 + 0x20 * w + off))

/-- Base and target of window w. -/
def winBaseOf (s : State) (w : Nat) : Nat := (s.winReg w 0x04).toNat + 2 ^ 32 * (s.winReg w 0x08).toNat
def winTarget (s : State) (w : Nat) : Nat := (s.winReg w 0x0C).toNat + 2 ^ 32 * (s.winReg w 0x10).toNat

/-- Window w translates address a for queue q (R525). -/
def winHits (s : State) (q a w : Nat) : Bool :=
  let c := s.winReg w 0
  bit c 31 && bit (s.winReg w (if q < 32 then 0x14 else 0x18)) (q % 32)
    && decide (s.winBaseOf w ≤ a ∧ a < s.winBaseOf w + 2 ^ fld c 5 0)

/-- The physical address of a DMA address for queue q, or the cause of a fault (R525, R532). -/
def translate (s : State) (q a : Nat) (write : Bool) : Except DmaCause Nat :=
  match (List.range 64).find? (s.winHits q a) with
  | none => .error .noWindow
  | some w =>
    if bit (s.winReg w 0) (if write then 29 else 30) then .ok (s.winTarget w + (a - s.winBaseOf w)) else .error .perm

/-- Pieces of a DMA range that no window edge divides: (address, length). -/
def pieces (a n : Nat) : List (Nat × Nat) :=
  let k := min n (4096 - a % 4096)
  if k = n then [(a, n)] else [(a, k), (a + k, n - k)]

/-- Translate the pieces of a range, or the first cause and address of a fault. -/
def translateAll (s : State) (q : Nat) (write : Bool) : List (Nat × Nat) → Except (DmaCause × Nat) (List (Nat × Nat))
  | [] => .ok []
  | (a, n) :: r =>
    match s.translate q a write with
    | .error c => .error (c, a)
    | .ok p =>
      match s.translateAll q write r with
      | .error e => .error e
      | .ok l => .ok ((p, n) :: l)

/-- Read translated pieces. -/
def readPieces (s : State) : List (Nat × Nat) → List Byte
  | [] => []
  | (p, n) :: r => s.bytes p n ++ s.readPieces r

/-- Write octets to translated pieces, as the queue manager (R125). -/
def writePieces (s : State) : List (Nat × Nat) → List Byte → State
  | [], _ => s
  | (p, n) :: r, d => (s.masterWrite p (d.take n)).writePieces r (d.drop n)

/-- A window takes ENABLE (R526). -/
def winValid (s : State) (w : Nat) (c : Word) : Bool :=
  let z := fld c 5 0
  let n := 2 ^ z
  let t := s.winTarget w
  decide (12 ≤ z ∧ z ≤ 32) && s.winBaseOf w % n == 0 && t % n == 0
    && ((inSram t && inSram (t + n - 1)) || (inDram t && inDram (t + n - 1)))

/-- A write of WCTL (R110, R526, R527): while ENABLE is 1 the other fields refuse it. -/
def winWrite (s : State) (master addr w : Nat) (v : Word) : State :=
  let a := reg wQDM (0x2000 + 0x20 * w)
  let old := s.cfg a
  let new := v &&& 0xE000003F
  if bit old 31 then
    (s.setCfg a ((old &&& 0x7FFFFFFF) ||| (new &&& 0x80000000))).lockedWrite master addr v false
  else if bit new 31 then
    if s.winValid w new then s.setCfg a new
    else (s.setCfg a (new &&& 0x7FFFFFFF)).postBit wQDM 1
  else s.setCfg a new

/-! ## Faults (R532 to R535) -/

/-- Queue q parks on a fault at a DMA address, with the bytes committed before it (R533). -/
def park (s : State) (q : Nat) (c : DmaCause) (addr off : Nat) : State :=
  let tag := (s.headDesc q).tag
  let keep := decide (2 ≤ s.qClass q)
  let a := s.setQueue q (fun x => { x with
    parked := true, cause := c.code, offset := off, faultAddr := addr, held := none,
    xfer := if keep then x.xfer else none })
  let b := (a.post (reg wQDM (0x1014 + 0x40 * q)) 2).postEvent wQDM 2
    [iIndex q, iIndex tag, iAddr (addr % 2 ^ 32), iValue (addr / 2 ^ 32), iNumber off, iCause c.code]
  if s.qEngine q then b else b.faultHandle tQUEUE q

/-- A queue parked on a fault resumes (R535). -/
def unpark (s : State) (q : Nat) : State := s.setQueue q (fun x => { x with parked := false })

/-- QDM_CMD completes (R540). -/
def qdmDone (s : State) (code : Nat) : State := { s with qdm := { s.qdm with cmdCode := code } }.postBit wQDM 3

/-- QDM_CMD RESUME (R535, R540). -/
def qResume (s : State) (q : Nat) : State :=
  if !s.qEngine q then s.qdmDone 1
  else if !(s.queue q).parked then s.qdmDone 2
  else (s.unpark q).qdmDone 0

/-- QDM_CMD FLUSH (R537). -/
def qFlush (s : State) (q : Nat) : State :=
  if (if s.qEngine q then (s.queue q).parked else s.isStopped tQUEUE q) then (s.flush q).qdmDone 0 else s.qdmDone 3

/-- A STOP of a QUEUE handle completes: a held lane frame is discarded; a transfer stands at its burst
boundary (R51, R536). -/
def queueStop (s : State) (q : Nat) : State :=
  if s.qClass q < 2 then s.setQueue q (fun x => { x with held := none, xfer := none }) else s

/-! ## Receive posting (R512, R514, R524, R534) -/

/-- A frame for receive queue q is dropped for want of a buffer. -/
def noBuf (s : State) (q : Nat) : State :=
  (s.setQueue q (fun x => { x with nobuf := sat 16 (x.nobuf + 1) })).post (reg wQDM (0x1014 + 0x40 * q)) 8

/-- The 32-byte receive header (R524). -/
def rxHeader (s : State) (sfd last source rssi entry : Nat) : List Byte :=
  let st := s.tbs.stampAt sfd
  leBytes 8 sfd ++ leBytes 8 last ++ leBytes 8 st.corr ++ leBytes 2 st.frac ++ leBytes 2 st.epoch ++ leBytes 1 source
    ++ leBytes 1 rssi ++ leBytes 2 entry

/-- A received frame is posted to queue q, or dropped as NOBUF (R512, R534). -/
def rxPost (s : State) (q : Nat) (j : RxJob) : State :=
  let x := s.queue q
  if s.qRuns q ∧ !x.parked ∧ x.rx.length < s.qCount q then s.setQueue q (fun x => { x with rx := x.rx ++ [j] })
  else s.noBuf q

/-! ## Bursts (R529 to R534) -/

/-- The queue has a burst to make. -/
def burstReady (s : State) (q : Nat) : Bool :=
  let x := s.queue q
  let go := s.qRuns q && !x.parked && x.done.isNone && decide (0 < s.qCount q)
  match s.qClass q with
  | 0 => go && x.xfer.isSome
  | 1 => go && x.xfer.isSome
  | 2 => go && x.rx != []
  | 3 => go && x.held.isNone
  | 4 => go && x.rx != []
  | 5 => go
  | _ => false

/-- The ready queue served next: lowest DPRIO, equal values in turn by queue number (R529). -/
def burstQueue (s : State) : Option Nat :=
  let l := (List.range 64).filter s.burstReady
  let pr := fun q => match s.imgQueue q with | some c => c.dprio | none => 3
  match minBy pr l with
  | none => none
  | some q0 =>
    let m := l.filter (fun q => pr q == pr q0)
    match m.find? (fun q => decide (s.qdm.turn < q)) with
    | some q => some q
    | none => m.head?

/-- Length of the next burst of a transfer at a DMA address with n bytes left (R529). -/
def burstLen (a n : Nat) : Nat := min n (256 - a % 256)

/-- Octets of a transmit source: the engine's payload, or memory through the windows. -/
def fetchBytes (s : State) (q : Nat) (d : Desc) (off n : Nat) : Except (DmaCause × Nat) (List Byte) :=
  match s.engPay q (s.queue q).head with
  | some b => .ok (fit n ((payOctets b.pay).drop off))
  | none =>
    match s.translateAll q false (pieces (d.addr + off) n) with
    | .error e => .error e
    | .ok l => .ok (s.readPieces l)

/-- One burst of a frame fetched into a lane or a MAC (R529, R530, R533). -/
def burstTx (s : State) (q : Nat) (memError : Bool) : State :=
  let d := s.headDesc q
  let x := (s.queue q).xfer.getD { offset := 0, data := [] }
  let len := match s.engPay q (s.queue q).head with | some b => (payOctets b.pay).length | none => d.len
  let n := burstLen (d.addr + x.offset) (len - x.offset)
  if memError then s.park q .memErr (d.addr + x.offset) x.offset
  else
    match s.fetchBytes q d x.offset n with
    | .error e => s.park q e.1 e.2 x.offset
    | .ok b =>
      let y : Xfer := { offset := x.offset + n, data := x.data ++ b }
      if len ≤ y.offset then s.setQueue q (fun z => { z with xfer := none, held := some { octets := y.data } })
      else s.setQueue q (fun z => { z with xfer := some y })

/-- One burst of a COPY (R529, R533). -/
def burstCopy (s : State) (q : Nat) (memError : Bool) : State :=
  let d := s.headDesc q
  let x := (s.queue q).xfer.getD { offset := 0, data := [] }
  let n := burstLen (d.addr + x.offset) (d.len - x.offset)
  if memError then s.park q .memErr (d.addr + x.offset) x.offset
  else
    match s.translateAll q false (pieces (d.addr + x.offset) n) with
    | .error e => s.park q e.1 e.2 x.offset
    | .ok src =>
      match s.translateAll q true (pieces (d.word64 + x.offset) n) with
      | .error e => s.park q e.1 e.2 x.offset
      | .ok dst =>
        let a := s.writePieces dst (s.readPieces src)
        if d.len ≤ x.offset + n then
          a.setQueue q (fun z => { z with xfer := some { offset := d.len, data := [] }, done := some (0, d.len, 0) })
        else a.setQueue q (fun z => { z with xfer := some { offset := x.offset + n, data := [] } })

/-- One burst of a received frame into its buffer (R524, R529, R534). -/
def burstRx (s : State) (q : Nat) (memError : Bool) : State :=
  match (s.queue q).rx with
  | [] => s
  | j :: _ =>
    let d := s.headDesc q
    let all := j.header ++ j.frame
    let total := min all.length d.len
    let x := (s.queue q).xfer.getD { offset := 0, data := [] }
    let n := burstLen (d.addr + x.offset) (total - x.offset)
    let cf := bitIf j.foreign 2
    let drop := fun (t : State) => t.setQueue q (fun z => { z with rx := z.rx.drop 1 })
    let fail := fun (c : DmaCause) (a : Nat) =>
      (drop (s.park q c a x.offset)).complete q 6 x.offset cf
    if memError then fail .memErr (d.addr + x.offset)
    else
      match s.translateAll q true (pieces (d.addr + x.offset) n) with
      | .error e => fail e.1 e.2
      | .ok dst =>
        let a := s.writePieces dst ((all.drop x.offset).take n)
        if total ≤ x.offset + n then
          let cut := decide (d.len < all.length)
          let b := drop (a.setQueue q (fun z => { z with
            xfer := some { offset := total, data := [] }, done := some (if cut then 5 else 0, total, cf),
            trunc := if cut then sat 16 (z.trunc + 1) else z.trunc }))
          if cut then b.post (reg wQDM (0x1014 + 0x40 * q)) 16 else b
        else a.setQueue q (fun z => { z with xfer := some { offset := x.offset + n, data := [] } })

/-- The next burst of queue q reads its descriptor: no transfer is under way, or a lane's has moved nothing yet. -/
def readsDesc (s : State) (q : Nat) : Bool :=
  match (s.queue q).xfer with
  | none => true
  | some x => decide (s.qClass q < 2) && x.offset == 0

/-- The read of queue q's descriptor finds an uncorrectable error: cause RING at the descriptor's address (R532 to
R534). -/
def ringFault (s : State) (q : Nat) : State :=
  let a := s.descAddr q (s.queue q).head
  let t := s.park q .ring a 0
  if s.qClass q = 2 ∨ s.qClass q = 4 then (t.setQueue q (fun z => { z with rx := z.rx.drop 1 })).complete q 6 0 0
  else t

/-- One burst of queue q; the descriptor is checked when it is read (R522, R529). -/
def burst (s : State) (q : Nat) (memError ringError : Bool) : State :=
  let t := { s with qdm := { s.qdm with turn := q } }
  if ringError && s.readsDesc q then t.ringFault q
  else
    match (if (s.queue q).xfer.isNone then s.descCheck q (s.headDesc q) else none) with
    | some code => t.complete q code 0 0
    | none =>
      match s.qClass q with
      | 2 => t.burstRx q memError
      | 4 => t.burstRx q memError
      | 5 => t.burstCopy q memError
      | _ => t.burstTx q memError

/-- The bursts of a lane's fetch that are still to come, at most n (R530, R531). -/
def fetchRest (s : State) (q : Nat) : Nat → State
  | 0 => s
  | n + 1 => if (s.queue q).xfer.isSome ∧ !(s.queue q).parked then (s.burstTx q false).fetchRest q n else s

/-! ## Queue roles -/

/-- The engine-owned queue of a class that serves a lane or port for an engine (R209, R262, R504). -/
def engineQueue (s : State) (cls target engine : Nat) : Option Nat :=
  (s.qdm.cfgs.find? (fun c => c.2.engineOwned && c.2.cls == cls && c.2.target == target && c.2.engine == engine)).map (·.1)

/-- Queues of one lane and class in the order of R513. -/
def laneQueues (s : State) (lane cls : Nat) : List Nat :=
  (sortBy (fun c => c.2.lprio) (s.qdm.cfgs.filter (fun c => c.2.cls == cls && c.2.target == lane))).map (·.1)

/-- The host lantern queue: the LRX queue of the image, lowest number first (R509). -/
def lrxQueue (s : State) : Option Nat := (s.qdm.cfgs.find? (fun c => c.2.cls == 2)).map (·.1)

end State

open State

/-- A write to TAIL (R517). -/
def execQdmTailWrite (dt master queue : Nat) (value : Word) (s : State) : Host.Outcome State Fault Refusal :=
  .next ((s.elapse dt).access master (reg wQDM (0x100C + 0x40 * (queue % 64))) true (fun t =>
    t.tailWrite master (reg wQDM (0x100C + 0x40 * (queue % 64))) (queue % 64) (fld value 15 0) value))

/-- QDM_CMD RESUME (R535). -/
def execQdmResume (dt master queue : Nat) (s : State) : Host.Outcome State Fault Refusal :=
  .next ((s.elapse dt).access master (reg wQDM 0x004) true (fun t => t.qResume (queue % 64)))

/-- QDM_CMD FLUSH (R537). -/
def execQdmFlush (dt master queue : Nat) (s : State) : Host.Outcome State Fault Refusal :=
  .next ((s.elapse dt).access master (reg wQDM 0x004) true (fun t => t.qFlush (queue % 64)))

/-- DMA_BURST (R529, R532 to R534). -/
def execDmaBurst (dt : Nat) (memError ringError : Bool) (s : State) : Host.Outcome State Fault Refusal :=
  .next (s.occurIn dt wQDM (fun t =>
    match t.burstQueue with
    | some q => t.burst q memError ringError
    | none => t))

/-- DESCRIPTOR_COMPLETE (R519). -/
def execDescriptorComplete (dt queue : Nat) (s : State) : Host.Outcome State Fault Refusal :=
  .next (s.occurIn dt wQDM (fun t => t.settle queue))

/-- A write of WCTL (R526, R527). -/
def execWindowEnableWrite (dt master window : Nat) (value : Word) (s : State) : Host.Outcome State Fault Refusal :=
  .next ((s.elapse dt).access master (reg wQDM (0x2000 + 0x20 * (window % 64))) true (fun t =>
    t.winWrite master (reg wQDM (0x2000 + 0x20 * (window % 64))) (window % 64) value))

end Sys2Proof.Machine
end

