-- ==== Sys2Proof/Machine/Solver.lean ====
section
/-! DEFINITION. The channel-mix solve (R182 to R194, R805). Every quantity that a rule names, those of the reachable
region included, is the binary32 value nearest the exact value of its formula (R193; log entry 29). -/

namespace Sys2Proof.Machine

/-- A channel at its junction temperature (R131, R182, R183). -/
structure SolveChan where
  u : Rat
  v : Rat
  flux : Rat
  power : Rat
  side : Rat
  /-- min(CHMAX, DERATE), in 1/65,535 of full drive -/
  lim : Nat
  ok : Bool
  deriving DecidableEq, Repr

/-- What a solve takes (R182). -/
structure SolveIn where
  chans : List SolveChan
  u : Rat
  v : Rat
  sideOn : Bool
  bound : Rat
  fluxRated : Rat
  /-- commanded level Lc (R187) -/
  lc : Nat
  deriving DecidableEq, Repr

/-- What a solve gives (R188, R194). -/
structure SolveOut where
  mixCap : List Nat
  cap : Nat
  mix : List Nat
  status : Nat
  deriving DecidableEq, Repr

/-- A mix: channels with their flux shares (R182). -/
abbrev Shares := List (Nat × Rat)

/-- A candidate mix with its shares, its drives at full output, its cap and its power per lumen (R186). -/
structure SolveCand where
  shares : Shares
  drives : List (Nat × Rat)
  cap : Nat
  power : Rat
  deriving DecidableEq, Repr

/-- A point of the u′v′ plane. -/
abbrev Pt := Rat × Rat

/-- The k-element subsets of a list, in lexicographic order (R184). -/
def combos : Nat → List Nat → List (List Nat)
  | 0, _ => [[]]
  | _ + 1, [] => []
  | k + 1, x :: r => (combos k r).map (fun l => x :: l) ++ combos (k + 1) r

/-- The 35 bases in their order (R184). -/
def bases : List (List Nat) := combos 3 (List.range 6) ++ combos 4 (List.range 6)

/-- Determinant of an n × n system of rows, expanded along its first row. -/
def detN : Nat → List (List Rat) → Rat
  | 0, _ => 1
  | _ + 1, [] => 1
  | n + 1, r :: rs =>
    ratSum ((List.range (n + 1)).map (fun j =>
      (if j % 2 = 0 then 1 else -1) * nth 0 r j * detN n (rs.map (fun x => x.eraseIdx j))))

/-- Norm of a row (R185). -/
def rowNorm (r : List Rat) : Rat := round32 (sqrtRat (ratSum (r.map (fun a => a * a))))

/-- 2⁻ᵏ. -/
def inv2 (k : Nat) : Rat := 1 / ((2 ^ k : Nat) : Rat)

namespace SolveIn

/-- Channel i. -/
def chan (x : SolveIn) (i : Nat) : SolveChan :=
  nth { u := 0, v := 0, flux := 0, power := 0, side := 0, lim := 0, ok := false } x.chans i

/-- Channels available to the solve (R183). -/
def avail (x : SolveIn) : List Nat := (List.range x.chans.length).filter (fun i => (x.chan i).ok)

/-- Σ yᵢ SIDEᵢ exceeds B by more than 2⁻²⁰ (R185). -/
def breaksSide (x : SolveIn) (y : Shares) : Bool :=
  x.sideOn && decide (inv2 20 < round32 (ratSum (y.map (fun p => p.2 * (x.chan p.1).side))) - x.bound)

/-- Rows of a basis below the output equation (R182, R184). -/
def rows (x : SolveIn) (b : List Nat) : List (List Rat) :=
  [b.map (fun i => round32 (((x.chan i).u - x.u) / (x.chan i).v)),
   b.map (fun i => round32 (((x.chan i).v - x.v) / (x.chan i).v))]
  ++ (if b.length = 4 then [b.map (fun i => round32 ((x.chan i).side - x.bound))] else [])

/-- The shares of a basis; none when it is skipped (R184, R185). -/
def shares (x : SolveIn) (b : List Nat) : Option Shares :=
  if b.length = 4 ∧ !x.sideOn then none
  else if b.any (fun i => !(x.chan i).ok) then none
  else
    let rs := x.rows b
    let n := b.length
    let cof := (List.range n).map (fun j =>
      (if j % 2 = 0 then 1 else -1) * detN (n - 1) (rs.map (fun r => r.eraseIdx j)))
    let d := round32 (ratSum cof)
    let norms := ((List.replicate n 1 :: rs).map rowNorm).foldl (fun m a => round32 (m * a)) 1
    if (if d < 0 then -d else d) < inv2 24 * norms ∨ d = 0 then none
    else
      let y := cof.map (fun c => round32 (round32 c / d))
      if y.any (fun a => decide (a < -inv2 20)) then none
      else
        let z : Shares := b.zip (y.map (fun a => if a < 0 then 0 else a))
        if n = 3 ∧ x.breaksSide z then none else some z

/-- Drives at full output, cap and power of a mix (R186). -/
def cand (x : SolveIn) (y : Shares) : SolveCand :=
  let s := y.map (fun p => (p.1, round32 (p.2 * x.fluxRated / (x.chan p.1).flux)))
  { shares := y
    drives := s
    cap := s.foldl (fun (c : Nat) p =>
      if 0 < p.2 then min c (round32 (((x.chan p.1).lim : Rat) / p.2)).floor.toNat else c) 65535
    power := round32 (ratSum (y.map (fun p => p.2 * (x.chan p.1).power / (x.chan p.1).flux))) }

/-- Powers that differ by less than 2⁻²⁰ relative are equal (R187). -/
def samePower (a b : Rat) : Bool := decide ((if a < b then b - a else a - b) < inv2 20 * (if a < b then b else a))

/-- The first of the cheapest among the candidates whose cap reaches Lc, else the first with the highest
cap (R187). -/
def choose (x : SolveIn) (l : List SolveCand) : Option SolveCand :=
  match l.filter (fun c => decide (x.lc ≤ c.cap)) with
  | [] =>
    let m := l.foldl (fun (m : Nat) c => max m c.cap) 0
    l.find? (fun c => c.cap == m)
  | q :: r =>
    let m := r.foldl (fun (m : Rat) c => if c.power < m then c.power else m) q.power
    (q :: r).find? (fun c => samePower c.power m || c.power == m)

/-! ## The reachable region (R189 to R191) -/

/-- Chromaticity of a mix: an average weighted by Y/v′ (R182), in binary32. -/
def mixPt (x : SolveIn) (y : Shares) : Pt :=
  let w := ratSum (y.map (fun p => p.2 / (x.chan p.1).v))
  (round32 (ratSum (y.map (fun p => p.2 * (x.chan p.1).u / (x.chan p.1).v)) / w), round32 (ratSum (y.map (fun p => p.2)) / w))

/-- Anchor points (R190). -/
def anchors (x : SolveIn) : List Pt :=
  let a := x.avail
  let at_ := fun i => ((x.chan i).u, (x.chan i).v)
  if !x.sideOn then a.map at_
  else
    (a.filter (fun i => decide ((x.chan i).side ≤ x.bound))).map at_
    ++ (combos 2 a).filterMap (fun p =>
        let i := nth 0 p 0
        let j := nth 0 p 1
        let di := (x.chan i).side - x.bound
        let dj := (x.chan j).side - x.bound
        if di * dj < 0 then some (x.mixPt [(i, dj / (dj - di)), (j, -di / (dj - di))]) else none)

/-- Twice the signed area of a triangle. -/
def cross (o a b : Pt) : Rat := round32 ((a.1 - o.1) * (b.2 - o.2) - (a.2 - o.2) * (b.1 - o.1))

/-- Square of a distance in u′v′. -/
def dist2 (a b : Pt) : Rat := round32 ((a.1 - b.1) * (a.1 - b.1) + (a.2 - b.2) * (a.2 - b.2))

/-- Position along a segment of its point nearest p, 0 to 1. -/
def along (p a b : Pt) : Rat :=
  let d := dist2 a b
  if d = 0 then 0
  else
    let t := round32 (((p.1 - a.1) * (b.1 - a.1) + (p.2 - a.2) * (b.2 - a.2)) / d)
    if t < 0 then 0 else if 1 < t then 1 else t

/-- The point of a segment nearest p. -/
def nearSeg (p a b : Pt) : Pt :=
  let t := along p a b
  (round32 (a.1 + t * (b.1 - a.1)), round32 (a.2 + t * (b.2 - a.2)))

/-- p lies in a triangle that has an area. -/
def inTriangle (p : Pt) (t : List Pt) : Bool :=
  let a := nth (0, 0) t 0
  let b := nth (0, 0) t 1
  let c := nth (0, 0) t 2
  let d1 := cross a b p
  let d2 := cross b c p
  let d3 := cross c a p
  decide (cross a b c ≠ 0) && (decide (0 ≤ d1 ∧ 0 ≤ d2 ∧ 0 ≤ d3) || decide (d1 ≤ 0 ∧ d2 ≤ 0 ∧ d3 ≤ 0))

/-- The anchors of a list of positions. -/
def pick (l : List Pt) (is : List Nat) : List Pt := is.map (fun i => nth (0, 0) l i)

/-- The point of the convex hull of some points nearest p (R189, R190): p itself when a triangle of them
holds it, else the nearest point of the segments between them. -/
def nearest (p : Pt) (l : List Pt) : Pt :=
  let ids := List.range l.length
  if (combos 3 ids).any (fun t => inTriangle p (pick l t)) then p
  else
    ((combos 2 ids).map (fun t => nearSeg p (nth (0, 0) l (nth 0 t 0)) (nth (0, 0) l (nth 0 t 1)))).foldl
      (fun (m : Pt) q => if dist2 p q < dist2 p m then q else m) (nth (0, 0) l 0)

/-! ## Few channels (R192, R805) -/

/-- The mixes of one channel or of two for a target (R192): the one that gives it, or for two chromaticities
less than 2⁻¹⁶ apart the three candidates that keep the side constraint. -/
def fewMixes (x : SolveIn) (a : List Nat) (q : Pt) : List Shares :=
  match a with
  | [i] => [[(i, 1)]]
  | [i, j] =>
    let ci := x.chan i
    let cj := x.chan j
    if inv2 32 ≤ dist2 (ci.u, ci.v) (cj.u, cj.v) then
      let t := along q (ci.u, ci.v) (cj.u, cj.v)
      let yi := (1 - t) * ci.v
      let yj := t * cj.v
      [[(i, round32 (yi / (yi + yj))), (j, round32 (yj / (yi + yj)))]]
    else
      let fi := ci.flux * ci.lim
      let fj := cj.flux * cj.lim
      ([[(i, 1)], [(j, 1)]]
        ++ (if fi + fj = 0 then [] else [[(i, round32 (fi / (fi + fj))), (j, round32 (fj / (fi + fj)))]])).filter
          (fun y => !x.breaksSide y)
  | _ => []

/-- The solve's input with only some of its channels available. -/
def only (x : SolveIn) (p : List Nat) : SolveIn :=
  { x with chans := (numberedFrom 0 x.chans).map (fun c => { c.2 with ok := c.2.ok && p.contains c.1 }) }

/-- The mix that R192 forms for a few channels: for the point of their own reachable region nearest the target, the
one chosen under R187; none when that region is empty. -/
def fewMix (x : SolveIn) (p : List Nat) : Option SolveCand :=
  let z := x.only p
  match z.anchors with
  | [] => none
  | a :: r => z.choose ((z.fewMixes p (nearest (x.u, x.v) (a :: r))).map z.cand)

/-- The candidates of R805: the mixes of pairs, then single channels, that give the target and keep the side
constraint. -/
def lastMixes (x : SolveIn) : List SolveCand :=
  let a := x.avail
  ((combos 2 a).filterMap x.fewMix ++ a.map (fun i => x.cand [(i, 1)])).filter (fun c =>
    !x.breaksSide c.shares && decide (dist2 (x.mixPt c.shares) (x.u, x.v) ≤ inv2 32))

/-! ## The solve -/

/-- MIX_CAP, MIX and the status of a chosen mix, or of none (R188, R194). -/
def finish (x : SolveIn) (c : Option SolveCand) (moved : Bool) : SolveOut :=
  let n := x.chans.length
  let zero := List.replicate n 0
  match c with
  | none => { mixCap := zero, cap := 0, mix := zero, status := bitIf moved 0 + bitIf (decide (0 < x.lc)) 1 }
  | some k =>
    let st := bitIf moved 0 + bitIf (decide (k.cap < x.lc)) 1
    if k.cap = 0 then { mixCap := zero, cap := 0, mix := zero, status := st }
    else
      let mc := (List.range n).map (fun i =>
        match k.drives.find? (fun p => p.1 == i) with
        | some p => min (roundNat (round32 (p.2 * k.cap))) (x.chan i).lim
        | none => 0)
      { mixCap := mc, cap := k.cap,
        mix := mc.map (fun m => roundNat (round32 ((m * min x.lc k.cap : Nat) / (k.cap : Rat)))), status := st }

/-- The solve (R182 to R194, R805). -/
def solve (x : SolveIn) : SolveOut :=
  match x.anchors with
  | [] => x.finish none false
  | a :: r =>
    let q := nearest (x.u, x.v) (a :: r)
    let moved := decide (inv2 32 < dist2 (x.u, x.v) q)
    let y : SolveIn := if moved then { x with u := q.1, v := q.2 } else x
    if x.avail.length ≤ 2 then y.finish (x.fewMix x.avail) moved
    else
      let l := bases.filterMap y.shares
      if l = [] then y.finish (y.choose y.lastMixes) moved
      else y.finish (y.choose (l.map y.cand)) moved

end SolveIn

/-- Channel c of an entry's bytes at a junction temperature (R129, R131, R183). -/
def solveChan (e : List Byte) (c : Nat) (t : Rat) : SolveChan :=
  let f := fun o => dec16D (fieldLE e (0x040 + 16 * c + o) 2)
  let dt := t - 25
  let clamp := fun (q : Rat) => round32 (if q < inv2 16 then inv2 16 else if 65 / 100 < q then 65 / 100 else q)
  let flux := round32 (f 4 * (1 + f 8 * dt))
  { u := clamp (f 0 + f 10 * dt), v := clamp (f 2 + f 12 * dt), flux := flux, power := f 6, side := f 14,
    lim := min (fieldLE e (0x0A0 + 2 * c) 2) (fieldLE e (0x0AC + 2 * c) 2), ok := decide (f 4 / 100 < flux) }

/-- A solve of an entry at junction temperature `t` for a target in 2⁻¹⁶ units (R182). -/
def solveEntry (e : List Byte) (t : Rat) (tu tv : Nat) (sideOn : Bool) (bound : Rat) (lc : Nat) : SolveOut :=
  SolveIn.solve
    { chans := (List.range (min 6 (eb e 0x024))).map (fun c => solveChan e c t)
      u := (tu : Rat) / 65536, v := (tv : Rat) / 65536, sideOn := sideOn, bound := bound,
      fluxRated := dec16D (fieldLE e 0x026 2), lc := lc }

end Sys2Proof.Machine
end

