-- ==== Sys2Proof/Machine/Scene.lean ====
section
/-! DEFINITION. The scene engine: programme days, rules and steps, triggers, solves, the effective instant
and the frames of a tick (R163 to R218). -/

namespace Sys2Proof.Machine

/-- A LEVEL frame of a tick (R213, R487). -/
structure LevelCmd where
  group : Nat
  level : Nat
  curve : Nat
  fade : Nat
  deriving DecidableEq, Repr

/-- The result of one entry's solve, before its command is queued (R212, R217). -/
structure ScnJob where
  entry : Nat
  head : Option Nat
  out : SolveOut
  lc : Nat
  curve : Nat
  fade : Nat
  deriving DecidableEq, Repr

namespace State

/-- Change programme p. -/
def setProg (s : State) (p : Nat) (f : ScnProg → ScnProg) : State :=
  { s with scn := { s.scn with progs := modAt s.scn.progs p f } }

/-! ## Steps in force (R165 to R177) -/

/-- Word w of step st of programme p, in force. -/
def stepW (s : State) (p st w : Nat) : Word := s.act (stepKey p st w)

/-- The four words of a step. -/
def stepWords (s : State) (p st : Nat) : List Word := (List.range 4).map (s.stepW p st)

/-- DAYSTART in force, minutes (R226). -/
def dayStartMin (s : State) : Nat :=
  let d := s.actF wSCN 0x014 10 0
  if 1439 < d then 720 else d

/-- The step is a SCENE step (R165). -/
def stepScene (s : State) (p st : Nat) : Bool := !bit (s.stepW p st 0) 30

/-- Resolved time of a step in seconds of the programme day; none when the step is ignored (R165, R168,
R170). -/
def stepTime (s : State) (p st : Nat) : Option Nat :=
  let w := s.stepW p st 0
  let t := fld w 26 16
  let z := signed 11 t
  let from_ := fun (m : Int) => some (60 * ((m - s.dayStartMin) % 1440).toNat)
  if !bit w 31 ∨ (dec16 (fld (s.stepW p st 3) 15 0)).isNone then none
  else
    match fld w 29 28 with
    | 0 => if t ≤ 1439 then from_ t else none
    | 1 => if -720 ≤ z ∧ z ≤ 719 then from_ (s.actF wSCN 0x01C 10 0 + z) else none
    | 2 => if -720 ≤ z ∧ z ≤ 719 then from_ (s.actF wSCN 0x01C 26 16 + z) else none
    | _ => none

/-- The step with the latest time, ties to the higher index. -/
def latestStep : List (Nat × Nat) → Option (Nat × Nat)
  | [] => none
  | x :: r =>
    match latestStep r with
    | none => some x
    | some y => if y.1 < x.1 then some x else some y

/-- The step in force among (resolved time, index) pairs in rising index: the latest not after the watermark,
else the latest of the day (R171). -/
def stepAt (l : List (Nat × Nat)) (wm : Nat) : Option Nat :=
  ((latestStep (l.filter (fun x => decide (x.1 ≤ wm)))).or (latestStep l)).map (·.2)

/-- The valid steps of programme p with their times. -/
def stepTimes (s : State) (p : Nat) : List (Nat × Nat) :=
  (List.range 64).filterMap (fun st => (s.stepTime p st).map (fun t => (t, st)))

/-- The LEVEL frames of a LEVEL step (R213). -/
def stepLevels (s : State) (p st : Nat) : List LevelCmd :=
  let w0 := s.stepW p st 0
  let w2 := s.stepW p st 2
  let w3 := s.stepW p st 3
  (List.range 16).filterMap (fun g =>
    if bit w3 (16 + g) then
      some { group := g, level := fld w0 15 0, curve := s.curveUsed (fld w2 14 12), fade := fld w2 31 16 }
    else none)

/-- What the evaluation of one programme gives: the state, the LEVEL frames so far and the programmes of which a
SCENE step took effect. -/
structure StepOut where
  st : State
  levels : List LevelCmd
  effect : List Nat

/-- Programme p at a tick: its step and chromaticity step in force, and what takes effect (R163, R175,
R176). -/
def progTick (o : StepOut) (p : Nat) : StepOut :=
  let s := o.st
  if !s.isRunning tPROGRAMME p then o
  else
    let l := s.stepTimes p
    let st := stepAt l s.scn.watermark
    let sc := stepAt (l.filter (fun x => s.stepScene p x.2)) s.scn.watermark
    let words := fun (x : Option Nat) => match x with | some i => s.stepWords p i | none => []
    let old := s.prog p
    let fired := st.isSome && (st != old.step || words st != old.words)
    let isScene := match st with | some i => s.stepScene p i | none => false
    let t := s.setProg p (fun x => { x with
      step := st, scene := sc, words := words st, sceneWords := words sc,
      level := match st with | some i => fld (s.stepW p i 0) 15 0 | none => x.level })
    let u := if fired then t.postBit wSCN 2 else t
    { st := u
      levels := if fired && !isScene && sc.isSome then o.levels ++ (match st with | some i => s.stepLevels p i | none => [])
        else o.levels
      effect := if fired && isScene then o.effect ++ [p] else o.effect }

/-! ## The programme day (R169 to R174, R177) -/

/-- The calendar date of a clock. -/
def dateOf (c : Clock) : Date := { y := c.y, m := c.mo, d := c.d }

/-- Day number of a date. -/
def dateNum (d : Date) : Nat := dayNumber d.y d.m d.d

/-- Date of the latest day-start instant at or before the present local time (R169). -/
def dayBegan (s : State) : Date :=
  let c := s.rtc.clk
  if 60 * s.dayStartMin ≤ c.h * 3600 + c.mi * 60 + c.s then dateOf c else dateOf c.prevDay

/-- Position in the programme day of date d, in seconds (R169). -/
def dayPos (s : State) (d : Date) : Nat :=
  let c := s.rtc.clk
  let sec := c.h * 3600 + c.mi * 60 + c.s
  let ds := 60 * s.dayStartMin
  if d = dateOf c ∧ sec < ds then 0 else (sec + 86400 - ds) % 86400

/-- The programme day at a tick and its watermark; whether a day began (R169, R171, R173, R174). -/
def dayTick (s : State) : State × Bool :=
  let b := s.dayBegan
  let start := fun (_ : Unit) =>
    ({ s with scn := { s.scn with
        day := some b, watermark := s.dayPos b, staleDone := false, calSet := false, dayStart := s.dayStartMin } }, true)
  match s.scn.day with
  | none => start ()
  | some d =>
    if s.scn.calSet ∨ s.scn.dayStart ≠ s.dayStartMin ∨ dateNum d < dateNum b then start ()
    else ({ s with scn := { s.scn with watermark := max s.scn.watermark (s.dayPos d) } }, false)

/-- ASTRO_STALE, once in a programme day (R177). -/
def astroTick (s : State) : State :=
  match s.scn.day with
  | none => s
  | some d =>
    let w := s.act (reg wSCN 0x018)
    let same := decide (2000 + fld w 23 16 = d.y ∧ fld w 15 8 = d.m ∧ fld w 7 0 = d.d)
    if same ∨ s.scn.staleDone then s
    else { s with scn := { s.scn with staleDone := true } }.postBit wSCN 5

/-! ## Calendar rules (R178 to R181) -/

/-- Word w of rule n, in force. -/
def ruleW (s : State) (n w : Nat) : Word := s.act (reg wSCN (0x1000 + 16 * n + 4 * w))

/-- Rule n matches a date (R179). -/
def ruleMatches (s : State) (n : Nat) (d : Date) : Bool :=
  let w0 := s.ruleW n 0
  let w1 := s.ruleW n 1
  let w2 := s.ruleW n 2
  let yr := d.y - 2000
  let first := fld w2 7 0
  let key := fun (m x : Nat) => 32 * m + x
  let a := key (fld w1 11 8) (fld w1 4 0)
  let b := key (fld w1 27 24) (fld w1 20 16)
  let k := key d.m d.d
  bit w0 31 && bit w0 (weekday d.y d.m d.d)
    && (first == 0xFF || decide (first ≤ yr ∧ yr ≤ fld w2 23 16))
    && (if a ≤ b then decide (a ≤ k ∧ k ≤ b) else decide (a ≤ k ∨ k ≤ b))

/-- The rule in force for default programme p on a date (R180). -/
def ruleFor (s : State) (p : Nat) (d : Date) : Option Nat :=
  (List.range 128).find? (fun n =>
    fld (s.ruleW n 0) 19 16 == p && s.isRunning tPROGRAMME (fld (s.ruleW n 0) 23 20) && s.ruleMatches n d)

/-- Evaluate the rule of default programme p; the programmes whose programme in force changed (R180, R181). -/
def ruleTick (d : Date) (o : State × List Nat) (p : Nat) : State × List Nat :=
  let s := o.1
  let r := s.ruleFor p d
  let q := match r with | some n => fld (s.ruleW n 0) 23 20 | none => p
  let t := s.setProg p (fun x => { x with rule := r, inForce := some q })
  if s.progFor p = q then (t, o.2) else (t.postBit wSCN 3, o.2 ++ [p])

/-! ## Entries: derating, recorded levels and triggers (R197 to R200, R213) -/

/-- A binary16 field of entry n. -/
def lt16 (s : State) (n off : Nat) : Rat := dec16D (s.lt n off 2)

/-- Junction temperature of entry n (R131). -/
def entryT (s : State) (n : Nat) : Rat := if s.ltKind n = 1 then s.lt16 n 0x100 + s.lt16 n 0x02A else s.lt16 n 0x100

/-- DERATE0 to DERATE5 of a radio lantern (R197). -/
def derateEntry (s : State) (n : Nat) : State :=
  if s.ltKind n = 1 then
    let k := s.lt16 n 0x028
    let d := s.derateAt (if k = 0 then s.derateDefaults.1 else k) (s.entryT n)
    (List.range 6).foldl (fun t c => t.setLt n (0x0AC + 2 * c) 2 d) s
  else s

/-- A radio lantern's state admits a solve and a recorded level: JOINED, SILENT or FAULTY (R200, R213). -/
def liveState (s : State) (n : Nat) : Bool := s.ltState n == 2 || s.ltState n == 3 || s.ltState n == 4

/-- The entry qualifies for a solve but for its programme (R200). -/
def solvable (s : State) (n : Nat) : Bool :=
  match s.ltKind n with
  | 1 => s.liveState n && s.isRunning tLANTERN n
  | 2 => s.entryRunning n
  | _ => false

/-- The level that a tick's LEVEL frames give entry n: the first for one of its groups, which a lantern
applies (R213, R479). -/
def levelFor (s : State) (n : Nat) (l : List LevelCmd) : Option Nat :=
  (l.find? (fun x => (s.lt n 0x00A 2 >>> x.group) % 2 == 1)).map LevelCmd.level

/-- Record the level of a LEVEL frame for entry n, with the Cap and Head level triggers (R199, R213). -/
def recordLevel (s : State) (n : Nat) (l : List LevelCmd) : State :=
  match s.levelFor n l with
  | none => s
  | some v =>
    let e := s.scnEntry n
    if s.ltKind n = 1 ∧ s.liveState n then
      s.setScnEntry n (fun x => { x with
        level := some v, trHead := x.trHead || (e.solved && decide (e.cap < v ∧ e.level.getD 0 < v)) })
    else if s.ltKind n = 2 ∧ (s.entryRunning n ∨ s.ltState n = 4) then
      s.setScnEntry n (fun x => { x with level := some v, trHead := x.trHead || decide (e.level ≠ some v) })
    else s

/-- Effective limits of entry n's channels in use (R182). -/
def entryLims (s : State) (n : Nat) : List Nat :=
  (List.range (min 6 (s.lt n 0x024 1))).map (fun c => min (s.lt n (0x0A0 + 2 * c) 2) (s.lt n (0x0AC + 2 * c) 2))

/-- The condition of the Temperature trigger (R199). -/
def tempMoved (s : State) (n : Nat) : Bool :=
  let d := s.entryT n - s.lt16 n 0x15A
  (s.scnEntry n).solved && decide ((max 1 (s.actF wSCN 0x008 7 0) : Nat) / (2 : Rat) ≤ (if d < 0 then -d else d))

/-- The condition of the Limit trigger (R199). -/
def limitMoved (s : State) (n : Nat) : Bool :=
  let e := s.scnEntry n
  let delta := max 1 (s.actF wSCN 0x008 31 16)
  e.solved && (numberedFrom 0 (s.entryLims n)).any (fun x =>
    let old := nth 0 e.lims x.1
    decide (old + delta ≤ x.2 ∨ x.2 + delta ≤ old) || decide (x.2 < s.lt n (0x140 + 2 * x.1) 2 ∧ x.2 < old))

/-- Entry n keeps the Temperature and Limit triggers whose conditions hold at this tick until its next solve (R199,
R200). -/
def noteMoved (s : State) (n : Nat) : State :=
  s.setScnEntry n (fun e => { e with
    trTemp := e.trTemp || s.tempMoved n, trLimit := e.trLimit || s.limitMoved n })

/-- The triggers that entry n holds, Join apart (R199, R222). -/
def otherTriggers (s : State) (n : Nat) (all : Bool) : Bool :=
  let e := s.scnEntry n
  all || e.trCommit || e.trStep || e.trHead || e.trTemp || e.trLimit

/-! ## Lanes for SCENE and LEVEL frames (R209, R461) -/

/-- BULK cells of lane n in use per slotframe (R209). -/
def bulkCells (s : State) (n : Nat) : Nat :=
  ((List.range (s.sfLen n)).filter (fun a =>
    match s.cellOf n a with
    | some w => fld w 30 28 == 2
    | none => false)).length

/-- Lane n carries SCENE and LEVEL frames (R209). -/
def carries (s : State) (n : Nat) : Bool :=
  (s.lane n).run && (s.engineQueue 1 n 1).isSome && decide (0 < s.bulkCells n)

/-- The lane for entry n among those that can take its frame: LANE, RX_LANE, the lowest (R212, R461). -/
def laneFor (s : State) (n : Nat) (can : List Nat) : Option Nat :=
  let l := s.lt n 0x00F 1
  let r := s.lt n 0x103 1
  let first := if l = 0xFF then r else l
  if can.contains first then some first else if can.contains r then some r else can.head?

/-! ## Solves (R199, R200, R212) -/

/-- The work on one entry at a tick: derating, recorded level, PROG_STEP, and its solve when one is due
(R195, R197, R199, R200). -/
def entryTick (levels : List LevelCmd) (steps : List Nat) (all : Bool) (can : List Nat)
    (o : State × List ScnJob) (n : Nat) : State × List ScnJob :=
  let kind := o.1.ltKind n
  if kind ≠ 1 ∧ kind ≠ 2 then o
  else
    let a := ((o.1.derateEntry n).recordLevel n levels).noteMoved n
    let p := a.lt n 0x00D 1
    let q := a.prog (a.progFor p)
    let b := if p < 16 ∧ steps.contains p then a.setScnEntry n (fun e => { e with trStep := true }) else a
    let c :=
      match (if p < 16 then q.step else none) with
      | some st => b.setLt n 0x153 1 st
      | none => b
    let e := c.scnEntry n
    let other := c.otherTriggers n all
    let lane := decide (kind = 2) || (c.laneFor n can).isSome
    match (if p < 16 then q.scene else none) with
    | none => (c, o.2)
    | some _ =>
      if !((e.trJoin || other) && c.solvable n && lane) then (c, o.2)
      else
        let w := fun i => nth 0 q.sceneWords i
        let lc := if e.trStep then q.level else e.level.getD q.level
        let t := c.entryT n
        let r := solveEntry (c.bytes (c.ltAddr n 0) 384) t (fld (w 1) 15 0) (fld (w 1) 31 16) (bit (w 2) 15)
          (dec16D (fld (w 3) 15 0)) lc
        let d := (((c.setLt n 0x14E 2 (fld (w 1) 15 0)).setLt n 0x150 2 (fld (w 1) 31 16)).setLt n 0x152 1 r.status).setLt
          n 0x15A 2 (enc16 t)
        let f := d.setScnEntry n (fun x => { x with
          mixCap := r.mixCap, cap := r.cap, level := some lc, lims := c.entryLims n, solved := true,
          trCommit := false, trJoin := false, trStep := false, trHead := false, trTemp := false, trLimit := false })
        let g := if r.status ≠ 0 then f.postBit wSCN 4 else f
        (g, o.2 ++ [{ entry := n, head := c.headOfEntry n, out := r, lc := lc, curve := c.curveUsed (fld (w 2) 14 12),
                      fade := if other then fld (w 2) 31 16 else c.actF wSCN 0x004 15 8 }])

/-! ## Frames (R209 to R216, R485 to R487) -/

/-- Octets of a LEVEL frame (R487). -/
def levelOctets (asn tseq : Nat) (x : LevelCmd) : List Byte :=
  leBytes 1 0x59 ++ leBytes 1 2 ++ leBytes 5 asn ++ leBytes 2 tseq ++ leBytes 1 (x.group % 16) ++ leBytes 2 x.level
    ++ leBytes 1 (x.curve % 8) ++ leBytes 1 0 ++ leBytes 2 x.fade

/-- Pack records into frames of at most 12, within a payload limit, in their order (R475, R485, R486). -/
def packRecs (limit : Nat) : List (List SceneRec) → List SceneRec → List (List SceneRec)
  | acc, [] => acc
  | [], r :: l => packRecs limit [[r]] l
  | f :: acc, r :: l =>
    if f.length < 12 ∧ 10 + (f.flatMap recOctets).length + (recOctets r).length ≤ limit then
      packRecs limit ((f ++ [r]) :: acc) l
    else packRecs limit ([r] :: f :: acc) l

/-- The record of a job (R485). -/
def jobRec (s : State) (j : ScnJob) : SceneRec :=
  { laddr := j.entry, groups := s.lt j.entry 0x00A 2, cap := j.out.cap, level := j.lc, fade := j.fade, curve := j.curve,
    mix := j.out.mixCap }

/-- Withdraw the unlaunched SCENE records of entry n from one queued payload (R215, R486). -/
def dropRec (n : Nat) (p : EPay) : EPay :=
  match p with
  | .scene a t recs => .scene a t (recs.filter (fun r => r.laddr != n))
  | .octets b => .octets b

/-- A payload is a SCENE frame with a record for entry n. -/
def namesEntry (n : Nat) (p : EPay) : Bool :=
  match p with
  | .scene _ _ recs => recs.any (fun r => r.laddr == n)
  | .octets _ => false

/-- A payload is a SCENE frame left with no record. -/
def emptyScene (p : EPay) : Bool :=
  match p with
  | .scene _ _ recs => recs.isEmpty
  | .octets _ => false

/-- TSEQ of a SCENE payload. -/
def payTseq (p : EPay) : Nat :=
  match p with
  | .scene _ t _ => t
  | .octets _ => 0

/-- Queued copies that can still be withdrawn: their descriptors' fetch has not begun. -/
def openBufs (s : State) (n : Nat) : List EngBuf :=
  s.qdm.bufs.filter (fun b => namesEntry n b.pay && !s.fetching b.queue b.index && !s.qdm.gone.contains (b.queue, b.index))

/-- A command of entry n is withdrawn from one queued copy (R215, R486). -/
def withdrawCopy (n : Nat) (s : State) (b : EngBuf) : State :=
  let p := dropRec n b.pay
  let t := { s with qdm := { s.qdm with
    bufs := s.qdm.bufs.map (fun (x : EngBuf) => if x.queue = b.queue ∧ x.index = b.index then { x with pay := p } else x) } }
  let u := t.masterWrite (t.descAddr b.queue b.index + 8) (leBytes 2 (payOctets p).length)
  if emptyScene p then u.withdrawDesc b.queue b.index else u

/-- Withdraw the SCENE commands of entry n that are queued or held and not launched (R51, R215). A command
none of whose copies was launched no longer takes effect. -/
def withdrawScene (s : State) (n : Nat) : State :=
  let copies := s.openBufs n
  let heldN := s.scn.held.filter (fun h => namesEntry n h.pay)
  let open_ := fun (t : Nat) => (copies.filter (fun b => payTseq b.pay == t)).length
    + (heldN.filter (fun h => payTseq h.pay == t)).length
  let a := copies.foldl (withdrawCopy n) s
  let b := { a with scn := { a.scn with
    held := (a.scn.held.map (fun (h : HeldFrame) => { h with pay := dropRec n h.pay })).filter (fun (h : HeldFrame) => !emptyScene h.pay) } }
  b.setScnEntry n (fun e => { e with
    cmds := e.cmds.filter (fun c => !(c.scene && decide (0 < c.copies) && open_ c.tseq == c.copies)) })

/-- A frame of a tick goes to its lane's queue, handed over at raw count r, or is held (R216). -/
def queueFrame (s : State) (lane asn : Nat) (p : EPay) (r : Nat) : State :=
  let hold := fun (_ : Unit) =>
    { s with scn := { s.scn with held := s.scn.held ++ [({ lane := lane, asn := asn, pay := p } : HeldFrame)] } }.postBit wSCN 7
  match s.engineQueue 1 lane 1 with
  | none => hold ()
  | some q =>
    if s.qFree q ∧ !(s.scn.held.any (fun h => h.lane == lane)) then s.enqueueAt q p 32 0 asn 0xFFFF r else hold ()

/-- The oldest held frame whose queue has a free descriptor is queued (R216). -/
def queueHeld (s : State) : State :=
  match s.scn.held.find? (fun h => match s.engineQueue 1 h.lane 1 with | some q => s.qFree q | none => false) with
  | none => s
  | some h =>
    match s.engineQueue 1 h.lane 1 with
    | none => s
    | some q =>
      { s with scn := { s.scn with held := s.scn.held.erase h } }.enqueueAt q h.pay 32 0 h.asn 0xFFFF s.raw

/-- The frames of one lane's round: LEVEL frames, then SCENE frames (R211). -/
def laneRound (s : State) (asn : Nat) (levels : List LevelCmd) (packs : List (List SceneRec)) : List EPay :=
  levels.map (fun x => EPay.octets (levelOctets asn s.scn.tseq x)) ++ packs.map (fun r => EPay.scene asn s.scn.tseq r)

/-- The packed SCENE frames of lane n (R486). -/
def lanePacks (s : State) (n : Nat) (recs : List SceneRec) : List (List SceneRec) :=
  (packRecs (s.bulkMax n - 33) [] recs).reverse

/-- The distribution margin M in ns (R209). -/
def tickMargin (s : State) (frames : List (Nat × Nat)) : Nat :=
  let w := s.act (reg wSCN 0x010)
  let term := frames.foldl (fun m x =>
    let c := max 1 (s.bulkCells x.1)
    max m ((x.2 + c - 1) / c * s.sfLen x.1 * s.lneF x.1 0x010 31 16 * 1000)) 0
  max (fld w 15 0 * 1000000) (fld w 31 24 * 100000000 + term)

/-- Slot of lane n that starts at or after a raw count, as an ASN. -/
def effAsn (s : State) (n r : Nat) : Nat := asnOf (s.slotFrom n r)

/-- The write that a LEVEL frame brings for entry n (R195, R214). -/
def levelCmd (s : State) (n asn r copies v : Nat) : ScnCmd :=
  let e := s.scnEntry n
  { scene := false, teff := r, asn := asn, tseq := s.scn.tseq, copies := copies, level := v,
    mix := if e.solved then e.mixCap.map (fun m => mixAt m e.cap v) else [] }

/-- Note the write of a command of entry n. -/
def addCmd (s : State) (n : Nat) (c : ScnCmd) : State := s.setScnEntry n (fun e => { e with cmds := e.cmds ++ [c] })

/-- The commands of the LEVEL frames, entry by entry (R195, R213); `mixes` holds each entry as it was before
the tick's solves. -/
def levelCmds (before : State) (levels : List LevelCmd) (can : List Nat) (reff copies : Nat) (s : State) (n : Nat) : State :=
  if before.ltKind n = 1 ∧ before.liveState n then
    match before.levelFor n levels, s.laneFor n can with
    | some v, some l => s.addCmd n (before.levelCmd n (s.effAsn l reff) (s.slotStart l (s.slotFrom l reff)) copies v)
    | _, _ => s
  else s

/-- Queue the frames of one lane in REPEAT + 1 rounds (R211). -/
def queueRounds (s : State) (lane asn r : Nat) (round : List EPay) : Nat → State
  | 0 => s
  | k + 1 => (round.foldl (fun t p => t.queueFrame lane asn p r) s).queueRounds lane asn r round k

/-- A head's command passes to the mast drive (R195, R217). -/
def passHead (reff : Nat) (s : State) (j : ScnJob) : State :=
  match j.head with
  | none => s
  | some h =>
    (s.setHead h (fun x => { x with
      pend := x.pend ++ [{ mixCap := j.out.mixCap, cap := j.out.cap, level := j.lc, curve := j.curve, fade := j.fade,
                           teff := reff }] })).addCmd j.entry
      { scene := true, teff := reff, asn := 0, tseq := s.scn.tseq, copies := 0, mix := j.out.mix, level := j.lc }

/-- A radio lantern's SCENE command is noted for its entry (R195). -/
def noteScene (lane reff copies : Nat) (s : State) (j : ScnJob) : State :=
  s.addCmd j.entry
    { scene := true, teff := s.slotStart lane (s.slotFrom lane reff), asn := s.effAsn lane reff, tseq := s.scn.tseq,
      copies := copies, mix := j.out.mix, level := j.lc }

/-- The frames of one lane at a tick. -/
def queueLane (levels : List LevelCmd) (jobs : List ScnJob) (can : List Nat) (reff copies : Nat) (s : State) (n : Nat) : State :=
  let js := jobs.filter (fun j => j.head.isNone && s.laneFor j.entry can == some n)
  let asn := s.effAsn n reff
  let round := s.laneRound asn levels (s.lanePacks n (js.map s.jobRec))
  js.foldl (noteScene n reff copies) (s.queueRounds n asn (s.raw + 8 * rawMs) round copies)

/-- Event 5 of R208: the effective instant, the frames and the head commands. `before` is the state before
the solves. -/
def queueTick (before s : State) (levels : List LevelCmd) (jobs : List ScnJob) : State :=
  let can := (List.range 4).filter s.carries
  let copies := s.actF wSCN 0x010 17 16 + 1
  let a := (jobs.filter (fun j => j.head.isNone)).foldl (fun t j => t.withdrawScene j.entry) s
  let count := fun n =>
    copies * (levels.length + (a.lanePacks n ((jobs.filter (fun j => j.head.isNone && a.laneFor j.entry can == some n)).map
      a.jobRec)).length)
  let frames := can.map (fun n => (n, count n + (a.scn.held.filter (fun h => h.lane == n)).length))
  let m := a.tickMargin frames
  let teff := max (a.tbs.corrNs a.raw + m) a.scn.lastEff
  let reff := a.tbs.rawOf teff
  let b := a.entryIds.foldl (levelCmds before levels can reff copies) a
  let c := can.foldl (queueLane levels jobs can reff copies) b
  let d := jobs.foldl (passHead reff) c
  let total := (can.map count).foldl (· + ·) 0
  { d with scn := { d.scn with
      lastEff := if 0 < total then teff else d.scn.lastEff
      frames := sat 16 total
      margin := sat 16 (roundOpen 9 ((m : Rat) / 1000000)).toNat } }

/-! ## What takes effect (R195) -/

/-- Write a command's MIX0 to MIX5, LEVEL and EFF_ASN; a channel not in use has drive 0 (R184, R195). A LEVEL for an
entry that has no mix writes none. -/
def writeCmd (n : Nat) (s : State) (c : ScnCmd) : State :=
  let a := if c.mix = [] then s
    else (List.range 6).foldl (fun t i => t.setLt n (0x140 + 2 * i) 2 (nth 0 c.mix i)) s
  (a.setLt n 0x14C 2 c.level).setLt n 0x154 5 c.asn

/-- The commands of entry n whose effective instant has come are written, in key order (R195, R479). -/
def effectEntry (s : State) (n : Nat) : State :=
  let e := s.scnEntry n
  let due := sortBy (fun (c : ScnCmd) => c.teff) (e.cmds.filter (fun c => decide (c.teff ≤ s.raw)))
  if due = [] then s
  else (due.foldl (writeCmd n) s).setScnEntry n (fun x => { x with cmds := x.cmds.filter (fun c => decide (s.raw < c.teff)) })

/-- R195 for every entry. -/
def effectAll (s : State) : State := (s.scn.entries.map (·.1)).foldl effectEntry s

/-! ## The tick (R208, R222, R738) -/

/-- The engine runs at this tick: ENABLE in force, and the power state lets it (R221, R738). -/
def scnRuns (s : State) : Bool := s.actF wSCN 0x004 0 0 == 1 && s.mastLit && s.str.img.isSome

/-- The rules are evaluated when a day began or they are due (R181). -/
def rulesTick (s : State) (began : Bool) : State × List Nat :=
  match s.scn.day with
  | some d =>
    if began || s.scn.progStart then
      (List.range 16).foldl (ruleTick d) ({ s with scn := { s.scn with progStart := false } }, [])
    else (s, [])
  | none => (s, [])

/-- Events 3 to 5 of R208. -/
def scnWork (s : State) (solveUs : Nat) : State :=
  let all := !s.scn.wasEnabled
  let d := { s with scn := { s.scn with wasEnabled := true } }.dayTick
  let r := d.1.astroTick.rulesTick d.2
  let o := (List.range 16).foldl progTick { st := r.1, levels := [], effect := [] }
  let steps := (List.range 16).filter (fun p => r.2.contains p || o.effect.contains (o.st.progFor p))
  let can := (List.range 4).filter o.st.carries
  let e := o.st.entryIds.foldl (entryTick o.levels steps all can) (o.st, [])
  let a := { e.1 with scn := { e.1.scn with solved := e.2.length, solveUs := min solveUs 1900 } }
  ((queueTick o.st (a.postBit wSCN 1) o.levels e.2)).postBit wSCN 0

/-- The scene engine at a TICK boundary: TSEQ, the writes of R195, and its work when it runs. -/
def scnTick (s : State) (solveUs : Nat) : State :=
  let a := { s with scn := { s.scn with tseq := (s.scn.tseq + 1) % 65536 } }.effectAll
  if a.scnRuns then a.scnWork solveUs
  else if a.actF wSCN 0x004 0 0 = 1 then a
  else { a with scn := { a.scn with wasEnabled := false } }

/-- The custom curves whose words were taken up are checked (R202). -/
def curvesTaken (s : State) (l : List Nat) : State :=
  (List.range 4).foldl (fun t i =>
    let k := 4 + i
    let lo := reg wSCN (0x2000 + 0x200 * k)
    if l.any (fun a => decide (lo ≤ a ∧ a < lo + 0x200)) then
      let keep := without ((List.range 8).filter (fun j => (t.scn.curveValid >>> j) % 2 == 1)) k
      if t.curveOk k then { t with scn := { t.scn with curveValid := bitSet (k :: keep) } }
      else { t with scn := { t.scn with curveValid := bitSet keep } }.postBit wSCN 6
    else t) s

/-- Rule words taken up make the rules due (R181). -/
def rulesTaken (s : State) (l : List Nat) : State :=
  if l.any (fun a => decide (reg wSCN 0x1000 ≤ a ∧ a < reg wSCN 0x1800)) then
    { s with scn := { s.scn with progStart := true } }
  else s

end State

/-! ## Meanings -/

/-- A held frame is queued, while the engine runs (R216, R221, R738). -/
def execScnHeldFrameQueue (dt : Nat) (s : State) : Host.Outcome State Fault Refusal :=
  .next (s.occurIn dt wSCN (fun t => if t.scnRuns then t.queueHeld else t))

end Sys2Proof.Machine
end

