-- ==== Sys2Proof/Machine/Timebase.lean ====
section
/-! DEFINITION. The timebase's commands: adjustments, milestones, PPS captures and the
transmit-timestamp queues (R546 to R582). -/

namespace Sys2Proof.Machine

namespace TbsUnit

/-- Fold the drift so far into DB at raw count r: C does not jump (R554). -/
def rebase (t : TbsUnit) (r : Nat) : TbsUnit :=
  { t with db := t.corr r - t.offset - 5 * (r : Rat), rb := r }

/-- What the slew in progress has not yet added at raw count r (R554, R555). -/
def slewLeft (t : TbsUnit) (r : Nat) : Rat :=
  match t.slew with
  | some w => (w.amount : Rat) - w.added r
  | none => 0

/-- End the slew in progress at raw count r, its remainder discarded into TBS_SLEWREM (R554, R555). -/
def dropSlew (t : TbsUnit) (r : Nat) : TbsUnit :=
  match t.slew with
  | some _ => { t.rebase r with slew := none, slewRem := roundOpen 5 (t.slewLeft r) }
  | none => t

end TbsUnit

namespace State

/-! ## Milestones (R569 to R575) -/

/-- Change milestone m. -/
def setMile (s : State) (m : Nat) (f : Milestone → Milestone) : State :=
  { s with tbs := { s.tbs with ms := modAt s.tbs.ms m f } }

/-- Offset of milestone m's registers. -/
def msOff (m : Nat) : Nat := 0x400 + 0x20 * m

/-- Basis CORR. -/
def msCorr (s : State) (m : Nat) : Bool := s.cfgF wTBS (msOff m) 31 31 == 1

/-- PERIODIC. -/
def msPeriodic (s : State) (m : Nat) : Bool := s.cfgF wTBS (msOff m) 30 30 == 1

/-- The period, in raw ticks or ns. -/
def msPeriod (s : State) (m : Nat) : Nat :=
  s.cfgF wTBS (msOff m + 0x0C) 31 0 + 2 ^ 32 * s.cfgF wTBS (msOff m + 0x10) 31 0

/-- A target in the milestone's basis as a raw count (R570). -/
def msRaw (s : State) (m : Nat) (target : Int) : Nat :=
  if s.msCorr m then s.tbs.rawOf target else target.toNat

/-- The image gives the milestone a pin (R572, R780). -/
def msHasPin (s : State) (m : Nat) : Bool := s.fromImg false (fun b => b.pins.any (fun c => c % 256 == 0x20 + m))

/-- Length of the pulse of a firing in raw ticks, cut to half the period (R575). -/
def msPulseLen (s : State) (m : Nat) : Nat :=
  let w := 200 * max 1 (s.cfgF wTBS (msOff m) 15 0)
  if s.msPeriodic m then min w (if s.msCorr m then s.msPeriod m / 10 else s.msPeriod m / 2) else w

/-- The pin action of a firing at raw count r (R572, R582). -/
def msPin (s : State) (m r : Nat) : State :=
  if s.msHasPin m then
    s.setMile m (fun x =>
      match s.cfgF wTBS (msOff m) 29 27 with
      | 1 => { x with pin := true }
      | 2 => { x with pin := false }
      | 3 => { x with pin := !x.pin }
      | 4 => { x with pin := true, pulse := some (r + s.msPulseLen m, false) }
      | 5 => { x with pin := false, pulse := some (r + s.msPulseLen m, true) }
      | _ => x)
  else s

/-- The recorder sources bound to milestone m (R572, R619). -/
def msSources (s : State) (m : Nat) : List Nat :=
  (sortBy (fun c => c.num) (s.recCfg.sources.filter (fun c => c.trig == 2 && c.ref == m))).map (·.num)

/-- One firing at raw count r: MSFIRE, FIRES, LATE, the pin, NOTIFY and RECTRIG (R571, R572). -/
def msAct (s : State) (m r : Nat) (late : Bool) : State :=
  let a := s.setMile m (fun x => { x with late := late, fires := (x.fires + 1) % 65536, fireRaw := r })
  let b := a.msPin m r
  let bits := bitIf late 11 + bitIf (s.cfgF wTBS (msOff m) 25 25 == 1) 10
  let c := b.post (reg wTBS 0) bits
  if s.cfgF wTBS (msOff m) 26 26 = 1 then c.triggerAll (c.msSources m) else c

/-- How many periods after a target the first target after raw count r lies (R573). -/
def msAhead (s : State) (m r : Nat) (target : Int) : Nat :=
  let p := max 1 (s.msPeriod m)
  let now : Rat := if s.msCorr m then s.tbs.corr r else (r : Rat)
  (((now - target) / p).floor + 1).toNat

/-- Give milestone m a target in its own basis. -/
def msAim (s : State) (m : Nat) (target : Int) : State :=
  s.setMile m (fun x => { x with target := target, rawTarget := s.msRaw m target })

/-- A milestone fires at raw count r, and takes its next target (R571, R573). -/
def msFire (s : State) (m r : Nat) (late : Bool) : State :=
  let t := s.msAct m r late
  if s.msPeriodic m then
    let n := (s.mile m).target + s.msPeriod m
    if s.msRaw m n < r then
      let k := s.msAhead m r n
      ((t.msAct m r true).msAim m (n + k * s.msPeriod m)).setMile m
        (fun x => { x with skipped := sat 12 (x.skipped + (k - 1)) })
    else t.msAim m n
  else t.setMile m (fun x => { x with st := .fired })

/-- A milestone's handle starts: it is armed with the fields in force, and fires at once when its target
has passed (R569, R571). -/
def msArm (s : State) (m : Nat) : State :=
  let target : Int := s.cfgF wTBS (msOff m + 0x04) 31 0 + 2 ^ 32 * s.cfgF wTBS (msOff m + 0x08) 31 0
  let t := (s.setMile m (fun x => { x with st := .armed })).msAim m target
  if t.msRaw m target < t.raw then t.msFire m t.raw true else t

/-- A milestone's handle stops: it is disarmed and a running pulse ends (R569, R575). -/
def msStop (s : State) (m : Nat) : State :=
  s.setMile m (fun x =>
    { x with st := .disarmed, pin := (match x.pulse with | some p => p.2 | none => x.pin), pulse := none })

/-! ## Re-conversion (R558, R559) -/

/-- Convert the corrected-time target of an armed milestone again at raw count r; it fires at once when that puts the
target before r (R558, R571). -/
def msReconvert (s : State) (m r : Nat) : State :=
  if (s.mile m).st = .armed ∧ s.msCorr m then
    let t := s.msAim m (s.mile m).target
    if (t.mile m).rawTarget < r then t.msFire m r true else t
  else s

/-- Convert the milestones of a list again at raw count r, in order. -/
def msReconvertAll (s : State) (r : Nat) : List Nat → State
  | [] => s
  | m :: l => (s.msReconvert m r).msReconvertAll r l

/-- Convert every target held from corrected time again (R558): the next TICK boundary, the interval ends
and the milestones. `r` is the raw count of the adjustment. -/
def reconvert (s : State) (r : Nat) : State :=
  let a := { s with tbs := { s.tbs with tickTarget := TbsUnit.tickAfter (s.tbs.corr r) true } }
  let b := { a with acc := { a.acc with
    ivs := a.acc.ivs.map (fun (v : FeedIv) => if v.open_ then { v with endRaw := a.tbs.rawOf v.endAt } else v) } }
  b.msReconvertAll r (List.range 32)

/-! ## Adjustments (R553 to R556) -/

/-- The 64-bit argument of an adjustment. -/
def adjArg (s : State) : Int := signed 64 (s.cfgF wTBS 0x040 31 0 + 2 ^ 32 * s.cfgF wTBS 0x044 31 0)

/-- A refused adjustment (R553). -/
def adjRefuse (s : State) (code : Nat) : State :=
  ({ s with tbs := { s.tbs with adjCode := code } }).postBit wTBS 4

/-- An adjustment taken up at raw count r: the new parameters, TBS_ADJRAW, the code and the status bits;
the re-conversion comes before any compare at r (R553, R558). -/
def adjTake (s : State) (r : Nat) (u : TbsUnit) (bits : Nat) : State :=
  (({ s with tbs := { u with adjRaw := r, adjCode := 0, adjAt := some r, past := s.tbs.keepPast r } }).reconvert r).post
    (reg wTBS 0) bits

/-- Every open metering interval is to close at its feeder's first CYCLE boundary at or after raw count r, with a flag
(R391). -/
def closeOpenIvs (s : State) (r flag : Nat) : State :=
  { s with acc := { s.acc with
      ivs := s.acc.ivs.map (fun (v : FeedIv) =>
        if v.open_ then { v with closing := some (v.closing.getD 0 ||| flag), closeFrom := max v.closeFrom r } else v) } }

/-- STEP (R554). -/
def adjDoStep (s : State) (r : Nat) : State :=
  let a := s.adjArg
  let t := s.tbs
  if a = 0 then s.adjRefuse 2
  else if t.corr r + a < 0 then s.adjRefuse 3
  else
    let u := t.dropSlew r
    (s.adjTake r { u with offset := u.offset + a, epoch := (u.epoch + 1) % 65536, unset := false }
      (1 + bitIf t.slew.isSome 3)).closeOpenIvs r 1

/-- RATE (R554). -/
def adjDoRate (s : State) (r : Nat) : State :=
  let a := s.adjArg
  if a < -(2 ^ 39) ∨ 2 ^ 39 ≤ a then s.adjRefuse 2
  else s.adjTake r { s.tbs.rebase r with rate := a } 2

/-- SLEW at `rate` ppm (R554, R555). -/
def adjDoSlew (s : State) (r rate : Nat) : State :=
  let a := s.adjArg
  if a = 0 ∨ a < -999999999 ∨ 999999999 < a ∨ rate = 0 ∨ 500 < rate then s.adjRefuse 2
  else
    let u := (s.tbs.dropSlew r).rebase r
    s.adjTake r { u with slew := some { ppm := if a < 0 then -(rate : Int) else rate, amount := a, start := r } }
      (2 + bitIf s.tbs.slew.isSome 3)

/-- SLEWSTOP (R554). -/
def adjDoSlewstop (s : State) (r : Nat) : State :=
  if s.tbs.slew.isNone then s.adjRefuse 4 else s.adjTake r (s.tbs.dropSlew r) 2

/-- A completed pair to TBS_ADJCMD (R553, R554): OP and SLEWRATE. -/
def tbsAdj (s : State) (op rate : Nat) : State :=
  let r := s.raw + 1
  if s.tbs.adjAt.getD 0 > s.raw then s.adjRefuse 1
  else
    match op with
    | 1 => s.adjDoStep r
    | 2 => s.adjDoRate r
    | 3 => s.adjDoSlew r rate
    | 4 => s.adjDoSlewstop r
    | _ => s.adjRefuse 2

/-- A completed pair with a value of TBS_ADJCMD. -/
def tbsAdjWord (s : State) (v : Word) : State :=
  (s.setCfg (reg wTBS 0x048) (v &&& 0xF0FF0000)).tbsAdj (fld v 31 28) (fld v 23 16)

/-- The word of TBS_ADJCMD for an OP and a SLEWRATE. -/
def adjWord (op rate : Nat) : Word := BitVec.ofNat 32 (op * 2 ^ 28 + rate % 256 * 2 ^ 16)

/-- The slew in progress has added its amount (R555). -/
def slewFinish (s : State) : State :=
  match s.tbs.slew with
  | some w =>
    let e := w.endRaw
    if e ≤ s.raw then
      (({ s with tbs := { s.tbs.rebase e with slew := none, past := s.tbs.keepPast e } }).reconvert e).postBit wTBS 2
    else s
  | none => s

/-! ## PPS (R561, R562) -/

/-- The interval error of an accepted edge in 2-tick units, saturating (R562, R580). -/
def ppsErrOf (interval : Int) : Int :=
  max (-8191) (min 8191 (roundOpen 4 (((interval - 200000000 : Int) : Rat) / 2)))

/-- A PPS edge at a raw count, held at its new level for some µs (R561, R562). -/
def ppsTake (s : State) (edge heldUs : Nat) : State :=
  if s.cfgF wTBS 0x060 31 31 = 0 then s
  else if heldUs < max 1 (s.cfgF wTBS 0x060 7 0) then s.postBit wTBS 7
  else
    let c := edge - 3
    let t := s.tbs
    let iv : Int := (c : Int) - t.ppsRaw
    let ok := t.ppsSeen ∧ 200000000 - 20000 ≤ iv ∧ iv ≤ 200000000 + 20000
    ({ s with tbs := { t with
        ppsRaw := c, ppsCount := (t.ppsCount + 1) % 65536, ppsSeen := true, ppsPresent := true,
        ppsInRange := decide ok, ppsErr := if t.ppsSeen then ppsErrOf iv else t.ppsErr, ppsFrom := c,
        ppsLostDone := false } }).post (reg wTBS 0) (2 ^ 6 + bitIf (decide (t.ppsSeen ∧ ¬ok)) 8)

/-- No edge has been accepted for 1.5 s (R562). -/
def ppsLose (s : State) : State :=
  if s.cfgF wTBS 0x060 31 31 = 1 ∧ ¬s.tbs.ppsLostDone ∧ s.tbs.ppsFrom + 300000000 ≤ s.raw then
    ({ s with tbs := { s.tbs with ppsPresent := false, ppsLostDone := true } }).postBit wTBS 9
  else s

/-- A write of TBS_PPSCFG: enabling the input starts the 1.5 s of R562. -/
def ppsCfgWrite (s : State) (v : Word) : State :=
  let on := s.cfgF wTBS 0x060 31 31 = 0 ∧ bit v 31
  let t := s.setCfg (reg wTBS 0x060) (v &&& 0xC00000FF)
  if on then { t with tbs := { t.tbs with ppsFrom := t.raw, ppsLostDone := false } } else t

/-! ## Transmit-timestamp queues (R565 to R568) -/

/-- Change transmit-timestamp queue k. -/
def setTsq (s : State) (k : Nat) (f : Tsq → Tsq) : State :=
  { s with tbs := { s.tbs with tsqs := modAt s.tbs.tsqs k f } }

/-- An entry arrives at queue k; a full queue drops it (R566, R568). -/
def tsqAdd (s : State) (k tag queue attempt : Nat) (st : Stamp) : State :=
  let q := s.tsq k
  if q.entries.length < 16 then
    s.setTsq k (fun x =>
      { x with entries := x.entries ++ [{ tag := tag, queue := queue, attempt := attempt, stamp := st, gap := x.gap }],
               gap := false })
  else (s.setTsq k (fun x => { x with lost := sat 16 (x.lost + 1), gap := true })).postBit wTBS 12

/-- A read of TBS_TSQ[k]_W0 (R567). -/
def tsqRead (s : State) (k : Nat) : State :=
  let e := (s.tsq k).entries.head?
  (s.setTsq k (fun x => { x with latch := e, entries := x.entries.drop 1 })).answer
    (BitVec.ofNat 32 (tsWord e 0)) false

/-- A read of TBS_NOW_RAW_LO (R548). -/
def nowRead (s : State) : State :=
  ({ s with tbs := { s.tbs with now := some s.stamp } }).answer (BitVec.ofNat 32 (half64 false s.raw)) false

end State

/-! ## Meanings -/

/-- TBS_NOW_RAW_LO read (R548). -/
def execTbsNowRead (dt master : Nat) (s : State) : Host.Outcome State Fault Refusal :=
  .next ((s.elapse dt).access master (reg wTBS 0x010) false State.nowRead)

/-- TBS_TSQ[k]_W0 read (R567). -/
def execTsqPop (dt master queue : Nat) (s : State) : Host.Outcome State Fault Refusal :=
  .next ((s.elapse dt).access master (reg wTBS (0x100 + 0x20 * queue)) false (fun t => t.tsqRead queue))

/-- ADJCMD STEP (R553, R554). -/
def execAdjStep (dt master : Nat) (s : State) : Host.Outcome State Fault Refusal :=
  .next ((s.elapse dt).pairWrite master (reg wTBS 0x048) (fun t => t.tbsAdjWord (State.adjWord 1 0)))

/-- ADJCMD RATE (R553, R554). -/
def execAdjRate (dt master : Nat) (s : State) : Host.Outcome State Fault Refusal :=
  .next ((s.elapse dt).pairWrite master (reg wTBS 0x048) (fun t => t.tbsAdjWord (State.adjWord 2 0)))

/-- ADJCMD SLEW at a rate in ppm (R553, R554). -/
def execAdjSlew (dt master rate : Nat) (s : State) : Host.Outcome State Fault Refusal :=
  .next ((s.elapse dt).pairWrite master (reg wTBS 0x048) (fun t => t.tbsAdjWord (State.adjWord 3 rate)))

/-- ADJCMD SLEWSTOP (R553, R554). -/
def execAdjSlewstop (dt master : Nat) (s : State) : Host.Outcome State Fault Refusal :=
  .next ((s.elapse dt).pairWrite master (reg wTBS 0x048) (fun t => t.tbsAdjWord (State.adjWord 4 0)))

/-- A slew ends (R555). -/
def execSlewEnd (dt : Nat) (s : State) : Host.Outcome State Fault Refusal :=
  .next (s.occurIn dt wTBS State.slewFinish)

/-- A PPS edge (R561, R562). -/
def execPpsEdge (dt edge heldUs : Nat) (s : State) : Host.Outcome State Fault Refusal :=
  .next (s.occurIn dt wTBS (fun t => t.ppsTake edge heldUs))

/-- PPS lost (R562). -/
def execPpsLost (dt : Nat) (s : State) : Host.Outcome State Fault Refusal :=
  .next (s.occurIn dt wTBS State.ppsLose)

/-- A milestone fires (R570 to R573). -/
def execMilestoneFire (dt m : Nat) (s : State) : Host.Outcome State Fault Refusal :=
  .next (s.occurIn dt wTBS (fun t =>
    if (t.mile m).st = .armed ∧ (t.mile m).rawTarget ≤ t.raw then t.msFire m t.raw false else t))

/-- A milestone's pulse ends (R575). -/
def execMilestonePulseEnd (dt m : Nat) (s : State) : Host.Outcome State Fault Refusal :=
  .next (s.occurIn dt wTBS (fun t =>
    match (t.mile m).pulse with
    | some p => if p.1 ≤ t.raw then t.setMile m (fun x => { x with pin := p.2, pulse := none }) else t
    | none => t))

end Sys2Proof.Machine
end

