-- ==== Sys2Proof/Machine/Lanes.lean ====
section
/-! DEFINITION. The radio lanes: slots, cells, launches, acknowledgements, transceiver faults and the spare
(R424 to R472). -/

namespace Sys2Proof.Machine

namespace State

/-! ## Starting and stopping (R426, R464) -/

/-- Connector that lane n names (R466). -/
def laneAnt (s : State) (n : Nat) : Nat := s.lneF n 0x00C 31 30

/-- A running lane other than n names its connector (R426). -/
def antBusy (s : State) (n : Nat) : Bool :=
  (List.range 4).any (fun m => m != n && (s.lane m).run && s.laneAnt m == s.laneAnt n)

/-- A lower-numbered lane with the same connector starts in the same fabric cycle (R426). -/
def antLost (s : State) (n : Nat) : Bool :=
  (List.range n).any (fun m =>
    (s.lane m).startAt == (s.lane n).startAt && s.laneAnt m == s.laneAnt n && !s.antBusy m)

/-- CFG_BAD of lane n. -/
def laneBad (s : State) (n : Nat) : State := s.postLane n 11

/-- The spare can take a lane over: usable and not serving (R457, R459). -/
def spareReady (s : State) : Bool :=
  s.lne.spare == .free || s.lne.spare == .selftest || s.lne.spare == .rxtest

/-- A takeover of lane n begins: t_f is now, and a round in progress is abandoned (R457, R459). -/
def takeoverBegin (s : State) (n : Nat) : State :=
  { s with lne := { s.lne with
      takeover := some (n, s.raw), locked := false, spare := .serving, spareTarget := n } }

/-- Lane n stops for want of a transceiver (R458). -/
def laneStranded (s : State) (n : Nat) : State :=
  (s.setLane n (fun l => { l with run := false, faulted := true, xcvr := none, tuned := none })).poolEmpty

/-- Lane n gets the spare, or stops (R457, R458, R764). -/
def takeoverOrStop (s : State) (n : Nat) : State :=
  if s.spareReady then s.takeoverBegin n else s.laneStranded n

/-- ENABLE of lane n is taken up as 1 (R464). -/
def laneEnable (s : State) (n : Nat) : State :=
  if s.phyValid n ∧ s.timingValid n ∧ s.chplanValid then
    let r := s.slotStart n (s.slotFrom n (s.raw + rawMs))
    s.setLane n (fun l => { l with startAt := some r, cfgBad := false })
  else (s.setLane n (fun l => { l with cfgBad := true })).laneBad n

/-- ENABLE of lane n is taken up as 0 (R464). -/
def laneDisable (s : State) (n : Nat) : State :=
  s.setLane n (fun l =>
    { l with run := false, startAt := none, faulted := false, cfgBad := false, tuned := none, slot := none })

/-- Lane n starts, when its start is due (R426, R464, R764). -/
def laneStartDue (s : State) (n : Nat) : State :=
  match (s.lane n).startAt with
  | some r =>
    if s.raw < r then s
    else if s.antBusy n ∨ s.antLost n then
      (s.setLane n (fun l => { l with startAt := none, cfgBad := true })).laneBad n
    else
      let t := (s.setLane n (fun l => { l with startAt := none, run := true, faulted := false })).postLane n 0
      match (t.lane n).xcvr with
      | some x => if x ≠ 4 ∧ t.flt.xcvrRet.contains x then t.takeoverOrStop n else t
      | none => t.takeoverOrStop n
  | none => s

/-- Fields of lane n taken up: duplicates among its cells, and ENABLE (R433, R464). -/
def slotTaken (s : State) (n : Nat) (l : List Nat) : State :=
  let lo := reg wLNE (lneOff n 0x1000)
  let t := if l.any (fun a => decide (lo ≤ a ∧ a < lo + 0x800)) && s.cellDup n then s.postLane n 1 else s
  if l.contains (reg wLNE (lneOff n 0x004)) then
    if t.laneEnabled n then (if (t.lane n).run ∨ (t.lane n).startAt.isSome then t else t.laneEnable n)
    else t.laneDisable n
  else t

/-! ## Frame counter (R453) -/

/-- No secured frame can be sent. -/
def fcEnd (s : State) : Bool := decide (0xFFFFFFFF ≤ s.lne.fc)

/-- The counter of a secured frame is used: it advances, and the multiple it passes is recorded. -/
def fcUse (s : State) : State :=
  let v := s.lne.fc
  let t := { s with lne := { s.lne with
    fc := v + 1, fcRec := if v % 65536 = 0 then some (v, s.lne.fcOwner) else s.lne.fcRec } }
  t.post (reg wLNE 0x8000) (bitIf (v + 1 == 0xF0000000) 5 + bitIf (v + 1 == 0xFFFFFFFF) 4)

/-- The counter returns to 1 under another owner. -/
def fcOwn (s : State) (o : Nat × Nat) : State :=
  if s.lne.fcOwner = o then s else { s with lne := { s.lne with fc := 1, fcOwner := o, fcRec := none } }

/-- NETIDX in force; 0xFF acts as 1 (R472). -/
def netIdx (s : State) : Nat :=
  let v := s.lneF 4 0x014 7 0
  if v = 0xFF then 1 else v

/-- FC_WEAR and FC_END of a counter that comes to a value (R453, R472). -/
def fcMarks (s : State) (v : Nat) : State :=
  s.post (reg wLNE 0x8000) (bitIf (v == 0xF0000000) 5 + bitIf (v == 0xFFFFFFFF) 4)

/-- The counter after a start (R453). -/
def fcResume (s : State) : State :=
  let v := match s.lne.fcRec with
    | some r => min (r.1 + 65536) 0xFFFFFFFF
    | none => 65536
  { s with lne := { s.lne with fc := v } }.fcMarks v

/-! ## Choice of a head (R441 to R443) -/

/-- The queue's head can be served now: the queue runs and is not parked. -/
def headLive (s : State) (q : Nat) : Bool := s.qRuns q && !(s.queue q).parked && decide (0 < s.qCount q)

/-- The head has not been read yet, or only its fetch has begun. -/
def headUnread (s : State) (q : Nat) : Bool :=
  (s.queue q).xfer.isNone && (s.queue q).held.isNone && (s.queue q).attempts == 0

/-- DEADLINE has passed in slot a (R443). -/
def headLate (d : Desc) (a : Nat) : Bool := d.deadline != 0 && decide (d.deadline ≤ asnOf a)

/-- A late head completes with LATE_DROP on lane n (R443). -/
def lateDropHead (s : State) (n q : Nat) : State :=
  ((s.complete q 1 0 0).setLane n (fun l => { l with lateDrop := (l.lateDrop + 1) % 65536 })).postLane n 4

/-- R443 and the checks of R522 on the heads of queue q for slot a of lane n, at most k of them. A frame that
waits for a lantern whose handle has become FAULTED is withdrawn (R141). -/
def lateHeads (s : State) (n q a : Nat) : Nat → State
  | 0 => s
  | k + 1 =>
    if s.headLive q then
      if s.qdm.gone.contains (q, (s.queue q).head) ∧ s.headUnread q then (s.complete q 3 0 0).lateHeads n q a k
      else
        let d := s.headDesc q
        match (if s.headUnread q then s.descCheck q d else none) with
        | some c => (s.complete q c 0 0).lateHeads n q a k
        | none =>
          if s.toFaulted d then (s.complete q 3 0 0).lateHeads n q a k
          else if headLate d a ∧ (!d.late ∨ d.deadline + 6000 ≤ asnOf a) then (s.lateDropHead n q).lateHeads n q a k else s
    else s

/-- R443 on each queue of a list, after a completion that is due has been written. -/
def lateAll (s : State) (n a : Nat) : List Nat → State
  | [] => s
  | q :: r => let t := s.settle q; (t.lateHeads n q a (t.qCount q)).lateAll n a r

/-- The head is ready for slot a of lane n (R441). -/
def headReady (s : State) (n q a : Nat) : Bool :=
  let d := s.headDesc q
  s.headLive q && decide (s.handedAt q (s.queue q).head + rawMs ≤ s.slotStart n a)
    && (d.launch == 0 || decide (d.launch ≤ asnOf a))

/-- The queue whose head a transmit cell of a queue class launches in slot a (R442). -/
def chooseQueue (s : State) (n cls a : Nat) : Option Nat := (s.laneQueues n cls).find? (fun q => s.headReady n q a)

/-- Queue class of a WAVE or BULK cell. -/
def cellQClass (w : Word) : Option Nat :=
  match fld w 30 28 with
  | 1 => some 0
  | 2 => some 1
  | _ => none

/-- A fetch that has not ended is completed; one that has not begun is made whole (R530, R531). -/
def fetchAll (s : State) (q : Nat) : State :=
  if (s.queue q).held.isSome then s
  else
    let t := if (s.queue q).xfer.isSome then s else s.setQueue q (fun x => { x with xfer := some { offset := 0, data := [] } })
    t.fetchRest q ((t.headDesc q).len + 1)

/-! ## Launch (R428, R439 to R447) -/

/-- Distance of two channels' centres is below MINSEP (R428). -/
def tooClose (s : State) (a b : Nat) : Bool :=
  let x := s.chanKHz a
  let y := s.chanKHz b
  decide ((max x y) - (min x y) < 100 * s.lneF 4 0x010 7 0)

/-- A running lower-numbered lane tunes too close in its slot that contains the present instant (R428). -/
def collides (s : State) (n ch : Nat) : Bool :=
  (List.range n).any (fun m =>
    (s.lane m).run && (s.lane m).slot.isSome && (s.lane m).slot == s.slotAt m s.raw
      && (match (s.lane m).tuned with | some c => s.tooClose c ch | none => false))

/-- The slot is left idle under R428. -/
def collSkip (s : State) (n : Nat) : State :=
  (s.setLane n (fun l => { l with collSkip := (l.collSkip + 1) % 65536 })).postLane n 6

/-- A transmission of some raw ticks is held back by DUTYMAX (R447). -/
def dutyStops (s : State) (n air : Nat) (beacon : Bool) : Bool :=
  let past := decide (s.dutyMax n * 3600 * rawS < (s.airLastHour n false + air) * 1000)
  past && !(beacon && decide ((s.airLastHour n true + air) * 1000 ≤ 3600 * rawS))

/-- The cell is idle under R447. -/
def dutySkipped (s : State) (n : Nat) : State :=
  (s.setLane n (fun l => { l with dutySkip := sat 16 (l.dutySkip + 1) })).postLane n 7

/-- A transmission of lane n is added to its transmitted time; what is older than an hour leaves it. -/
def addAir (s : State) (n start len : Nat) (beacon : Bool) : State :=
  s.setLane n (fun l =>
    { l with air := (l.air.filter (fun e => decide (s.raw < e.1 + 3600 * rawS))) ++ [(start, len, beacon)] })

/-- Octets besides the payload in the PSDU of a descriptor's frame (R474, R521). -/
def formOctets (s : State) (n : Nat) (d : Desc) : Nat :=
  (if d.dest = 0xFFFF then 33 else if d.joinForm then 39 else 38) - 2 * s.lneF n 0x008 0 0

/-- First preamble bit of slot a (R431, R432). -/
def txRaw (s : State) (n a : Nat) : Nat := s.slotStart n a + 400000

/-- The network key is held (R448, R660). -/
def netKeyed (s : State) : Bool := s.key.netKey.isSome

/-- A frame is dropped, or not sent, for want of the network key (R472). -/
def noKeyCount (s : State) : State :=
  { s with lne := { s.lne with noKey := (s.lne.noKey + 1) % 65536 } }.post (reg wLNE 0x8000) (2 ^ 3)

/-- The beacon of lane n in slot a (R439). -/
def beaconOf (s : State) (n a : Nat) : Beacon :=
  { eui := s.sys.fuses.eui, pan := s.lneF 4 0x014 31 16, asn := asnOf a, slotLen := s.lneF n 0x010 31 16,
    hops := (List.range (s.hopLen n)).map (s.hop n), sfLen := s.sfLen n,
    links := (s.laneCells n).filterMap (fun e =>
      if bit e.2 31 && bit e.2 21 then some (fld e.2 9 0, fld e.2 27 22, fld e.2 30 28) else none) }

/-- Lane n sends the beacon of slot a on a channel (R439). -/
def sendBeacon (s : State) (n a ch : Nat) : State :=
  let o := Config.beaconOctets (s.beaconOf n a)
  let air := s.airRaw n (min 127 o.length)
  if s.dutyStops n air true then s.dutySkipped n
  else
    (s.addAir n (s.txRaw n a) air true).setLane n (fun l => { l with
      sent := (l.sent + 1) % 65536, tuned := some ch,
      lastTx := some { slot := a, dest := 0xFFFF, formJ := false, fc := none, octets := o, beacon := true,
                       power := s.txPower n } })

/-- Lane n launches the head frame of queue q in slot a on a channel (R440 to R446, R453). -/
def launchHead (s : State) (n q a ch air : Nat) : State :=
  let d := s.headDesc q
  let x := s.queue q
  let fc := x.headFc.getD s.lne.fc
  let late := headLate d a
  let t := if x.headFc.isSome then s else s.fcUse
  let unicast := d.dest != 0xFFFF && d.ackReq
  let lateSent := x.lateSent || late
  let t1 := (t.addAir n (s.txRaw n a) air false).setLane n (fun l => { l with
    sent := (l.sent + 1) % 65536, retries := (l.retries + if x.attempts = 0 then 0 else 1) % 65536,
    lateSent := (l.lateSent + if late then 1 else 0) % 65536, tuned := some ch,
    await := if unicast then some { queue := q, slot := a, dest := d.dest } else none,
    lastTx := some { slot := a, dest := d.dest, formJ := d.dest != 0xFFFF && d.joinForm, fc := some fc,
                     octets := (match x.held with | some h => h.octets | none => []), beacon := false,
                     power := s.txPower n } })
  let t2 := t1.setQueue q (fun y => { y with
    attempts := y.attempts + 1, headFc := some fc, lateSent := lateSent,
    done := if unicast then none else some (0, d.len, bitIf lateSent 1) })
  let t3 := if late then t2.postLane n 3 else t2
  if d.tsReq then t3.tsqAdd n d.tag q (x.attempts + 1) (t3.tbs.stampAt (s.txRaw n a)) else t3

/-- A WAVE or BULK cell of lane n in slot a on a channel, after R443 (R428, R442, R447, R522). -/
def sendHead (s : State) (n cls a ch : Nat) : State :=
  match s.chooseQueue n cls a with
  | none => s
  | some q =>
    let t := s.fetchAll q
    let air := t.airRaw n ((t.headDesc q).len + t.formOctets n (t.headDesc q))
    if (t.queue q).held.isNone then t
    else if t.collides n ch then t.collSkip n
    else if t.dutyStops n air false then t.dutySkipped n
    else if !t.netKeyed then (t.complete q 9 0 0).noKeyCount
    else if (t.queue q).headFc.isNone ∧ t.fcEnd then t.complete q 9 0 0
    else t.launchHead n q a ch air

/-! ## Acknowledgements (R445) -/

/-- End of the ACK_WAIT window of a pending attempt of lane n, raw (R431). -/
def ackEnd (s : State) (n : Nat) (w : Await) : Nat :=
  s.txRaw n w.slot + s.airRaw n ((s.headDesc w.queue).len + s.formOctets n (s.headDesc w.queue)) + 280000

/-- The attempt drew no acknowledgement: the frame is sent again, or completes with TX_FAIL (R445). -/
def ackFail (s : State) (n : Nat) : State :=
  match (s.lane n).await with
  | none => s
  | some w =>
    let d := s.headDesc w.queue
    let x := s.queue w.queue
    let t := s.setLane n (fun l => { l with await := none })
    if d.retry < x.attempts then
      ((t.setLane n (fun l => { l with txFail := (l.txFail + 1) % 65536 })).postLane n 5).setQueue w.queue
        (fun y => { y with done := some (2, d.len, bitIf y.lateSent 1) })
    else t

/-- A valid acknowledgement completes the attempt it answers (R445, R448). -/
def ackTake (s : State) (n entry : Nat) : State :=
  match (s.lane n).await with
  | none => s
  | some w =>
    if w.dest = entry then
      (s.setLane n (fun l => { l with await := none })).setQueue w.queue (fun y =>
        { y with done := some (0, (s.headDesc w.queue).len, bitIf y.lateSent 1) })
    else s

/-! ## Transceiver faults and the spare (R456 to R460) -/

/-- A recorder event of lane n with the status bit of the same occurrence: lane, transceiver, cause. -/
def laneEvent (s : State) (n i cause : Nat) : State :=
  (s.postLane n i).event wLNE (some i) [iIndex n, iIndex ((s.lane n).xcvr.getD 7), iCause cause]

/-- A transceiver fault of lane n is confirmed: PLL 0, TXPWR 1, RXTEST 2 (R456 to R458). -/
def xcvrFault (s : State) (n cause : Nat) : State :=
  if s.lne.takeover.map (·.1) = some n then s
  else
    let t := (s.laneEvent n 8 cause).setLane n (fun l => { l with pllFail := none, txPwrFail := 0, rxTestFail := 0 })
    if (s.lane n).xcvr = some 4 then
      { t with lne := { t.lne with spare := .unusable } }.laneStranded n
    else t.takeoverOrStop n

/-- The synthesiser check in a slot that lane n tunes (R456). -/
def pllCheck (s : State) (n : Nat) (rf : RfCheck) : State :=
  if rf.locked then s
  else
    match (s.lane n).pllFail with
    | some r =>
      if s.raw < r + rawS then s.xcvrFault n 0 else s.setLane n (fun l => { l with pllFail := some s.raw })
    | none => s.setLane n (fun l => { l with pllFail := some s.raw })

/-- The reflected power is above that of a 3:1 VSWR, a quarter of the forward power (R456). -/
def rfReflects (rf : RfCheck) : Bool := decide ((1 : Rat) / 4 < rf.refl)

/-- The forward power is more than 3 dB below the power at which lane n sends (R456). -/
def rfLow (s : State) (n : Nat) (rf : RfCheck) : Bool := decide (rf.fwd < (s.txPower n : Rat) - 3)

/-- The power checks of a transmission of lane n (R456). -/
def powerChecks (s : State) (n : Nat) (rf : RfCheck) : State :=
  let t := s.setLane n (fun l => { l with
    txPwrFail := if s.rfLow n rf && !rfReflects rf then l.txPwrFail + 1 else 0,
    antFail := if rfReflects rf then l.antFail + 1 else 0, antFault := l.antFault && rfReflects rf })
  let u :=
    if 3 ≤ (t.lane n).antFail ∧ !(t.lane n).antFault then
      (t.setLane n (fun l => { l with antFault := true })).laneEvent n 10 3
    else t
  if 3 ≤ (u.lane n).txPwrFail then u.xcvrFault n 1 else u

/-- A command of LNE[4]_CMD completes with a code (R472). -/
def lneDone (s : State) (code : Nat) : State :=
  { s with lne := { s.lne with cmdCode := code, cmdBusy := false } }.post (reg wLNE 0x8000) 1

/-- Event 4 of a takeover of lane n (R457, R764, R767). -/
def takeoverEnd (s : State) (n : Nat) : State :=
  if s.lne.takeover.map (·.1) = some n ∧ s.lne.locked then
    let old := (s.lane n).xcvr.getD n
    let a := (s.setLane n (fun l => { l with xcvr := some 4 })).laneEvent n 9 0
    let b := { a with lne := { a.lne with takeover := none, locked := false },
                      flt := { a.flt with xcvrRet := setAdd a.flt.xcvrRet old, laneSub := some n } }
    let c := b.vergeEvent true 2 old 4 0
    if s.lne.cmdBusy then c.lneDone 0 else c
  else s

/-- Lane n returns to its own transceiver, when its release is due (R460). -/
def laneReturnDue (s : State) (n : Nat) : State :=
  match (s.lane n).releaseAt with
  | some r =>
    if s.raw < r then s
    else
      let a := s.setLane n (fun l => { l with releaseAt := none, xcvr := some n })
      let b := { a with lne := { a.lne with spare := .free }, flt := { a.flt with laneSub := none } }
      ((b.post (reg wLNE 0x8000) 2).vergeEvent false 2 n 4 2).lneDone 0
  | none => s

/-- Refused while a command is in progress (R472). -/
def lneBusy (s : State) : State := { s with lne := { s.lne with cmdCode := 5 } }.post (reg wLNE 0x8000) 1

/-- LNE[4]_CMD TAKEOVER (R457, R472). -/
def cmdTakeover (s : State) (n : Nat) : State :=
  if s.lne.cmdBusy then s.lneBusy
  else if !s.laneEnabled n then s.lneDone 4
  else if !s.spareReady ∨ (s.lane n).xcvr = some 4 then s.lneDone 1
  else { s with lne := { s.lne with cmdBusy := true } }.takeoverBegin n

/-- LNE[4]_CMD RELEASE (R460, R472). -/
def cmdRelease (s : State) (n : Nat) : State :=
  if s.lne.cmdBusy then s.lneBusy
  else if (s.lane n).xcvr ≠ some 4 then s.lneDone 2
  else if s.flt.xcvrRet.contains n then s.lneDone 3
  else
    let r := s.slotStart n (s.slotFrom n (s.raw + 3 * rawMs))
    { s with lne := { s.lne with cmdBusy := true } }.setLane n (fun l => { l with releaseAt := some r })

/-- The free spare begins a round (R459). -/
def roundBegin (s : State) : State := { s with lne := { s.lne with spare := .selftest, roundAt := s.raw } }

/-- LNE[4]_CMD spare round (R459, R472). -/
def cmdRound (s : State) : State :=
  if s.lne.cmdBusy then s.lneBusy
  else if s.lne.spare ≠ .free then s.lneDone 1
  else (s.roundBegin).lneDone 0

/-- A word written to LNE[4]_CMD (R472). -/
def lneCommand (s : State) (v : Word) : State :=
  match fld v 31 28 with
  | 1 => s.cmdTakeover (fld v 1 0)
  | 2 => s.cmdRelease (fld v 1 0)
  | 3 => s.cmdRound
  | _ => s

/-- Every 10 s the free spare begins a round (R459). -/
def roundDue (s : State) : State := if s.lne.roundAt + 10 * rawS ≤ s.raw then s.roundBegin else s

/-- The spare has sent into the matrix's load: it passes on to the receiver test of the next lane in rotation, or is
unusable (R459, R565, R566). -/
def selfTested (s : State) (ok : Bool) : State :=
  let t := if s.cfgF wTBS 0x004 0 0 = 1 then s.tsqAdd 4 0xFFFF 0x3F 1 s.stamp else s
  if ok then { t with lne := { t.lne with spare := .rxtest, spareTarget := t.lne.rotate % 4 } }
  else { t with lne := { t.lne with spare := .unusable } }.post (reg wLNE 0x8000) 4

/-- Lane n runs, and the slot it is in is idle (R428, R459). -/
def laneIdle (s : State) (n : Nat) : Bool :=
  let l := s.lane n
  l.run && l.slot.isSome && l.slot == s.slotAt n s.raw && l.tuned.isNone

/-- The round ends: the spare is free, and the next lane is tested in the next round. -/
def roundEnd (s : State) : State :=
  { s with lne := { s.lne with spare := .free, rotate := (s.lne.spareTarget + 1) % 4 } }

/-- The receiver test of the lane under test: its result in an idle slot of the lane, or none in 10 s (R459). -/
def rxTested (s : State) (ok : Option Bool) : State :=
  let n := s.lne.spareTarget
  match (if s.laneIdle n then ok else none) with
  | some true => s.roundEnd.setLane n (fun l => { l with rxTestFail := 0 })
  | some false =>
    if 1 ≤ (s.lane n).rxTestFail then s.roundEnd.xcvrFault n 2
    else s.roundEnd.setLane n (fun l => { l with rxTestFail := l.rxTestFail + 1 })
  | none => if s.lne.roundAt + 10 * rawS ≤ s.raw then s.roundEnd else s

/-- The next thing that the spare's round does (R459). -/
def spareTest (s : State) (txOk : Bool) (rxOk : Option Bool) : State :=
  match s.lne.spare with
  | .free => s.roundDue
  | .selftest => s.selfTested txOk
  | .rxtest => s.rxTested rxOk
  | _ => s

/-! ## Slots (R428, R429, R433, R437) -/

/-- What a cell of a class does on a channel (R428, R434, R439). -/
def cellAct (s : State) (n a cls ch : Nat) : State :=
  if cls = 1 then s.sendHead n 0 a ch
  else if cls = 2 then s.sendHead n 1 a ch
  else if s.collides n ch then s.collSkip n
  else if cls = 0 then s.sendBeacon n a ch
  else s.setLane n (fun l => { l with tuned := some ch })

/-- The checks of R456 in a slot that lane n tuned. -/
def rfChecks (s : State) (n : Nat) (sent : Bool) (rf : RfCheck) : State :=
  if (s.lane n).tuned.isSome then
    let t := if sent then s.powerChecks n rf else s
    if (t.lane n).run then t.pllCheck n rf else t
  else s

/-- R443 in a transmit cell (R442). -/
def cellLate (s : State) (n a : Nat) (w : Word) : State :=
  match cellQClass w with
  | some c => s.lateAll n a (s.laneQueues n c)
  | none => s

/-- The cell of lane n in slot a, in which the lane tunes or is left idle (R427, R457). -/
def cellServe (s : State) (n a : Nat) (w : Word) (rf : RfCheck) : State :=
  let t := s.cellLate n a w
  let ch := t.hopChannel n a (fld w 27 22)
  let cls := fld w 30 28
  if (t.lne.takeover.map (·.1) == some n) = true then t
  else if !t.chanInBand n ch then t.laneBad n
  else (t.cellAct n a cls ch).rfChecks n (decide (cls ≤ 2)) rf

/-- The work of slot a of lane n once its fields are taken up. -/
def slotServe (s : State) (n a : Nat) (rf : RfCheck) : State :=
  let t := s.setLane n (fun l => { l with slot := some a, tuned := none })
  if (t.lane n).run then
    match t.cellOf n a with
    | some w => t.cellServe n a w rf
    | none => t
  else if (t.lane n).faulted then t.lateAll n a (t.laneQueues n 0 ++ t.laneQueues n 1)
  else t

/-- A slot of lane n starts now: a start that is due, the shadow copies of R87, the steps of a takeover or a
release, and the cell. A slot's start is served once. -/
def slotWork (s : State) (n : Nat) (rf : RfCheck) : State :=
  match s.slotAt n s.raw with
  | none => s
  | some a =>
    if s.slotStart n a = s.raw ∧ (s.lane n).slot ≠ some a then
      let t := s.laneStartDue n
      let l := (t.eligible t.cyc (fun _ e => decide (e = .slot n))).filter (fun x => !t.shadowBad x)
      let u := if t.hasSlots n then (t.copyDomain t.cyc (.slot n)).slotTaken n l else t
      let v := ((u.ackFail n).takeoverEnd n).laneReturnDue n
      if v.hasSlots n then v.slotServe n a rf else v
    else s

/-- 1,000 µs before a slot of lane n, its chosen head frame begins its fetch (R530). -/
def laneFetchDue (s : State) (n : Nat) : State :=
  let a := s.slotFrom n (s.raw + 1)
  if (s.lane n).run ∧ s.slotStart n a ≤ s.raw + rawMs then
    match s.cellOf n a with
    | some w =>
      match cellQClass w with
      | some c =>
        let t := s.lateAll n a (s.laneQueues n c)
        match t.chooseQueue n c a with
        | some q =>
          if (t.queue q).held.isSome ∨ (t.queue q).xfer.isSome then t
          else t.setQueue q (fun x => { x with xfer := some { offset := 0, data := [] } })
        | none => t
      | none => s
    | none => s
  else s

end State

open State

/-- LANE_FETCH (R530). -/
def execLaneFetch (dt lane : Nat) (s : State) : Host.Outcome State Fault Refusal :=
  .next (s.occurIn dt wLNE (fun t => if lane < 4 then t.laneFetchDue lane else t))

/-- ACK_TIMEOUT (R445). -/
def execAckTimeout (dt lane : Nat) (s : State) : Host.Outcome State Fault Refusal :=
  .next (s.occurIn dt wLNE (fun t =>
    match (t.lane lane).await with
    | some w => if t.ackEnd lane w ≤ t.raw then t.ackFail lane else t
    | none => t))

/-- LANE_START (R464). -/
def execLaneStart (dt lane : Nat) (s : State) : Host.Outcome State Fault Refusal :=
  .next (s.occurIn dt wLNE (fun t => if lane < 4 then t.laneStartDue lane else t))

/-- LNE[4]_CMD TAKEOVER (R457). -/
def execLneTakeover (dt master lane : Nat) (s : State) : Host.Outcome State Fault Refusal :=
  .next ((s.elapse dt).access master (reg wLNE 0x8004) true (fun t => t.cmdTakeover (lane % 4)))

/-- LNE[4]_CMD RELEASE (R460). -/
def execLneRelease (dt master lane : Nat) (s : State) : Host.Outcome State Fault Refusal :=
  .next ((s.elapse dt).access master (reg wLNE 0x8004) true (fun t => t.cmdRelease (lane % 4)))

/-- LNE[4]_CMD spare round (R459). -/
def execLneSpareRoundNow (dt master : Nat) (s : State) : Host.Outcome State Fault Refusal :=
  .next ((s.elapse dt).access master (reg wLNE 0x8004) true (fun t => t.cmdRound))

/-- SPARE_ROUND (R459): what the transmitter's test found, and what the receiver's test found. -/
def execSpareRound (dt : Nat) (txOk : Bool) (rxOk : Option Bool) (s : State) : Host.Outcome State Fault Refusal :=
  .next (s.occurIn dt wLNE (fun t => t.spareTest txOk rxOk))

/-- SPARE_LOCKED: event 3 of a takeover (R457). -/
def execSpareLocked (dt : Nat) (s : State) : Host.Outcome State Fault Refusal :=
  .next (s.occurIn dt wLNE (fun t =>
    if t.lne.takeover.isSome then { t with lne := { t.lne with locked := true } } else t))

/-- LANE_RETURN (R460). -/
def execLaneReturn (dt lane : Nat) (s : State) : Host.Outcome State Fault Refusal :=
  .next (s.occurIn dt wLNE (fun t => if lane < 4 then t.laneReturnDue lane else t))

end Sys2Proof.Machine
end

