-- ==== Sys2Proof/Machine/Keys.lean ====
section
/-! DEFINITION. The security monitor: key slots, host key commands, key update messages, life cycle and the
tamper response (R651 to R681). -/

namespace Sys2Proof.Machine

/-! ## Policies (R655, R656, R681) -/

/-- Usages in a policy word. -/
inductive Usage
  | hostwrite | lane | wrap | laneunwrap | hmac | sign | verify
  deriving DecidableEq, Repr

/-- Bit of a usage in the policy word (R681). -/
def Usage.bitNo (u : Usage) : Nat :=
  match u with
  | .hostwrite => 27 | .lane => 26 | .wrap => 25 | .laneunwrap => 24 | .hmac => 23 | .sign => 22 | .verify => 21

/-- Usages that a slot's role allows (R655); slot 0 signs only under ATTEST. -/
def roleUsages (n : Nat) : List Usage :=
  if n = 0 then []
  else if n ≤ 5 then [.verify]
  else if n = 6 then [.wrap, .laneunwrap]
  else if n ≤ 8 then [.lane, .hostwrite]
  else [.hostwrite, .wrap, .hmac, .sign, .verify]

/-- Types that a slot's role allows (R655): 1 AES-128, 2 AES-256, 3 HMAC-256, 4 P-256 public, 5 P-256
private. -/
def roleTypes (n : Nat) : List Nat :=
  if n ≤ 5 then [4] else if n = 6 then [2] else if n ≤ 8 then [1] else [1, 2, 3, 4, 5]

/-- A WRITE may give slot n this policy word (R656). -/
def policyFits (n : Nat) (p : Word) : Bool :=
  (roleTypes n).contains (fld p 31 28)
    && [Usage.hostwrite, .lane, .wrap, .laneunwrap, .hmac, .sign, .verify].all (fun u =>
        !bit p u.bitNo || (roleUsages n).contains u)

/-- Length of a key by its type. -/
def keyLenOf (typ : Nat) : Nat :=
  match typ with
  | 1 => 16 | 4 => 64 | _ => 32

/-- The key in a slot. -/
def Slot.key (x : Slot) : List Byte := x.value.take (keyLenOf (fld x.policy 31 28))

/-- Codes of KEY_CMDRES (R679). -/
def kBUSY : Nat := 1
def kLOCKED : Nat := 2
def kFORMAT : Nat := 3
def kBINDING : Nat := 4
def kSIGNER : Nat := 5
def kSIGNATURE : Nat := 6
def kCOUNTER : Nat := 7
def kTRANSITION : Nat := 8
def kPRESENCE : Nat := 9
def kUNWRAP : Nat := 0xA
def kPOLICY : Nat := 0xB
def kTAMPER : Nat := 0xC
def kUSAGE : Nat := 0xD
def kEMPTY : Nat := 0xE
def kDENIED : Nat := 0xF
def kACTIVE : Nat := 0x10

/-- A job with nothing to commit. -/
def plainJob (op slot code : Nat) (out : List Byte) : KeyJob :=
  { op := op, slot := slot, code := code, out := out, commit := none, svcTag := none, lcChange := false,
    slotChange := false, erase := false, clearTamper := false, spend := false }

/-- Owner slots are erased (R652, R658, R670). -/
def Store.eraseOwner (x : Store) : Store :=
  { x with ownerGen := (x.ownerGen + 1) % 65536, ownerImage := false, tpolWritten := false }

/-- Slots of an earlier owner generation are gone (R658). -/
def Store.dropStale (x : Store) : Store :=
  { x with slots := x.slots.filter (fun e => decide (e.1 ≤ 2) || e.2.gen == x.ownerGen) }

/-- The store that a pulse commits, over what the store holds when it ends: the tamper policy and the owner's
image as written meanwhile, unless the job itself erases the owner slots, which makes the policy writable
again (R107, R108); and no stale slot that has been overwritten since (R658). -/
def Store.over (st now : Store) (erase erasing : Bool) : Store :=
  let a := { st with tpolicy := now.tpolicy }
  let b := if erase then a else { a with tpolWritten := now.tpolWritten, ownerImage := now.ownerImage }
  if erase || erasing then b else b.dropStale

namespace State

/-! ## The store -/

/-- A field of KEY. -/
def setKey (s : State) (f : KeyUnit → KeyUnit) : State := { s with key := f s.key }

/-- The octets of KEY_BUF. -/
def keyBuf (s : State) : List Byte := (List.range 128).flatMap (fun w => leBytes 4 (s.cfg (reg wKEY (0x200 + 4 * w))).toNat)

/-- Octets put into KEY_BUF from byte 0 (R674). -/
def putKeyBuf (s : State) (d : List Byte) : State :=
  let b := d ++ s.keyBuf.drop d.length
  (List.range 128).foldl (fun t w => t.setCfg (reg wKEY (0x200 + 4 * w)) (BitVec.ofNat 32 (fieldLE b (4 * w) 4))) s

/-- KEY_LEN. -/
def keyLen (s : State) : Nat := s.cfgF wKEY 0x014 9 0

/-- Input of the command: KEY_LEN octets of KEY_BUF. -/
def keyInput (s : State) : List Byte := s.keyBuf.take s.keyLen

/-- The slot numbers whose keys verify a structure image (`upd` false) or an update manifest (R651, R653). -/
def verifySlots (s : State) (upd : Bool) : List Nat :=
  match s.lifeCycle with
  | .factory => []
  | .provisioned => [1]
  | .owned => (if upd then 5 else 4) :: (if s.key.store.ownerImage then [] else [1])
  | .returned => [2]
  | .spent => []

/-- The slot under which a signature of a hash verifies; 32 stands for the manufacturing key. -/
def verifiedBy (s : State) (upd : Bool) (hash sig : List Byte) : Option Nat :=
  if s.lifeCycle = .factory then
    if Config.ecdsaVerify Config.manufacturingKey hash sig then some 32 else none
  else
    (s.verifySlots upd).find? (fun n =>
      match s.keySlot n with
      | some x => Config.ecdsaVerify x.key hash sig
      | none => false)

/-- Root for key update messages in the life-cycle state in force (R651). -/
def kumRoot (s : State) : Option Nat :=
  match s.lifeCycle with
  | .provisioned => some 1
  | .owned => some 3
  | .returned => some 2
  | _ => none

/-- The module's EUI-64, most significant octet first. -/
def euiBE (s : State) : List Byte := beBytes 8 s.sys.fuses.eui

/-- DEVICE_ID (R663). -/
def deviceId (s : State) : List Byte :=
  match s.keySlot 0 with
  | some x => sha (fit 64 (Config.p256Public x.key))
  | none => sha []

/-! ## Host commands (R674 to R676) -/

/-- A command is refused with a code (R679). -/
def keyRefuse (s : State) (code : Nat) : State :=
  (s.setKey (fun k => { k with code := code, outLen := 0 })).postBit wKEY 1

/-- A command is accepted and runs. -/
def keyStart (s : State) (j : KeyJob) : State := s.setKey (fun k => { k with job := some j, code := 0, outLen := 0 })

/-- A symmetric slot key takes the working key register (R662). -/
def keyTake (s : State) (slot : Nat) : State := s.setKey (fun k => { k with wkr := .host, hostSlot := slot })

/-- The check of a named slot (R674): a code, or the slot. -/
def slotCheck (s : State) (n : Nat) (u : Usage) : Except Nat Slot :=
  if !(roleUsages n).contains u then .error kUSAGE
  else
    match s.keySlot n with
    | none => .error kEMPTY
    | some x => if bit x.policy u.bitNo then .ok x else .error kUSAGE

/-- A command on a slot: refused by the store's lock, a wrong input length, or the slot check (R674, R679). -/
def onSlot (s : State) (n : Nat) (u : Usage) (lenOk : Bool) (k : Slot → State) : State :=
  if s.key.locked then s.keyRefuse kLOCKED
  else if !lenOk then s.keyRefuse kFORMAT
  else
    match s.slotCheck n u with
    | .error c => s.keyRefuse c
    | .ok x => k x

/-- HASH or HMAC (OP 4 or 5) of octets under a finishing function, by MODE (R676). -/
def streamCmd (s : State) (op slot mode : Nat) (fin : List Byte → List Byte) : State :=
  let inp := s.keyInput
  let keep := fun (t : State) (x : Option (Nat × Nat × List Byte)) => t.setKey (fun k => { k with stream := x })
  let before := match s.key.stream with
    | some (o, n, b) => if o = op ∧ n = slot then some b else none
    | none => none
  match mode with
  | 0 => keep (s.keyStart (plainJob op slot 0 (fin inp))) none
  | 1 => keep (s.keyStart (plainJob op slot 0 [])) (some (op, slot, inp))
  | 2 =>
    match before with
    | some b => keep (s.keyStart (plainJob op slot 0 [])) (some (op, slot, b ++ inp))
    | none => keep (s.keyRefuse kFORMAT) none
  | _ =>
    match before with
    | some b => keep (s.keyStart (plainJob op slot 0 (fin (b ++ inp)))) none
    | none => keep (s.keyRefuse kFORMAT) none

/-- NETLOAD (R660). -/
def cmdNetload (s : State) (n : Nat) : State :=
  s.onSlot n .lane true (fun _ => s.keyStart (plainJob 2 n 0 []))

/-- WRAP (R674). -/
def cmdWrap (s : State) (n : Nat) : State :=
  let l := s.keyLen
  s.onSlot n .wrap (l == 16 || l == 32) (fun x =>
    (s.keyStart (plainJob 3 n 0 (fit (l + 8) (Config.aesWrap x.key s.keyInput)))).keyTake n)

/-- HASH (R676). -/
def cmdHash (s : State) (mode : Nat) : State :=
  if 512 < s.keyLen then s.keyRefuse kFORMAT else s.streamCmd 4 0 mode sha

/-- HMAC (R676). -/
def cmdHmac (s : State) (mode n : Nat) : State :=
  s.onSlot n .hmac (decide (s.keyLen ≤ 512)) (fun x =>
    let t := s.streamCmd 5 n mode (fun b => fit 32 (Config.hmac x.key b))
    if t.key.job.isSome then t.keyTake n else t)

/-- VERIFY (R674): refused codes aside, it completes with OK or SIGNATURE. -/
def cmdVerify (s : State) (n : Nat) : State :=
  s.onSlot n .verify (s.keyLen == 96) (fun x =>
    let b := s.keyInput
    s.keyStart (plainJob 6 n (if Config.ecdsaVerify x.key (b.take 32) (b.drop 32) then 0 else kSIGNATURE) []))

/-- SIGN (R674). -/
def cmdSign (s : State) (n : Nat) : State :=
  s.onSlot n .sign (s.keyLen == 32) (fun x =>
    (s.keyStart (plainJob 7 n 0 (fit 64 (Config.ecdsaSign x.key s.keyInput s.freeCtr)))).fresh)

/-- The statement of ATTEST (R675). -/
def attestStatement (s : State) : List Byte :=
  s.euiBE ++ beBytes 1 s.lifeCycle.code ++ [0, 0, 0] ++ beBytes 4 s.key.store.ctr ++ beBytes 2 s.key.store.ownerGen
    ++ [0, 0] ++ (if s.imgBytes = [] then List.replicate 32 0 else sha s.imgBytes)

/-- ATTEST (R674, R675). -/
def cmdAttest (s : State) : State :=
  if s.key.locked then s.keyRefuse kLOCKED
  else if s.keyLen ≠ 32 then s.keyRefuse kFORMAT
  else
    match s.keySlot 0 with
    | none => s.keyRefuse kEMPTY
    | some x =>
      let st := s.attestStatement
      (s.keyStart (plainJob 8 0 0 (st ++ fit 64 (Config.ecdsaSign x.key (sha (s.keyInput ++ st)) s.freeCtr)))).fresh

/-- RANDOM (R674). -/
def cmdRandom (s : State) : State :=
  if s.keyLen = 0 ∨ 512 < s.keyLen then s.keyRefuse kFORMAT
  else (s.keyStart (plainJob 9 0 0 (fit s.keyLen (Config.drbg s.keyLen s.freeCtr)))).fresh

/-- HOSTWRITE (R674). -/
def cmdHostwrite (s : State) (n : Nat) : State :=
  s.onSlot n .hostwrite (s.keyLen == 16) (fun x =>
    let st := s.key.store
    s.keyStart { plainJob 0xA n 0 [] with
      commit := some { st with slots := tabSet st.slots n { x with value := s.keyInput ++ List.replicate 48 0 } },
      slotChange := true })

/-! ## Key update messages (R663 to R667) -/

/-- A life-cycle state by its value. -/
def lcOf (n : Nat) : Option LifeCycle :=
  match n with
  | 1 => some .factory | 2 => some .provisioned | 3 => some .owned | 4 => some .returned | 5 => some .spent
  | _ => none

/-- The message carries a key: WRITE, or LIFECYCLE to OWNED (R652, R663). -/
def kumCarries (m : List Byte) : Bool := fieldBE m 5 1 == 1 || (fieldBE m 5 1 == 3 && fieldBE m 7 1 == 3)

/-- Octets of a range are zero. -/
def zeroAt (m : List Byte) (o n : Nat) : Bool := (slice m o n).all (fun b => b == 0)

/-- Check 3 of R665. -/
def kumFormat (m : List Byte) (len : Nat) : Bool :=
  let op := fieldBE m 5 1
  let key := kumCarries m
  len == 260 && fieldBE m 0 4 == 0x594B554D && fieldBE m 4 1 == 1 && decide (1 ≤ op ∧ op ≤ 4)
    && decide (fieldBE m 6 1 < 32) && (op == 3 || fieldBE m 7 1 == 0) && zeroAt m 57 3
    && (!(op == 4 || (op == 3 && !key)) || fieldBE m 6 1 == 0) && (key || (zeroAt m 52 4 && zeroAt m 60 136))

/-- A change that R652 lists for a key update message. -/
def lcAllowed (from_ : LifeCycle) (next : LifeCycle) (slot : Nat) : Bool :=
  match from_, next with
  | .provisioned, .owned => slot == 3
  | .owned, .owned => slot == 3
  | .owned, .provisioned => true
  | .owned, .returned => true
  | .returned, .provisioned => true
  | .provisioned, .spent => true
  | .owned, .spent => true
  | .returned, .spent => true
  | _, _ => false

/-- Check 8 of R665 fails. -/
def kumTransition (s : State) (m : List Byte) : Bool :=
  match fieldBE m 5 1 with
  | 3 =>
    match lcOf (fieldBE m 7 1) with
    | some t => !lcAllowed s.lifeCycle t (fieldBE m 6 1)
    | none => true
  | 4 => false
  | _ => decide (fieldBE m 6 1 ≤ 2)

/-- Check 9 of R665 fails. -/
def kumAbsent (s : State) (m : List Byte) : Bool :=
  fieldBE m 5 1 == 3 && (fieldBE m 7 1 == 4 || fieldBE m 7 1 == 5) && !s.upd.svcPresent

/-- The value that a message carries, unwrapped (R664). -/
def kumValue (s : State) (m : List Byte) : Option (List Byte) :=
  match s.keySlot 0 with
  | some x => (Config.aesUnwrap (fit 32 (Config.transportKey x.key (slice m 60 64) (s.euiBE ++ slice m 48 4)))
      (slice m 124 72)).map (fit 64)
  | none => none

/-- Check 11 of R665 fails. -/
def kumPolicy (s : State) (m : List Byte) : Bool :=
  let n := fieldBE m 6 1
  let p : Word := BitVec.ofNat 32 (fieldBE m 52 4)
  let same := match s.keySlot n with
    | some x => decide (x.policy >>> 21 = p >>> 21) || (fieldBE m 5 1 == 3 && s.lifeCycle == .owned)
    | none => true
  kumCarries m && (!policyFits n p || !same)

/-- The store that an accepted message commits (R652, R658, R666). -/
def kumStore (s : State) (m : List Byte) (value : List Byte) : Store :=
  let st := { s.key.store with ctr := fieldBE m 48 4 }
  let n := fieldBE m 6 1
  let slot := fun (x : Store) =>
    { x with slots := tabSet x.slots n { value := value, policy := BitVec.ofNat 32 (fieldBE m 52 4) &&& 0xFFE00000,
                                         gen := x.ownerGen } }
  match fieldBE m 5 1 with
  | 1 => slot st
  | 2 => { st with slots := tabDel st.slots n }
  | 3 =>
    match lcOf (fieldBE m 7 1) with
    | some .owned => slot { (if s.lifeCycle = .owned then st.eraseOwner else st) with lc := .owned }
    | some .spent => { st.eraseOwner with lc := .spent, slots := [] }
    | some t => { (if s.lifeCycle = .owned then st.eraseOwner else st) with lc := t }
    | none => st
  | _ => st

/-- The first check of R665 from check 2 on that a message fails, or the value it carries. -/
def kumCheck (s : State) (m : List Byte) (len : Nat) : Except Nat (List Byte) :=
  if s.key.locked ∧ fieldBE m 5 1 ≠ 4 then .error kLOCKED
  else if !kumFormat m len then .error kFORMAT
  else if slice m 8 8 ≠ s.euiBE ∨ slice m 16 32 ≠ s.deviceId then .error kBINDING
  else
    match s.kumRoot with
    | none => .error kDENIED
    | some r =>
      if fieldBE m 56 1 ≠ r then .error kSIGNER
      else if !(match s.keySlot r with
          | some x => Config.ecdsaVerify x.key (sha (m.take 196)) (slice m 196 64)
          | none => false) then .error kSIGNATURE
      else if fieldBE m 48 4 ≠ s.key.store.ctr + 1 then .error kCOUNTER
      else if s.kumTransition m then .error kTRANSITION
      else if s.kumAbsent m then .error kPRESENCE
      else if kumCarries m then
        match s.kumValue m with
        | none => .error kUNWRAP
        | some v => if s.kumPolicy m then .error kPOLICY else .ok v
      else .ok []

/-- The job of an accepted message. -/
def kumJob (s : State) (m value : List Byte) (tag : Option Nat) : KeyJob :=
  let op := fieldBE m 5 1
  let t := lcOf (fieldBE m 7 1)
  let spent := op == 3 && t == some .spent
  let owner := op == 3 && s.lifeCycle == .owned || spent
  { op := 1, slot := fieldBE m 6 1, code := 0, out := [], commit := some (s.kumStore m value), svcTag := tag,
    lcChange := op == 3 && t != some s.lifeCycle, slotChange := op == 1 || op == 2 || kumCarries m || owner,
    erase := owner, clearTamper := op == 4, spend := spent }

/-- A key update message of the host (R665). -/
def cmdKum (s : State) : State :=
  let m := s.keyBuf.take 260
  match s.kumCheck m s.keyLen with
  | .error c => s.keyRefuse c
  | .ok v => s.keyStart (s.kumJob m v none)

/-- A command of KEY_CMD (R674, R679): OP, MODE, SLOT. -/
def keyCommand (s : State) (op mode n : Nat) : State :=
  if s.key.job.isSome then s.keyRefuse kBUSY
  else
    let t := if (op = 4 ∨ op = 5) ∧ mode ≠ 0 then s else s.setKey (fun k => { k with stream := none })
    if 512 < s.keyLen ∧ op ≠ 1 then t.keyRefuse kFORMAT
    else
      match op with
      | 1 => t.cmdKum
      | 2 => t.cmdNetload n
      | 3 => t.cmdWrap n
      | 4 => t.cmdHash mode
      | 5 => t.cmdHmac mode n
      | 6 => t.cmdVerify n
      | 7 => t.cmdSign n
      | 8 => t.cmdAttest
      | 9 => t.cmdRandom
      | 0xA => t.cmdHostwrite n
      | _ => t.keyRefuse kFORMAT

/-- The word of KEY_CMD for an OP, a MODE and a SLOT. -/
def keyWord (op mode slot : Nat) : Word := BitVec.ofNat 32 (op * 2 ^ 28 + mode % 4 * 2 ^ 26 + slot % 32)

/-- A completed pair with a value of KEY_CMD. -/
def keyCmdWord (s : State) (v : Word) : State :=
  (s.setCfg (reg wKEY 0x00C) (v &&& 0xFC00001F)).keyCommand (fld v 31 28) (fld v 27 26) (fld v 4 0)

/-! ## Completion (R666, R673, R674) -/

/-- The latches of inactive sources clear, and the store lock lifts when none is left (R673). -/
def clearTamper (s : State) : State :=
  let left := s.key.latched.filter s.key.active.contains
  let t := s.setKey (fun k => { k with latched := left })
  if left = [] then
    (t.setKey (fun k => { k with locked := false, first := 0, tDate := 0, tTime := 0 })).postBit wKEY 6
  else t

/-- The commit pulse of R666 step 4 ends, and the store it names is active. -/
def commitEnd (s : State) : State :=
  match s.key.job with
  | some j =>
    match j.commit with
    | some st =>
      let a := s.setKey (fun k => { k with store := st.over k.store j.erase k.erasing, job := some { j with commit := none }, erasing := k.erasing || j.erase })
      let b := if j.spend then { a with sys := { a.sys with fuses := { a.sys.fuses with spent := true } } } else a
      let c := b.post (reg wKEY 0) (bitIf j.lcChange 3 + bitIf j.slotChange 2)
      if j.clearTamper then
        let d := c.clearTamper
        d.setKey (fun k => { k with job := some { j with commit := none, code := if k.latched = [] then 0 else kACTIVE } })
      else c
    | none => s
  | none => s

/-- Content of the working key register when no command holds it (R659, R662). -/
def wkrRest (s : State) : State :=
  s.setKey (fun k => { k with wkr := if k.netKey.isSome then .network else .empty })

/-- A slot's key becomes the network key of every lane (R453, R660). -/
def netTake (s : State) (n : Nat) : State :=
  match s.keySlot n with
  | some x => (s.setKey (fun k => { k with netKey := some x.key, netSlot := n, wkr := .network })).fcOwn (n, s.netIdx)
  | none => s

/-- The command in progress completes: effect, output, code (R674). A command whose commit pulse has not
ended is not complete. -/
def keyFinish (s : State) : State :=
  match s.key.job with
  | some j =>
    if j.commit.isSome then s
    else
      let a := if j.op = 2 then s.netTake j.slot else s.wkrRest
      let b := if j.out = [] then a else a.putKeyBuf j.out
      (b.setKey (fun k => { k with job := none, code := j.code, outLen := j.out.length })).postBit wKEY 0
  | none => s

/-! ## Tamper (R668 to R673) -/

/-- Action of source n in force: OFF acts as CLEAR_LOCK for sources 4 to 6 (R669). -/
def tamperAction (s : State) (n : Nat) : Nat :=
  let a := fld s.key.store.tpolicy (2 * n + 1) (2 * n)
  if 4 ≤ n ∧ a = 0 then 2 else a

/-- The security monitor runs: it has passed its step of the start. -/
def secmonUp (s : State) : Bool :=
  match s.sys.phase with
  | .up => true
  | .copying => true
  | .tamperHalt => true
  | _ => false

/-- The security monitor's part of the retained SRAM is zeroed (R608, R671). -/
def zeroRsram (s : State) : State :=
  { s with rtc := { s.rtc with
      rsram := s.rtc.rsram.filter (fun e => decide (e.1 < 0xC00)), rsBad := s.rtc.rsBad.filter (fun o => decide (o < 0xC00)) } }

/-- The store action of a source (R669); an erasure of owner slots is a change of slots (R678). -/
def tamperStore (s : State) (action : Nat) : State :=
  if action < 2 then s
  else
    let t := s.setKey (fun k => { k with wkr := .empty, netKey := none, locked := true })
    if action = 3 then (t.setKey (fun k => { k with store := k.store.eraseOwner, erasing := true })).postBit wKEY 2 else t

/-- A key operation in progress is aborted and releases nothing (R671). -/
def keyAbort (s : State) : State :=
  if s.key.job.isSome then
    (s.putKeyBuf (List.replicate 512 0)).setKey (fun k => { k with job := none, code := kTAMPER, outLen := 0 })
  else s

/-- A tamper source becomes active after its filter (R671). -/
def tamperActive (s : State) (n : Nat) : State :=
  let act := s.tamperAction n
  let a := s.setKey (fun k => { k with active := setAdd k.active n })
  if act = 0 ∨ s.key.latched.contains n then a
  else
    let d := dateWord s.rtc.clk
    let tm := timeWord s.rtc.clk s.rtc.valid s.rtc.dst
    let b := a.setKey (fun k =>
      if k.latched = [] then { k with latched := [n], first := n, tDate := d, tTime := tm }
      else { k with latched := setAdd k.latched n })
    let c := b.zeroRsram
    if s.secmonUp then
      (c.keyAbort.tamperStore act).postEvent wKEY 5 [iIndex n, iCause act, iValue d.toNat, iValue2 tm.toNat]
    else c

/-- Sources 4 to 6 act only while the die is powered; 0 to 3 while the backup domain is supplied (R668). -/
def tamperSees (s : State) (n : Nat) : Bool :=
  if n < 4 then s.backupOn else decide (n < 7) && s.powered && s.sys.vin

/-- A write of KEY_TPOLICY (R112, R670). -/
def tpolicyWrite (s : State) (master addr : Nat) (v : Word) : State :=
  if s.key.store.tpolWritten then
    (s.setKey (fun k => { k with secCnt := sat 16 (k.secCnt + 1) })).postEvent wKEY 7
      [iAddr addr, iValue v.toNat, iMaster master]
  else s.setKey (fun k => { k with store := { k.store with tpolicy := v &&& 0x000F3FFF, tpolWritten := true } })

/-- Stale owner slots have been overwritten (R658). -/
def eraseDone (s : State) : State :=
  if s.key.erasing then
    (s.setKey (fun k => { k with
      erasing := false, store := k.store.dropStale })).postBit wKEY 4
  else s

/-- A key command by a row that names it: a completed pair to KEY_CMD. -/
def keyPair (s : State) (dt master op mode slot : Nat) : State :=
  (s.elapse dt).pairWrite master (reg wKEY 0x00C) (fun t => t.keyCmdWord (keyWord op mode slot))

end State

open State

/-- KUM WRITE (R663, R665). -/
def execKumWrite (dt master : Nat) (s : State) : Host.Outcome State Fault Refusal := .next (s.keyPair dt master 1 0 0)

/-- KUM ERASE (R663, R665). -/
def execKumErase (dt master : Nat) (s : State) : Host.Outcome State Fault Refusal := .next (s.keyPair dt master 1 0 0)

/-- KUM LIFECYCLE (R652, R665). -/
def execKumLifecycle (dt master : Nat) (s : State) : Host.Outcome State Fault Refusal := .next (s.keyPair dt master 1 0 0)

/-- KUM CLEAR_TAMPER (R665, R673). -/
def execKumClearTamper (dt master : Nat) (s : State) : Host.Outcome State Fault Refusal := .next (s.keyPair dt master 1 0 0)

/-- KEY_COMMIT_PULSE_END (R666). -/
def execKeyCommitPulseEnd (dt : Nat) (s : State) : Host.Outcome State Fault Refusal :=
  .next (s.occurIn dt wKEY State.commitEnd)

/-- NETLOAD (R660). -/
def execNetload (dt master slot : Nat) (s : State) : Host.Outcome State Fault Refusal := .next (s.keyPair dt master 2 0 slot)

/-- WRAP (R674). -/
def execKeyWrap (dt master slot : Nat) (s : State) : Host.Outcome State Fault Refusal := .next (s.keyPair dt master 3 0 slot)

/-- HASH (R676). -/
def execKeyHash (dt master mode : Nat) (s : State) : Host.Outcome State Fault Refusal := .next (s.keyPair dt master 4 mode 0)

/-- HMAC (R676). -/
def execKeyHmac (dt master mode slot : Nat) (s : State) : Host.Outcome State Fault Refusal :=
  .next (s.keyPair dt master 5 mode slot)

/-- VERIFY (R674). -/
def execKeyVerify (dt master slot : Nat) (s : State) : Host.Outcome State Fault Refusal := .next (s.keyPair dt master 6 0 slot)

/-- SIGN (R674). -/
def execKeySign (dt master slot : Nat) (s : State) : Host.Outcome State Fault Refusal := .next (s.keyPair dt master 7 0 slot)

/-- ATTEST (R675). -/
def execAttest (dt master : Nat) (s : State) : Host.Outcome State Fault Refusal := .next (s.keyPair dt master 8 0 0)

/-- RANDOM (R674). -/
def execKeyRandom (dt master : Nat) (s : State) : Host.Outcome State Fault Refusal := .next (s.keyPair dt master 9 0 0)

/-- HOSTWRITE (R674). -/
def execHostwrite (dt master slot : Nat) (s : State) : Host.Outcome State Fault Refusal :=
  .next (s.keyPair dt master 0xA 0 slot)

/-- TAMPER_LATCH (R671). -/
def execTamperLatch (dt source : Nat) (s : State) : Host.Outcome State Fault Refusal :=
  let t := s.elapse dt
  .next (if t.tamperSees source then t.tamperActive source else t)

/-- TAMPER_SOURCE_INACTIVE (R673). -/
def execTamperSourceInactive (dt source : Nat) (s : State) : Host.Outcome State Fault Refusal :=
  let t := s.elapse dt
  .next (t.setKey (fun k => { k with active := without k.active source }))

/-- KEY_TPOLICY written (R670). -/
def execKeyTpolicyWrite (dt master : Nat) (value : Word) (s : State) : Host.Outcome State Fault Refusal :=
  .next ((s.elapse dt).access master (reg wKEY 0x01C) true (fun t => t.tpolicyWrite master (reg wKEY 0x01C) value))

/-- SLOT_ERASE_DONE (R658). -/
def execSlotEraseDone (dt : Nat) (s : State) : Host.Outcome State Fault Refusal :=
  .next (s.occurIn dt wKEY State.eraseDone)

end Sys2Proof.Machine
end

