-- ==== Sys2Proof/Machine/Image.lean ====
section
/-! DEFINITION. The checks of a structure image, and what the handles of an image may claim (R32 to R37,
R41 to R45, R781, R802, R803). -/

namespace Sys2Proof.Machine

/-! ## What a handle claims (R42 to R44) -/

/-- A claimable resource (R42). -/
inductive Res
  | entry (n : Nat)
  | sink (n : Nat)
  | contactor (n : Nat)
  | pulse (n : Nat)
  | channel (n : Nat)
  | queue (n : Nat)
  | milestone (n : Nat)
  deriving DecidableEq, Repr

namespace ImgBody

/-- The group a head is bound to. -/
def groupOf (b : ImgBody) (h : Nat) : Option Nat :=
  ((numberedFrom 0 b.groups).find? (fun g => g.2.head == some h)).map (·.1)

/-- Group g. -/
def group (b : ImgBody) (g : Nat) : ImgGroup :=
  nth { enabled := false, head := none, interlock := false, ntc := false, spare := false } b.groups g

/-- Current channels that a feeder uses. -/
def currents (f : ImgFeeder) : List Nat :=
  f.phases ++ (match f.neutral with | some n => [n] | none => [])

/-- Pool size of a handle type (R42). -/
def pool (b : ImgBody) (typ : Nat) : Nat := nth 0 b.pools (typ - 1)

/-- What CREATE of an index claims (R42). -/
def claims (b : ImgBody) (typ idx : Nat) : List Res :=
  match typ with
  | 1 => [.entry idx]
  | 2 =>
    ((b.ltHeads.filter (fun e => e.2 == idx)).map (fun e => Res.entry e.1))
      ++ (match b.groupOf idx with
          | some g => (List.range 6).map (fun j => Res.sink (7 * g + j))
          | none => [])
  | 3 => [.sink idx]
  | 4 => [.channel idx]
  | 5 =>
    match tabGet b.feeders idx with
    | some f =>
      (match f.contactor with | some k => [Res.contactor k] | none => [])
        ++ (match f.pulse with | some k => [Res.pulse k] | none => [])
    | none => []
  | 8 => [.queue idx]
  | 9 => [.milestone idx]
  | _ => []

/-- The image reserves the index for the Verge or an engine (R43). -/
def reserved (b : ImgBody) (typ idx : Nat) : Bool :=
  match typ with
  | 1 => b.ltHeads.any (fun e => e.1 == idx)
  | 3 => idx % 7 == 6
  | 4 => b.spareCh == some idx
  | 8 => match tabGet b.queues idx with | some q => q.engineOwned | none => false
  | _ => false

/-- The image gives the index nothing to drive or measure (R802). -/
def unusable (b : ImgBody) (typ idx : Nat) : Bool :=
  match typ with
  | 2 => (b.groupOf idx).isNone
  | 3 => !(b.group (idx / 7)).enabled
  | 4 => !(b.feeders.any (fun f => (currents f.2).contains idx))
  | 5 => (tabGet b.feeders idx).isNone
  | _ => false

/-- Two lists of resources have one in common (R44). -/
def meet (a c : List Res) : Bool := a.any (fun x => c.contains x)

/-! ## Section contents (R32, R33, R781, R802, R803) -/

/-- No element stands twice. -/
def distinct {α : Type} [BEq α] : List α → Bool
  | [] => true
  | x :: r => !r.contains x && distinct r

/-- POOLS (R32, R42). -/
def poolsOk (b : ImgBody) : Bool :=
  b.pools.length == 11 && (List.range 11).all (fun i => decide (nth 0 b.pools i ≤ maxPool (i + 1)))

/-- LTABLE (R32). -/
def ltableOk (b : ImgBody) : Bool :=
  b.ltBase % 4096 == 0 && decide (0x20000000 ≤ b.ltBase ∧ 1 ≤ b.ltCount ∧ b.ltCount ≤ 4096)
    && decide (b.ltBase + 384 * b.ltCount ≤ 0x20600000)
    && b.ltHeads.all (fun e => decide (e.1 < b.ltCount ∧ e.2 < 8)) && distinct (b.ltHeads.map (·.1))

/-- FEEDERS: places in range and no current channel claimed twice (R32, R33, R329, R331). -/
def feedersOk (b : ImgBody) : Bool :=
  tabRising none b.feeders
    && b.feeders.all (fun f =>
      decide (f.1 < 4) && f.2.phases.length == 3 && f.2.volts.length == 3 && (currents f.2).all (fun c => decide (c < 16))
        && f.2.volts.all (fun c => decide (16 ≤ c ∧ c < 20)) && f.2.contactor.all (fun k => decide (k < 4))
        && f.2.pulse.all (fun k => decide (k < 4)))
    && b.spareCh.all (fun c => decide (c < 16))
    && distinct (b.feeders.flatMap (fun f => currents f.2) ++ (match b.spareCh with | some c => [c] | none => []))

/-- CONTACTORS (R32). -/
def contactorsOk (b : ImgBody) : Bool :=
  match b.contactors with
  | none => true
  | some c =>
    decide (c.interval ≤ 1000) && distinct c.order
      && c.order.all (fun f => (tabGet b.feeders f).any (fun x => x.contactor.isSome))
      && b.feeders.all (fun f => f.2.contactor.isNone || c.order.contains f.1)

/-- SINKGROUPS and the binding of heads one to one (R32, R33, R802). -/
def groupsOk (b : ImgBody) : Bool :=
  let bound := b.groups.filterMap (fun g => g.head)
  let heads := b.ltHeads.map (·.2)
  b.groups.length == 8 && distinct bound && distinct heads && bound.all heads.contains && heads.all bound.contains

/-- QUEUES (R32, R33). -/
def queuesOk (b : ImgBody) : Bool := tabRising none b.queues && b.queues.all (fun q => decide (q.1 < 64))

/-- RECORDER (R32, R619, R621, R625). -/
def recorderOk (b : ImgBody) : Bool :=
  let r := b.recorder
  decide (8 ≤ r.log2n ∧ r.log2n ≤ 13) && distinct (r.sources.map (·.num))
    && r.sources.all (fun x => decide (x.num < 64 ∧ 1 ≤ x.regs.length ∧ x.regs.length ≤ 48))

/-- Function code of pin p. -/
def pinCode (b : ImgBody) (p : Nat) : Nat := nth 0 b.pins p % 256

/-- The code names an output (R780). -/
def outCode (c : Nat) : Bool := decide ((0x10 ≤ c ∧ c ≤ 0x13) ∨ (0x20 ≤ c ∧ c ≤ 0x3F))

/-- PINS (R780, R781). -/
def pinsOk (b : ImgBody) : Bool :=
  b.pins.length == 184
    && (List.range 184).all (fun p =>
      let c := b.pinCode p
      let mast := decide (p < 168) && (b.group (p / 21)).enabled
      if mast then c == 1 else c == 0 || (decide (168 ≤ p) && (c == 2 || outCode c)))
    && distinct (((List.range 184).map b.pinCode).filter outCode)

/-- CLOCKS leaves out only blocks that R801 lists. -/
def clocksOk (b : ImgBody) : Bool := b.clkOff.all (fun w => [wSCN, wWAV, wMST, wLNE, wETH0, wETH1, wUSB].contains w)

/-- Window of the block that owns a handle type. -/
def ownerWin (typ : Nat) : Nat :=
  match typ with
  | 1 => wLTB | 2 => wMST | 3 => wMST | 4 => wMTR | 5 => wACC | 6 => wWAV | 7 => wSCN | 8 => wQDM | 9 => wTBS
  | 10 => wREC | _ => wUPD

/-- An owner handle of HANDLES is named before, with generation 1 (R45, R803). -/
def ownerOk (done : List ImgHandle) (h : ImgHandle) : Bool :=
  (h.typ != 8 && h.typ != 9) || h.arg0 == 0
    || done.any (fun o => h.arg0 == handleWord 1 o.typ o.idx)

/-- HANDLES: CREATE would accept each one at its place in the list (R803). -/
def handlesFrom (b : ImgBody) : List ImgHandle → List ImgHandle → Bool
  | _, [] => true
  | done, h :: r =>
    decide (1 ≤ h.typ ∧ h.typ ≤ 10) && decide (h.idx < b.pool h.typ) && !b.reserved h.typ h.idx
      && !b.unusable h.typ h.idx && !b.clkOff.contains (ownerWin h.typ) && ownerOk done h
      && !(done.any (fun o => (o.typ == h.typ && o.idx == h.idx) || meet (b.claims o.typ o.idx) (b.claims h.typ h.idx)))
      && handlesFrom b (done ++ [h]) r

/-- The section-content check of R37. -/
def contentOk (b : ImgBody) : Bool :=
  b.poolsOk && b.ltableOk && b.feedersOk && b.contactorsOk && b.groupsOk && b.queuesOk && b.recorderOk && b.pinsOk
    && b.clocksOk && b.handlesFrom [] b.handles

end ImgBody

/-! ## Checks of R37 -/

namespace Image

/-- Header and length check (R34). -/
def headerOk (i : Image) : Bool :=
  let b := i.bytes
  decide (320 ≤ b.length ∧ b.length ≤ 262144) && fieldLE b 0 4 == 0x4B524453 && fieldLE b 4 2 == 1
    && decide (1 ≤ fieldLE b 7 1 ∧ fieldLE b 7 1 ≤ 16) && fieldLE b 8 4 == b.length && fieldLE b 20 4 == 0

/-- Code of the variant a module is (R20, R34). -/
def variantCode (u : Bool) : Nat := if u then 2 else 1

/-- TYPE, FLAGS, OFFSET and LENGTH of entry k of the section table. -/
def section_ (i : Image) (k : Nat) : Nat × Nat × Nat × Nat :=
  let o := 64 + 12 * k
  (fieldLE i.bytes o 2, fieldLE i.bytes (o + 2) 2, fieldLE i.bytes (o + 4) 4, fieldLE i.bytes (o + 8) 4)

/-- Section-table check: places inside the bodies, unused entries zero, the sections of R35 present. -/
def tableOk (i : Image) : Bool :=
  let n := fieldLE i.bytes 7 1
  let e := i.bytes.length - 64
  (List.range 16).all (fun k =>
      let x := i.section_ k
      if k < n then
        decide (1 ≤ x.1 ∧ x.1 ≤ 10 ∧ x.2.1 = 0 ∧ 256 ≤ x.2.2.1 ∧ x.2.2.1 + x.2.2.2 ≤ e)
      else State.zeroAt i.bytes (64 + 12 * k) 12)
    && (List.range 8).all (fun t => (List.range n).any (fun k => (i.section_ k).1 == t + 1))

/-- The image that bytes are, when their bodies can be read (R34). -/
def ofBytes (b : List Byte) : Option Image := (Config.decodeBody b).map (fun d => { bytes := b, body := d })

end Image

/-- Signed part, hash and signature of an image (R34, R36). -/
def State.imageSigner (s : State) (i : Image) : Option Nat :=
  let n := i.bytes.length
  s.verifiedBy false (sha (i.bytes.take (n - 64))) (i.bytes.drop (n - 64))

/-- The checks of R37 before any section is applied: the slot under which the signature verifies, or
none. -/
def State.imageCheck (s : State) (i : Image) : Option Nat :=
  if i.headerOk && (fieldLE i.bytes 6 1 == Image.variantCode s.sys.fuses.variantU) && i.tableOk then
    match s.imageSigner i with
    | some n => if i.body.contentOk then some n else none
    | none => none
  else none

end Sys2Proof.Machine
end

