-- ==== Sys2Proof/Machine/Update.lean ====
section
/-! DEFINITION. The update engine, the Sluice and the service port (R682 to R715). -/

namespace Sys2Proof.Machine

/-! ## Manifests (R683 to R685, R690) -/

/-- Largest size of a part type (R683); 0 for a type that no part has. -/
def partMax (typ : Nat) : Nat :=
  match typ with
  | 1 => 8 * 2 ^ 20 | 2 => 256 * 1024 | 3 => 2 ^ 20 | 4 => 4 * 2 ^ 20 | 5 => 14 * 2 ^ 20 | 6 => 512 * 2 ^ 20
  | _ => 0

/-- PARTS of a manifest. -/
def manifestCount (m : List Byte) : Nat := fieldLE m 7 1

/-- The part table's entries in use: TYPE, OFFSET, LENGTH. -/
def manifestParts (m : List Byte) : List (Nat × Nat × Nat) := (List.range (manifestCount m)).map (manifestPart m)

/-- HASH of entry i. -/
def manifestHash (m : List Byte) (i : Nat) : List Byte := slice m (80 + 48 * i) 32

/-- The entry that names a part type. -/
def manifestFind (m : List Byte) (typ : Nat) : Option (Nat × Nat × Nat × Nat) :=
  (numberedFrom 0 (manifestParts m)).find? (fun x => x.2.1 == typ)

/-- MAGIC, FORMAT, PARTS, TRIAL and the bytes marked zero (R690 check 2). -/
def manifestFormat (m : List Byte) : Bool :=
  let n := manifestCount m
  let t := fieldLE m 16 2
  m.length == 512 && fieldLE m 0 4 == 0x594D4E46 && fieldLE m 4 2 == 1 && decide (1 ≤ n ∧ n ≤ 8)
    && (t == 0 || decide (60 ≤ t ∧ t ≤ 3600)) && State.zeroAt m 18 6 && State.zeroAt m 40 24
    && (List.range 8).all (fun i =>
      if i < n then State.zeroAt m (65 + 48 * i) 3 && State.zeroAt m (76 + 48 * i) 4
      else State.zeroAt m (64 + 48 * i) 48)

/-- A number rounded up to a multiple of 4,096. -/
def up4096 (n : Nat) : Nat := (n + 4095) / 4096 * 4096

/-- Each entry starts where the one before it ends, rounded up (R685). -/
def partsChain : Nat → List (Nat × Nat × Nat) → Bool
  | _, [] => true
  | o, p :: r => p.2.1 == o && partsChain (up4096 (p.2.1 + p.2.2)) r

/-- The layout of R685 (R690 check 7). -/
def manifestLayout (m : List Byte) : Bool :=
  let l := manifestParts m
  ImgBody.distinct (l.map (·.1)) && l.all (fun p => decide (1 ≤ p.2.2 ∧ p.2.2 ≤ partMax p.1)) && partsChain 0 l
    && decide (manifestTotal m ≤ 2 ^ 30)

/-! ## Codes (R711) -/

def uBUSY : Nat := 1
def uSTATE : Nat := 2
def uFORMAT : Nat := 3
def uVARIANT : Nat := 4
def uSIGNATURE : Nat := 5
def uBINDING : Nat := 6
def uROLLBACK : Nat := 7
def uLAYOUT : Nat := 8
def uORDER : Nat := 9
def uIO : Nat := 0xA
def uHASH : Nat := 0xB
def uSTRUCT : Nat := 0xC
def uDENIED : Nat := 0xD
def uPREEMPTED : Nat := 0xE
def uNOSESSION : Nat := 0xF

namespace State

/-! ## The engine's own operations -/

/-- A field of UPD. -/
def setUpd (s : State) (f : UpdUnit → UpdUnit) : State := { s with upd := f s.upd }

/-- RTC_BKP30 and RTC_BKP31 follow UPD_SLUICE and UPD_SETINFO (R714). -/
def updMirror (s : State) : State :=
  { s with rtc := { s.rtc with
      bkp30 := BitVec.ofNat 32 (s.viewUPD 0x004), bkp31 := BitVec.ofNat 32 (s.viewUPD 0x028) } }

/-- The next generation of a handle (R47). -/
def nextGen (g : Nat) : Nat := if 255 ≤ g then 1 else g + 1

/-- The update session is closed: its handle is FREE, with the next generation (R47, R693). -/
def closeSession (s : State) : State :=
  if s.sessionOpen then
    s.setHandle tSESSION 0 { st := .free, gen := nextGen (s.handle tSESSION 0).gen, owner := 0 }
  else s

/-- The staging area and the manifest are discarded, and the Sluice is IDLE. -/
def discard (s : State) : State :=
  s.setUpd (fun u => { u with
    sluice := .idle, manifest := [], manifestSlot := 0, imageSlot := 0, bytes := 0, staging := [], stagedImage := none,
    chunk := none })

/-- UPD_CMDRES.CODE with CMD_DONE or CMD_REFUSED (R709, R711). -/
def updPost (s : State) (code : Nat) : State :=
  (s.setUpd (fun u => { u with code := code })).postBit wUPD (if code = 0 then 0 else 1)

/-- The staging area's bytes, from offset 0 (R692). -/
def stagingBytes (s : State) : List Byte := s.upd.staging.flatMap (·.2)

/-- Checks 3 to 7 of R690 on a manifest of valid format, or the slot under which it verifies. -/
def manifestBinds (s : State) (m : List Byte) : Except Nat Nat :=
  if fieldLE m 6 1 ≠ Image.variantCode s.sys.fuses.variantU then .error uVARIANT
  else
    match s.verifiedBy true (sha (m.take 448)) (m.drop 448) with
    | none => .error uSIGNATURE
    | some n =>
      if fieldLE m 24 8 ≠ 0 ∧ fieldLE m 24 8 ≠ s.sys.fuses.eui then .error uBINDING
      else if fieldLE m 32 8 ≠ 0 ∧ slice m 32 8 ≠ slice s.imgBytes 56 8 then .error uBINDING
      else if fieldLE m 12 4 < s.upd.secver then .error uROLLBACK
      else if !manifestLayout m then .error uLAYOUT
      else .ok n

/-- The checks of R690 in order. -/
def manifestCheck (s : State) (m : List Byte) : Except Nat Nat :=
  if s.key.locked ∨ s.lifeCycle = .spent then .error uDENIED
  else if !manifestFormat m then .error uFORMAT
  else s.manifestBinds m

/-- A manifest passes: the session resumes, or the Sluice takes it as new (R691). -/
def manifestTake (s : State) (m : List Byte) (slot : Nat) : State :=
  let same := (s.upd.sluice = .receiving ∨ s.upd.sluice = .verifying ∨ s.upd.sluice = .staged) ∧ m = s.upd.manifest
  if same then s
  else
    (s.discard.setUpd (fun u => { u with sluice := .receiving, manifest := m, manifestSlot := slot })).updMirror

/-- A manifest in a session, with its code (R690, R691): while the Sluice holds an update that is armed or on
trial, STATE. -/
def manifestCmd (s : State) (m : List Byte) : State × Nat :=
  match s.upd.sluice with
  | .armed => (s, uSTATE)
  | .copying => (s, uSTATE)
  | .trial => (s, uSTATE)
  | _ =>
    match s.manifestCheck m with
    | .error c => (s, c)
    | .ok n => (s.manifestTake m n, 0)

/-- The checks of a chunk (R692, R693): its code, 0 where it is accepted. -/
def chunkCode (s : State) (off len : Nat) : Nat :=
  if s.hst tSESSION 0 ≠ .running ∨ s.upd.sluice ≠ .receiving then uSTATE
  else if len = 0 ∨ 2 ^ 20 < len then uFORMAT
  else if off ≠ s.upd.bytes ∨ manifestTotal s.upd.manifest < off + len then uORDER
  else 0

/-- ACTIVATE is accepted: ARMED is journaled and the UPDATE reset asserts (R696). -/
def activate (s : State) : State := ((s.setUpd (fun u => { u with sluice := .armed })).updMirror).raiseReset 11

/-- CONFIRM in TRIAL (R653, R701). -/
def confirm (s : State) : State :=
  let a := s.activeSet
  let own := s.lifeCycle = .owned ∧ a.manifestSlot = 5 ∧ a.imageSlot = 4
  let t := s.setUpd (fun u => { u with confirmed := true, secver := max u.secver a.secver, trialAt := none })
  let v := if own then t.setKey (fun k => { k with store := { k.store with ownerImage := true } }) else t
  (v.discard.updMirror).postBit wUPD 5

/-- The set is reverted: the old set is active, and the Sluice is STAGED (R702). -/
def revertSet (s : State) : State :=
  let t := (s.setUpd (fun u => { u with
    activeB := !u.activeB, confirmed := true, sluice := .staged, trialAt := none })).updMirror
  t.postEvent wUPD 6 [iIndex (if t.upd.activeB then 1 else 0)]

/-- ABORT: any session is closed and the staging area is discarded (R693). -/
def updAbort (s : State) : State := (s.closeSession.discard).updMirror

/-! ## Host commands (R711) -/

/-- UPD_SRC. -/
def updSrc (s : State) : Nat := (s.cfg (reg wUPD 0x018)).toNat + 2 ^ 32 * (s.cfg (reg wUPD 0x01C)).toNat

/-- A host command that needs a RUNNING network session, or the code that refuses it. -/
def netSession (s : State) (k : State) : State :=
  if !(s.sessionOpen && s.upd.sessNet) then s.updPost uNOSESSION
  else if s.hst tSESSION 0 ≠ .running then s.updPost uSTATE
  else k

/-- OP MANIFEST (R690, R691, R711). -/
def cmdManifest (s : State) : State :=
  s.netSession
    (if memSpan s.updSrc 512 then
      let r := s.manifestCmd (s.bytes s.updSrc 512)
      r.1.updPost r.2
    else s.updPost uIO)

/-- OP CHUNK (R692, R711): accepted, it is in progress until its bytes are confirmed. -/
def cmdChunk (s : State) : State :=
  let off := (s.cfg (reg wUPD 0x020)).toNat
  let len := s.cfgF wUPD 0x024 20 0
  s.netSession
    (if s.chunkCode off len ≠ 0 then s.updPost (s.chunkCode off len)
    else if !memSpan s.updSrc len then s.updPost uIO
    else
      s.setUpd (fun u => { u with code := 0, chunk := some { offset := off, data := s.bytes s.updSrc len, svcTag := none } }))

/-- OP ACTIVATE of the host (R696). -/
def cmdActivate (s : State) : State :=
  if s.upd.sluice ≠ .staged ∨ (s.sessionOpen ∧ !s.upd.sessNet) then s.updPost uSTATE
  else (s.updPost 0).activate

/-- OP CONFIRM (R701). -/
def cmdConfirm (s : State) : State := if s.upd.sluice = .trial then (s.confirm).updPost 0 else s.updPost uSTATE

/-- OP REVERT (R702). -/
def cmdRevert (s : State) : State :=
  if s.upd.sluice = .trial then ((s.revertSet).updPost 0).raiseReset 11 else s.updPost uSTATE

/-- A command of UPD_CMD (R711). -/
def updCommand (s : State) (op : Nat) : State :=
  if s.upd.chunk.isSome then s.updPost uBUSY
  else
    match op with
    | 1 => s.cmdManifest
    | 2 => s.cmdChunk
    | 3 => s.cmdActivate
    | 4 => s.cmdConfirm
    | 5 => (s.updAbort).updPost 0
    | 6 => s.cmdRevert
    | _ => s.updPost uFORMAT

/-- A completed pair with a value of UPD_CMD. -/
def updCmdWord (s : State) (v : Word) : State := (s.setCfg (reg wUPD 0x010) (v &&& 0xF0000000)).updCommand (fld v 31 28)

/-- A host command by a row that names it. -/
def updPair (s : State) (dt master op : Nat) : State :=
  (s.elapse dt).pairWrite master (reg wUPD 0x010) (fun t => t.updCmdWord (BitVec.ofNat 32 (op * 2 ^ 28)))

/-! ## The service port (R706, R707) -/

/-- The service port carries messages: attached and configured, enabled or in a tamper halt (R705, R715). -/
def svcUp (s : State) : Bool :=
  s.usb.vbus && s.usb.configured
    && (s.sys.phase == .tamperHalt || (s.cfgF wUSB 0x004 0 0 == 1 && s.blockOn wUSB && s.blockOn wUPD))

/-- One REPLY (R706, R707): its RESULT, with what the registers show of a refusal. -/
def svcAnswer (s : State) (tag code : Nat) : State :=
  let b := leBytes 1 code ++ leBytes 1 s.upd.sluice.code ++ [0, 0] ++ leBytes 4 s.upd.bytes
    ++ leBytes 4 (s.viewUPD 0x00C)
  let t := { s with usb := { s.usb with out := some { op := 0x81, tag := tag % 2 ^ 32, body := b } } }
  let v := if code = 0 then t else t.postBit wUPD 1
  if code = uFORMAT then v.postBit wUSB 2 else v

/-- A message from the USB host: nothing while the port is not served, DENIED in a tamper halt (R705). -/
def svcMessage (s : State) (dt tag : Nat) (k : State → State) : State :=
  s.occur dt (fun t =>
    if !t.svcUp then t else if t.sys.phase = .tamperHalt then t.svcAnswer tag uDENIED else k t)

/-- A service-port session is open. -/
def svcSession (s : State) : Bool := s.sessionOpen && !s.upd.sessNet

/-- The network session is pre-empted (R687). -/
def preempt (s : State) : State :=
  let t := if s.upd.chunk.isSome then s.updPost uPREEMPTED else s
  ((t.closeSession.discard).updMirror).postEvent wUPD 2 [iIndex 0]

/-- The port's session is created and started, and its manifest is taken (R687, R690). -/
def svcBegin (s : State) (tag : Nat) (m : List Byte) : State :=
  let a := (s.setHandle tSESSION 0 { st := .running, gen := (s.handle tSESSION 0).gen, owner := 0 }).setUpd
    (fun u => { u with sessNet := false })
  let r := a.updMirror.manifestCmd m
  r.1.svcAnswer tag r.2

/-- OPEN (R687, R688). -/
def svcOpenMsg (s : State) (tag : Nat) (m : List Byte) : State :=
  if m.length ≠ 512 then s.svcAnswer tag uFORMAT
  else if s.upd.sluice = .armed ∨ s.upd.sluice = .copying ∨ s.upd.sluice = .trial then s.svcAnswer tag uBUSY
  else if !s.sessionOpen then s.svcBegin tag m
  else if s.upd.sessNet ∧ s.upd.svcPresent then s.preempt.svcBegin tag m
  else s.svcAnswer tag uBUSY

/-- CHUNK (R692): answered when its bytes are confirmed. -/
def svcChunkMsg (s : State) (tag off : Nat) (d : List Byte) : State :=
  if d = [] ∨ 2 ^ 20 < d.length then s.svcAnswer tag uFORMAT
  else if !s.svcSession then s.svcAnswer tag uNOSESSION
  else if s.upd.chunk.isSome then s.svcAnswer tag uBUSY
  else if s.chunkCode off d.length ≠ 0 then s.svcAnswer tag (s.chunkCode off d.length)
  else s.setUpd (fun u => { u with chunk := some { offset := off, data := d, svcTag := some tag } })

/-- CLOSE (R693). -/
def svcCloseMsg (s : State) (tag : Nat) : State :=
  if s.svcSession then ((s.closeSession).updMirror).svcAnswer tag 0 else s.svcAnswer tag uNOSESSION

/-- ACTIVATE of the port's session (R696); in recovery safe mode it clears the counts of R728 (R729). -/
def svcActivateMsg (s : State) (tag : Nat) : State :=
  if !s.svcSession then s.svcAnswer tag uNOSESSION
  else if s.upd.sluice ≠ .staged then s.svcAnswer tag uSTATE
  else
    let t := if s.sys.safe then { s with rtc := { s.rtc with bkp28 := 0 } } else s
    (t.activate).svcAnswer tag 0

/-- CONFIRM (R701). -/
def svcConfirmMsg (s : State) (tag : Nat) : State :=
  if s.upd.sluice = .trial then (s.confirm).svcAnswer tag 0 else s.svcAnswer tag uSTATE

/-- ABORT (R693); a network chunk in progress ends as PREEMPTED. -/
def svcAbortMsg (s : State) (tag : Nat) : State :=
  let t := match s.upd.chunk with
    | some c => if c.svcTag.isNone then s.updPost uPREEMPTED else s
    | none => s
  (t.updAbort).svcAnswer tag 0

/-- KEYMSG (R665, R707): passed on as OP KUM, so that a refusal shows in KEY too; answered when the command
completes. It ends a HASH or HMAC in progress, as any other command does (R676). A tamper halt lets through
CLEAR_TAMPER alone (R672). -/
def svcKeyMsg (s : State) (tag : Nat) (m : List Byte) : State :=
  if s.key.job.isSome then (s.keyRefuse kBUSY).svcAnswer tag kBUSY
  else
    let t := s.setKey (fun k => { k with stream := none })
    if s.sys.phase = .tamperHalt ∧ fieldBE m 5 1 ≠ 4 then (t.keyRefuse kDENIED).svcAnswer tag kDENIED
    else
      match s.kumCheck m m.length with
      | .error c => (t.keyRefuse c).svcAnswer tag c
      | .ok v => t.keyStart (s.kumJob m v (some tag))

/-- CONSOLE from the USB host (R707). -/
def svcConsoleMsg (s : State) (tag : Nat) (d : List Byte) : State :=
  if d = [] ∨ 4096 < d.length then s.svcAnswer tag uFORMAT
  else if s.isRunning tSESSION 1 then { s with usb := { s.usb with console := d } }
  else s.svcAnswer tag uNOSESSION

/-- CONSOLE to the USB host (R707), with a TAG of the module's own choice. -/
def consoleSend (s : State) (d : List Byte) : State :=
  if d ≠ [] ∧ s.svcUp ∧ s.isRunning tSESSION 1 then
    { s with usb := { s.usb with out := some { op := 0x89, tag := Config.freeNat 19 s.freeCtr % 2 ^ 32, body := d } } }.fresh
  else s

/-- SVC_PRESENTn counts as asserted or released (R689). -/
def svcPresence (s : State) (asserted : Bool) : State :=
  if s.upd.svcPresent = asserted then s
  else ((s.setUpd (fun u => { u with svcPresent := asserted })).updMirror).postBit wUSB 1

/-- VBUS and the device's configuration change; a loss of VBUS closes the port's session (R693, R715). -/
def vbusState (s : State) (present configured highSpeed : Bool) : State :=
  let att := present && (s.cfgF wUSB 0x004 0 0 == 1 || s.sys.phase == .tamperHalt)
  let t := { s with usb := { s.usb with
    vbus := present, configured := att && configured, highSpeed := att && configured && highSpeed } }
  let v := if s.usb.vbus = present then t else t.postBit wUSB 0
  if !present && v.svcSession then
    v.closeSession.updMirror
  else v

/-! ## What happens in the engine (R692 to R703) -/

/-- The verification begins (R694). -/
def beginVerify (s : State) : State :=
  if manifestTotal s.upd.manifest ≤ s.upd.bytes then (s.setUpd (fun u => { u with sluice := .verifying })).updMirror else s

/-- A chunk's answer: to the host or to the port. -/
def chunkAnswer (s : State) (tag : Option Nat) (code : Nat) : State :=
  match tag with
  | none => s.updPost code
  | some t => if s.svcUp then s.svcAnswer t code else s

/-- The chunk in progress has been written and read back (R692). -/
def chunkEnd (s : State) (ok : Bool) : State :=
  match s.upd.chunk with
  | none => s
  | some c =>
    let t := s.setUpd (fun u => { u with chunk := none })
    if ok then
      let v := t.setUpd (fun u => { u with
        staging := u.staging ++ [(c.offset, c.data)], bytes := c.offset + c.data.length })
      (v.beginVerify).chunkAnswer c.svcTag 0
    else t.chunkAnswer c.svcTag uIO

/-- Entry i of the part table is verified: a code, or the image of the STRUCTURE part with its slot (R694). -/
def verifyPart (s : State) (ioOk : Bool) (i : Nat) : Except Nat (Option (Image × Nat)) :=
  let p := manifestPart s.upd.manifest i
  let d := slice s.stagingBytes p.2.1 p.2.2
  if !ioOk then .error uIO
  else if sha d ≠ manifestHash s.upd.manifest i then .error uHASH
  else if p.1 = 2 then
    match Image.ofBytes d with
    | some g =>
      match s.imageCheck g with
      | some n => .ok (some (g, n))
      | none => .error uSTRUCT
    | none => .error uSTRUCT
  else .ok none

/-- The parts in order: the first that fails with its type and code, or the STRUCTURE part's image. -/
def verifyParts (s : State) (ioOk : Bool) : List Nat → Option (Image × Nat) → Except (Nat × Nat) (Option (Image × Nat))
  | [], g => .ok g
  | i :: r, g =>
    match s.verifyPart ioOk i with
    | .error c => .error ((manifestPart s.upd.manifest i).1, c)
    | .ok x => s.verifyParts ioOk r (if x.isSome then x else g)

/-- Verification ends (R695). -/
def verifyEnd (s : State) (ioOk : Bool) : State :=
  if s.upd.sluice = .verifying then
    match s.verifyParts ioOk (List.range (manifestCount s.upd.manifest)) none with
    | .error e =>
      (((s.discard).setUpd (fun u => { u with code := e.2 })).updMirror).postEvent wUPD 4 [iIndex e.1, iCause e.2]
    | .ok g =>
      ((s.setUpd (fun u => { u with
        sluice := .staged, stagedImage := g.map (·.1), imageSlot := (g.map (·.2)).getD 0 })).updMirror).postBit wUPD 3
  else s

/-- Blocks of a copy stream: 28 MiB of NOR, 512 MiB of the host slot, in 64 KiB blocks (R682, R697). -/
def copyBlocks (host : Bool) : Nat := if host then 8192 else 448

/-- A block of a copy stream is programmed and read back (R697). -/
def copyOne (s : State) (host ok : Bool) : State :=
  let n := if host then s.upd.copyHost else s.upd.copyNor
  if s.upd.sluice = .copying ∧ s.sys.phase = .copying ∧ ok ∧ n < copyBlocks host then
    s.setUpd (fun u => if host then { u with copyHost := n + 1 } else { u with copyNor := n + 1 })
  else s

/-- The part of a type that the new set takes: from the staging area, or from the active set (R686). -/
def newPart (s : State) (typ : Nat) : List Part :=
  match manifestFind s.upd.manifest typ with
  | some p =>
    [{ typ := typ, length := p.2.2.2, hash := manifestHash s.upd.manifest p.1,
       image := if typ = 2 then s.upd.stagedImage else none }]
  | none => s.activeSet.parts.filter (fun x => x.typ == typ)

/-- The set that the copy leaves in the inactive region (R686, R699). -/
def newSet (s : State) : FwSet :=
  { parts := (List.range 6).flatMap (fun i => s.newPart (i + 1)), secver := fieldLE s.upd.manifest 12 4,
    serial := fieldLE s.upd.manifest 8 4, valid := true, manifestSlot := s.upd.manifestSlot,
    imageSlot := if (manifestFind s.upd.manifest 2).isSome then s.upd.imageSlot else s.activeSet.imageSlot }

/-- Both streams are done and the set is read back (R699). -/
def copyEnd (s : State) (ok : Bool) : State :=
  if ok then
    let n := s.newSet
    (s.setUpd (fun u =>
      let v := if u.activeB then { u with setA := n } else { u with setB := n }
      { v with activeB := !u.activeB, confirmed := false, sluice := .trial, trialAt := none, copyNor := 0, copyHost := 0 }
    )).updMirror
  else
    ((s.setUpd (fun u => { u with sluice := .staged, copyNor := 0, copyHost := 0 })).updMirror).postEvent wUPD 7
      [iIndex (if s.upd.activeB then 0 else 1)]

/-- The trial window has run out (R701, R702). -/
def trialOver (s : State) : Bool :=
  match s.upd.sluice, s.upd.trialAt with
  | .trial, some t => decide (t + manifestTrial s.upd.manifest * rawS ≤ s.raw) && s.sys.phase == .up
  | _, _ => false

end State

open State

/-- UPD_CMD MANIFEST (R690). -/
def execUpdManifest (dt master : Nat) (s : State) : Host.Outcome State Fault Refusal := .next (s.updPair dt master 1)

/-- UPD_CMD CHUNK (R692). -/
def execUpdChunk (dt master : Nat) (s : State) : Host.Outcome State Fault Refusal := .next (s.updPair dt master 2)

/-- UPD_CMD ACTIVATE (R696). -/
def execUpdActivate (dt master : Nat) (s : State) : Host.Outcome State Fault Refusal := .next (s.updPair dt master 3)

/-- UPD_CMD CONFIRM (R701). -/
def execUpdConfirm (dt master : Nat) (s : State) : Host.Outcome State Fault Refusal := .next (s.updPair dt master 4)

/-- UPD_CMD ABORT (R693). -/
def execUpdAbort (dt master : Nat) (s : State) : Host.Outcome State Fault Refusal := .next (s.updPair dt master 5)

/-- UPD_CMD REVERT (R702). -/
def execUpdRevert (dt master : Nat) (s : State) : Host.Outcome State Fault Refusal := .next (s.updPair dt master 6)

/-- CHUNK_CONFIRMED (R692). -/
def execChunkConfirmed (dt : Nat) (ok : Bool) (s : State) : Host.Outcome State Fault Refusal :=
  .next (s.occurIn dt wUPD (fun t => t.chunkEnd ok))

/-- VERIFY_DONE (R695). -/
def execVerifyDone (dt : Nat) (ioOk : Bool) (s : State) : Host.Outcome State Fault Refusal :=
  .next (s.occurIn dt wUPD (fun t => t.verifyEnd ioOk))

/-- TRIAL_EXPIRE (R702). -/
def execTrialExpire (dt : Nat) (s : State) : Host.Outcome State Fault Refusal :=
  .next (s.occurIn dt wUPD (fun t => if t.trialOver then t.revertSet.raiseReset 11 else t))

/-- SVC_OPEN (R687). -/
def execSvcOpen (dt tag : Nat) (manifest : List Byte) (s : State) : Host.Outcome State Fault Refusal :=
  .next (s.svcMessage dt tag (fun t => t.svcOpenMsg tag manifest))

/-- SVC_CHUNK (R692). -/
def execSvcChunk (dt tag offset : Nat) (data : List Byte) (s : State) : Host.Outcome State Fault Refusal :=
  .next (s.svcMessage dt tag (fun t => t.svcChunkMsg tag offset data))

/-- SVC_CLOSE (R693). -/
def execSvcClose (dt tag : Nat) (s : State) : Host.Outcome State Fault Refusal :=
  .next (s.svcMessage dt tag (fun t => t.svcCloseMsg tag))

/-- SVC_ACTIVATE (R696). -/
def execSvcActivate (dt tag : Nat) (s : State) : Host.Outcome State Fault Refusal :=
  .next (s.svcMessage dt tag (fun t => t.svcActivateMsg tag))

/-- SVC_CONFIRM (R701). -/
def execSvcConfirm (dt tag : Nat) (s : State) : Host.Outcome State Fault Refusal :=
  .next (s.svcMessage dt tag (fun t => t.svcConfirmMsg tag))

/-- SVC_ABORT (R693). -/
def execSvcAbort (dt tag : Nat) (s : State) : Host.Outcome State Fault Refusal :=
  .next (s.svcMessage dt tag (fun t => t.svcAbortMsg tag))

/-- SVC_STATUS (R707). -/
def execSvcStatus (dt tag : Nat) (s : State) : Host.Outcome State Fault Refusal :=
  .next (s.svcMessage dt tag (fun t => t.svcAnswer tag 0))

/-- SVC_KEYMSG (R705, R707). -/
def execSvcKeymsg (dt tag : Nat) (msg : List Byte) (s : State) : Host.Outcome State Fault Refusal :=
  .next (s.occur dt (fun t => if t.svcUp then t.svcKeyMsg tag msg else t))

/-- SVC_CONSOLE (R707). -/
def execSvcConsole (dt tag : Nat) (octets : List Byte) (s : State) : Host.Outcome State Fault Refusal :=
  .next (s.svcMessage dt tag (fun t => t.svcConsoleMsg tag octets))

/-- CONSOLE_OUT (R707). -/
def execConsoleOut (dt : Nat) (octets : List Byte) (s : State) : Host.Outcome State Fault Refusal :=
  .next (s.occurIn dt wUSB (fun t => t.consoleSend octets))

/-- SVC_BAD_MESSAGE (R707). -/
def execSvcBadMessage (dt tag : Nat) (s : State) : Host.Outcome State Fault Refusal :=
  .next (s.svcMessage dt tag (fun t => t.svcAnswer tag uFORMAT))

/-- SVC_PRESENT_CHANGE (R689). -/
def execSvcPresentChange (dt : Nat) (asserted : Bool) (s : State) : Host.Outcome State Fault Refusal :=
  .next (s.occur dt (fun t => t.svcPresence asserted))

/-- VBUS_CHANGE (R693, R715). -/
def execVbusChange (dt : Nat) (present configured highSpeed : Bool) (s : State) : Host.Outcome State Fault Refusal :=
  .next (s.occur dt (fun t => t.vbusState present configured highSpeed))

end Sys2Proof.Machine
end

