-- ==== Sys2Proof/Machine/Handles.lean ====
section
/-! DEFINITION. The handle commands of the STR block: checks, pending boundaries, stop values and starts (R42
to R70). -/

namespace Sys2Proof.Machine

/-- A refusal of R55: the RESULT and DETAIL, and the index whose state it reports. -/
structure StrRefusal where
  result : Nat
  detail : Nat
  idx : Option Nat
  deriving DecidableEq, Repr

def hBUSY : Nat := 1
def hCONFLICT : Nat := 2
def hSTALE : Nat := 3
def hNOSPACE : Nat := 4
def hBADARG : Nat := 5
def hDENIED : Nat := 6

namespace State

/-! ## Resources (R42 to R46) -/

/-- What CREATE of an index claims under the loaded image. -/
def claimsOf (s : State) (typ idx : Nat) : List Res := s.fromImg [] (fun b => b.claims typ idx)

/-- Another handle owns a resource that the index claims (R44). -/
def claimConflict (s : State) (typ idx : Nat) : Bool :=
  s.str.handles.any (fun h =>
    h.2.st != .free && h.1 != hkey typ idx && ImgBody.meet (s.claimsOf (h.1 / 65536) (h.1 % 65536)) (s.claimsOf typ idx))

/-- The index is reserved or unusable (R43, R136, R802). -/
def handleReserved (s : State) (typ idx : Nat) : Bool :=
  s.fromImg false (fun b => b.reserved typ idx || b.unusable typ idx)
    || (typ == tLANTERN && decide (idx < s.ltb.count) && s.ltKind idx == 3)

/-- The handle or a resource of it is in a substitution by the Verge (R55, R319, R364). -/
def handleSubst (s : State) (typ idx : Nat) : Bool :=
  match typ with
  | 2 => match s.groupOfHead idx with | some g => (s.group g).subBusy.isSome | none => false
  | 3 => (s.group (idx / 7)).subBusy == some (idx % 7)
  | 4 => s.mtr.feeds.any (fun f => f.substDue == some idx || f.substReady == some idx)
  | _ => false

/-- The handle value of an index (R10, R47). -/
def handleVal (s : State) (typ idx : Nat) : Nat := handleWord (s.handle typ idx).gen typ idx

/-- The handle owns queues or milestones (R46). -/
def ownsHandles (s : State) (typ idx : Nat) : Bool :=
  s.str.handles.any (fun h => h.2.st != .free && h.2.owner == s.handleVal typ idx)

/-! ## Checks (R55, R56) -/

/-- ARG0 of a CREATE: malformed (BADARG), stale (STALE) or neither (R45, R55 steps 1 and 3). -/
def arg0Check (s : State) (typ a : Nat) : Nat :=
  if typ = tSESSION then (if 1 < a then hBADARG else 0)
  else if typ ≠ tQUEUE ∧ typ ≠ tMILESTONE then 0
  else if a = 0 then 0
  else
    let t := a / 2 ^ 20 % 16
    let i := a % 65536
    if t = 0 ∨ 11 < t ∨ a / 65536 % 16 ≠ 0 ∨ s.poolSize t ≤ i then hBADARG
    else if s.hst t i = .free ∨ a / 2 ^ 24 ≠ (s.handle t i).gen then hSTALE
    else 0

/-- The index that CREATE with 0xFFFF takes (R56). -/
def freeIndex (s : State) (typ : Nat) : Option Nat :=
  (List.range (s.poolSize typ)).find? (fun i =>
    s.hst typ i == .free && !s.handleReserved typ i && !s.claimConflict typ i && !s.handleSubst typ i)

/-- Steps 4 to 6 of R55 for CREATE of an index. -/
def createCheck (s : State) (typ idx : Nat) : Except StrRefusal Nat :=
  let free := s.hst typ idx = .free
  if free ∧ s.handleReserved typ idx then .error ⟨hDENIED, 0xF, some idx⟩
  else if s.handleSubst typ idx ∨ (typ = tSESSION ∧ idx = 0 ∧ s.sessionOpen) then .error ⟨hBUSY, 0, some idx⟩
  else if !free then .error ⟨hCONFLICT, 0xF, some idx⟩
  else if s.claimConflict typ idx then .error ⟨hCONFLICT, 0xE, some idx⟩
  else .ok idx

/-- The state permits the command (R48). -/
def statePermits (st : HState) (op : Nat) : Bool :=
  match st, op with
  | .stopped, 2 => true
  | .stopped, 3 => true
  | .stopped, 4 => true
  | .running, 3 => true
  | .running, 4 => true
  | .faulted, 3 => true
  | _, _ => false

/-- A milestone's or a queue's own condition for START (R539, R569). -/
def startBad (s : State) (typ idx : Nat) : Bool :=
  if typ = tMILESTONE then
    s.msPeriodic idx && decide (s.msPeriod idx < (if s.msCorr idx then 10000 else 2000))
  else typ == tQUEUE && !s.ringOk idx

/-- Steps 4 and 5 of R55 for DESTROY, STOP and START. DETAIL 0xE of the DENIED of R46 is DESIGN CHOICE (log entry
62). -/
def stateCheck (s : State) (op typ idx : Nat) : Except StrRefusal Nat :=
  if !statePermits (s.hst typ idx) op then .error ⟨hDENIED, 0xF, some idx⟩
  else if op = 2 ∧ s.ownsHandles typ idx then .error ⟨hDENIED, 0xE, some idx⟩
  else if op = 4 ∧ s.hst typ idx = .stopped ∧ s.startBad typ idx then .error ⟨hDENIED, 0xE, some idx⟩
  else if s.handleSubst typ idx then .error ⟨hBUSY, 0, some idx⟩
  else .ok idx

/-- The checks of R55 in order: the first refusal, or the index the command acts on. DETAIL 0xF of the BADARG of an
undefined opcode is DESIGN CHOICE (log entry 62). -/
def strCheck (s : State) (op h a : Nat) : Except StrRefusal Nat :=
  let typ := h / 2 ^ 20 % 16
  let idx := h % 65536
  let any := op = 1 ∧ idx = 0xFFFF
  let arg := if op = 1 then s.arg0Check typ a else 0
  if op = 0 ∨ 5 < op ∨ typ = 0 ∨ 11 < typ ∨ h / 65536 % 16 ≠ 0 then .error ⟨hBADARG, 0xF, none⟩
  else if arg = hBADARG then .error ⟨hBADARG, 0, none⟩
  else if ¬any ∧ s.poolSize typ ≤ idx then .error ⟨hBADARG, 0xF, none⟩
  else if op ≠ 1 ∧ op ≠ 5 ∧ h / 2 ^ 24 % 256 ≠ (s.handle typ idx).gen then .error ⟨hSTALE, 0xF, some idx⟩
  else if arg = hSTALE then .error ⟨hSTALE, 0, if any then none else some idx⟩
  else if !s.blockOn (ImgBody.ownerWin typ) then .error ⟨hDENIED, 0xF, if any then none else some idx⟩
  else if op = 5 then (if s.handleSubst typ idx then .error ⟨hBUSY, 0, some idx⟩ else .ok idx)
  else if any then
    match s.freeIndex typ with
    | some i => .ok i
    | none => .error ⟨hNOSPACE, 0, none⟩
  else if op = 1 then s.createCheck typ idx
  else s.stateCheck op typ idx

/-! ## Stop values and starts (R41, R51, R53) -/

/-- What a head's sinks hold from the stop boundary (R51). -/
def headHeld (s : State) (h : Nat) : List Nat :=
  if !s.mastDrives then List.replicate 6 0
  else
  match s.groupOfHead h, s.entryOfHead h with
  | some g, some e => s.clampHead g e (s.headDrives (s.head h) s.raw)
  | _, _ => List.replicate 6 0

/-- The acknowledgement that a STOP of a FAULTED handle is (R50, R140, R315). -/
def stopAck (s : State) (typ idx : Nat) : State :=
  match typ with
  | 1 => if s.ltState idx = 5 then s.enterState idx 1 else s
  | 2 =>
    let a := match s.entryOfHead idx with | some n => s.enterState n 7 | none => s
    match s.groupOfHead idx with | some g => a.groupAck g | none => a
  | 3 => s.groupAck (idx / 7)
  | _ => s

/-- A handle becomes STOPPED, and its stop values apply (R48, R50, R51). -/
def stopHandle (s : State) (typ idx : Nat) : State :=
  let was := s.hst typ idx
  let held := if was = .running then s.headHeld idx else List.replicate 6 0
  let a := s.setHandle typ idx { s.handle typ idx with st := .stopped }
  let b := if was = .faulted then a.stopAck typ idx else a
  match typ with
  | 1 => (b.withdrawScene idx).withdrawUnicast idx
  | 2 => b.setHead idx (fun x => { x with hold := some held })
  | 3 => b.setSink idx Sink.clampOff
  | 8 => b.queueStop idx
  | 9 => b.msStop idx
  | _ => b

/-- What a handle that becomes RUNNING brings with it. -/
def startEffect (s : State) (typ idx : Nat) : State :=
  match typ with
  | 2 =>
    let a := s.setHead idx (fun x => { x with hold := none })
    match s.groupOfHead idx with | some g => a.groupStarted g | none => a
  | 3 => s.groupStarted (idx / 7)
  | 7 => { s with scn := { s.scn with progStart := true } }
  | 8 => s.unpark idx
  | 9 => s.msArm idx
  | 10 => s.recSrcStart idx
  | _ => s

/-- A handle becomes RUNNING at a boundary in fabric cycle c: its changed shadows are taken up together (R53). -/
def startHandle (s : State) (c typ idx : Nat) : State :=
  let l := s.ownedChanged c typ idx
  let a := s.setHandle typ idx { s.handle typ idx with st := .running }
  let b := if typ = tMETER then a.takeUpChan c (if s.mtr.restarted then s.mtr.stamp else c / 2) idx else a.copyAll c l
  b.startEffect typ idx

/-! ## Commands (R57 to R61) -/

/-- Now is a boundary at which a STOP or START of the handle completes (R58). Those of METER and FEEDER handles
complete in the line cycle's own row. -/
def strDue (s : State) (typ idx : Nat) : Bool :=
  match typ with
  | 1 => decide (s.tbs.tickRaw ≤ s.raw)
  | 2 => decide (s.tbs.tickRaw ≤ s.raw)
  | 7 => decide (s.tbs.tickRaw ≤ s.raw)
  | 3 => s.atPeriod (idx / 7)
  | _ => false

/-- STOP and START of the type complete at once (R58: apply domain NOW). -/
def strNow (typ : Nat) : Bool := [6, 8, 9, 10, 11].contains typ

/-- The pending STOP or START completes at a boundary in fabric cycle c. -/
def strFinish (s : State) (c : Nat) : State :=
  match s.str.pend with
  | some p =>
    if p.start then (s.startHandle c p.typ p.idx).strDone 0 0 .running
    else (s.stopHandle p.typ p.idx).strDone 0 0 .stopped
  | none => s

/-- The pending command is for a handle of these types and indices, was given before fabric cycle c, and completes at
the boundary in that cycle. -/
def strBoundary (s : State) (c : Nat) (here : Nat → Nat → Bool) : State :=
  match s.str.pend with
  | some p => if here p.typ p.idx ∧ p.cyc < c then s.strFinish c else s
  | none => s

/-- The in-service flag of a METER or FEEDER handle's channel or feeder (R394). -/
def setService (s : State) (typ idx : Nat) (on : Bool) : State :=
  if typ = tMETER then s.chService idx on else if typ = tFEEDER then s.fdService idx on else s

/-- CREATE (R42, R47, R48). -/
def createHandle (s : State) (typ idx a : Nat) : State :=
  let owner := if typ = tQUEUE ∨ typ = tMILESTONE then a else 0
  let t := (s.setHandle typ idx { st := .stopped, gen := (s.handle typ idx).gen, owner := owner }).setService typ idx true
  if typ = tSESSION ∧ idx = 0 then (t.setUpd (fun u => { u with sessNet := a == 1 })).updMirror else t

/-- DESTROY (R47, R48). -/
def destroyHandle (s : State) (typ idx : Nat) : State :=
  let t := (s.setHandle typ idx { st := .free, gen := nextGen (s.handle typ idx).gen, owner := 0 }).setService typ idx false
  if typ = tSESSION ∧ idx = 0 then t.updMirror else t

/-- CREATE or QUERY writes a handle back (R57, R67). -/
def strWriteBack (s : State) (typ idx : Nat) : State :=
  s.setCfg (reg wSTR 0x034) (BitVec.ofNat 32 (s.handleVal typ idx))

/-- STOP or START that R55 lets through (R58, R61). -/
def strMove (s : State) (start : Bool) (typ idx : Nat) : State :=
  let target : HState := if start then .running else .stopped
  let a := if start then s.calAbort typ idx else s
  if s.hst typ idx = target then a.strDone 0 0 target
  else
    let b := { a with str := { a.str with pend := some { start := start, typ := typ, idx := idx, cyc := s.cyc } } }
    if strNow typ then b.strFinish (s.cyc + 1) else b

/-- A command that R55 lets through. -/
def strRun (s : State) (op typ idx a : Nat) : State :=
  match op with
  | 1 => ((s.createHandle typ idx a).strWriteBack typ idx).strDone 0 0 .stopped
  | 2 => (s.destroyHandle typ idx).strDone 0 0 .free
  | 3 => s.strMove false typ idx
  | 4 => s.strMove true typ idx
  | _ => (s.strWriteBack typ idx).strDone 0 0 (s.hst typ idx)

/-- A write to STR_CMD (R55, R59): ignored with CMD_OVERRUN while a command is pending. STATE shows FREE where the
command names no valid index (DESIGN CHOICE: log entry 62). -/
def strCommand (s : State) (op : Nat) : State :=
  if s.str.pend.isSome then s.postBit wSTR 1
  else
    let h := (s.cfg (reg wSTR 0x034)).toNat
    let a := (s.cfg (reg wSTR 0x040)).toNat
    match s.strCheck op h a with
    | .error r =>
      s.strDone r.result r.detail (match r.idx with | some i => s.hst (h / 2 ^ 20 % 16) i | none => .free)
    | .ok i => s.strRun op (h / 2 ^ 20 % 16) i a

/-- A handle command by a row that names it. -/
def strWrite (s : State) (dt master op : Nat) : State :=
  (s.elapse dt).access master (reg wSTR 0x030) true (fun t => t.strCommand op)

/-- The pending command's row: it completes when it is of this kind and its boundary is now. -/
def strRow (s : State) (dt : Nat) (start : Bool) : State :=
  s.occurIn dt wSTR (fun t =>
    match t.str.pend with
    | some p => if p.start = start ∧ p.cyc < t.cyc ∧ t.strDue p.typ p.idx then t.strFinish t.cyc else t
    | none => t)

end State

open State

/-- STR_CREATE (R55). -/
def execStrCreate (dt master : Nat) (s : State) : Host.Outcome State Fault Refusal := .next (s.strWrite dt master 1)

/-- STR_DESTROY (R47). -/
def execStrDestroy (dt master : Nat) (s : State) : Host.Outcome State Fault Refusal := .next (s.strWrite dt master 2)

/-- STR_STOP (R48). -/
def execStrStop (dt master : Nat) (s : State) : Host.Outcome State Fault Refusal := .next (s.strWrite dt master 3)

/-- STR_START (R48). -/
def execStrStart (dt master : Nat) (s : State) : Host.Outcome State Fault Refusal := .next (s.strWrite dt master 4)

/-- STR_QUERY (R57). -/
def execStrQuery (dt master : Nat) (s : State) : Host.Outcome State Fault Refusal := .next (s.strWrite dt master 5)

/-- HANDLE_STOP_COMPLETE (R58). -/
def execHandleStopComplete (dt : Nat) (s : State) : Host.Outcome State Fault Refusal := .next (s.strRow dt false)

/-- HANDLE_START_COMPLETE (R53). -/
def execHandleStartComplete (dt : Nat) (s : State) : Host.Outcome State Fault Refusal := .next (s.strRow dt true)

end Sys2Proof.Machine
end

