-- ==== Sys2Proof/Machine/Start.lean ====
section
/-! DEFINITION. Resets and starts: levels, failed starts, what each level resets, the image load and the end of a
start (R37 to R41, R382 to R413, R637, R638, R697, R702, R716 to R737, R764). -/

namespace Sys2Proof.Machine

/-! ## Levels (R717, R718) -/

/-- Level of a source whose fuse entry is unprogrammed. -/
def srcDefault (n : Nat) : Nat :=
  match n with
  | 0 => 0 | 1 => 1 | 2 => 1 | 4 => 3 | 10 => 1 | 12 => 3 | _ => 2

/-- The least severe level that a source allows. -/
def srcAllowed (n : Nat) : Nat :=
  match n with
  | 3 => 3 | 4 => 3 | 12 => 3 | _ => 2

/-- Level of a source under a reset fuse map. -/
def srcLevel (map n : Nat) : Nat :=
  let e := map / 4 ^ n % 4
  if n ≤ 2 then srcDefault n else if e = 0 then srcDefault n else min e (srcAllowed n)

/-- The most severe level of a list of sources (R720). -/
def worstLevel (map : Nat) (l : List Nat) : Nat := l.foldl (fun m n => min m (srcLevel map n)) 3

/-- What a start runs at, and what the count of failed starts brings with it (R720, R723, R728, R729). -/
structure StartPlan where
  level : Nat
  sources : List Nat
  escalated : Bool
  /-- R728 reverts the set -/
  revert : Bool
  /-- the module enters recovery safe mode, or stays in it -/
  safe : Bool
  warm : Nat
  cold : Nat
  deriving DecidableEq, Repr

namespace State

/-- WARMFAIL and COLDFAIL (R745). -/
def warmFail (s : State) : Nat := fld s.rtc.bkp28 7 0
def coldFail (s : State) : Nat := fld s.rtc.bkp28 15 8

/-- A source ends the start before it as a failed one (R723, R727, R728). -/
def startFailed (s : State) (srcs : List Nat) : Bool :=
  !s.sys.safe &&
    (match s.sys.phase with
     | .loadFail => true
     | .copying => srcs.any (fun n => decide (4 ≤ n))
     | .up => !s.sys.booted && srcs.any (fun n => decide (4 ≤ n))
     | _ => false)

/-- The level of a start before the count of failed starts (R702, R720, R723, R729). -/
def baseLevel (s : State) (srcs : List Nat) : Nat :=
  let b := if s.sys.asserted = [] then s.sys.level else worstLevel s.sys.rstMap srcs
  let c := match s.sys.phase with
    | .copying => min b s.sys.level
    | .tamperHalt => min b s.sys.level
    | .loadFail => min b s.sys.level
    | .clockHalt => min b 1
    | _ => b
  let d := if c = 3 ∧ s.upd.sluice = .trial then 2 else c
  if s.sys.safe ∧ srcs.contains 11 then min d 1 else d

/-- The plan of the start that the asserted sources bring (R720 to R728). -/
def startPlan (s : State) : StartPlan :=
  let srcs := if s.sys.asserted = [] then s.sys.sources else s.sys.asserted
  let l := s.baseLevel srcs
  let stay := s.sys.safe && !srcs.contains 11
  if !s.startFailed srcs then
    { level := l, sources := srcs, escalated := false, revert := false, safe := stay && l != 0, warm := s.warmFail,
      cold := s.coldFail }
  else if 2 ≤ s.sys.level then
    if 3 ≤ s.warmFail + 1 then
      { level := min l 1, sources := srcs, escalated := decide (1 < l), revert := false, safe := false, warm := 0,
        cold := s.coldFail }
    else
      { level := l, sources := srcs, escalated := false, revert := false, safe := false, warm := s.warmFail + 1,
        cold := s.coldFail }
  else if 3 ≤ s.coldFail + 1 then
    if s.upd.sluice = .trial ∨ s.revertible then
      { level := min l 1, sources := srcs, escalated := false, revert := true, safe := false, warm := s.warmFail,
        cold := 0 }
    else
      { level := min l 1, sources := srcs, escalated := false, revert := false, safe := true, warm := s.warmFail,
        cold := s.coldFail + 1 }
  else
    { level := l, sources := srcs, escalated := false, revert := false, safe := false, warm := s.warmFail,
      cold := s.coldFail + 1 }

/-- SYS_RSTINFO, which RTC_BKP29 holds (R744). -/
def rstInfoWord (s : State) : Word :=
  BitVec.ofNat 32 (s.sys.halt * 2 ^ 27 + bitIf s.sys.reverted 20 + bitIf s.sys.escalated 19 + s.sys.level * 65536
    + packBits 14 (fun n => s.sys.sources.contains n))

/-- RTC_BKP29 is written (R744). -/
def rstNote (s : State) : State := { s with rtc := { s.rtc with bkp29 := s.rstInfoWord } }

/-! ## What a level resets (R716, R733, R734) -/

/-- A stored register keeps its value through a level: the backup domain but at L0, the island's retained fields
and the Verge record (R349, R418, R585, R761). -/
def regKept (level a : Nat) : Bool :=
  let o := a % 0x10000
  match (a - 0x40000000) / 0x10000 with
  | 0x06 => o == 0x00C || decide (0x100 ≤ o)
  | 0x07 => o == 0x004 || decide (0x010 ≤ o ∧ o ≤ 0x01C)
  | 0x0B => level != 0
  | 0x0F => o == 0x040
  | _ => false

/-- Stored words through a reset: those kept, each loaded again with its parity set (R114, R118). -/
def keptWords (level : Nat) (l : List (Nat × PWord)) : List (Nat × PWord) :=
  (l.filter (fun x => regKept level x.1)).map (fun x => (x.1, sound x.2.value))

/-- The register bank after a reset; RTC_STATUS belongs to the backup domain. A restart of the raw counter leaves the
writes not taken up yet at its start. -/
def resetRegs (s : State) (level : Nat) : RegUnit :=
  { RegUnit.reset with
    cfg := { RegUnit.reset.cfg with words := keptWords level s.regs.cfg.words }, act := keptWords level s.regs.act,
    changed := (s.regs.changed.filter (fun x => regKept level x.key)).map (fun x =>
      if level ≤ 1 then { x with cyc := 0 } else x),
    stat := if level = 0 then RegUnit.reset.stat
      else (s.regs.stat.filter (fun x => x.1 == reg wRTC 0)).map (fun x =>
        (x.1, { x.2 with last := if level ≤ 1 then none else x.2.last })) }

/-- The group stood in a phase that an L2 start holds (R312). -/
def holdsPhase (p : Phase) : Bool :=
  match p with
  | .startup => true | .run => true | .test => true | .recovery => true | .held => true
  | _ => false

/-- The mast drive after a reset: at L2 sinks keep their codes, on-times and stretching, groups their HRADJ
codes (R734); a group found DARK leaves it as for the first time (R295). -/
def resetMast (s : State) (level : Nat) : MstUnit :=
  if level ≤ 1 then MstUnit.reset
  else
    { MstUnit.reset with
      sinks := s.mst.sinks.map (fun k =>
        { Sink.reset with d := k.d, code := k.code, onTicks := k.onTicks, mode := k.mode, excess := k.excess }),
      groups := s.mst.groups.map (fun (g : Group) =>
        { Group.reset with
          phase := if holdsPhase g.phase then .held else .disabled, since := s.raw, code := g.code, driven := g.driven,
          saved := if g.phase = .tripped then some g.code else g.saved,
          firstLeave := g.firstLeave || g.phase == .dark }) }

/-- The island and its interface after a reset: the island runs on by its own count, which the first pulse after a
restart of the raw counter steps (R335, R396, R716). -/
def resetMeter (s : State) (level : Nat) : MtrUnit :=
  let m := { s.mtr with cmdCode := 0, cmdPend := false }
  if level ≤ 1 then
    { m with restarted := true, lastPulse := 0, refAt := m.refAt - s.raw }
  else m

/-- An interval through a reset: latched closes carry RESTART, IVSTAT is reset, and the heads' energy counts from zero
again (R395, R405, R422). -/
def resetInterval (heads : List Head) (v : FeedIv) : FeedIv :=
  { v with
    latched := v.latched.map (fun (c : IvClose) => { c with flags := c.flags ||| fRESTART }), exceed := 0, alarm := false,
    shown := 0, startHead := (numberedFrom 0 v.startHead).map (fun x => x.2 - (nth Head.reset heads x.1).energy) }

/-- The accounts after a reset: the island's and MRAM's parts are kept, snapshots and estimates are empty
(R382, R394, R399, R408, R409, R413). -/
def resetAcc (s : State) : AccUnit :=
  { s.acc with
    slots := [], ivs := s.acc.ivs.map (resetInterval s.mst.heads), totals := s.acc.totalsTaken, estSum := [], snaps := [],
    pulses := s.acc.pulses.map (fun p => { PulseOut.reset with mark := p.mark }), power := [] }

/-- The timebase after a reset (R549). -/
def resetTbs (s : State) (level : Nat) : TbsUnit :=
  if level ≤ 1 then { TbsUnit.reset with epoch := (s.tbs.epoch + 1) % 65536 }
  else
    { TbsUnit.reset with
      offset := s.tbs.offset, rate := s.tbs.rate, rb := s.tbs.rb, db := s.tbs.db, slew := s.tbs.slew,
      epoch := s.tbs.epoch, unset := s.tbs.unset, past := s.tbs.past, tickTarget := TbsUnit.tickAfter s.corrNow false, ppsFrom := s.raw }

/-- The backup domain's calendar and SRAM: reset at L0 alone (R585). -/
def resetRtc (s : State) (level : Nat) : RtcUnit :=
  if level = 0 then { RtcUnit.reset with oscRun := s.rtc.oscRun } else { s.rtc with pwron := true, wakePend := none }

/-- The recorder after a reset: the ring and its number are in MRAM (R626, R632, R642). -/
def resetRec (s : State) (level : Nat) : RecUnit :=
  { RecUnit.reset with
    ring := s.evr.ring, next := s.evr.next, backupWord := if level = 0 then 0 else s.evr.backupWord,
    creditAt := if level ≤ 1 then 0 else s.raw }

/-- The security monitor after a reset: the store and its lock are kept, the working key register is empty, and the
tamper latches are the backup domain's (R660, R671, R679, R716). -/
def resetKey (s : State) (level : Nat) : KeyUnit :=
  let k := { KeyUnit.reset with
    store := s.key.store, locked := s.key.locked, erasing := s.key.erasing, active := s.key.active }
  if level = 0 then k
  else { k with latched := s.key.latched, first := s.key.first, tDate := s.key.tDate, tTime := s.key.tTime }

/-- The update engine after a reset: its journal is in MRAM (R704). -/
def resetUpd (s : State) : UpdUnit :=
  { s.upd with chunk := none, code := 0, sessNet := false, trialAt := none, svcPresent := false }

/-- The integrity unit after a reset: the Verge record is in MRAM (R761). -/
def resetFlt (s : State) : FltUnit :=
  { s.flt with eccAddr := 0, eccMram := false, eccUe := false, eccScrub := false, eccCount := 0, code := 0 }

/-- The lane sequencers after a reset (R425, R453, R764). -/
def resetLne (s : State) : LneUnit :=
  { LneUnit.reset with
    fcOwner := s.lne.fcOwner, fcRec := s.lne.fcRec, spare := if s.flt.xcvrRet.contains 4 then .unusable else .free }

/-- Step 1 of a start at L0, L1 or L2: every part takes what the level leaves it (R716). -/
def resetParts (s : State) (level : Nat) : State :=
  { s with
    cyc := if level ≤ 1 then 0 else s.cyc, regs := s.resetRegs level, str := StrUnit.reset, ltb := LtbUnit.reset,
    scn := ScnUnit.reset, wav := WavUnit.reset, mst := s.resetMast level, mtr := s.resetMeter level,
    acc := s.resetAcc, lne := s.resetLne, qdm := QdmUnit.reset, tbs := s.resetTbs level,
    eth0 := EthUnit.reset, eth1 := EthUnit.reset, rtc := s.resetRtc level, evr := s.resetRec level,
    key := s.resetKey level, upd := s.resetUpd, usb := UsbUnit.reset, flt := s.resetFlt,
    mem := if level ≤ 1 then [] else s.mem.filter (fun c => inDram c.1) }

/-- The reset controller's own state at step 1 and step 2. -/
def resetSys (s : State) (p : StartPlan) : State :=
  { s with sys := { s.sys with
    asserted := [], level := p.level, sources := p.sources, reverted := p.revert, escalated := p.escalated, halt := 0,
    result := 0, safe := p.safe, trans := none, bootAt := none, booted := false, wdtAt := none, wdtPeriod := 30,
    closed := if p.level = 0 then [] else s.sys.closed, overCur := [], openCoil := [], rstMap := s.sys.fuses.rstMap,
    pinMap := s.sys.fuses.pinMap, fuseCode := 0, clkFail := [], hostRun := false, blocked := [], held := false,
    photo := none, vbakLost := false } }

/-- WARMFAIL and COLDFAIL after the count; an L0 start clears both (R728, R745). -/
def failNote (s : State) (p : StartPlan) : State :=
  if p.level = 0 then s else { s with rtc := { s.rtc with bkp28 := BitVec.ofNat 32 (p.cold * 256 + p.warm) } }

/-- The set that the start runs: reverted from a trial, or under R728 (R702, R703). -/
def startSet (s : State) (p : StartPlan) : State :=
  if s.upd.sluice = .trial then s.revertSet
  else if p.revert then (s.setUpd (fun u => { u with activeB := !u.activeB, confirmed := true })).updMirror
  else s

/-- RESTARTED after a restart of the timebase (R549). -/
def restartNote (s : State) (level : Nat) : State := if level ≤ 1 then s.postBit wTBS 5 else s

/-- The SRAM row of an uncorrectable error is substituted (R762). -/
def startRow (s : State) : State :=
  match s.flt.ueRow with
  | some r => ({ s with flt := { s.flt with ueRow := none } }).rowSubst r 1
  | none => s

/-! ## Image load (R37 to R41, R126, R764, R803) -/

/-- PINS, and the lock of the pin functions (R39). -/
def loadPins (s : State) (b : ImgBody) : State :=
  ((List.range 184).foldl (fun t p => t.setCfg (reg wPIN (0x100 + 4 * p)) (BitVec.ofNat 32 (nth 0 b.pins p) &&& 0x3FF)) s).setCfg
    (reg wPIN 0x004) 1

/-- LTABLE: every byte of every entry is zero, but KIND, STATE and HEAD of the head entries (R126). -/
def loadTable (s : State) (b : ImgBody) : State :=
  let r := { s with ltb := { LtbUnit.reset with base := b.ltBase, count := b.ltCount, heads := b.ltHeads } }
  let t := { r with mem := r.mem.filter (fun c => !r.inLtable c.1) }
  b.ltHeads.foldl (fun u e => ((u.setLt e.1 0x008 1 2).setLt e.1 0x009 1 7).setLt e.1 0x010 2 e.2) t

/-- FEEDERS, which the island works by (R329). -/
def loadFeeders (s : State) (b : ImgBody) : State :=
  let watched := if s.mtr.map = b.feeders then s.mtr.feeds
    else s.mtr.feeds.map (fun (f : FeedCyc) => { f with since := s.mtr.stamp })
  { s with mtr := { s.mtr with
    map := b.feeders, mapSpare := b.spareCh, feeds := watched,
    spare := match b.spareCh, s.mtr.spare with
      | none, _ => .absent
      | some _, .absent => .idle
      | some _, x => x } }

/-- SINKGROUPS, and the substitutions of the Verge record (R312, R764). HRADJ of a group not enabled is undriven,
and a group that was TRIPPED enters DARK at the rest code (R295). -/
def loadGroups (s : State) : State :=
  let g1 := fun (x : Nat × Group) =>
    let sub := s.flt.sinkSub.find? (fun c => c / 7 == x.1)
    let on := s.groupEnabled x.1
    let held := x.2.phase == .held
    { x.2 with
      phase := if !on then .disabled else if held then .held else .dark,
      driven := on && x.2.driven, firstLeave := !on || x.2.firstLeave,
      code :=
        if !on then 0
        else if x.2.driven && !held && !x.2.firstLeave then (s.hrLimits x.1).1 else x.2.code,
      spareUsable := !s.flt.sinkRet.contains (7 * x.1 + 6), spareTo := sub.map (· % 7), zeroSince := some s.raw }
  let k1 := fun (x : Nat × Sink) =>
    let k := { x.2 with subst := s.flt.sinkSub.contains x.1 }
    if s.groupEnabled (x.1 / 7) then k else k.clampOff
  { s with mst := { s.mst with
    groups := (numberedFrom 0 s.mst.groups).map g1, sinks := (numberedFrom 0 s.mst.sinks).map k1 } }

/-- QUEUES (R510, R542). -/
def loadQueues (s : State) (b : ImgBody) : State :=
  b.queues.foldl (fun t q =>
    (t.setCfg (reg wQDM (0x1004 + 0x40 * q.1)) (BitVec.ofNat 32 q.2.ringBase)).setCfg (reg wQDM (0x1008 + 0x40 * q.1))
      (BitVec.ofNat 32 (q.2.log2n % 16)))
    { s with qdm := { QdmUnit.reset with cfgs := b.queues } }

/-- RECORDER. -/
def loadRec (s : State) (b : ImgBody) : State := { s with evr := { s.evr with cfg := some b.recorder } }

/-- HANDLES, in the order of the section (R41). -/
def loadHandles (s : State) : List ImgHandle → State
  | [] => s
  | h :: r =>
    let t := s.createHandle h.typ h.idx h.arg0
    (if h.running then t.startHandle (t.cyc + 1) h.typ h.idx else t).loadHandles r

/-- A channel or feeder that the island holds in service takes a RUNNING handle, or its flag is cleared (R41,
R803). -/
def loadService (s : State) (typ idx : Nat) : State :=
  let on := if typ = tMETER then s.acc.chIn.contains idx else s.acc.fdIn.contains idx
  if !on ∨ s.hst typ idx ≠ .free then s
  else if idx < s.poolSize typ ∧ !s.handleReserved typ idx ∧ !s.claimConflict typ idx then
    s.setHandle typ idx { st := .running, gen := 1, owner := 0 }
  else (s.setService typ idx false).event wSTR none [iCause typ, iIndex idx]

/-- METER and FEEDER handles of what is in service (R41). -/
def loadServices (s : State) : State :=
  (List.range 4).foldl (fun t f => t.loadService tFEEDER f) ((List.range 16).foldl (fun t c => t.loadService tMETER c) s)

/-- The sections are applied in the order of R37. -/
def applyImage (s : State) (g : Image) : State :=
  let b := g.body
  let t := (({ s with str := { StrUnit.reset with img := some g } }.loadPins b).loadTable b).loadFeeders b
  ((((t.loadGroups).loadQueues b).loadRec b).loadHandles b.handles).loadServices

/-- The structure image of the active set (R37, R683). -/
def setImage (s : State) : Option Image := (s.activeSet.parts.find? (fun p => p.typ == 2)).bind Part.image

/-! ## The end of a start (R25, R413, R724, R737) -/

/-- Pulse credits after a start, while the feeder is in service (R394, R413). -/
def startPulses (s : State) (level : Nat) : State :=
  (List.range 4).foldl (fun t n =>
    if level = 0 then
      (t.pulseRebase n).postEvent wACC 8 [iIndex n, iMeas (whOf (t.pulseValue n : Nat))]
    else
      match t.pulseFeeder n with
      | some f => if t.acc.fdIn.contains f then t.pulseCredit n else t
      | none => t) s

/-- RESTORED that waited for the start (R383). -/
def restoredTold (s : State) : State :=
  if s.acc.restoredDue then ({ s with acc := { s.acc with restoredDue := false } }).postEvent wACC 10 [] else s

/-- What the island held for the die is delivered once the die takes batches, while the link holds (R337). -/
def startDeliver (s : State) : State := if s.mtr.linkDown then s else s.deliverHeld

/-- An output keeps a state that VIGIL would not give it (R737). -/
def startHeld (s : State) (level : Nat) : Bool :=
  s.sys.closed != [] || s.mst.groups.any (fun g => g.phase == .held)
    || (level == 3 && s.mst.sinks.any (fun k => decide (0 < k.d)))

/-- Step 10: the host cluster is released, the state is VIGIL and the boot window opens; in recovery safe mode
the host runs the recovery loader. -/
def startEnd (s : State) : State :=
  let lvl := s.sys.level
  let t := { s with sys := { s.sys with
    phase := .up, hostRun := true, from_ := s.sys.pwr, pwr := .vigil, trans := none, held := s.startHeld lvl,
    bootAt := if s.sys.safe then none else some s.raw, booted := s.sys.safe } }
  let u := if t.upd.sluice = .trial then t.setUpd (fun u => { u with trialAt := some t.raw }) else t
  (u.rstNote).updMirror

/-- Step 8 and the steps after it: the image load, the recorder's START record, and step 10 (R37, R38, R638). -/
def startLoad (s : State) : State :=
  if s.sys.safe then s.startEnd
  else
    match s.setImage with
    | some g =>
      match s.imageCheck g with
      | some _ =>
        let t := (s.applyImage g).recStart s.sys.level
        ((((t.fcResume).startPulses s.sys.level).startDeliver).restoredTold).startEnd
      | none => { s with sys := { s.sys with phase := .loadFail } }.rstNote
    | none => { s with sys := { s.sys with phase := .loadFail } }.rstNote

/-- Step 7: the copy step, when the journal holds ARMED or COPYING (R697, R698). -/
def startCopy (s : State) : State :=
  match s.upd.sluice with
  | .armed =>
    let t := (s.setUpd (fun u => { u with sluice := .copying, copyNor := 0, copyHost := 0 })).updMirror
    { t with sys := { t.sys with phase := .copying } }
  | .copying => { s with sys := { s.sys with phase := .copying } }
  | _ => s.startLoad

/-- Step 6: the security monitor's step; SPENT and a latch whose action is not RECORD halt the start (R654, R671,
R672). -/
def startSecure (s : State) : State :=
  let acts := s.key.latched.map s.tamperAction
  let halt := fun t : State => { t with sys := { t.sys with phase := .tamperHalt } }
  if s.sys.fuses.spent then halt s
  else if acts.contains 3 then halt (s.tamperStore 3)
  else if acts.contains 2 then halt (s.tamperStore 2)
  else s.startCopy

/-- Writes in progress end before the reset (R637, R721). -/
def startQuiesce (s : State) : State := if s.powered then s.recTear.recDiscard else s

/-- An L3 start: the host cluster alone, and the frame counter, which resumes after any start (R453, R716, R724). -/
def startHost (s : State) (p : StartPlan) : State :=
  let t := { s with sys := { s.sys with
    asserted := [], level := 3, sources := p.sources, reverted := false, escalated := false, safe := p.safe } }
  (((t.failNote p).fcResume).startPulses 3).startEnd

/-- A start at L0, L1 or L2 up to its security monitor step (R724). -/
def startParts (s : State) (p : StartPlan) : State :=
  let a := ((s.startQuiesce).resetParts p.level).resetSys p
  let b := { a with sys := { a.sys with phase := .copying } }
  ((((b.failNote p).startSet p).restartNote p.level).startRow).rstNote

/-- The start that the asserted sources bring (R720, R724). -/
def startRun (s : State) : State :=
  let p := s.startPlan
  if p.level = 3 then s.startHost p else (s.startParts p).startSecure

/-- RTC_WAKESRC at a start after HOLD (R606, R615). -/
def vinNote (s : State) : State :=
  s.wakeNote 2 (dateWord s.rtc.clk) (timeWord s.rtc.clk s.rtc.valid s.rtc.dst)

/-- The start after VIN has returned and the hold-up is charged (R717, R719, R787). -/
def vinStart (s : State) : State :=
  ({ s with sys := { s.sys with asserted := [if s.sys.vbakLost then 0 else 1], charged := true } }.startRun).vinNote

/-! ## Clock-good (R725, R729) -/

/-- A start is in progress, or has ended less than 2 ms ago. -/
def startFresh (s : State) : Bool :=
  match s.sys.phase with
  | .copying => true
  | .tamperHalt => true
  | .loadFail => true
  | .up => match s.sys.bootAt with | some t => decide (s.raw ≤ t + 2 * rawMs) | none => false
  | _ => false

/-- Code of a mandatory block in HALT (R744). -/
def haltCode (n : Nat) : Nat := if n = 0x0B ∨ n = 0x0E ∨ n = 0x1E then n else 0x1F

/-- A mandatory block has no clock-good: the start halts, and every block but the reset controller is in reset
(R725, R729). -/
def clockHalt (s : State) (n : Nat) : State :=
  let t := s.resetParts (min s.sys.level 1)
  ({ t with sys := { t.sys with
      phase := .clockHalt, retryAt := t.raw, halt := haltCode n, hostRun := false, bootAt := none, held := false, trans := none } }).rstNote

/-- The retry of the L1 sequence finds every mandatory clock good; it is not counted (R729). -/
def clockRetry (s : State) : State :=
  let p : StartPlan :=
    { level := 1, sources := s.sys.sources, escalated := false, revert := false, safe := s.sys.safe,
      warm := s.warmFail, cold := s.coldFail }
  (s.startParts p).startSecure

/-- The retry that is due every 10 s of a clock halt; one that does not obtain every mandatory clock-good is followed
by the next (R729). -/
def clockRetryDue (s : State) (good : Bool) : State :=
  if s.sys.phase = .clockHalt ∧ s.sys.retryAt + 10 * rawS ≤ s.raw then
    if good then s.clockRetry else { s with sys := { s.sys with retryAt := s.raw } }
  else s

/-- A command of the security monitor completes, and the message that brought it is answered; an accepted
CLEAR_TAMPER ends a tamper halt (R672, R674, R707). -/
def keyOpEnd (s : State) : State :=
  match s.key.job with
  | some j =>
    if j.commit.isSome then s
    else
      let a := s.keyFinish
      let b := match j.svcTag with
        | some t => if a.svcUp then a.svcAnswer t j.code else a
        | none => a
      if j.clearTamper ∧ b.sys.phase = .tamperHalt then b.startCopy else b
  | none => s

end State

open State

/-- RESET_ASSERT (R721): the start of the asserted sources, or the one that a failed image load brings (R727). -/
def execResetAssert (dt : Nat) (s : State) : Host.Outcome State Fault Refusal :=
  let t := s.elapse dt
  .next (
    match t.sys.phase with
    | .dying => t
    | .charging => t
    | .down => if t.sys.vin && t.sys.asserted.contains 2 then t.startRun else t
    | .loadFail => t.startRun
    | _ => if t.sys.asserted = [] then t else t.startRun)

/-- VIN is lost: a transition in progress is abandoned, and the hold-up begins (R22, R24, R31, R787). -/
def State.vinLost (s : State) : State :=
  let t : State := { s with
    rtc := { s.rtc with wakePend := none },
    sys := { s.sys with vin := false, charged := false, trans := none, photo := none } }
  match t.sys.phase with
  | .down => { t with sys := { t.sys with pwr := .hold } }
  | .charging => { t with sys := { t.sys with phase := .down } }
  | _ => { t with sys := { t.sys with phase := .dying } }

/-- VIN_LOSS (R24, R31, R787). -/
def execVinLoss (dt : Nat) (s : State) : Host.Outcome State Fault Refusal :=
  let t := s.elapse dt
  .next (if !t.sys.vin then t else t.vinLost)

/-- HOLD_ENTER (R24, R31, R637). -/
def execHoldEnter (dt : Nat) (s : State) : Host.Outcome State Fault Refusal :=
  let t := s.elapse dt
  .next (
    if t.sys.phase = .dying then
      let u := (t.writerCommit).recDiscard
      { u with sys := { u.sys with
          phase := if t.sys.vin then .charging else .down, pwr := .hold, trans := none, asserted := [], hostRun := false } }
    else t)

/-- VIN_RETURN (R787). -/
def execVinReturn (dt : Nat) (s : State) : Host.Outcome State Fault Refusal :=
  let t := s.elapse dt
  .next (
    if t.sys.vin then t
    else
      { t with sys := { t.sys with vin := true, phase := if t.sys.phase = .dying then .dying else .charging } })

/-- HOLDUP_CHARGED (R717, R787). -/
def execHoldupCharged (dt : Nat) (s : State) : Host.Outcome State Fault Refusal :=
  let t := s.elapse dt
  .next (if t.sys.phase = .charging then t.vinStart else t)

/-- VBAK_RETENTION_LOSS (R717). -/
def execVbakRetentionLoss (dt : Nat) (s : State) : Host.Outcome State Fault Refusal :=
  let t := s.elapse dt
  .next (if t.sys.vin then t else { t with sys := { t.sys with vbakLost := true } })

/-- COPY_BLOCK (R697). -/
def execCopyBlock (dt : Nat) (host ok : Bool) (s : State) : Host.Outcome State Fault Refusal :=
  .next (s.occur dt (fun t => t.copyOne host ok))

/-- COPY_COMPLETE (R699). -/
def execCopyComplete (dt : Nat) (ok : Bool) (s : State) : Host.Outcome State Fault Refusal :=
  .next (s.occur dt (fun t =>
    if t.sys.phase = .copying ∧ t.upd.sluice = .copying ∧ copyBlocks false ≤ t.upd.copyNor ∧ copyBlocks true ≤ t.upd.copyHost then
      (t.copyEnd ok).startLoad
    else t))

/-- CLOCK_GOOD_TIMEOUT (R725). -/
def execClockGoodTimeout (dt : Nat) (mandatory : Bool) (n : Nat) (s : State) : Host.Outcome State Fault Refusal :=
  .next (s.occur dt (fun t =>
    if !t.startFresh then t
    else if mandatory then t.clockHalt n
    else if n < 20 ∧ ¬(n = wSYS ∨ n = wTBS ∨ n = wKEY) then t.clockLost n
    else t))

/-- CLOCK_HALT_RETRY (R729). -/
def execClockHaltRetry (dt : Nat) (good : Bool) (s : State) : Host.Outcome State Fault Refusal :=
  .next (s.occur dt (fun t => t.clockRetryDue good))

/-- RESETN_PULSE (R604, R722): a low pulse of `width` ns. -/
def execResetnPulse (dt width : Nat) (acts : Bool) (s : State) : Host.Outcome State Fault Refusal :=
  let t := s.elapse dt
  let does := decide (10000 ≤ width) || (decide (1000 ≤ width) && acts)
  .next (
    if !does then t
    else if t.inOff ∨ t.goingOff then t.wakeEvent 1
    else if t.powered ∧ t.sys.vin then t.raiseReset 3 else t)

/-- WDT_HOST_EXPIRE (R717). -/
def execWdtHostExpire (dt : Nat) (s : State) : Host.Outcome State Fault Refusal :=
  .next (s.occur dt (fun t => if t.running ∧ t.sys.hostRun then t.raiseReset 4 else t))

/-- WDT_SYS_EXPIRE (R759). -/
def execWdtSysExpire (dt : Nat) (s : State) : Host.Outcome State Fault Refusal :=
  .next (s.occurIn dt wFLT (fun t =>
    match t.sys.wdtAt with
    | some r => if r + t.sys.wdtPeriod * rawS ≤ t.raw then t.raiseReset 5 else t
    | none => t))

/-- BOOT_WINDOW_EXPIRE (R727). -/
def execBootWindowExpire (dt : Nat) (s : State) : Host.Outcome State Fault Refusal :=
  .next (s.occur dt (fun t =>
    match t.sys.bootAt with
    | some r =>
      if t.running ∧ !t.sys.booted ∧ r + max 1 (t.cfgF wSYS 0x050 11 0) * rawS ≤ t.raw then t.raiseReset 5 else t
    | none => t))

/-- BOOTOK completes (R727, R728, R759). -/
def State.bootOk (s : State) (v : Word) : State :=
  let t := s.setCfg (reg wSYS 0x04C) (v &&& 1)
  if bit v 0 ∧ t.running ∧ !t.sys.booted then
    { t with
      rtc := { t.rtc with bkp28 := 0 },
      sys := { t.sys with
        booted := true, bootAt := none, wdtAt := some t.raw, wdtPeriod := min 600 (max 1 (t.cfgF wFLT 0x010 9 0)) } }
  else t

/-- SYS_BOOTOK (R727). -/
def execSysBootok (dt master : Nat) (value : Word) (s : State) : Host.Outcome State Fault Refusal :=
  .next ((s.elapse dt).pairWrite master (reg wSYS 0x04C) (fun t => t.bootOk value))

/-- A completed pair to SYS_RSTCMD (R748). -/
def State.rstCommand (s : State) (v : Word) : State :=
  let t := s.setCfg (reg wSYS 0x048) (v &&& 0xF0000000)
  match fld v 31 28 with
  | 1 => t.raiseReset 12
  | 2 => t.raiseReset 13
  | _ => t

/-- SYS_RSTCMD OP HOST (R748). -/
def execRstcmdHost (dt master : Nat) (s : State) : Host.Outcome State Fault Refusal :=
  .next ((s.elapse dt).pairWrite master (reg wSYS 0x048) (fun t => t.rstCommand 0x10000000))

/-- SYS_RSTCMD OP SYSTEM (R748). -/
def execRstcmdSystem (dt master : Nat) (s : State) : Host.Outcome State Fault Refusal :=
  .next ((s.elapse dt).pairWrite master (reg wSYS 0x048) (fun t => t.rstCommand 0x20000000))

/-- DEBUG_RESET_REQUEST (R717). -/
def execDebugResetRequest (dt : Nat) (s : State) : Host.Outcome State Fault Refusal :=
  .next (s.occur dt (fun t => t.raiseReset 13))

/-- FUSEPROG is permitted (R749). -/
def State.fuseAllowed (s : State) : Bool :=
  s.upd.svcPresent && !s.key.locked && (s.lifeCycle == .provisioned || s.lifeCycle == .owned)

/-- FUSE_DONE with a code (R743, R749). -/
def State.fuseDone (s : State) (code : Nat) : State :=
  { s with sys := { s.sys with fuseCode := code } }.postBit wSYS 6

/-- A completed pair to SYS_FUSEPROG, and what the read-back of the bit gives (R749). -/
def State.fuseProgram (s : State) (v : Word) (ok : Bool) : State :=
  let t := s.setCfg (reg wSYS 0x060) (v &&& 0x800003FF)
  let b := fld v 9 0
  let pin := bit v 31
  if !t.fuseAllowed then t.fuseDone 1
  else if (if pin then 551 else 27) < b then t.fuseDone 2
  else if !ok then t.fuseDone 3
  else
    let f := t.sys.fuses
    { t with sys := { t.sys with
        fuses := if pin then { f with pinMap := f.pinMap ||| 2 ^ b } else { f with rstMap := f.rstMap ||| 2 ^ b } } }.fuseDone 0

/-- SYS_FUSEPROG (R749). -/
def execFuseprog (dt master : Nat) (value : Word) (ok : Bool) (s : State) : Host.Outcome State Fault Refusal :=
  .next ((s.elapse dt).pairWrite master (reg wSYS 0x060) (fun t => t.fuseProgram value ok))

/-- KEY_OP_COMPLETE (R674, R707). -/
def execKeyOpComplete (dt : Nat) (s : State) : Host.Outcome State Fault Refusal :=
  .next (s.occurIn dt wKEY State.keyOpEnd)

end Sys2Proof.Machine
end

