-- ==== Sys2Proof/Machine/Power.lean ====
section
/-! DEFINITION. Power states: the power command, its transitions, the contactor outputs and the photocell (R22 to
R31, R730, R734 to R741). -/

namespace Sys2Proof.Machine

namespace State

/-! ## Contactor outputs (R35, R735, R739) -/

/-- The contactor output of an active feeder (R27). -/
def activeOutput (s : State) (f : Nat) : Option Nat :=
  match s.imgFeeder f with
  | some i => if s.hst tFEEDER f = .free then none else i.contactor
  | none => none

/-- The contactor outputs of the active feeders in closing order (R27, R32). -/
def closingOrder (s : State) : List Nat :=
  match s.fromImg none (fun b => b.contactors) with
  | some c => c.order.filterMap s.activeOutput
  | none => (List.range 4).filterMap s.activeOutput

/-- The interval between closures in raw ticks (R35). -/
def closingStep (s : State) : Nat :=
  match s.fromImg none (fun b => b.contactors) with
  | some c => c.interval * (10 * rawMs)
  | none => 500 * rawMs

/-- A contactor output closes: its latch closes, and OVER clears (R735). -/
def closeOutput (s : State) (k : Nat) : State :=
  { s with sys := { s.sys with closed := setAdd s.sys.closed k, overCur := without s.sys.overCur k } }

/-- Every contactor output opens, and OPEN_COIL clears with it (R735). -/
def openOutputs (s : State) : State := { s with sys := { s.sys with closed := [], openCoil := [] } }

/-- A coil fault of output k enters (R735): 0 OPEN_COIL, 1 OVER. -/
def coilFault (s : State) (k cause : Nat) : State :=
  let t := { s with sys :=
    if cause = 0 then { s.sys with openCoil := setAdd s.sys.openCoil k }
    else { s.sys with overCur := setAdd s.sys.overCur k } }
  t.postEvent wSYS 5 [iIndex k, iCause cause]

/-- The driver of output k energises its coil (R735). -/
def coilDriven (s : State) (k : Nat) : Bool :=
  s.sys.closed.contains k && !s.sys.overCur.contains k && s.sys.vin

/-- The coil current of output k, in mA, is checked (R735). -/
def coilCheck (s : State) (k ma : Nat) : State :=
  if !s.coilDriven k then s
  else if ma < 20 then (if s.sys.openCoil.contains k then s else s.coilFault k 0)
  else if 400 < ma then s.coilFault k 1
  else s

/-- The coil currents of outputs 0 to 3 are checked. -/
def coilChecks (s : State) (coils : List Nat) : State :=
  (List.range 4).foldl (fun t k => t.coilCheck k (nth 0 coils k)) s

/-! ## The power command (R736, R737) -/

/-- A power-state command is refused (R736): 1 BUSY, 2 HOLD, 3 SAFE. -/
def pwrRefuse (s : State) (code : Nat) : State :=
  { s with sys := { s.sys with result := code } }.postBit wSYS 3

/-- The drives of the mast go on through a transition that begins now: in LIT, or held through an L3 or an L2 start
(R734, R737). -/
def drivesGoOn (s : State) : Bool :=
  s.mastDrives || s.mst.groups.any (fun g => g.phase == .held)

/-- A transition begins (R739 to R741). -/
def transBegin (s : State) (target : Pwr) (fade : Nat) (todo : List (Nat × Nat)) (fromLit : Bool) : State :=
  { s with rtc := { s.rtc with wakePend := none }, sys := { s.sys with
    held := false, result := 0,
    trans := some
      { target := target, t0 := s.raw, fade := fade, todo := todo, last := none, opened := false, engines := false,
        fromLit := fromLit } } }

/-- Every HELD group leaves HELD (R312, R734). -/
def leaveHeldAll (s : State) : State := (List.range 8).foldl (fun t g => t.leaveHeld g) s

/-- Every head fades to zero (R740). -/
def fadeHeads (s : State) (fade : Nat) : State := (List.range 8).foldl (fun t h => t.fadeOut h fade) s

/-- Entry to LIT (R739); it is also run for held outputs in LIT. -/
def enterLit (s : State) : State :=
  s.transBegin .lit 0 (numberedFrom 0 s.closingOrder) s.mastDrives

/-- Entry to VIGIL, and to OFF from LIT (R740, R741). -/
def enterFading (s : State) (target : Pwr) (fade : Nat) : State :=
  ((s.transBegin target fade [] s.drivesGoOn).leaveHeldAll).fadeHeads fade

/-- Entry to OFF from VIGIL: every contactor opens at once (R741). -/
def enterOff (s : State) : State :=
  let t := ((s.transBegin .off 0 [] false).openOutputs).leaveHeldAll
  { t with sys := { t.sys with trans := t.sys.trans.map (fun x => { x with opened := true, last := some s.raw }) } }

/-- A command that R736 accepts: nothing for the state in force unless an output is held (R737). -/
def pwrAccept (s : State) (target : Pwr) (fade : Nat) : State :=
  if target = s.sys.pwr ∧ !s.sys.held then { s with sys := { s.sys with result := 0 } }
  else
    match target with
    | .lit => s.enterLit
    | .off => if s.sys.pwr = .lit then s.enterFading .off fade else s.enterOff
    | _ => s.enterFading .vigil fade

/-- The power state that a code names (R747). -/
def pwrOf (n : Nat) : Pwr :=
  match n with
  | 0 => .off | 1 => .hold | 2 => .vigil | _ => .lit

/-- A completed pair to SYS_PWRCMD: the checks of R736 in order. -/
def pwrCommand (s : State) (v : Word) : State :=
  let t := s.setCfg (reg wSYS 0x040) (v &&& 0xFFFF0003)
  let target := pwrOf (fld v 1 0)
  if t.sys.safe ∨ t.sys.phase = .clockHalt then t.pwrRefuse 3
  else if target = .hold then t.pwrRefuse 2
  else if t.sys.trans.isSome ∨ !t.running then t.pwrRefuse 1
  else t.pwrAccept target (fld v 31 16)

/-- SYS_PWRCMD by a row that names it. -/
def pwrRow (s : State) (dt master state fade : Nat) : State :=
  (s.elapse dt).pairWrite master (reg wSYS 0x040) (fun t => t.pwrCommand (BitVec.ofNat 32 (fade % 65536 * 65536 + state)))

/-! ## Events of a transition (R739 to R741) -/

/-- Event 4 of R739 at a TICK boundary: the engines run, and what is held is taken over. -/
def litEngines (s : State) : State :=
  match s.sys.trans with
  | some t =>
    if t.target = .lit ∧ !t.engines ∧ t.t0 + rawMs ≤ s.raw then
      let a := { s with sys := { s.sys with trans := some { t with engines := true } } }
      (a.leaveHeldAll).headsDark
    else s
  | none => s

/-- The transition ends in its state (R736, R739, R740). -/
def transEnd (s : State) (p : Pwr) : State :=
  { s with sys := { s.sys with pwr := p, trans := none } }.postBit wSYS 2

/-- Closure k of a transition to LIT, or of the photocell's closing in recovery safe mode (R730, R739). -/
def closeNext (s : State) (k : Nat) : State :=
  match s.sys.trans with
  | some t =>
    match t.todo with
    | (n, o) :: r =>
      if n = k ∧ t.t0 + rawMs + k * s.closingStep ≤ s.raw then
        let a := s.closeOutput o
        { a with sys := { a.sys with trans := some { t with todo := r, last := some s.raw } } }
      else s
    | [] => s
  | none =>
    match s.sys.photo with
    | some (t0, (n, o) :: r) =>
      if n = k ∧ t0 + k * (500 * rawMs) ≤ s.raw then
        let a := s.closeOutput o
        { a with sys := { a.sys with photo := if r = [] then none else some (t0, r) } }
      else s
    | _ => s

/-- Event 5 of R739. -/
def litDone (s : State) (coils : List Nat) : State :=
  match s.sys.trans with
  | some t =>
    if t.target = .lit ∧ t.todo = [] ∧ t.engines then (s.coilChecks coils).transEnd .lit else s
  | none => s

/-- Event 3 of R740. -/
def openDue (s : State) : State :=
  match s.sys.trans with
  | some t =>
    if t.target ≠ .lit ∧ !t.opened ∧ t.t0 + t.fade * 20000000 + rawMs ≤ s.raw then
      let a := s.openOutputs
      { a with sys := { a.sys with trans := some { t with opened := true, last := some s.raw } } }
    else s
  | none => s

/-- Event 4 of R740. -/
def vigilDone (s : State) : State :=
  match s.sys.trans with
  | some t => if t.target = .vigil ∧ t.opened then s.transEnd .vigil else s
  | none => s

/-- The module powers down: writes in progress end, and PWRON goes low (R28, R721, R741). -/
def powerDown (s : State) : State :=
  let a := (s.recTear).recDiscard
  { a with
    rtc := { a.rtc with pwron := false },
    sys := { a.sys with phase := .down, pwr := .off, trans := none, hostRun := false, asserted := [] } }

/-- OFF is reached; a wake event that came on the way starts the module at once (R604, R741). -/
def offDone (s : State) : State :=
  match s.sys.trans with
  | some t =>
    if t.target = .off ∧ t.opened then
      match s.rtc.wakePend with
      | some w => s.powerDown.wakeUp w.1 w.2.1 w.2.2
      | none => s.powerDown
    else s
  | none => s

/-- The photocell input has been held for 60 s in recovery safe mode (R730). -/
def photocell (s : State) (dark : Bool) : State :=
  if !s.sys.safe || !s.running then s
  else if dark then
    { s with sys := { s.sys with
      photo := some (s.raw, numberedFrom 0 (s.mtr.map.filterMap (fun f => f.2.contactor))) } }
  else { s.openOutputs with sys := { s.openOutputs.sys with photo := none } }

end State

open State

/-- PWRCMD LIT (R739). -/
def execPwrcmdLit (dt master : Nat) (s : State) : Host.Outcome State Fault Refusal := .next (s.pwrRow dt master 3 0)

/-- PWRCMD VIGIL with a head fade in 0.1 s (R740). -/
def execPwrcmdVigil (dt master fade : Nat) (s : State) : Host.Outcome State Fault Refusal :=
  .next (s.pwrRow dt master 2 fade)

/-- PWRCMD OFF with a head fade in 0.1 s (R741). -/
def execPwrcmdOff (dt master fade : Nat) (s : State) : Host.Outcome State Fault Refusal :=
  .next (s.pwrRow dt master 0 fade)

/-- PWRCMD HOLD (R23, R736). -/
def execPwrcmdHold (dt master : Nat) (s : State) : Host.Outcome State Fault Refusal := .next (s.pwrRow dt master 1 0)

/-- CONTACTOR_CLOSE (R730, R739). -/
def execContactorClose (dt k : Nat) (s : State) : Host.Outcome State Fault Refusal :=
  .next (s.occur dt (fun t => t.closeNext k))

/-- LIT_TRANSITION_DONE (R739): coil currents of the outputs in mA. -/
def execLitTransitionDone (dt : Nat) (coils : List Nat) (s : State) : Host.Outcome State Fault Refusal :=
  .next (s.occur dt (fun t => t.litDone coils))

/-- CONTACTORS_OPEN (R740). -/
def execContactorsOpen (dt : Nat) (s : State) : Host.Outcome State Fault Refusal := .next (s.occur dt State.openDue)

/-- VIGIL_TRANSITION_DONE (R740): every output is open, and the spec names no fault of the coil of an open one. -/
def execVigilTransitionDone (dt : Nat) (_coils : List Nat) (s : State) : Host.Outcome State Fault Refusal :=
  .next (s.occur dt State.vigilDone)

/-- OFF_ENTER (R741). -/
def execOffEnter (dt : Nat) (s : State) : Host.Outcome State Fault Refusal := .next (s.occur dt State.offDone)

/-- COIL_OPEN_COIL (R735): the most that output k's coil has drawn in 100 ms, in mA. -/
def execCoilOpenCoil (dt k ma : Nat) (s : State) : Host.Outcome State Fault Refusal :=
  .next (s.occur dt (fun t => if ma < 20 then t.coilCheck k ma else t))

/-- COIL_OVER (R735): the coil current of output k in mA. -/
def execCoilOver (dt k ma : Nat) (s : State) : Host.Outcome State Fault Refusal :=
  .next (s.occur dt (fun t => if 400 < ma then t.coilCheck k ma else t))

/-- OPEN_COIL_CLEAR (R735): the least that output k's coil has drawn in 100 ms, in mA. -/
def execOpenCoilClear (dt k ma : Nat) (s : State) : Host.Outcome State Fault Refusal :=
  .next (s.occur dt (fun t =>
    if t.coilDriven k ∧ 20 ≤ ma then { t with sys := { t.sys with openCoil := without t.sys.openCoil k } } else t))

/-- PHOTOCELL_LEVEL_HELD (R730). -/
def execPhotocellLevelHeld (dt : Nat) (dark : Bool) (s : State) : Host.Outcome State Fault Refusal :=
  .next (s.occur dt (fun t => t.photocell dark))

end Sys2Proof.Machine
end

