-- ==== Sys2Proof/Machine/Wave.lean ====
section
/-! DEFINITION. The wave engine: input checks, association, path search, raise and release times, WAVE frames
and handoff (R233 to R274). -/

namespace Sys2Proof.Machine

/-- A profile's fields as a wave uses them (R237 to R239). -/
structure WProf where
  classes : Nat
  nohead : Bool
  branch : Bool
  latdepth : Nat
  level : Nat
  speedMax : Nat
  speedDef : Nat
  speedMin : Nat
  /-- LEAD, HORIZON, HOLD, ASSOC_WIN and DEDUP in raw ticks -/
  lead : Nat
  horizon : Nat
  reach : Nat
  fadeback : Nat
  hold : Nat
  headTol : Nat
  turnTol : Nat
  curve : Nat
  rise : Nat
  assoc : Nat
  dedup : Nat
  deriving DecidableEq, Repr

/-- The fields of a profile's eight words (R237, R238). -/
def profOf (w : List Word) : WProf :=
  let f := fun (i hi lo : Nat) => fld (nth 0 w i) hi lo
  let mn := max 1 (f 2 31 16)
  let mx := max mn (f 1 31 16)
  { classes := f 0 27 24, nohead := bit (nth 0 w 0) 19, branch := bit (nth 0 w 0) 18, latdepth := f 0 17 16,
    level := f 0 15 0, speedMax := mx, speedDef := min mx (max mn (f 1 15 0)), speedMin := mn,
    lead := f 2 15 0 * rawMs, horizon := f 3 31 16 * 10 * rawMs, reach := f 3 15 0, fadeback := f 4 31 16,
    hold := f 4 15 0 * 10 * rawMs, headTol := f 5 31 24, turnTol := f 5 23 16, curve := f 5 10 8, rise := f 5 7 0,
    assoc := f 6 31 16 * rawMs, dedup := f 6 15 0 * rawMs }

/-- The bearing difference (R240). -/
def bdiff (a b : Nat) : Nat :=
  let d := (a % 256 + 256 - b % 256) % 256
  min d (256 - d)

/-- A road-graph link (R132). -/
structure Link where
  num : Nat
  target : Nat
  dist : Nat
  bearing : Nat
  lateral : Bool
  speedMax : Nat
  deriving DecidableEq, Repr

/-- An entry waiting to be visited (R247). -/
structure Visit where
  arrival : Nat
  entry : Nat
  dist : Nat
  bearing : Option Nat
  deriving DecidableEq, Repr

/-- A handoff point found by a search (R253). -/
structure FoundPt where
  entry : Nat
  arrival : Nat
  bearing : Nat
  deriving DecidableEq, Repr

/-- A search in progress: what waits, what was visited, the entries in the set, those reached and the handoff
points found. -/
structure Search where
  queue : List Visit
  seen : List Nat
  members : List Nat
  reached : List Raised
  points : List FoundPt
  trunc : Bool
  deriving DecidableEq, Repr

namespace State

/-- Advance WAV fields. -/
def setWav (s : State) (f : WavUnit → WavUnit) : State := { s with wav := f s.wav }

/-- Words of profile p in force. -/
def profWords (s : State) (p : Nat) : List Word :=
  (List.range 8).map (fun w => s.act (reg wWAV (0x0400 + 0x20 * p + 4 * w)))

/-- The engine runs: ENABLE in force, and the power state lets it (R265, R738). -/
def wavRuns (s : State) : Bool := s.actF wWAV 0x004 0 0 == 1 && s.mastLit

/-- UPDATE_DELTA in raw ticks (R277). -/
def updateDelta (s : State) : Nat := max 1 (s.actF wWAV 0x004 31 24) * 10 * rawMs

/-! ## Inputs (R234 to R236) -/

/-- A DETECT of an entry is dropped: the entry's DETECT_DROP and DETECT_DROP (R236). -/
def detectDrop (s : State) (n : Nat) (f : WavUnit → WavUnit) : State :=
  ((s.setLt n 0x122 2 (sat 16 (s.lt n 0x122 2 + 1))).setWav f).postBit wWAV 2

/-- An input enters the FIFO, or is dropped as OVERLOAD (R234). -/
def wavEnter (s : State) (x : WavIn) : State :=
  if s.wav.fifo.length < 48 then
    s.setWav (fun w => { w with fifo := w.fifo ++ [x], fifoMax := max w.fifoMax (w.fifo.length + 1) })
  else
    let past := fun (w : WavUnit) => { w with dOver := sat 16 (w.dOver + 1) }
    match x with
    | .detect n _ _ _ _ _ _ => (s.detectDrop n past).postBit wWAV 3
    | .datagram _ _ _ _ => (s.setWav past).post (reg wWAV 0) (2 ^ 3 + 2 ^ 8)

/-- Check 1 of R236 fails for entry n; a head entry is taken by its HEAD handle (R251). -/
def wavStateBad (s : State) (n : Nat) : Bool :=
  let p := s.lt n 0x00E 1
  !(s.wavRuns && s.solvable n && p != 0xFF && s.isRunning tWAVEPROF p)

/-- The first check of R236 from 1 to 5 that a DETECT fails, as its counter. -/
def detectBad (s : State) (n tRx td speed : Nat) (hv : Bool) (cls : Nat) : Option (WavUnit → WavUnit) :=
  let p := profOf (s.profWords (s.lt n 0x00E 1))
  let maxAge := max 1 (s.actF wWAV 0x004 23 16) * 10 * rawMs
  if s.wavStateBad n then some (fun w => { w with dState := sat 16 (w.dState + 1) })
  else if 700 < speed ∨ 3 < cls then some (fun w => { w with dRange := sat 16 (w.dRange + 1) })
  else if td + maxAge < tRx ∨ tRx + rawMs ≤ td then some (fun w => { w with dAge := sat 16 (w.dAge + 1) })
  else if (p.classes >>> cls) % 2 = 0 ∨ (!hv ∧ !p.nohead) then some (fun w => { w with dFilter := sat 16 (w.dFilter + 1) })
  else
    match tabGet s.wav.dup n with
    | some tp => if tp ≤ td ∧ td < tp + p.dedup then some (fun w => { w with dDup := sat 16 (w.dDup + 1) }) else none
    | none => none

/-! ## The path search (R247 to R254) -/

/-- The used links of entry n (R132, R133). -/
def linksOf (s : State) (n : Nat) : List Link :=
  (List.range 4).filterMap (fun k =>
    let o := 0x0C0 + 8 * k
    let t := s.lt n o 2
    if t = 0xFFFF then none
    else some { num := k, target := t, dist := s.lt n (o + 2) 2, bearing := s.lt n (o + 4) 1,
                lateral := s.lt n (o + 5) 1 % 2 == 1, speedMax := s.lt n (o + 6) 2 })

/-- The search raises entry n (R251). -/
def raisable (s : State) (n : Nat) : Bool :=
  match s.ltKind n with
  | 1 => s.solvable n && s.lt n 0x00E 1 != 0xFF
  | 2 => s.entryRunning n
  | _ => false

/-- The links a search follows from an entry reached by bearing `via`; at the anchor, by the wave's heading, where no
heading spreads every way under NOHEAD 1 only (R248, R249). -/
def eligible_ (p : WProf) (l : List Link) (via : Option Nat) (tol : Nat) : List Link :=
  let a := (l.filter (fun k => !k.lateral)).filterMap (fun k =>
    match via with
    | none => if p.nohead then some (0, k) else none
    | some v => if bdiff k.bearing v ≤ tol then some (bdiff k.bearing v, k) else none)
  if p.branch then a.map (·.2)
  else
    match minBy (fun (x : Nat × Link) => x.1 * 4 + x.2.num) a with
    | some x => [x.2]
    | none => []

/-- An entry is raised: it joins the set, or keeps its earlier arrival; a search at 64 entries takes no new
one (R252, R254). -/
def addReached (x : Search) (n arrival : Nat) (lateral : Bool) (bearing dist : Option Nat) : Search :=
  if x.reached.any (fun r => r.entry == n) then
    if lateral then x
    else { x with reached := x.reached.map (fun (r : Raised) =>
      if r.entry = n ∧ r.lateral then { r with lateral := false, bearing := bearing, dist := dist } else r) }
  else if x.members.contains n ∨ x.members.length < 64 then
    { x with
      members := setAdd x.members n
      reached := x.reached ++ [({ entry := n, lateral := lateral, bearing := bearing, arrival := arrival, raise := 0,
                                  release := 0, sent := none, dist := dist } : Raised)] }
  else { x with trunc := true }

/-- The lateral links' targets of some entries: one hop of the spread (R252). -/
def lateralHop (s : State) (arrival : Nat) (x : Search) (from_ : List Nat) : Search × List Nat :=
  let l := from_.flatMap (fun n => (s.linksOf n).filter (fun k => k.lateral))
  (l.foldl (fun y k => if s.raisable k.target then addReached y k.target arrival true (some k.bearing) none else y) x,
   l.map (fun k => k.target))

/-- The lateral spread from a raised path entry, at most n hops (R252). -/
def lateralSpread (s : State) (arrival : Nat) (x : Search) (from_ : List Nat) : Nat → Search
  | 0 => x
  | n + 1 => let h := s.lateralHop arrival x from_; s.lateralSpread arrival h.1 h.2 n

/-- The raw time to pass a link at a speed in 0.1 m/s (R250). -/
def linkTime (dist speed cap : Nat) : Nat :=
  let v := max 1 (if cap ≠ 0 ∧ cap < speed then cap else speed)
  (roundOpen 11 ((dist * rawS : Nat) / (v : Rat))).toNat

/-- Visit one entry (R247 to R253). -/
def visit (s : State) (w : Wave) (x : Search) (v : Visit) : Search :=
  let p := profOf w.prof
  let y := { x with seen := v.entry :: x.seen }
  if s.ltKind v.entry = 3 then
    { y with points := y.points ++ [({ entry := v.entry, arrival := v.arrival, bearing := v.bearing.getD 0 } : FoundPt)] }
  else
    let z :=
      if s.raisable v.entry then
        s.lateralSpread v.arrival (addReached y v.entry v.arrival false v.bearing (some v.dist)) [v.entry] p.latdepth
      else y
    let anchor := v.entry = w.anchor
    let l := eligible_ p (s.linksOf v.entry) (if anchor then w.heading else v.bearing) (if anchor then p.headTol else p.turnTol)
    let next := l.filterMap (fun k =>
      let a := v.arrival + linkTime k.dist w.speed k.speedMax
      let d := v.dist + k.dist
      if d ≤ p.reach ∧ a < w.t0 + p.horizon ∧ !z.seen.contains k.target then
        some ({ arrival := a, entry := k.target, dist := d, bearing := some k.bearing } : Visit)
      else none)
    { z with queue := z.queue ++ next }

/-- The search: the earliest waiting entry first, ties to the lower index, until the set holds 64 (R247,
R254). -/
def searchN (s : State) (w : Wave) (x : Search) : Nat → Search
  | 0 => x
  | n + 1 =>
    match minBy (fun (v : Visit) => v.arrival * 4096 + v.entry) x.queue with
    | none => x
    | some v =>
      let y := { x with queue := x.queue.erase v }
      if x.seen.contains v.entry then s.searchN w y n
      else if 64 ≤ x.members.length ∨ x.trunc then { x with trunc := true }
      else s.searchN w (s.visit w y v) n

/-- The path search of a wave whose set holds some entries already (R247). -/
def search (s : State) (w : Wave) (members : List Nat) : Search :=
  let p := profOf w.prof
  s.searchN w
    { queue := if 0 < p.horizon then [{ arrival := w.t0, entry := w.anchor, dist := 0, bearing := none }] else [],
      seen := [], members := members, reached := [], points := [], trunc := false } (4 * s.ltb.count + 2)

/-! ## Times and frames (R255 to R263) -/

/-- Times of a reached entry, with the times last sent to it (R255, R256). -/
def raiseTimes (s : State) (w : Wave) (old : Option Raised) (r : Raised) : Raised :=
  let p := profOf w.prof
  let sent := old.bind Raised.sent
  let raise := max (r.arrival - p.lead) w.t0
  let raise' := match sent with | some x => if x.1 ≤ w.t0 then x.1 else raise | none => raise
  let release := r.arrival + p.hold
  let moved := fun (a b : Nat) => decide (a + s.updateDelta ≤ b ∨ b + s.updateDelta ≤ a)
  match sent with
  | some x =>
    if moved x.1 raise' || moved x.2 release then { r with raise := raise', release := release, sent := sent }
    else { r with raise := x.1, release := x.2, sent := sent }
  | none => { r with raise := raise', release := release, sent := none }

/-- A raised entry has times that were not sent. -/
def raisedUnsent (r : Raised) : Bool := r.sent != some (r.raise, r.release)

/-- The first WAVE cell of lane n from slot a, looking at k slots. -/
def waveCellFrom (s : State) (n a : Nat) : Nat → Option Nat
  | 0 => none
  | k + 1 =>
    match s.cellOf n a with
    | some w => if fld w 30 28 = 1 then some a else s.waveCellFrom n (a + 1) k
    | none => s.waveCellFrom n (a + 1) k

/-- The next k WAVE cells of lane n from slot a. -/
def waveCells (s : State) (n a : Nat) : Nat → List Nat
  | 0 => []
  | k + 1 =>
    match s.waveCellFrom n a (s.sfLen n) with
    | some c => c :: s.waveCells n (c + 1) k
    | none => []

/-- Slot of lane n that holds a raw count, and the offset in it in µs (R488). -/
def slotOff (s : State) (n r : Nat) : Int × Nat :=
  let d : Int := (r : Int) - s.laneOrigin n
  let l : Int := max 1 (s.slotRaw n)
  (d / l, min (s.lneF n 0x010 31 16 - 1) (roundOpen 12 ((d % l : Int) / (200 : Rat))).toNat)

/-- Octets of one command of a WAVE frame (R488). -/
def waveCmd (s : State) (n base : Nat) (r : Raised) : List Byte :=
  let a := s.slotOff n r.raise
  let b := s.slotOff n r.release
  leBytes 2 (r.entry % 4096) ++ leBytes 3 (toBits 24 (a.1 - base)) ++ leBytes 2 a.2
    ++ leBytes 3 (toBits 24 (b.1 - base)) ++ leBytes 2 b.2

/-- Octets of a WAVE frame (R488). -/
def waveOctets (s : State) (w : Wave) (n base : Nat) (l : List Raised) : List Byte :=
  let p := profOf w.prof
  leBytes 1 0x59 ++ leBytes 1 3 ++ leBytes 5 (asnOf base) ++ leBytes 2 w.ident ++ leBytes 2 p.level ++ leBytes 1 p.rise
    ++ leBytes 2 p.fadeback ++ leBytes 1 (s.curveUsed p.curve) ++ leBytes 1 l.length
    ++ l.flatMap (s.waveCmd n base)

/-- Lists of at most n elements. -/
def chunks {α : Type} (n : Nat) : Nat → List α → List (List α)
  | 0, _ => []
  | k + 1, l => if l.isEmpty then [] else l.take n :: chunks n k (l.drop n)

/-- One copy of a WAVE frame is queued, or dropped for want of a descriptor (R262, R263); whether it was
queued. -/
def queueWave (s : State) (q n base : Nat) (w : Wave) (l : List Raised) : State × Bool :=
  if s.qFree q then
    (s.enqueue q (.octets (s.waveOctets w n base l)) 0 (asnOf base) (asnOf (base + 1)) 0xFFFF, true)
  else ((s.setWav (fun v => { v with qfull := sat 16 (v.qfull + 1) })).postBit wWAV 4, false)

/-- The copies of one frame; whether one was queued. -/
def queueCopies (q n : Nat) (w : Wave) (l : List Raised) (o : State × Bool) (base : Nat) : State × Bool :=
  let r := o.1.queueWave q n base w l
  (r.1, o.2 || r.2)

/-- The frames of one lane; the entries whose commands were queued (R262, R263). -/
def waveLane (w : Wave) (n : Nat) (s : State) (l : List Raised) : State × List Nat :=
  match s.engineQueue 0 n 2 with
  | none => (s, [])
  | some q =>
    let per := min 6 ((s.waveMax n - 33 - 16) / 12)
    let cells := s.waveCells n (s.slotFrom n (s.raw + rawMs)) (s.actF wWAV 0x004 9 8 + 1)
    if per = 0 ∨ cells = [] then (s, [])
    else
      (chunks per l.length l).foldl (fun (o : State × List Nat) c =>
        let r := cells.foldl (queueCopies q n w c) (o.1, false)
        (r.1, if r.2 then o.2 ++ c.map Raised.entry else o.2)) (s, [])

/-- A head takes a wave's command (R260, R261). -/
def waveHead (w : Wave) (s : State) (r : Raised) : State :=
  match s.headOfEntry r.entry with
  | none => s
  | some h =>
    let p := profOf w.prof
    let old := (s.head h).waves.find? (fun x => x.ident == w.ident)
    let keep := match old with | some o => o.start.isSome && decide (r.raise ≤ s.raw) | none => false
    let x : HeadWave :=
      { ident := w.ident, level := p.level, raise := if keep then (old.map HeadWave.raise).getD r.raise else r.raise,
        release := r.release, rise := p.rise, fadeback := p.fadeback, curve := p.curve,
        start := if keep then old.bind HeadWave.start else none }
    s.setHead h (fun y => { y with waves := y.waves.filter (fun z => z.ident != w.ident) ++ [x] })

/-- The lanes that can take WAVE frames (R461). -/
def waveLanes (s : State) : List Nat :=
  (List.range 4).filter (fun n => (s.lane n).run && (s.engineQueue 0 n 2).isSome)

/-- The commands of one computation go out: heads to the mast drive, the others lane by lane; the entries they
were sent to (R261 to R263, R461). -/
def waveSend (s : State) (w : Wave) (l : List Raised) : State × List Nat :=
  let heads := l.filter (fun r => s.ltKind r.entry == 2)
  let radio := l.filter (fun r => s.ltKind r.entry != 2)
  let a := heads.foldl (waveHead w) s
  (s.waveLanes).foldl (fun (o : State × List Nat) n =>
    let r := waveLane w n o.1 (radio.filter (fun r => s.laneFor r.entry s.waveLanes == some n))
    (r.1, o.2 ++ r.2)) (a, heads.map Raised.entry)

/-! ## Handoff datagrams (R266 to R270) -/

/-- Word k of peer p in force. -/
def peerW (s : State) (p k : Nat) : Word := s.act (reg wWAV (0x1000 + 0x80 * p + 4 * k))

/-- The header template of peer p: HDRLEN bytes (R269). -/
def peerHdr (s : State) (p : Nat) : List Byte :=
  ((List.range 17).flatMap (fun k => leBytes 4 (s.peerW p (4 + k)).toNat)).take (fld (s.peerW p 0) 6 0)

/-- Offset of the IP header of peer p's template. -/
def peerIp (s : State) (p : Nat) : Nat :=
  let n := fld (s.peerW p 0) 6 0
  if n = 46 ∨ n = 66 then 18 else 14

/-- Length of the IP header. -/
def peerIpLen (s : State) (p : Nat) : Nat := if bit (s.peerW p 0) 29 then 40 else 20

/-- Peer p is valid (R269, R270). -/
def peerValid (s : State) (p : Nat) : Bool :=
  let w := s.peerW p 0
  let n := fld w 6 0
  bit w 31 && (if bit w 29 then n == 62 || n == 66 else n == 42 || n == 46)
    && fieldBE (s.peerHdr p) (s.peerIp p + s.peerIpLen p + 2) 2 == 47310

/-- Replace bytes of a list from an offset. -/
def patch (l : List Byte) (o : Nat) (d : List Byte) : List Byte := l.take o ++ d ++ l.drop (o + d.length)

/-- Fold carries into 16 bits. -/
def foldCarry (n : Nat) : Nat :=
  let a := n % 65536 + n / 65536
  a % 65536 + a / 65536

/-- Sum of the 16-bit words of octets, most significant octet first. -/
def sum16 : List Byte → Nat
  | [] => 0
  | [a] => a.toNat * 256
  | a :: b :: r => a.toNat * 256 + b.toNat + sum16 r

/-- Internet checksum: the ones' complement of the ones' complement sum. -/
def inetSum (l : List Byte) : Nat := 65535 - foldCarry (sum16 l)

/-- The Ethernet frame of a datagram to peer p (R270). -/
def peerFrame (s : State) (p : Nat) (pay : List Byte) : List Byte :=
  let ip := s.peerIp p
  let ipl := s.peerIpLen p
  let u := ip + ipl
  let ulen := 8 + pay.length
  let h0 := s.peerHdr p
  let h1 :=
    if ipl = 20 then
      let a := patch (patch h0 (ip + 2) (beBytes 2 (20 + ulen))) (ip + 10) [0, 0]
      patch a (ip + 10) (beBytes 2 (inetSum (slice a ip 20)))
    else patch h0 (ip + 4) (beBytes 2 ulen)
  let h2 := patch (patch h1 (u + 4) (beBytes 2 ulen)) (u + 6) [0, 0]
  let pseudo :=
    if ipl = 20 then slice h2 (ip + 12) 8 ++ [0, 17] ++ beBytes 2 ulen
    else slice h2 (ip + 8) 32 ++ beBytes 4 ulen ++ [0, 0, 0, 17]
  let c := inetSum (pseudo ++ h2.drop u ++ pay)
  patch h2 (u + 6) (beBytes 2 (if c = 0 then 65535 else c)) ++ pay

/-- Payload of a handoff datagram (R268). -/
def handPay (s : State) (w : Wave) (typ seq : Nat) (pt : HandPt) (arrival bearing : Nat) : List Byte :=
  let b := beBytes 2 0x5957 ++ beBytes 1 1 ++ beBytes 1 typ ++ beBytes 8 (fieldLE s.imgBytes 56 8) ++ beBytes 2 w.ident
    ++ beBytes 2 seq ++ beBytes 2 (s.lt pt.entry 0x0E2 2) ++ beBytes 8 (s.ltEui pt.entry)
    ++ beBytes 8 (s.tbs.corrNs arrival) ++ beBytes 8 (s.tbs.corrNs s.raw) ++ beBytes 2 w.speed ++ beBytes 1 bearing
    ++ beBytes 1 w.cls ++ beBytes 1 w.hops ++ beBytes 1 0
  b ++ beBytes 4 (crc32c b)

/-- Handoff to peer p is in use for a wave (R266, R267). -/
def handOn (s : State) (w : Wave) (p : Nat) : Bool :=
  bit (s.act (reg wWAV 0x008)) 31 && s.peerValid p && decide (w.hops ≤ s.actF wWAV 0x008 19 16)
    && (match w.remote with | some r => r.1 != p | none => true)

/-- A datagram goes to a handoff point's peer (R270); whether it was queued. -/
def handSend (s : State) (w : Wave) (typ seq : Nat) (pt : HandPt) (arrival bearing : Nat) : State × Bool :=
  match s.engineQueue 3 (if bit (s.peerW pt.peer 0) 30 then 1 else 0) 2 with
  | none => (s, false)
  | some q =>
    if s.qFree q then
      (((s.enqueueEth q (.octets (s.peerFrame pt.peer (s.handPay w typ seq pt arrival bearing)))).setWav
        (fun v => { v with hoSent := (v.hoSent + 1) % 65536 })).postBit wWAV 6, true)
    else (s, false)

/-- SEQ of the next datagram of a wave to a peer that is no OPEN (R266). -/
def nextSeq (w : Wave) (p : Nat) : Nat :=
  ((w.points.filter (fun x => x.peer == p)).foldl (fun m x => max m x.seq) 0 + 1) % 65536

/-- A point that the search found: OPEN the first time, UPDATE where its arrival has moved from the one last sent, or
nothing (R266; log entry 64). -/
def handFound (o : State × Wave) (f : FoundPt) : State × Wave :=
  let s := o.1
  let w := o.2
  let p := s.lt f.entry 0x0E0 1
  let old := w.points.find? (fun x => x.entry == f.entry)
  let base : HandPt := old.getD { entry := f.entry, peer := p, arrival := f.arrival, bearing := f.bearing,
                                  openSent := false, gone := false, seq := 0 }
  let put := fun (x : HandPt) => { w with points := w.points.filter (fun y => y.entry != f.entry) ++ [x] }
  let far := decide (base.arrival + s.updateDelta ≤ f.arrival ∨ f.arrival + s.updateDelta ≤ base.arrival)
  let moved := { base with arrival := f.arrival, bearing := f.bearing, gone := false }
  if !s.handOn w base.peer then (s, put (if base.openSent then { base with gone := false } else moved))
  else if !base.openSent then
    let r := s.handSend w 1 1 base f.arrival f.bearing
    (r.1, put (if r.2 then { moved with openSent := true, seq := 1 } else moved))
  else if far then
    let n := nextSeq w base.peer
    let r := s.handSend w 2 n base f.arrival f.bearing
    (r.1, put (if r.2 then { moved with seq := n } else { base with gone := false }))
  else (s, put { base with gone := false })

/-- A point for which OPEN was sent and that the search no longer reaches: CANCEL (R266). -/
def handLost (o : State × Wave) (x : HandPt) : State × Wave :=
  let s := o.1
  let w := o.2
  let put := fun (y : HandPt) => { w with points := w.points.filter (fun z => z.entry != x.entry) ++ [y] }
  if !x.openSent ∨ x.gone then (s, put { x with gone := true })
  else if s.handOn w x.peer then
    let n := nextSeq w x.peer
    let r := s.handSend w 3 n x x.arrival x.bearing
    (r.1, put { x with gone := r.2, seq := if r.2 then n else x.seq })
  else (s, put { x with gone := true })

/-! ## A computation (R246, R254 to R264) -/

/-- Keep a wave in the list, in number order. -/
def putWave (s : State) (w : Wave) : State :=
  s.setWav (fun v => { v with waves := insertBy (fun (x : Wave) => x.num) w (v.waves.filter (fun x => x.num != w.num)) })

/-- The wave's end: its latest release or handoff arrival; its anchor time when it holds none (R264). -/
def waveEnds (w : Wave) : Nat :=
  let points := w.points.filter (fun p => !p.gone)
  if w.set = [] ∧ points = [] then w.t0
  else max (w.set.foldl (fun m r => max m r.release) 0) (points.foldl (fun m p => max m p.arrival) 0)

/-- Path search, times, commands and datagrams of a wave anchored anew (R246 to R266). -/
def compute (s : State) (w : Wave) : State :=
  let kept := w.set.filter (fun r => decide (s.raw < r.release))
  let x := s.search w (kept.map Raised.entry)
  let timed := x.reached.map (fun r => s.raiseTimes w (kept.find? (fun k => k.entry == r.entry)) r)
  let rest := (kept.filter (fun k => !(timed.any (fun r => r.entry == k.entry)))).map (fun (k : Raised) => { k with dist := none })
  let a := if x.trunc then (s.setWav (fun v => { v with trunc := sat 16 (v.trunc + 1) })).postBit wWAV 5 else s
  let new := sortBy Raised.entry (timed.filter raisedUnsent)
  let b := a.waveSend w new
  let done := timed.map (fun (r : Raised) =>
    if b.2.contains r.entry then { r with sent := some (r.raise, r.release) } else r)
  let w1 := { w with set := sortBy Raised.entry (rest ++ done) }
  let c := x.points.foldl handFound (b.1, w1)
  let lost := w1.points.filter (fun p => !(x.points.any (fun f => f.entry == p.entry)))
  let d := lost.foldl handLost c
  d.1.putWave d.2

/-- The lowest free wave number (R245). -/
def freeWave (s : State) : Option Nat := (List.range 128).find? (fun n => !(s.wav.waves.any (fun w => w.num == n)))

/-- An input opens a wave at entry n, or finds none free (R245). -/
def openWave (s : State) (n td speed : Nat) (heading : Option Nat) (cls hops : Nat) (remote : Option (Nat × Nat × Nat)) : State :=
  match s.freeWave with
  | none => (s.detectDrop n (fun w => { w with dOver := sat 16 (w.dOver + 1) })).postBit wWAV 3
  | some k =>
    let c := (tabGetD 0 s.wav.counts k + 1) % 512
    let p := s.lt n 0x00E 1
    let words := s.profWords p
    let f := profOf words
    let v := if speed = 0 then f.speedDef else min f.speedMax (max f.speedMin speed)
    (((s.setWav (fun w => { w with counts := tabPut 0 w.counts k c })).postBit wWAV 0)).compute
      { num := k, ident := c * 128 + k, anchor := n, t0 := td, speed := v, heading := heading, profile := p, prof := words,
        set := [], points := [], remote := remote, hops := hops, cls := cls }

/-- The measured speed of a wave at a new anchor (R241); free where the path distance or the time between the
detections gives none. -/
def measured (s : State) (w : Wave) (n td : Nat) : Nat :=
  match (w.set.find? (fun r => r.entry == n)).bind Raised.dist with
  | some d =>
    if w.t0 < td then (roundOpen 10 ((d * rawS : Nat) / ((td - w.t0 : Nat) : Rat))).toNat else Config.freeNat 18 s.freeCtr
  | none => Config.freeNat 18 s.freeCtr

/-- An input re-anchors wave w at entry n (R241, R246). -/
def reanchor (s : State) (w : Wave) (n td speed : Nat) (heading : Option Nat) (cls : Nat) : State :=
  let f := profOf w.prof
  let v := if speed = 0 then s.measured w n td else speed
  s.fresh.compute { w with
    anchor := n, t0 := td, speed := min f.speedMax (max f.speedMin v), heading := heading, cls := cls }

/-- Entry n is a border lantern for peer p: the entry at which its wave opened, or one with a link to a border
reference that names it (R243). -/
def borderFor (s : State) (w : Wave) (n : Nat) : Bool :=
  match w.remote with
  | none => false
  | some (p, _, e) => e == n || (s.linksOf n).any (fun k => s.ltKind k.target == 3 && s.lt k.target 0x0E0 1 == p)

/-- A DETECT joins wave w (R243). -/
def joins (s : State) (w : Wave) (n td : Nat) (heading : Option Nat) : Bool :=
  match w.set.find? (fun r => r.entry == n) with
  | none => false
  | some r =>
    let f := profOf w.prof
    let ref := r.bearing.or w.heading
    !r.lateral && decide (r.arrival ≤ td + f.assoc ∧ td < r.arrival + f.assoc) && !s.borderFor w n
      && (match heading, ref with
          | some h, some b => decide (bdiff h b ≤ f.headTol)
          | _, _ => true)

/-- Distance of a detection from a wave's arrival at entry n. -/
def joinGap (n td : Nat) (w : Wave) : Nat :=
  match w.set.find? (fun r => r.entry == n) with
  | some r => if r.arrival ≤ td then td - r.arrival else r.arrival - td
  | none => 0

/-- An accepted DETECT joins the nearest wave or opens one (R243 to R246). -/
def detectTake (s : State) (n td speed heading : Nat) (hv : Bool) (cls : Nat) : State :=
  let h := if hv then some heading else none
  match minBy (joinGap n td) (s.wav.waves.filter (fun w => s.joins w n td h)) with
  | some w => (s.setWav (fun v => { v with dup := tabSet v.dup n td })).reanchor w n td speed h cls
  | none =>
    if s.freeWave.isSome then (s.setWav (fun v => { v with dup := tabSet v.dup n td })).openWave n td speed h cls 0 none
    else s.openWave n td speed h cls 0 none

/-- Highest latencies: from event 3 to event 4, and from the input's reception to now, its event 5 (R274, R281). -/
def wavLatency (s : State) (tRx computeUs : Nat) : State :=
  let total := (roundOpen 14 (((s.raw - tRx : Nat) : Rat) / 200)).toNat
  s.setWav (fun w => { w with latCompute := max w.latCompute (sat 16 computeUs), latTotal := max w.latTotal (sat 16 total) })

/-- The DETECT at the head of the FIFO is served (R236). -/
def detectServe (s : State) (computeUs : Nat) : State :=
  match s.wav.fifo with
  | .detect n tRx td speed heading hv cls :: r =>
    let a := (s.setWav (fun w => { w with fifo := r })).wavLatency tRx computeUs
    match a.detectBad n tRx td speed hv cls with
    | some f => a.detectDrop n f
    | none => a.detectTake n td speed heading hv cls
  | _ => s

/-! ## Received datagrams (R271 to R273) -/

/-- A datagram is dropped (R271). -/
def handDrop (s : State) (stale : Bool) : State :=
  (s.setWav (fun w => if stale then { w with hoStale := sat 16 (w.hoStale + 1) }
    else { w with hoCheck := sat 16 (w.hoCheck + 1) })).postBit wWAV 8

/-- The valid peer with the SEGMENT_ID of a datagram (R271 check 2). -/
def peerOf (s : State) (pay : List Byte) : Option Nat :=
  (List.range 16).find? (fun p =>
    s.peerValid p && decide (slice pay 4 8 = leBytes 4 (s.peerW p 1).toNat ++ leBytes 4 (s.peerW p 2).toNat))

/-- Destination address of a peer's template. -/
def peerDst (s : State) (p : Nat) : List Byte :=
  if s.peerIpLen p = 20 then slice (s.peerHdr p) (s.peerIp p + 16) 4 else slice (s.peerHdr p) (s.peerIp p + 24) 16

/-- Checks 1 to 4 of R271, then 5 and 6: the peer, or whether the drop is STALE. -/
def handCheck (s : State) (pay : List Byte) (tRx corr : Nat) (src : List Byte) : Except Bool Nat :=
  let typ := fieldBE pay 3 1
  let n := fieldBE pay 16 2
  let speed := fieldBE pay 42 2
  let w := s.act (reg wWAV 0x008)
  let sent := fieldBE pay 34 8
  let arr := fieldBE pay 26 8
  if pay.length ≠ 52 ∨ fieldBE pay 0 2 ≠ 0x5957 ∨ fieldBE pay 2 1 ≠ 1 ∨ typ = 0 ∨ 3 < typ ∨ fieldBE pay 47 1 ≠ 0
      ∨ fieldBE pay 48 4 ≠ crc32c (pay.take 48) then .error false
  else
    match s.peerOf pay with
    | none => .error false
    | some p =>
      if s.peerDst p ≠ src then .error false
      else if s.ltb.count ≤ n ∨ (s.ltKind n ≠ 1 ∧ s.ltKind n ≠ 2) ∨ s.ltEui n ≠ fieldBE pay 18 8 then .error false
      else if fld w 19 16 < fieldBE pay 46 1 ∨ speed = 0 ∨ 700 < speed ∨ !bit w 31 then .error false
      else if sent + max 1 (fld w 15 0) * 1000000 < corr ∨ corr + 1000000 ≤ sent ∨ arr + 1000000000 < corr
          ∨ corr + 60000000000 ≤ arr then .error true
      else if s.wav.seqs.any (fun x => x.1 == p && x.2.1 == fieldBE pay 12 2 && decide (tRx < x.2.2.2 + 60 * rawS)
          && decide (fieldBE pay 14 2 ≤ x.2.2.1)) then .error true
      else .ok p

/-- SEQ of an accepted datagram is noted (R271 check 6). -/
def noteSeq (s : State) (p : Nat) (pay : List Byte) (tRx : Nat) : State :=
  let wid := fieldBE pay 12 2
  ((s.setWav (fun w => { w with
      seqs := w.seqs.filter (fun x => !(x.1 == p && x.2.1 == wid)) ++ [(p, wid, fieldBE pay 14 2, tRx)],
      hoRecv := (w.hoRecv + 1) % 65536 }))).postBit wWAV 7

/-- A wave is freed (R264). -/
def endWave (s : State) (num : Nat) : State :=
  (s.setWav (fun w => { w with waves := w.waves.filter (fun x => x.num != num) })).postBit wWAV 1

/-- CANCEL: entries not yet raised are released at their raise time, and the wave ends (R272). -/
def cancelWave (s : State) (w : Wave) : State :=
  let l := (w.set.filter (fun r => decide (s.raw < r.raise))).map (fun (r : Raised) => { r with release := r.raise })
  (s.waveSend w l).1.endWave w.num

/-- What an accepted datagram does (R272, R273). -/
def handTake (s : State) (p : Nat) (pay : List Byte) (tRx : Nat) : State :=
  let n := fieldBE pay 16 2
  let wid := fieldBE pay 12 2
  let td := s.tbs.rawOf (fieldBE pay 26 8)
  let speed := fieldBE pay 42 2
  let h := some (fieldBE pay 44 1)
  let cls := fieldBE pay 45 1
  let wave := s.wav.waves.find? (fun (w : Wave) => match w.remote with | some r => r.1 == p && r.2.1 == wid | none => false)
  match fieldBE pay 3 1 with
  | 1 =>
    let a := s.noteSeq p pay tRx
    let f := profOf (a.profWords (a.lt n 0x00E 1))
    if 3 < cls then a.detectDrop n (fun w => { w with dRange := sat 16 (w.dRange + 1) })
    else if (f.classes >>> cls) % 2 = 0 then a.detectDrop n (fun w => { w with dFilter := sat 16 (w.dFilter + 1) })
    else a.openWave n td speed h cls (fieldBE pay 46 1 + 1) (some (p, wid, n))
  | 2 =>
    match wave with
    | some w => (s.noteSeq p pay tRx).reanchor w ((w.remote.map (·.2.2)).getD n) td speed h cls
    | none => s.handDrop true
  | _ =>
    match wave with
    | some w => (s.noteSeq p pay tRx).cancelWave w
    | none => s.handDrop true

/-- The datagram at the head of the FIFO is served, when its TYPE is one that the row names (R271). -/
def handServe (s : State) (typ computeUs : Nat) : State :=
  match s.wav.fifo with
  | .datagram pay tRx corr src :: r =>
    let t := fieldBE pay 3 1
    if (if t = 2 ∨ t = 3 then t else 1) ≠ typ then s
    else
      let a := (s.setWav (fun w => { w with fifo := r })).wavLatency tRx computeUs
      match a.handCheck pay tRx corr src with
      | .error stale => a.handDrop stale
      | .ok p =>
        let n := fieldBE pay 16 2
        if a.wavStateBad n then (a.detectDrop n (fun w => { w with dState := sat 16 (w.dState + 1) })).postBit wWAV 8
        else a.handTake p pay tRx
  | _ => s

/-- A wave has reached its end (R264). -/
def waveEndDue (s : State) (num : Nat) : Bool :=
  match s.wav.waves.find? (fun w => w.num == num) with
  | some w => decide (waveEnds w ≤ s.raw)
  | none => false

/-- The peers whose words were taken up are checked (R270). -/
def peersTaken (s : State) (l : List Nat) : State :=
  (List.range 16).foldl (fun t p =>
    let lo := reg wWAV (0x1000 + 0x80 * p)
    if l.any (fun a => decide (lo ≤ a ∧ a < lo + 0x80)) ∧ bit (t.peerW p 0) 31 ∧ !t.peerValid p then t.postBit wWAV 9
    else t) s

end State

/-! ## Meanings -/

/-- WAV_DETECT_PROCESS (R236, R243 to R246). -/
def execWavDetectProcess (dt computeUs : Nat) (s : State) : Host.Outcome State Fault Refusal :=
  .next (s.occurIn dt wWAV (fun t => t.detectServe computeUs))

/-- WAV_HANDOFF_OPEN (R271, R272); a datagram of no TYPE is dropped here too. -/
def execWavHandoffOpen (dt computeUs : Nat) (s : State) : Host.Outcome State Fault Refusal :=
  .next (s.occurIn dt wWAV (fun t => t.handServe 1 computeUs))

/-- WAV_HANDOFF_UPDATE (R271 to R273). -/
def execWavHandoffUpdate (dt computeUs : Nat) (s : State) : Host.Outcome State Fault Refusal :=
  .next (s.occurIn dt wWAV (fun t => t.handServe 2 computeUs))

/-- WAV_HANDOFF_CANCEL (R271 to R273). -/
def execWavHandoffCancel (dt computeUs : Nat) (s : State) : Host.Outcome State Fault Refusal :=
  .next (s.occurIn dt wWAV (fun t => t.handServe 3 computeUs))

/-- WAVE_END (R264). -/
def execWaveEnd (dt wave : Nat) (s : State) : Host.Outcome State Fault Refusal :=
  .next (s.occurIn dt wWAV (fun t => if t.waveEndDue wave then t.endWave wave else t))

end Sys2Proof.Machine
end

