-- ==== Sys2Proof/Machine/Boundary.lean ====
section
/-! DEFINITION. The boundaries of the apply domains: TICK, SLOT, PERIOD and CYCLE, with the shadow copies, the handle
commands that complete there and the work each begins (R58, R87 to R92, R149, R208, R287, R339, R429, R559). -/

namespace Sys2Proof.Machine

namespace State

/-! ## TICK (R149, R208, R559, R739) -/

/-- The next TICK boundary has come (R559). -/
def tickDue (s : State) : Bool := decide (s.tbs.tickRaw ≤ s.raw)

/-- The target of the TICK boundary after this one (R559). -/
def tickAim (s : State) : State :=
  { s with tbs := { s.tbs with tickPrev := some s.raw, tickTarget := TbsUnit.tickAfter s.corrNow false } }

/-- The shadow copies of the TICK domain, what they bring with them, and the handle commands that complete (R58,
R87). -/
def tickCopies (s : State) : State :=
  let l := (s.eligible s.cyc (fun _ e => decide (e = .tick))).filter (fun a => !s.shadowBad a)
  let a := (((((s.copyDomain s.cyc .tick)).curvesTaken l).rulesTaken l).peersTaken l)
  a.strBoundary s.cyc (fun t _ => t == tLANTERN || t == tHEAD || t == tPROGRAMME)

/-- The commit queue's commands complete (R149). -/
def tickEdits (s : State) : State := if s.blockOn wLTB then s.editAll s.ltb.queue.length else s

/-- The scene engine's part of the tick. -/
def tickScene (s : State) (solveUs : Nat) : State := if s.blockOn wSCN then s.scnTick solveUs else s

/-- A TICK boundary: its copies, its commits, event 4 of a transition to LIT and the tick's work. -/
def tickWork (s : State) (solveUs : Nat) : State :=
  (((s.tickAim.tickCopies).tickEdits).litEngines).tickScene solveUs

/-! ## PERIOD (R58, R87, R287) -/

/-- A PERIOD boundary of an enabled group: its copies, the handle command that completes, and its work. -/
def periodBegin (s : State) (g : Nat) (meas : List SinkMeas) : State :=
  let r := reg wMST (0x100 + 0x20 * g)
  let test := (s.eligible s.cyc (fun _ e => decide (e = .period g))).contains r && !s.shadowBad r
  let a := (s.copyDomain s.cyc (.period g)).periodFaults g meas
  (a.strBoundary s.cyc (fun t i => t == tSINK && i / 7 == g)).periodWork g test

/-! ## CYCLE (R58, R87, R339, R350) -/

/-- Fabric cycle of a boundary at stamp tc; before the first pulse after a restart of the raw counter the stamps tell no
count of the die, and the boundary is now (R88, R396). -/
def boundaryCyc (s : State) (tc : Nat) : Nat := if s.mtr.restarted ∨ s.cyc < 2 * tc then s.cyc else 2 * tc

/-- A CYCLE boundary of feeder f at raw count tc: the cycle that ends, then the copies and the handle command that
completes. -/
def cycleBegin (s : State) (f tc : Nat) (img : ImgFeeder) (syn : Bool) : State :=
  let c := s.boundaryCyc tc
  let a := s.lineBoundary f tc img syn
  let b := (a.takeUpFeeder f c tc).copyDomain c (.cycle f)
  b.strBoundary c (fun t i => (t == tFEEDER && i == f) || (t == tMETER && a.chanFeeder i == some f))

end State

open State

/-- TICK_BOUNDARY (R559): `solveUs` is the time the solves take (R228). -/
def execTickBoundary (dt solveUs : Nat) (s : State) : Host.Outcome State Fault Refusal :=
  .next (s.occurIn dt wTBS (fun t => if t.tickDue then t.tickWork solveUs else t))

/-- SLOT_BOUNDARY (R429). -/
def execSlotBoundary (dt lane : Nat) (rf : RfCheck) (s : State) : Host.Outcome State Fault Refusal :=
  .next (s.occurIn dt wLNE (fun t => if lane < 4 then t.slotWork lane rf else t))

/-- PERIOD_BOUNDARY (R287). -/
def execPeriodBoundary (dt group : Nat) (meas : List SinkMeas) (s : State) : Host.Outcome State Fault Refusal :=
  .next (s.occurIn dt wMST (fun t =>
    if group < 8 ∧ t.groupEnabled group ∧ t.atPeriod group then t.periodBegin group meas else t))

/-- CYCLE_BOUNDARY (R332, R338 to R340): the island takes the samples converted since the last ones, and the first
crossing found in them, or waiting, is a boundary. -/
def execCycleBoundary (dt feeder : Nat) (samples : List (List Int)) (s : State) : Host.Outcome State Fault Refusal :=
  let t := (s.elapse dt).takeSamples samples
  .next (
    match t.imgFeeder feeder with
    | some img =>
      if t.mtr.powered then
        let next := t.nextCrossing feeder img
        let a := t.setFeed feeder (fun x => { x with cross := (x.cross.dropWhile (fun c => next != some c)).drop 1 })
        match next with
        | some tc => a.cycleBegin feeder tc img false
        | none => a
      else t
    | none => t)

/-- CYCLE_SYNTH_TIMEOUT (R91, R339): with no crossing in the samples taken, a boundary is synthesised. -/
def execCycleSynthTimeout (dt feeder : Nat) (samples : List (List Int)) (s : State) : Host.Outcome State Fault Refusal :=
  let t := (s.elapse dt).takeSamples samples
  .next (
    match t.imgFeeder feeder with
    | some img =>
      if t.mtr.powered ∧ t.synthDue feeder img then t.cycleBegin feeder (State.synthAt (t.feed feeder) img) img true else t
    | none => t)

end Sys2Proof.Machine
end

