-- ==== Sys2Proof/Machine/Bus.lean ====
section
/-! DEFINITION. Any access of a bus master to an address: reads with their latches, writes of every register, guarded
pairs, locks, clearing by sequence, and the memories (R71 to R112, R125, R608). -/

namespace Sys2Proof.Machine

namespace State

/-! ## Clearing by sequence (R96, R98) -/

/-- The masked bits that a clearing write with the SEQ value S clears (R96). -/
def clearable (r : StatReg) (mask S : Nat) : List Nat :=
  (List.range 24).filter (fun b =>
    mask / 2 ^ b % 2 == 1 && decide ((r.seq + 256 - S) % 256 ≤ (r.seq + 256 - tabGetD 0 r.marks b % 256) % 256))

/-- A status register after bits of it are cleared. -/
def clearBits (r : StatReg) (l : List Nat) : StatReg :=
  { r with
    bits := r.bits &&& packBits 24 (fun i => !l.contains i),
    marks := r.marks.filter (fun m => !l.contains m.1) }

/-- A write of the word v to the status register at a (R96, R98). -/
def statClear (s : State) (a : Nat) (v : Word) : State :=
  let r := s.statOf a
  s.setStat a (clearBits r (clearable r (v.toNat % 2 ^ 24 &&& statMask a) (v.toNat / 2 ^ 24)))

/-! ## Writes that registers of the blocks take -/

/-- MST_CMD (R323). -/
def mstCommand (s : State) (v : Word) : State :=
  match fld v 31 28 with
  | 1 => s.calStart (fld v 18 16)
  | 2 => s.mstAckSink (fld v 5 0)
  | _ => s

/-- QDM_CMD (R540). -/
def qdmCommand (s : State) (v : Word) : State :=
  match fld v 31 28 with
  | 1 => s.qResume (fld v 5 0)
  | 2 => s.qFlush (fld v 5 0)
  | _ => s

/-- REC_CMD (R646). -/
def recCommand (s : State) (v : Word) : State :=
  match fld v 31 28 with
  | 1 => s.recDumpCmd (fld v 5 0)
  | 2 => s.recSoftCmd (fld v 5 0)
  | _ => s

/-- MTR_ISLCTL (R370). -/
def islCommand (s : State) (v : Word) : State :=
  let t := s.setCfg (reg wMTR 0x010) (v &&& 0xF000001F)
  match fld v 31 28 with
  | 1 => t.islSealrst
  | 2 => t.islSubst (fld v 4 0)
  | 3 => t.islRelease (fld v 4 0)
  | 4 => t.islCheck
  | _ => t

/-- FLT_VERGECMD (R765). The access itself does not say whether the element passes its test: that is left open. -/
def vergeCommand (s : State) (v : Word) : State :=
  let t := s.setCfg (reg wFLT 0x054) (v &&& 0xF000033F)
  match fld v 31 28 with
  | 1 => t.fresh.vergeTest (fld v 9 8) (fld v 5 0) (Config.freeNat 20 t.freeCtr % 2 == 1)
  | 2 => t.vergeFree (fld v 9 8) (fld v 5 0)
  | _ => t

/-- A guarded register of the block in window w takes its value (R99); `addr` is the address of the first write as
issued (R111). What blowing a fuse reads back is left open. -/
def wgTake (s : State) (master w off addr : Nat) (v : Word) : State :=
  let a := reg w off
  if a = reg wSYS 0x040 then s.pwrCommand v
  else if a = reg wSYS 0x048 then s.rstCommand v
  else if a = reg wSYS 0x04C then s.bootOk v
  else if a = reg wSYS 0x060 then s.fresh.fuseProgram v (Config.freeNat 21 s.freeCtr % 2 == 1)
  else if a = reg wMTR 0x010 then s.islCommand v
  else if a = reg wACC 0x004 then s.accCfgSet master addr v
  else if w = wACC ∧ 0x010 ≤ off ∧ off ≤ 0x01C then s.accPulseSet master addr ((off - 0x010) / 4) v
  else if a = reg wTBS 0x048 then s.tbsAdjWord v
  else if a = reg wRTC 0x01C then s.rtcCommand v
  else if a = reg wKEY 0x00C then s.keyCmdWord v
  else if a = reg wUPD 0x010 then s.updCmdWord v
  else if a = reg wFLT 0x014 then s.wdtKick v
  else if a = reg wFLT 0x054 then s.vergeCommand v
  else if a = reg wFLT 0x080 then s.partestArm v
  else
    match regInfo s.sys.fuses a with
    | some i => s.setCfg a (v &&& i.mask)
    | none => s

/-! ## Shadowed registers (R86 to R92, R463, R471) -/

/-- What a shadow taken up at once brings with it, by its address. -/
def takenNow (s : State) (a : Nat) (d : Dom) (l : List Nat) : State :=
  match d with
  | .slot n => s.slotTaken n l
  | .now => if a = reg wLNE 0x8014 then s.fcOwn (s.lne.fcOwner.1, s.netIdx) else s
  | _ => s

/-- The shadows that a write of the register at a makes eligible (R89). -/
def marked (a : Nat) : List Nat :=
  if (a - 0x40000000) / 0x10000 = wLNE ∧ a % 0x10000 < 0x8000 then
    if a % 0x2000 = 0x014 then [] else if a % 0x2000 = 0x018 then [a - 4, a] else [a]
  else [a]

/-- The store of a shadowed register: its shadow, and the copy at once where its instance has no boundaries. -/
def rwsStore (s : State) (a : Nat) (i : RegInfo) (v : Word) : State :=
  let t := s.shadowWrite a i.mask v
  let l := marked a
  if t.noBoundary i.dom && !t.heldByStop a then (t.takeUpAll (t.cyc + 1) l).takenNow a i.dom l else t

/-- What the lock rules of lane registers let through: none, all, or all but the bits of a mask (R463, R471). -/
def lneLock (s : State) (o : Nat) : Option Word :=
  let n := o / 0x2000
  let p := o % 0x2000
  if n < 4 then
    if !s.laneEnabled n then none
    else if p = 0x008 ∨ p = 0x010 ∨ p = 0x014 ∨ p = 0x018 then some 0xFFFFFFFF
    else if p = 0x00C then some 0xC0000000
    else none
  else if n = 4 ∧ p = 0x010 ∧ (List.range 4).any s.laneEnabled then some 0xFFFFFFFF
  else none

/-- A calibration field of a sink that a handle not STOPPED owns (R319, R327). -/
def vfcalLocked (s : State) (a : Nat) : Bool :=
  let o := a - reg wMST 0
  if reg wMST 0x400 ≤ a ∧ a < reg wMST 0xB00 ∧ o % 0x20 ≠ 0 then
    match s.sinkOwner ((o - 0x400) / 0x20) with
    | some h => s.hst h.1 h.2 != .stopped && s.hst h.1 h.2 != .free
    | none => false
  else false

/-- A write of a shadowed register (R86, R109, R110). -/
def rwsWrite (s : State) (master addr a : Nat) (i : RegInfo) (v : Word) : State :=
  if s.vfcalLocked a then s.lockedWrite master addr v true
  else if (a - 0x40000000) / 0x10000 = wLNE then
    match s.lneLock (a % 0x10000) with
    | none => s.rwsStore a i v
    | some m =>
      let t := if m = 0xFFFFFFFF then s else s.rwsStore a i ((s.cfg a &&& m) ||| (v &&& ~~~m))
      t.lockedWrite master addr v false
  else s.rwsStore a i v

/-! ## Lockable registers (R106, R109, R110, R350 to R352) -/

/-- A field of a converter channel: its copy is taken up at once where no feeder uses the channel. -/
def chanStore (s : State) (a n : Nat) (v : Word) : State :=
  let t := (s.setCfg a v).markChanged a
  if t.noBoundary (.chan n) then t.takeUpChan (t.cyc + 1) t.mtr.stamp n else t

/-- A write of a retained field of channel n (R351, R352): SENSOR is written only while its METER handle is
STOPPED. -/
def chanWrite (s : State) (master addr a n : Nat) (i : RegInfo) (v : Word) : State :=
  let fixed := decide (a = reg wMTR (0x100 + 0x20 * n) ∧ n < 16) && !s.isStopped tMETER n
  if s.sealed then s.lockedWrite master addr v fixed
  else if fixed then
    (s.chanStore a n ((s.cfg a &&& 0xC0000000) ||| (v &&& i.mask &&& 0x3FFFFFFF))).lockedWrite master addr v true
  else s.chanStore a n (v &&& i.mask)

/-- A write of a WL register. -/
def wlWrite (s : State) (master addr a : Nat) (i : RegInfo) (v : Word) : State :=
  match i.dom with
  | .chan n => s.chanWrite master addr a n i v
  | _ =>
    let lock := if (a - 0x40000000) / 0x10000 = wPIN then bit (s.cfg (reg wPIN 0x004)) 0 else s.sealed
    if lock then s.lockedWrite master addr v false else s.setCfg a (v &&& i.mask)

/-! ## Plain registers with a rule of their own -/

/-- STR: handle and arguments keep their values while a command is pending (R59). -/
def strStore (s : State) (a : Nat) (v : Word) : State := if s.str.pend.isSome then s else s.setCfg a v

/-- Milestone m's fields, written only while stopped (R569). -/
def msStore (s : State) (master addr a m : Nat) (v : Word) : State :=
  if s.isStopped tMILESTONE m then s.setCfg a v else s.lockedWrite master addr v true

/-- RING and RINGCFG of queue q (R539). -/
def ringStore (s : State) (master addr a q : Nat) (v : Word) : State :=
  if s.qEngine q then s.lockedWrite master addr v false
  else if !s.isStopped tQUEUE q then s.lockedWrite master addr v true
  else if s.qCount q ≠ 0 then s.lockedWrite master addr v false
  else s.setCfg a v

/-- The other registers of window w, written only while its ENABLE is 0 (R527). -/
def winStore (s : State) (master addr a w : Nat) (v : Word) : State :=
  if bit (s.winReg w 0) 31 then s.lockedWrite master addr v false else s.setCfg a v

/-- Registers of a queue or a translation window, at offset o. -/
def qdmStore (s : State) (master addr a o : Nat) (v : Word) : State :=
  if o < 0x2000 then
    let q := (o - 0x1000) / 0x40
    if (o - 0x1000) % 0x40 = 0x0C then s.tailWrite master addr q (fld v 15 0) v else s.ringStore master addr a q v
  else
    let w := (o - 0x2000) / 0x20
    if (o - 0x2000) % 0x20 = 0 then s.winWrite master addr w v else s.winStore master addr a w v

/-- A write of USB_CTRL: a port that detaches is configured no more, and has no speed (R715). -/
def usbCtrlWrite (s : State) (v : Word) : State :=
  let t := s.setCfg (reg wUSB 0x004) v
  if bit v 0 then t else { t with usb := { t.usb with configured := false, highSpeed := false } }

/-- A write of an RW register, its value masked to its fields. -/
def rwStore (s : State) (master addr a : Nat) (v : Word) : State :=
  let o := a % 0x10000
  match (a - 0x40000000) / 0x10000 with
  | 0x01 => s.strStore a v
  | 0x04 => if o = 0x034 then s.euiHiWrite v else s.setCfg a v
  | 0x09 => s.qdmStore master addr a o v
  | 0x0A =>
    if o = 0x060 then s.ppsCfgWrite v
    else if 0x400 ≤ o then s.msStore master addr a ((o - 0x400) / 0x20) v
    else s.setCfg a v
  | 0x0B => if 0x040 ≤ o ∧ o ≤ 0x05C then s.almWrite a v else if o = 0x028 then s.wakeperStore v else s.setCfg a v
  | 0x0C => if o = 0x024 then s.recTsel v else if 0x600 ≤ o then s.recEdgeWrite master addr a v else s.setCfg a v
  | 0x0D => if o ≠ 0x02C ∧ s.key.job.isSome then s else s.setCfg a v
  | 0x12 => if o = 0x004 then s.usbCtrlWrite v else s.setCfg a v
  | _ => s.setCfg a v

/-- A write to an address that holds no stored register: a command register, the step window, or nothing (R79). -/
def cmdWrite (s : State) (a : Nat) (v : Word) : State :=
  if a = reg wSTR 0x030 then s.strCommand (fld v 3 0)
  else if reg wSCN 0x084 ≤ a ∧ a ≤ reg wSCN 0x090 then
    let k := s.stepSel ((a - reg wSCN 0x084) / 4)
    match regInfo s.sys.fuses k with
    | some i => s.rwsStore k i v
    | none => s
  else if a = reg wLTB 0x018 then s.editCommand (fld v 1 0)
  else if a = reg wMST 0x00C then s.mstCommand v
  else if a = reg wLNE 0x8004 then s.lneCommand v
  else if a = reg wQDM 0x004 then s.qdmCommand v
  else if a = reg wREC 0x014 then s.recCommand v
  else s

/-- An ordinary write to the register at a first-image address; `addr` is the address as issued. -/
def regStore (s : State) (master addr a : Nat) (v : Word) : State :=
  if statMask a ≠ 0 then s.statClear a v
  else
    match regInfo s.sys.fuses a with
    | none => s.cmdWrite a v
    | some i =>
      match i.acc with
      | .rw => s.rwStore master addr a (v &&& i.mask)
      | .rws => s.rwsWrite master addr a i v
      | .wl => s.wlWrite master addr a i v
      | .w1 => s.tpolicyWrite master addr v
      | .wg => s

/-- The register at a first-image address is a WG register. -/
def isWG (s : State) (a : Nat) : Bool :=
  match regInfo s.sys.fuses a with
  | some i => i.acc == .wg
  | none => false

/-! ## The 32-bit access to a register (R71 to R105) -/

/-- A write to the upper half of the guarded block in window w (R99, R101, R103). -/
def upperWrite (s : State) (w master addr : Nat) (v : Word) : State :=
  let t := s.expirePair w
  let off := firstOff w addr
  match t.openPair w with
  | none => t.guardFail w off 0 v.toNat 4 master
  | some p =>
    if p.off ≠ off then t.failPair p 3 v.toNat
    else if v = ~~~p.value then (t.dropPair w).wgTake p.master w off p.addr p.value
    else t.failPair p 2 v.toNat

/-- A write to the lower half of the guarded block in window w (R99, R101, R105). -/
def lowerWrite (s : State) (w master addr : Nat) (v : Word) : State :=
  let t := s.intervene w 0
  if t.isWG (firstAddr addr) then t.openPairAt w (firstOff w addr) addr master v else t.regStore master addr (firstAddr addr) v

/-- A 32-bit write to the register space. -/
def regWrite (s : State) (master addr size : Nat) (v : Word) : State :=
  let c := s.errCause master addr size
  if c ≠ 0 then s.busError master addr true c
  else
    let t := s.answer 0 false
    let w := (windowOf addr).getD 0
    if !guarded w then t.regStore master addr (firstAddr addr) v
    else if upperHalf addr then t.upperWrite w master addr v
    else t.lowerWrite w master addr v

/-- The value that a read of a _LO register latches into its _HI register, which stands four bytes above (R229, R469,
R544, R576, R645). -/
def latchHi (s : State) (a : Nat) : Option Nat :=
  let o := a % 0x10000
  match (a - 0x40000000) / 0x10000 with
  | 0x02 => if o = 0x028 then some (half64 true s.scn.lastEff) else none
  | 0x08 => if o % 0x2000 = 0x020 ∧ o < 0x8000 then some (half64 true (s.asnShown (o / 0x2000))) else none
  | 0x09 =>
    if 0x1000 ≤ o ∧ o < 0x2000 ∧ (o - 0x1000) % 0x40 = 0x18 then some (half64 true (s.queue ((o - 0x1000) / 0x40)).faultAddr)
    else none
  | 0x0A =>
    if o = 0x030 then some (half64 true (toBits 64 s.tbs.offset))
    else if o = 0x038 then some (half64 true (toBits 64 s.tbs.rate))
    else if o = 0x050 then some (half64 true s.tbs.adjRaw)
    else if o = 0x064 then some (half64 true s.tbs.ppsRaw)
    else if 0x400 ≤ o ∧ o < 0x800 ∧ (o - 0x400) % 0x20 = 0x18 then some (half64 true (s.mile ((o - 0x400) / 0x20)).fireRaw)
    else none
  | 0x0C => if o = 0x008 then some (half64 true s.evr.next) else none
  | _ => none

/-- A read with no rule of its own: the register's value, and the latch of its _HI register. -/
def plainRead (s : State) (a : Nat) : State :=
  let v := s.view a
  (match s.latchHi a with
   | some h => s.setLatch (a + 4) (BitVec.ofNat 32 h)
   | none => s).answer v false

/-- A read of the register at a first-image address. -/
def regLoad (s : State) (a : Nat) : State :=
  let o := a % 0x10000
  match (a - 0x40000000) / 0x10000 with
  | 0x07 =>
    if 0x400 ≤ o ∧ o < 0xC00 ∧ (o % 16 = 0 ∨ o % 16 = 8) then
      let f := (o - 0x400) / 0x200
      let e := (o - 0x400) / 0x80 % 4
      let k := (o - 0x400) / 0x10 % 8
      if o % 16 = 0 then s.slotRead f e k else s.slotCountRead f e k
    else s.plainRead a
  | 0x0A =>
    if o = 0x010 then s.nowRead
    else if 0x100 ≤ o ∧ o < 0x1E0 ∧ (o - 0x100) % 0x20 = 0 then s.tsqRead ((o - 0x100) / 0x20)
    else s.plainRead a
  | 0x0B =>
    if o = 0x008 then (s.dateRead s.subNow.toNat).fresh
    else if o = 0x00C then s.timeRead
    else if o = 0x010 then s.subRead
    else s.plainRead a
  | _ => s.plainRead a

/-- A 32-bit read of the register space (R85, R101, R104). -/
def regRead (s : State) (master addr size : Nat) : State :=
  let c := s.errCause master addr size
  if c ≠ 0 then s.busError master addr false c
  else
    let w := (windowOf addr).getD 0
    let t := if guarded w then s.intervene w 0 else s
    if upperHalf addr then t.answer 0 false else t.regLoad (firstAddr addr)

/-! ## Any access -/

/-- The address lies in the retained SRAM (R608). -/
def isRetained (addr : Nat) : Bool := decide (0x21000000 ≤ addr ∧ addr < 0x21001000)

/-- A host core's 64-bit access to the register space is two 32-bit accesses (R72). -/
def isSplit (master addr size : Nat) : Bool := size == 8 && decide (master ≤ 3) && addr % 8 == 0

/-- The access falls on something: registers, retained SRAM or memory. -/
def reaches (addr size : Nat) : Bool := isRegSpace addr || isRetained addr || memSpan addr size

/-- An access to the retained SRAM is answered (R608). -/
def retainedOk (master addr size : Nat) : Bool :=
  masterOk master && [1, 2, 4].contains size && addr % size == 0

/-- A write of `size` bytes by a bus master. -/
def busWrite (s : State) (master addr size v : Nat) : State :=
  if !s.powered then s
  else if isRegSpace addr then
    if isSplit master addr size then
      (s.regWrite master addr 4 (BitVec.ofNat 32 v)).regWrite master (addr + 4) 4 (BitVec.ofNat 32 (v / 2 ^ 32))
    else s.regWrite master addr size (BitVec.ofNat 32 v)
  else if isRetained addr then
    if retainedOk master addr size then (s.hostRsWrite (addr % 0x1000) (leBytes size v)).answer 0 false else s.answer 0 true
  else (s.masterWrite addr (leBytes size v)).answer 0 false

/-- Two 32-bit reads of one 64-bit access: the answer holds both words, and is an error where either was (R72). -/
def joinReads (s : State) (lo : BusReply) : State :=
  (s.answer lo.data (lo.error || s.regs.reply.error)).answerHi s.regs.reply.data

/-- A read of `size` bytes by a bus master (R72, R128). -/
def busRead (s : State) (master addr size : Nat) : State :=
  if !s.powered then s
  else if isRegSpace addr then
    if isSplit master addr size then
      let t := s.regRead master addr 4
      (t.regRead master (addr + 4) 4).joinReads t.regs.reply
    else s.regRead master addr size
  else if isRetained addr then
    if retainedOk master addr size then s.rsRead (addr % 0x1000) size none else s.answer 0 true
  else if size = 8 then
    (s.answer (BitVec.ofNat 32 (s.memLE addr 4)) false).answerHi (BitVec.ofNat 32 (s.memLE (addr + 4) 4))
  else s.answer (BitVec.ofNat 32 (s.memLE addr size)) false

/-- An access by a row of the table: it faults where nothing stands at the address. -/
def reachOr (addr size : Nat) (t : State) : Host.Outcome State Fault Refusal :=
  if reaches addr size then .next t else .fault (.noMemory addr)

end State

open State

/-- REGISTER_WRITE (R73). -/
def execRegisterWrite (dt master addr size value : Nat) (s : State) : Host.Outcome State Fault Refusal :=
  reachOr addr size ((s.elapse dt).busWrite master addr size value)

/-- ERROR_RESPONSE (R81, R85): an access, which gets an error response where R81 says so. -/
def execErrorResponse (dt master addr size : Nat) (write : Bool) (value : Nat) (s : State) :
    Host.Outcome State Fault Refusal :=
  reachOr addr size (if write then (s.elapse dt).busWrite master addr size value else (s.elapse dt).busRead master addr size)

/-- STATUS_CLEAR (R96). -/
def execStatusClear (dt master addr : Nat) (value : Word) (s : State) : Host.Outcome State Fault Refusal :=
  reachOr addr 4 ((s.elapse dt).busWrite master addr 4 value.toNat)

/-- STATUS_EVENT_POST (R95). -/
def execStatusEventPost (dt addr : Nat) (s : State) : Host.Outcome State Fault Refusal :=
  .next (s.occur dt (fun t => if statMask (firstAddr addr) ≠ 0 then t.postHeld (firstAddr addr) else t))

/-- GUARD_PAIR_OPEN (R99). -/
def execGuardPairOpen (dt master addr : Nat) (value : Word) (s : State) : Host.Outcome State Fault Refusal :=
  reachOr addr 4 ((s.elapse dt).busWrite master addr 4 value.toNat)

/-- GUARD_STRAY_WRITE (R101). -/
def execGuardStrayWrite (dt master addr : Nat) (value : Word) (s : State) : Host.Outcome State Fault Refusal :=
  reachOr addr 4 ((s.elapse dt).busWrite master addr 4 value.toNat)

/-- GUARD_TIMEOUT (R101). -/
def execGuardTimeout (dt win : Nat) (s : State) : Host.Outcome State Fault Refusal :=
  .next (s.occur dt (fun t => t.expirePair win))

/-- LO_HI_LATCH_READ (R576). -/
def execLoHiLatchRead (dt master addr size : Nat) (s : State) : Host.Outcome State Fault Refusal :=
  reachOr addr size ((s.elapse dt).busRead master addr size)

end Sys2Proof.Machine
end

