-- ==== Sys2Proof/Machine/Ethernet.lean ====
section
/-! DEFINITION. The two Ethernet MACs: transmission with one-step time insertion, reception into the ERX
queues or the wave engine's FIFO, and the link (R234, R514, R530, R531, R563, R564, R583, R584). -/

namespace Sys2Proof.Machine

/-! ## Frames -/

/-- A frame carries an IEEE 802.1Q tag. -/
def ethTagged (f : List Byte) : Bool := fieldBE f 12 2 == 0x8100

/-- Offset of the EtherType that follows the addresses and the tag, if any. -/
def ethTypeOff (f : List Byte) : Nat := if ethTagged f then 16 else 12

/-- Priority code point; 0 for an untagged frame (R514). -/
def ethPcp (f : List Byte) : Nat := if ethTagged f then fieldBE f 14 2 / 8192 else 0

/-- Offsets of the IP header and of the UDP header of a UDP frame, and whether it is IPv6. -/
def udpOffs (f : List Byte) : Option (Nat × Nat × Bool) :=
  let o := ethTypeOff f
  let ip := o + 2
  if fieldBE f o 2 = 0x0800 then
    let ihl := 4 * (fieldBE f ip 1 % 16)
    if fieldBE f ip 1 / 16 = 4 ∧ fieldBE f (ip + 9) 1 = 17 ∧ 20 ≤ ihl ∧ ip + ihl + 8 ≤ f.length then
      some (ip, ip + ihl, false)
    else none
  else if fieldBE f o 2 = 0x86DD then
    if fieldBE f ip 1 / 16 = 6 ∧ fieldBE f (ip + 6) 1 = 17 ∧ ip + 48 ≤ f.length then some (ip, ip + 40, true) else none
  else none

/-- UDP destination port. -/
def udpPort (f : List Byte) (u : Nat) : Nat := fieldBE f (u + 2) 2

/-- UDP payload. -/
def udpPayload (f : List Byte) (u : Nat) : List Byte := slice f (u + 8) (fieldBE f (u + 4) 2 - 8)

/-- The UDP checksum of a frame recomputed (R564). -/
def udpSum (f : List Byte) (ip u : Nat) (six : Bool) : List Byte :=
  let len := fieldBE f (u + 4) 2
  let z := State.patch f (u + 6) [0, 0]
  let pseudo :=
    if six then slice z (ip + 8) 32 ++ beBytes 4 len ++ [0, 0, 0, 17]
    else slice z (ip + 12) 8 ++ [0, 17] ++ beBytes 2 len
  let c := State.inetSum (pseudo ++ slice z u len)
  State.patch z (u + 6) (beBytes 2 (if c = 0 then 65535 else c))

/-- PTP message at an offset: a Sync with twoStepFlag 0 that has room for originTimestamp (R564). -/
def ptpSync (f : List Byte) (o : Nat) : Bool :=
  decide (o + 44 ≤ f.length) && fieldBE f o 1 % 16 == 0 && fieldBE f (o + 6) 1 / 2 % 2 == 0

/-- originTimestamp for a corrected time in ns (R564). -/
def ptpStamp (c : Nat) : List Byte := beBytes 6 (c / 1000000000 % 2 ^ 48) ++ beBytes 4 (c % 1000000000)

namespace State

/-- MAC p. -/
def ethOf (s : State) (p : Nat) : EthUnit := if p = 0 then s.eth0 else s.eth1

/-- Change MAC p. -/
def setEth (s : State) (p : Nat) (f : EthUnit → EthUnit) : State :=
  if p = 0 then { s with eth0 := f s.eth0 } else { s with eth1 := f s.eth1 }

/-- Window of MAC p. -/
def wETH (p : Nat) : Nat := if p = 0 then wETH0 else wETH1

/-- A field of a register of MAC p. -/
def ethF (s : State) (p off hi lo : Nat) : Nat := s.cfgF (wETH p) off hi lo

/-- TSLAT of the speed in force (R563, R584). -/
def tslatOff (s : State) (p : Nat) : Nat :=
  match (s.ethOf p).speed with
  | 10 => 0x034 | 100 => 0x030 | _ => 0x02C

/-- Latencies in raw ticks, of transmission and of reception. -/
def tslatTx (s : State) (p : Nat) : Nat := (roundOpen 13 ((s.ethF p (s.tslatOff p) 31 16 : Nat) / 5 : Rat)).toNat
def tslatRx (s : State) (p : Nat) : Nat := (roundOpen 13 ((s.ethF p (s.tslatOff p) 15 0 : Nat) / 5 : Rat)).toNat

/-- One-step insertion into a frame whose compensated SFD has a corrected time (R564). -/
def oneStep (s : State) (p : Nat) (f : List Byte) (c : Nat) : List Byte :=
  if s.ethF p 0x028 0 0 = 0 then f
  else
    let o := ethTypeOff f
    if fieldBE f o 2 = 0x88F7 then
      if s.ethF p 0x028 1 1 = 1 ∧ ptpSync f (o + 2) then patch f (o + 36) (ptpStamp c) else f
    else
      match udpOffs f with
      | some (ip, u, six) =>
        if udpPort f u = 319 ∧ s.ethF p 0x028 (if six then 3 else 2) (if six then 3 else 2) = 1 ∧ ptpSync f (u + 8) then
          udpSum (patch f (u + 42) (ptpStamp c)) ip u six
        else f
      | none => f

/-- The ETX queue of port p whose fetched frame goes next: lowest LPRIO, then lowest number, LAUNCH_RAW
having come (R530, R531). -/
def etxNext (s : State) (p : Nat) : Option Nat :=
  (s.laneQueues p 3).find? (fun q =>
    s.qRuns q && !(s.queue q).parked && (s.queue q).held.isSome && (s.queue q).done.isNone
      && decide ((s.headDesc q).word64 ≤ s.raw))

/-- A fetched frame starts on the wire (R521, R531, R563 to R566). -/
def etxSend (s : State) (p : Nat) : State :=
  if s.ethF p 0x004 0 0 = 0 ∨ !(s.ethOf p).up then s
  else
    match s.etxNext p with
    | none => s
    | some q =>
      let d := s.headDesc q
      let st := s.tbs.stampAt (s.raw + s.tslatTx p)
      let o := match (s.queue q).held with | some h => h.octets | none => []
      let f := s.oneStep p (fit (max 60 o.length) o) st.corr
      let t := (s.setEth p (fun e => { e with lastTx := some f })).setQueue q (fun x =>
        { x with done := some (0, d.len, 0) })
      if d.tsReq then t.tsqAdd (5 + p) d.tag q 1 st else t

/-- Octets of the port's MAC, IPv4 and IPv6 addresses (R584). -/
def ethMac (s : State) (p : Nat) : List Byte := leBytes 4 (s.ethF p 0x00C 31 0) ++ leBytes 2 (s.ethF p 0x010 15 0)
def ethIp4 (s : State) (p : Nat) : List Byte := leBytes 4 (s.ethF p 0x014 31 0)
def ethIp6 (s : State) (p : Nat) : List Byte := (List.range 4).flatMap (fun k => leBytes 4 (s.ethF p (0x018 + 4 * k) 31 0))

/-- The MAC takes a frame's destination address: its own, a group address, or any with PROMISC (R584). -/
def ethDstOk (s : State) (p : Nat) (f : List Byte) : Bool :=
  s.ethF p 0x004 5 5 == 1 || decide (f.take 6 = s.ethMac p) || (fieldBE f 0 1) % 2 == 1

/-- The datagram that R234 enters into the wave engine's FIFO: payload and source address. -/
def waveDatagram (s : State) (p : Nat) (f : List Byte) : Option (List Byte × List Byte) :=
  match udpOffs f with
  | some (ip, u, six) =>
    let own := if six then s.ethIp6 p else s.ethIp4 p
    let dst := if six then slice f (ip + 24) 16 else slice f (ip + 16) 4
    if udpPort f u = 47310 ∧ dst = own ∧ own.any (fun b => b != 0) then
      some (udpPayload f u, if six then slice f (ip + 8) 16 else slice f (ip + 12) 4)
    else none
  | none => none

/-- The ERX queues of port p that take a code point (R514). -/
def erxQueues (s : State) (p pcp : Nat) : List Nat :=
  (s.qdm.cfgs.filter (fun c => c.2.cls == 4 && c.2.target == p && (c.2.pcpMask >>> pcp) % 2 == 1)).map (·.1)

/-- A received frame is posted to an ERX queue, or dropped (R512, R514, R524). -/
def erxPost (s : State) (p sfd last : Nat) (f : List Byte) : State :=
  let l := s.erxQueues p (ethPcp f)
  match l.find? s.qRuns with
  | some q => s.rxPost q { header := s.rxHeader sfd last p 0 0, frame := f, foreign := false }
  | none =>
    let t := match l with | q :: _ => s.noBuf q | [] => s
    { t with qdm :=
        if p = 0 then { t.qdm with erxDrop0 := sat 16 (t.qdm.erxDrop0 + 1) }
        else { t.qdm with erxDrop1 := sat 16 (t.qdm.erxDrop1 + 1) } }

/-- A frame arrives at MAC p, its SFD captured at a raw count (R234, R514, R563, R584). -/
def ethArrive (s : State) (p sfd last : Nat) (fcsOk : Bool) (f : List Byte) : State :=
  if s.ethF p 0x004 1 1 = 0 ∨ !(s.ethOf p).up then s
  else if !fcsOk then s.postBit (wETH p) 1
  else if !s.ethDstOk p f then s
  else
    let c := sfd - s.tslatRx p
    match s.waveDatagram p f with
    | some (pay, src) => s.wavEnter (.datagram pay c (s.tbs.corrNs c) src)
    | none => s.erxPost p c last f

/-- MAC p advertises a speed: its bit of ADV (R584). -/
def advertised (s : State) (p speed : Nat) : Bool :=
  match speed with
  | 1000 => s.ethF p 0x004 4 4 == 1
  | 100 => s.ethF p 0x004 3 3 == 1
  | 10 => s.ethF p 0x004 2 2 == 1
  | _ => false

/-- The link of MAC p changes; it comes up at a speed that the MAC advertises (R584). -/
def ethLink (s : State) (p : Nat) (up : Bool) (speed : Nat) : State :=
  let v := if up && s.advertised p speed then speed else 0
  if (s.ethOf p).up = decide (v ≠ 0) ∧ (s.ethOf p).speed = v then s
  else (s.setEth p (fun e => { e with up := decide (v ≠ 0), speed := v })).postBit (wETH p) 0

end State

open State

/-- ETH_TRANSMIT (R531, R564). -/
def execEthTransmit (dt port : Nat) (s : State) : Host.Outcome State Fault Refusal :=
  .next (s.occurIn dt (wETH port) (fun t => if port < 2 then t.etxSend port else t))

/-- ETH_FRAME_RECEIVE (R234, R514). -/
def execEthFrameReceive (dt port sfd last : Nat) (fcsOk : Bool) (frame : List Byte) (s : State) :
    Host.Outcome State Fault Refusal :=
  .next (s.occurIn dt (wETH port) (fun t => if port < 2 then t.ethArrive port sfd last fcsOk frame else t))

/-- ETH_LINK_CHANGE (R584). -/
def execEthLinkChange (dt port : Nat) (up : Bool) (speed : Nat) (s : State) : Host.Outcome State Fault Refusal :=
  .next (s.occurIn dt (wETH port) (fun t => if port < 2 then t.ethLink port up speed else t))

end Sys2Proof.Machine
end

