-- ==== Sys2Proof/Machine/Lcs.lean ====
section
/-! DEFINITION. Frames received by the lanes: the checks of R448 and the Lantern command set handler
(R140 to R145, R448 to R455, R473 to R509). -/

namespace Sys2Proof.Machine

/-- Length of a payload by its TYPE; none for a type that is not an uplink type (R473, R495 to R502). -/
def uplinkLen (typ : Nat) : Option Nat :=
  match typ with
  | 0x81 => some 20
  | 0x82 => some 14
  | 0x83 => some 10
  | 0x84 => some 22
  | 0x86 => some 27
  | _ => none

/-- A sequence number is newer than another (R497). -/
def seqNewer (new old : Nat) : Bool :=
  let d := (new + 2 ^ 32 - old) % 2 ^ 32
  decide (1 ≤ d ∧ d ≤ 2 ^ 31 - 1)

namespace State

/-! ## Checks of R448 -/

/-- Lane n drops a frame at a check of R448. -/
def rxDrop (s : State) (n check : Nat) : State :=
  let one := fun x : Nat => (x + 1) % 65536
  let t :=
    match check with
    | 1 => s.setLane n (fun l => { l with dFcs := one l.dFcs })
    | 2 => s.setLane n (fun l => { l with dFormat := one l.dFormat })
    | 3 => s.setLane n (fun l => { l with dAddr := one l.dAddr })
    | 4 => s.noKeyCount
    | 5 => s.setLane n (fun l => { l with dSecurity := one l.dSecurity })
    | 6 => s.setLane n (fun l => { l with dReplay := one l.dReplay })
    | _ => s.setLane n (fun l => { l with dMic := one l.dMic })
  t.postLane n 2

/-- The installation key of entry n, unwrapped under slot 6 (R661). -/
def installKey (s : State) (n : Nat) : Option (List Byte) :=
  match s.keySlot 6 with
  | some k => if n < s.ltb.count then Config.aesUnwrap k.value (s.bytes (s.ltAddr n 0x160) 24) else none
  | none => none

/-- Key material under which a frame of entry n verifies: the installation key, or the network key from
which its link key derives (R450, R451). -/
def frameKey (s : State) (n : Nat) (formJ : Bool) : Option (List Byte) :=
  if formJ then s.installKey n else s.key.netKey

/-- An acknowledgement arrives in the ACK_WAIT window of the attempt lane n waits for (R431, R448 check 2):
its first preamble bit lies in [600 µs, 1,400 µs) after the end of the frame (R14). -/
def ackInWindow (s : State) (n sfd : Nat) : Bool :=
  match (s.lane n).await with
  | some w =>
    let e := s.ackEnd n w + s.shrRaw n
    decide (e ≤ sfd + 160000 ∧ sfd < e)
  | none => false

/-- Octets of a frame's PSDU, with the overhead of its form (R474). -/
def psduOf (s : State) (n : Nat) (f : RxFrame) : Nat :=
  f.payload.length + (if f.formJ then 39 else if f.bcast then 33 else 38) - 2 * s.lneF n 0x008 0 0

/-- The first check of R448 from check 2 on that a frame fails, or the entry it comes from; none for a frame
of an unknown source under an installation key (R449). -/
def rxCheck (s : State) (n : Nat) (f : RxFrame) (ack : Bool) : Except Nat (Option Nat) :=
  if (ack && !s.ackInWindow n f.sfd) || (!ack && decide (250 < s.psduOf n f)) then .error 2
  else if !s.netKeyed then .error 4
  else
    match s.findLantern f.src with
    | none => if f.formJ && !ack then .ok none else .error 5
    | some e =>
      match s.frameKey e f.formJ with
      | none => .error 5
      | some k =>
        if f.fc ≤ s.lt e 0x178 4 then .error 6
        else if !Config.micOk k f.src f.fc f.payload then .error 7
        else .ok (some e)

/-- A frame of entry e passes R448: its entry's fields, and R140. -/
def rxAccept (s : State) (n e : Nat) (f : RxFrame) : State :=
  let a := (((s.setLt e 0x178 4 f.fc).setLt e 0x102 1 f.rssi).setLt e 0x103 1 n).setLt e 0x108 8 f.last
  let b := if a.ltState e = 3 then a.enterJoined e else a
  b.setLane n (fun l => { l with accepted := (l.accepted + 1) % 65536 })

/-- The expected instant of the end of a frame's SFD less the measured one, in µs (R440). -/
def sfdError (s : State) (n sfd : Nat) : Int :=
  let expected := s.txRaw n ((s.slotAt n sfd).getD 0) + s.shrRaw n
  roundOpen 21 (((expected : Rat) - sfd) / 200)

/-- The acknowledgement that lane n sends for a frame of entry e, none while its handle is FAULTED (R141, R440,
R453, R455). -/
def sendAck (s : State) (n e : Nat) (f : RxFrame) : State :=
  if f.ackReq && !f.bcast && !s.fcEnd && decide (s.hst tLANTERN e ≠ .faulted) then
    (s.fcUse.addAir n (f.last + 200000) (s.airRaw n 40) false).setLane n (fun l =>
      { l with
        ackSent := (l.ackSent + 1) % 65536,
        lastAck := some { dest := e, formJ := f.formJ, fc := s.lne.fc, start := f.last + 200000, power := s.txPower n,
                          corr := if s.lneF n 0x004 1 1 = 1 then some (s.sfdError n f.sfd) else none } })
  else s

/-! ## Handler (R142 to R145, R497, R504 to R509) -/

/-- A posting to the host lantern queue (R508, R509, R524). -/
def postLrx (s : State) (n e : Nat) (f : RxFrame) (foreign : Bool) : State :=
  match s.lrxQueue with
  | some q => s.rxPost q { header := s.rxHeader f.sfd f.last n f.rssi e, frame := f.header ++ f.payload, foreign := foreign }
  | none => s

/-- A frame is dropped as MALFORMED or STALE in a case of R508 (R509). -/
def lcsDrop (s : State) (n : Nat) (f : RxFrame) (typ case_ : Nat) : State :=
  s.event wLNE none [iEui f.src, iCause typ, iCause case_, iNumber f.payload.length, iIndex n]

/-- A frame for an entry is counted in IDLE_DROP (R142, R143). -/
def idleDrop (s : State) : State := { s with ltb := { s.ltb with idleDrop := sat 16 (s.ltb.idleDrop + 1) } }

/-- TEMP of entry e takes a temperature, or refuses it (R144). -/
def takeTemp (s : State) (e half : Nat) : State :=
  match dec16 half with
  | some q => if -40 ≤ q ∧ q ≤ 125 then s.setLt e 0x100 2 half else s.setLt e 0x12C 4 (sat 32 (s.lt e 0x12C 4 + 1))
  | none => s.setLt e 0x12C 4 (sat 32 (s.lt e 0x12C 4 + 1))

/-- FAULTS of entry e takes a value, and R140 moves the entry between JOINED and FAULTY; only a REPORT moves
it back. -/
def takeFaults (s : State) (e v : Nat) (report : Bool) : State :=
  let t := s.setLt e 0x104 4 v
  if t.ltState e = 2 ∧ t.masked e then t.enterState e 4
  else if report ∧ t.ltState e = 4 ∧ !t.masked e then t.enterState e 2
  else t

/-- REPORT (R145, R495, R497). -/
def takeReport (s : State) (n e : Nat) (f : RxFrame) : State :=
  let p := f.payload
  let a := ((s.setLt e 0x110 4 (fieldLE p 6 4)).setLt e 0x114 4 (fieldLE p 2 4)).setLt e 0x118 8 f.last
  ((a.takeTemp e (fieldLE p 10 2)).takeFaults e (fieldLE p 12 4) true).postLrx n e f false

/-- The REPORT is newer than the entry's (R497). -/
def reportNewer (s : State) (e : Nat) (p : List Byte) : Bool :=
  s.lt e 0x118 8 == 0 || seqNewer (fieldLE p 2 4) (s.lt e 0x114 4)

/-- FAULT (R145, R500). -/
def takeFault (s : State) (n e : Nat) (f : RxFrame) : State :=
  let p := f.payload
  let a := (s.takeTemp e (fieldLE p 6 2)).setLt e 0x124 2 (sat 16 (s.lt e 0x124 2 + 1))
  (a.takeFaults e (a.lt e 0x104 4 ||| fieldLE p 2 4) false).postLrx n e f false

/-- DETECT enters the wave engine's FIFO (R234, R499). -/
def takeDetect (s : State) (n e : Nat) (f : RxFrame) : State :=
  let p := f.payload
  s.wavEnter (.detect e f.last (s.rawOfAsn n (fieldLE p 2 5) (fieldLE p 7 2)) (fieldLE p 9 2) (fieldLE p 11 1)
    (fieldLE p 12 1 % 2 == 1) (fieldLE p 13 1))

/-- Octets of an ACCEPT, its NETKEY zeros (R503, R661). -/
def acceptOctets (s : State) (n e : Nat) (nonce : List Byte) : List Byte :=
  let l := s.lt e 0x00F 1
  leBytes 1 0x59 ++ leBytes 1 0x05 ++ nonce ++ List.replicate 16 0 ++ leBytes 1 s.netIdx
    ++ leBytes 1 (if l = 0xFF then n else l) ++ leBytes 2 e ++ leBytes 2 (s.lt e 0x00A 2)

/-- No ACCEPT is sent: a recorder event with the entry and the lane (R505). -/
def noAccept (s : State) (n e : Nat) : State := s.event wLNE none [iIndex e, iIndex n]

/-- ACCEPT for entry e on lane n (R504, R505). -/
def sendAccept (s : State) (n e : Nat) (nonce : List Byte) : State :=
  match s.engineQueue 1 n 3 with
  | some q =>
    if s.qFree q then
      s.enqueue q (.octets (s.acceptOctets n e nonce)) (1 + 2 * 3 + 128) 0
        (asnOf ((s.slotAt n s.raw).getD 0 + 1000)) e
    else s.noAccept n e
  | none => s.noAccept n e

/-- Entry e enters MISMATCH: its handle is faulted, and what is queued or held for it is withdrawn (R141). -/
def mismatch (s : State) (e : Nat) : State := ((s.enterMismatch e).withdrawScene e).withdrawUnicast e

/-- JOIN of entry e on lane n (R140, R142, R502, R504). -/
def takeJoin (s : State) (n e : Nat) (f : RxFrame) : State :=
  let p := f.payload
  let a := (s.setLt e 0x128 4 (fieldLE p 10 4)).takeTemp e (fieldLE p 14 2)
  let b := (a.setLt e 0x126 2 (sat 16 (a.lt e 0x126 2 + 1))).setScnEntry e (fun x => { x with trJoin := true })
  if b.lt e 0x128 4 = b.lt e 0x020 4 then (b.enterJoined e).sendAccept n e (slice p 2 8)
  else b.mismatch e

/-- The handler's cases in order (R508). -/
def lcsTake (s : State) (n e : Nat) (f : RxFrame) : State :=
  let p := f.payload
  let typ := fieldLE p 1 1
  if p.head? ≠ some 0x59 then s.postLrx n e f true
  else
    match uplinkLen typ with
    | none => s.lcsDrop n f typ 2
    | some len =>
      if f.bcast ∨ f.formJ ≠ (typ == 0x84) then s.lcsDrop n f typ 3
      else if p.length < len then s.lcsDrop n f typ 4
      else if (if typ = 0x84 then !s.isRunning tLANTERN e else s.ltState e == 1) then s.idleDrop
      else if typ = 0x81 then (if s.reportNewer e p then s.takeReport n e f else s.lcsDrop n f typ 6)
      else if typ = 0x82 then
        if s.lneF n 0x010 31 16 ≤ fieldLE p 7 2 then s.lcsDrop n f typ 7 else s.takeDetect n e f
      else if typ = 0x83 then s.takeFault n e f
      else if typ = 0x84 then s.takeJoin n e f
      else s.postLrx n e f false

/-- A JOIN from an EUI-64 that no entry holds (R142, R449). -/
def unknownFrame (s : State) (src : Nat) : State :=
  { s with ltb := { s.ltb with unknownJoin := sat 16 (s.ltb.unknownJoin + 1) } }.postEvent wLTB 4 [iEui src]

/-- Lane n listens in an UPLINK cell at a raw count (R428, R434). -/
def listens (s : State) (n r : Nat) : Bool :=
  match s.slotAt n r with
  | some a =>
    (s.lane n).run
      && (match s.cellOf n a with | some w => fld w 30 28 == 3 | none => false)
      && ((s.lane n).slot != some a || (s.lane n).tuned.isSome)
  | none => false

/-- A data frame is received on its lane (R448, R449, R508). -/
def dataFrame (s : State) (f : RxFrame) : State :=
  let n := f.lane
  if n < 4 ∧ s.listens n f.sfd then
    match s.rxCheck n f false with
    | .error c => s.rxDrop n c
    | .ok none => s.unknownFrame f.src
    | .ok (some e) => ((s.rxAccept n e f).sendAck n e f).lcsTake n e f
  else s

/-- An acknowledgement is received on its lane (R445, R448). -/
def ackFrame (s : State) (f : RxFrame) : State :=
  let n := f.lane
  if n < 4 ∧ (s.lane n).run then
    match s.rxCheck n f true with
    | .error c => s.rxDrop n c
    | .ok (some e) => (s.rxAccept n e f).ackTake n e
    | .ok none => s
  else s

end State

open State

/-- FRAME_REJECTED (R448): without the network key, checks from 4 on count as NOKEY. -/
def execFrameRejected (dt lane check : Nat) (s : State) : Host.Outcome State Fault Refusal :=
  .next (s.occurIn dt wLNE (fun t =>
    if lane < 4 ∧ (t.lane lane).run ∧ 1 ≤ check ∧ check ≤ 7 ∧ (check ≠ 4 ∨ !t.netKeyed) then
      t.rxDrop lane (if 4 ≤ check ∧ !t.netKeyed then 4 else check)
    else t))

/-- ENHANCED_ACK_RECEIVE (R445, R448). -/
def execEnhancedAckReceive (dt : Nat) (frame : RxFrame) (s : State) : Host.Outcome State Fault Refusal :=
  .next (s.occurIn dt wLNE (fun t => t.ackFrame frame))

/-- REPORT_RECEIVE (R497, R508). -/
def execReportReceive (dt : Nat) (frame : RxFrame) (s : State) : Host.Outcome State Fault Refusal :=
  .next (s.occurIn dt wLNE (fun t => t.dataFrame frame))

/-- DETECT_RECEIVE (R499, R508). -/
def execDetectReceive (dt : Nat) (frame : RxFrame) (s : State) : Host.Outcome State Fault Refusal :=
  .next (s.occurIn dt wLNE (fun t => t.dataFrame frame))

/-- FAULT_RECEIVE (R145, R508). -/
def execFaultReceive (dt : Nat) (frame : RxFrame) (s : State) : Host.Outcome State Fault Refusal :=
  .next (s.occurIn dt wLNE (fun t => t.dataFrame frame))

/-- JOIN_RECEIVE (R504, R508). -/
def execJoinReceive (dt : Nat) (frame : RxFrame) (s : State) : Host.Outcome State Fault Refusal :=
  .next (s.occurIn dt wLNE (fun t => t.dataFrame frame))

/-- UNKNOWN_JOIN (R142, R449). -/
def execUnknownJoin (dt : Nat) (frame : RxFrame) (s : State) : Host.Outcome State Fault Refusal :=
  .next (s.occurIn dt wLNE (fun t => t.dataFrame frame))

/-- PROBE_RESPONSE_RECEIVE (R501, R509). -/
def execProbeResponseReceive (dt : Nat) (frame : RxFrame) (s : State) : Host.Outcome State Fault Refusal :=
  .next (s.occurIn dt wLNE (fun t => t.dataFrame frame))

/-- FOREIGN_FRAME (R508). -/
def execForeignFrame (dt : Nat) (frame : RxFrame) (s : State) : Host.Outcome State Fault Refusal :=
  .next (s.occurIn dt wLNE (fun t => t.dataFrame frame))

end Sys2Proof.Machine
end

