-- ==== Sys2Proof/Machine/Dispatch.lean ====
section
/-! DEFINITION. One arm for each command. -/

namespace Sys2Proof.Machine

/-- What a command does to everything but the queue of waiting commands. -/
def exec (i : Instr) (s : State) : Host.Outcome State Fault Refusal :=
  match i with
  | .vinLoss dt => Sys2Proof.Machine.execVinLoss dt s
  | .holdEnter dt => Sys2Proof.Machine.execHoldEnter dt s
  | .vinReturn dt => Sys2Proof.Machine.execVinReturn dt s
  | .holdupCharged dt => Sys2Proof.Machine.execHoldupCharged dt s
  | .resetAssert dt => Sys2Proof.Machine.execResetAssert dt s
  | .copyBlock dt host ok => Sys2Proof.Machine.execCopyBlock dt host ok s
  | .copyComplete dt ok => Sys2Proof.Machine.execCopyComplete dt ok s
  | .clockGoodTimeout dt mandatory n => Sys2Proof.Machine.execClockGoodTimeout dt mandatory n s
  | .clockHaltRetry dt good => Sys2Proof.Machine.execClockHaltRetry dt good s
  | .resetnPulse dt width acts => Sys2Proof.Machine.execResetnPulse dt width acts s
  | .wdtHostExpire dt => Sys2Proof.Machine.execWdtHostExpire dt s
  | .wdtSysExpire dt => Sys2Proof.Machine.execWdtSysExpire dt s
  | .bootWindowExpire dt => Sys2Proof.Machine.execBootWindowExpire dt s
  | .sysBootok dt master value => Sys2Proof.Machine.execSysBootok dt master value s
  | .rstcmdHost dt master => Sys2Proof.Machine.execRstcmdHost dt master s
  | .rstcmdSystem dt master => Sys2Proof.Machine.execRstcmdSystem dt master s
  | .debugResetRequest dt => Sys2Proof.Machine.execDebugResetRequest dt s
  | .fuseprog dt master value ok => Sys2Proof.Machine.execFuseprog dt master value ok s
  | .pwrcmdLit dt master => Sys2Proof.Machine.execPwrcmdLit dt master s
  | .pwrcmdVigil dt master fade => Sys2Proof.Machine.execPwrcmdVigil dt master fade s
  | .pwrcmdOff dt master fade => Sys2Proof.Machine.execPwrcmdOff dt master fade s
  | .pwrcmdHold dt master => Sys2Proof.Machine.execPwrcmdHold dt master s
  | .contactorClose dt k => Sys2Proof.Machine.execContactorClose dt k s
  | .litTransitionDone dt coils => Sys2Proof.Machine.execLitTransitionDone dt coils s
  | .contactorsOpen dt => Sys2Proof.Machine.execContactorsOpen dt s
  | .vigilTransitionDone dt coils => Sys2Proof.Machine.execVigilTransitionDone dt coils s
  | .offEnter dt => Sys2Proof.Machine.execOffEnter dt s
  | .coilOpenCoil dt k ma => Sys2Proof.Machine.execCoilOpenCoil dt k ma s
  | .coilOver dt k ma => Sys2Proof.Machine.execCoilOver dt k ma s
  | .photocellLevelHeld dt dark => Sys2Proof.Machine.execPhotocellLevelHeld dt dark s
  | .registerWrite dt master addr size value => Sys2Proof.Machine.execRegisterWrite dt master addr size value s
  | .errorResponse dt master addr size write value => Sys2Proof.Machine.execErrorResponse dt master addr size write value s
  | .statusClear dt master addr value => Sys2Proof.Machine.execStatusClear dt master addr value s
  | .statusEventPost dt addr => Sys2Proof.Machine.execStatusEventPost dt addr s
  | .guardPairOpen dt master addr value => Sys2Proof.Machine.execGuardPairOpen dt master addr value s
  | .guardStrayWrite dt master addr value => Sys2Proof.Machine.execGuardStrayWrite dt master addr value s
  | .guardTimeout dt win => Sys2Proof.Machine.execGuardTimeout dt win s
  | .parityScan dt corrupt => Sys2Proof.Machine.execParityScan dt corrupt s
  | .fltPartest dt master value => Sys2Proof.Machine.execFltPartest dt master value s
  | .tickBoundary dt solveUs => Sys2Proof.Machine.execTickBoundary dt solveUs s
  | .slotBoundary dt lane rf => Sys2Proof.Machine.execSlotBoundary dt lane rf s
  | .periodBoundary dt group meas => Sys2Proof.Machine.execPeriodBoundary dt group meas s
  | .cycleBoundary dt feeder samples => Sys2Proof.Machine.execCycleBoundary dt feeder samples s
  | .cycleSynthTimeout dt feeder samples => Sys2Proof.Machine.execCycleSynthTimeout dt feeder samples s
  | .strCreate dt master => Sys2Proof.Machine.execStrCreate dt master s
  | .strDestroy dt master => Sys2Proof.Machine.execStrDestroy dt master s
  | .strStop dt master => Sys2Proof.Machine.execStrStop dt master s
  | .strStart dt master => Sys2Proof.Machine.execStrStart dt master s
  | .strQuery dt master => Sys2Proof.Machine.execStrQuery dt master s
  | .handleStopComplete dt => Sys2Proof.Machine.execHandleStopComplete dt s
  | .handleStartComplete dt => Sys2Proof.Machine.execHandleStartComplete dt s
  | .ltbCommit dt master => Sys2Proof.Machine.execLtbCommit dt master s
  | .ltbClear dt master => Sys2Proof.Machine.execLtbClear dt master s
  | .ltbCommitComplete dt => Sys2Proof.Machine.execLtbCommitComplete dt s
  | .ltbEuiLookup dt master value => Sys2Proof.Machine.execLtbEuiLookup dt master value s
  | .ltableDirectWrite dt master addr data => Sys2Proof.Machine.execLtableDirectWrite dt master addr data s
  | .entrySilent dt entry => Sys2Proof.Machine.execEntrySilent dt entry s
  | .scnHeldFrameQueue dt => Sys2Proof.Machine.execScnHeldFrameQueue dt s
  | .headCommandStart dt head => Sys2Proof.Machine.execHeadCommandStart dt head s
  | .headWaveTime dt head => Sys2Proof.Machine.execHeadWaveTime dt head s
  | .wavDetectProcess dt computeUs => Sys2Proof.Machine.execWavDetectProcess dt computeUs s
  | .wavHandoffOpen dt computeUs => Sys2Proof.Machine.execWavHandoffOpen dt computeUs s
  | .wavHandoffUpdate dt computeUs => Sys2Proof.Machine.execWavHandoffUpdate dt computeUs s
  | .wavHandoffCancel dt computeUs => Sys2Proof.Machine.execWavHandoffCancel dt computeUs s
  | .waveEnd dt wave => Sys2Proof.Machine.execWaveEnd dt wave s
  | .headroomLoopStep dt group => Sys2Proof.Machine.execHeadroomLoopStep dt group s
  | .hrLimit dt group => Sys2Proof.Machine.execHrLimit dt group s
  | .mstTjWindow dt group last ntcOhms => Sys2Proof.Machine.execMstTjWindow dt group last ntcOhms s
  | .mstCalibrate dt master group => Sys2Proof.Machine.execMstCalibrate dt master group s
  | .calibrationDone dt => Sys2Proof.Machine.execCalibrationDone dt s
  | .mstAck dt master sink => Sys2Proof.Machine.execMstAck dt master sink s
  | .sinkFaultOpen dt sink => Sys2Proof.Machine.execSinkFaultOpen dt sink s
  | .sinkFaultCtrl dt sink => Sys2Proof.Machine.execSinkFaultCtrl dt sink s
  | .sinkOvercurrent dt sink ma vds => Sys2Proof.Machine.execSinkOvercurrent dt sink ma vds s
  | .sinkFaultSat dt sink => Sys2Proof.Machine.execSinkFaultSat dt sink s
  | .sinkBlanking dt sink ma adj => Sys2Proof.Machine.execSinkBlanking dt sink ma adj s
  | .pulseStretch dt sink cur => Sys2Proof.Machine.execPulseStretch dt sink cur s
  | .spareSinkSelftest dt group ok meas => Sys2Proof.Machine.execSpareSinkSelftest dt group ok meas s
  | .spareSinkTakeover dt group => Sys2Proof.Machine.execSpareSinkTakeover dt group s
  | .groupDark dt group => Sys2Proof.Machine.execGroupDark dt group s
  | .groupStartupEnd dt group => Sys2Proof.Machine.execGroupStartupEnd dt group s
  | .groupRecoveryEnd dt group => Sys2Proof.Machine.execGroupRecoveryEnd dt group s
  | .syncPulse dt present msg err => Sys2Proof.Machine.execSyncPulse dt present msg err s
  | .mtrLinkTimeout dt batches => Sys2Proof.Machine.execMtrLinkTimeout dt batches s
  | .mtrLinkRestore dt octets crc => Sys2Proof.Machine.execMtrLinkRestore dt octets crc s
  | .mtrTempAverage dt temp => Sys2Proof.Machine.execMtrTempAverage dt temp s
  | .spareRefCheck dt dev => Sys2Proof.Machine.execSpareRefCheck dt dev s
  | .channelCheckDone dt cycles => Sys2Proof.Machine.execChannelCheckDone dt cycles s
  | .mtrStuck dt ch samples => Sys2Proof.Machine.execMtrStuck dt ch samples s
  | .meterSubstitution dt feeder => Sys2Proof.Machine.execMeterSubstitution dt feeder s
  | .islctlSealrst dt master => Sys2Proof.Machine.execIslctlSealrst dt master s
  | .islctlSubst dt master ch => Sys2Proof.Machine.execIslctlSubst dt master ch s
  | .islctlRelease dt master ch => Sys2Proof.Machine.execIslctlRelease dt master ch s
  | .islctlChecknow dt master => Sys2Proof.Machine.execIslctlChecknow dt master s
  | .islandSupplyFail dt => Sys2Proof.Machine.execIslandSupplyFail dt s
  | .islandPowerUp dt retained => Sys2Proof.Machine.execIslandPowerUp dt retained s
  | .intervalClose dt feeder => Sys2Proof.Machine.execIntervalClose dt feeder s
  | .pulseEmit dt output => Sys2Proof.Machine.execPulseEmit dt output s
  | .accCfgWrite dt master value => Sys2Proof.Machine.execAccCfgWrite dt master value s
  | .accPulseWrite dt master output value => Sys2Proof.Machine.execAccPulseWrite dt master output value s
  | .accSlotRead dt master feeder element k => Sys2Proof.Machine.execAccSlotRead dt master feeder element k s
  | .tbsNowRead dt master => Sys2Proof.Machine.execTbsNowRead dt master s
  | .tsqPop dt master queue => Sys2Proof.Machine.execTsqPop dt master queue s
  | .rtcDateRead dt master sub => Sys2Proof.Machine.execRtcDateRead dt master sub s
  | .loHiLatchRead dt master addr size => Sys2Proof.Machine.execLoHiLatchRead dt master addr size s
  | .laneFetch dt lane => Sys2Proof.Machine.execLaneFetch dt lane s
  | .ackTimeout dt lane => Sys2Proof.Machine.execAckTimeout dt lane s
  | .laneStart dt lane => Sys2Proof.Machine.execLaneStart dt lane s
  | .lneTakeover dt master lane => Sys2Proof.Machine.execLneTakeover dt master lane s
  | .lneRelease dt master lane => Sys2Proof.Machine.execLneRelease dt master lane s
  | .lneSpareRoundNow dt master => Sys2Proof.Machine.execLneSpareRoundNow dt master s
  | .spareRound dt txOk rxOk => Sys2Proof.Machine.execSpareRound dt txOk rxOk s
  | .spareLocked dt => Sys2Proof.Machine.execSpareLocked dt s
  | .laneReturn dt lane => Sys2Proof.Machine.execLaneReturn dt lane s
  | .frameRejected dt lane check => Sys2Proof.Machine.execFrameRejected dt lane check s
  | .enhancedAckReceive dt frame => Sys2Proof.Machine.execEnhancedAckReceive dt frame s
  | .reportReceive dt frame => Sys2Proof.Machine.execReportReceive dt frame s
  | .detectReceive dt frame => Sys2Proof.Machine.execDetectReceive dt frame s
  | .faultReceive dt frame => Sys2Proof.Machine.execFaultReceive dt frame s
  | .joinReceive dt frame => Sys2Proof.Machine.execJoinReceive dt frame s
  | .unknownJoin dt frame => Sys2Proof.Machine.execUnknownJoin dt frame s
  | .probeResponseReceive dt frame => Sys2Proof.Machine.execProbeResponseReceive dt frame s
  | .foreignFrame dt frame => Sys2Proof.Machine.execForeignFrame dt frame s
  | .qdmTailWrite dt master queue value => Sys2Proof.Machine.execQdmTailWrite dt master queue value s
  | .qdmResume dt master queue => Sys2Proof.Machine.execQdmResume dt master queue s
  | .qdmFlush dt master queue => Sys2Proof.Machine.execQdmFlush dt master queue s
  | .dmaBurst dt memError ringError => Sys2Proof.Machine.execDmaBurst dt memError ringError s
  | .descriptorComplete dt queue => Sys2Proof.Machine.execDescriptorComplete dt queue s
  | .windowEnableWrite dt master window value => Sys2Proof.Machine.execWindowEnableWrite dt master window value s
  | .ethTransmit dt port => Sys2Proof.Machine.execEthTransmit dt port s
  | .ethFrameReceive dt port sfd last fcsOk frame => Sys2Proof.Machine.execEthFrameReceive dt port sfd last fcsOk frame s
  | .ethLinkChange dt port up speed => Sys2Proof.Machine.execEthLinkChange dt port up speed s
  | .adjStep dt master => Sys2Proof.Machine.execAdjStep dt master s
  | .adjRate dt master => Sys2Proof.Machine.execAdjRate dt master s
  | .adjSlew dt master rate => Sys2Proof.Machine.execAdjSlew dt master rate s
  | .adjSlewstop dt master => Sys2Proof.Machine.execAdjSlewstop dt master s
  | .slewEnd dt => Sys2Proof.Machine.execSlewEnd dt s
  | .ppsEdge dt edge heldUs => Sys2Proof.Machine.execPpsEdge dt edge heldUs s
  | .ppsLost dt => Sys2Proof.Machine.execPpsLost dt s
  | .milestoneFire dt m => Sys2Proof.Machine.execMilestoneFire dt m s
  | .milestonePulseEnd dt m => Sys2Proof.Machine.execMilestonePulseEnd dt m s
  | .rtcSecond dt => Sys2Proof.Machine.execRtcSecond dt s
  | .rtcSet dt master mask => Sys2Proof.Machine.execRtcSet dt master mask s
  | .rtcDstfwd dt master => Sys2Proof.Machine.execRtcDstfwd dt master s
  | .rtcDstback dt master => Sys2Proof.Machine.execRtcDstback dt master s
  | .rtcTrimWrite dt master value => Sys2Proof.Machine.execRtcTrimWrite dt master value s
  | .alarmWrite dt master addr value => Sys2Proof.Machine.execAlarmWrite dt master addr value s
  | .wakeperWrite dt master value => Sys2Proof.Machine.execWakeperWrite dt master value s
  | .periodicWake dt => Sys2Proof.Machine.execPeriodicWake dt s
  | .oscStop dt => Sys2Proof.Machine.execOscStop dt s
  | .oscResume dt => Sys2Proof.Machine.execOscResume dt s
  | .vbakCheck dt mv => Sys2Proof.Machine.execVbakCheck dt mv s
  | .rsramRead dt master off size corrupt => Sys2Proof.Machine.execRsramRead dt master off size corrupt s
  | .weirWriterStart dt => Sys2Proof.Machine.execWeirWriterStart dt s
  | .recordCommit dt => Sys2Proof.Machine.execRecordCommit dt s
  | .gapRecord dt => Sys2Proof.Machine.execGapRecord dt s
  | .recDump dt master source => Sys2Proof.Machine.execRecDump dt master source s
  | .recSoft dt master source => Sys2Proof.Machine.execRecSoft dt master source s
  | .recTselWrite dt master value => Sys2Proof.Machine.execRecTselWrite dt master value s
  | .kumWrite dt master => Sys2Proof.Machine.execKumWrite dt master s
  | .kumErase dt master => Sys2Proof.Machine.execKumErase dt master s
  | .kumLifecycle dt master => Sys2Proof.Machine.execKumLifecycle dt master s
  | .kumClearTamper dt master => Sys2Proof.Machine.execKumClearTamper dt master s
  | .keyCommitPulseEnd dt => Sys2Proof.Machine.execKeyCommitPulseEnd dt s
  | .netload dt master slot => Sys2Proof.Machine.execNetload dt master slot s
  | .keyWrap dt master slot => Sys2Proof.Machine.execKeyWrap dt master slot s
  | .keyHash dt master mode => Sys2Proof.Machine.execKeyHash dt master mode s
  | .keyHmac dt master mode slot => Sys2Proof.Machine.execKeyHmac dt master mode slot s
  | .keyVerify dt master slot => Sys2Proof.Machine.execKeyVerify dt master slot s
  | .keySign dt master slot => Sys2Proof.Machine.execKeySign dt master slot s
  | .attest dt master => Sys2Proof.Machine.execAttest dt master s
  | .keyRandom dt master => Sys2Proof.Machine.execKeyRandom dt master s
  | .hostwrite dt master slot => Sys2Proof.Machine.execHostwrite dt master slot s
  | .keyOpComplete dt => Sys2Proof.Machine.execKeyOpComplete dt s
  | .tamperLatch dt source => Sys2Proof.Machine.execTamperLatch dt source s
  | .keyTpolicyWrite dt master value => Sys2Proof.Machine.execKeyTpolicyWrite dt master value s
  | .slotEraseDone dt => Sys2Proof.Machine.execSlotEraseDone dt s
  | .updManifest dt master => Sys2Proof.Machine.execUpdManifest dt master s
  | .updChunk dt master => Sys2Proof.Machine.execUpdChunk dt master s
  | .updActivate dt master => Sys2Proof.Machine.execUpdActivate dt master s
  | .updConfirm dt master => Sys2Proof.Machine.execUpdConfirm dt master s
  | .updAbort dt master => Sys2Proof.Machine.execUpdAbort dt master s
  | .updRevert dt master => Sys2Proof.Machine.execUpdRevert dt master s
  | .chunkConfirmed dt ok => Sys2Proof.Machine.execChunkConfirmed dt ok s
  | .verifyDone dt ioOk => Sys2Proof.Machine.execVerifyDone dt ioOk s
  | .trialExpire dt => Sys2Proof.Machine.execTrialExpire dt s
  | .svcOpen dt tag manifest => Sys2Proof.Machine.execSvcOpen dt tag manifest s
  | .svcChunk dt tag offset data => Sys2Proof.Machine.execSvcChunk dt tag offset data s
  | .svcClose dt tag => Sys2Proof.Machine.execSvcClose dt tag s
  | .svcActivate dt tag => Sys2Proof.Machine.execSvcActivate dt tag s
  | .svcConfirm dt tag => Sys2Proof.Machine.execSvcConfirm dt tag s
  | .svcAbort dt tag => Sys2Proof.Machine.execSvcAbort dt tag s
  | .svcStatus dt tag => Sys2Proof.Machine.execSvcStatus dt tag s
  | .svcKeymsg dt tag msg => Sys2Proof.Machine.execSvcKeymsg dt tag msg s
  | .svcConsole dt tag octets => Sys2Proof.Machine.execSvcConsole dt tag octets s
  | .consoleOut dt octets => Sys2Proof.Machine.execConsoleOut dt octets s
  | .svcBadMessage dt tag => Sys2Proof.Machine.execSvcBadMessage dt tag s
  | .svcPresentChange dt asserted => Sys2Proof.Machine.execSvcPresentChange dt asserted s
  | .vbusChange dt present configured highSpeed => Sys2Proof.Machine.execVbusChange dt present configured highSpeed s
  | .scrub dt mram addr error => Sys2Proof.Machine.execScrub dt mram addr error s
  | .sramUncorrectable dt addr scrub => Sys2Proof.Machine.execSramUncorrectable dt addr scrub s
  | .mramError dt addr uncorrectable scrub => Sys2Proof.Machine.execMramError dt addr uncorrectable scrub s
  | .mramRemapCommit dt => Sys2Proof.Machine.execMramRemapCommit dt s
  | .lockstepMismatch dt win => Sys2Proof.Machine.execLockstepMismatch dt win s
  | .clockMonitorFault dt clock => Sys2Proof.Machine.execClockMonitorFault dt clock s
  | .secmonFault dt cause => Sys2Proof.Machine.execSecmonFault dt cause s
  | .fltWdtkick dt master value => Sys2Proof.Machine.execFltWdtkick dt master value s
  | .vergeRetest dt master kind index pass => Sys2Proof.Machine.execVergeRetest dt master kind index pass s
  | .vergeRelease dt master kind index => Sys2Proof.Machine.execVergeRelease dt master kind index s
  | .openCoilClear dt k ma => Sys2Proof.Machine.execOpenCoilClear dt k ma s
  | .tamperSourceInactive dt source => Sys2Proof.Machine.execTamperSourceInactive dt source s
  | .vbakRetentionLoss dt => Sys2Proof.Machine.execVbakRetentionLoss dt s

end Sys2Proof.Machine
end

