-- ==== Sys2Proof/Safety.lean ====
section
/-! DEFINITION. The terms in which claims are stated: a safe run, the canonical form of memory, the parts of the
state, what a command leaves unchanged and where it completes. -/

namespace Sys2Proof.Machine

/-- A step of a state answers a next state. -/
def Safe (s : State) : Prop := ∃ t, step s = .next t

/-- The canonical form of memory: addresses strictly rising, each of them a byte of memory, and no entry
equal to what an unlisted byte reads as. -/
abbrev Memory.wf (m : List Host.Cell) : Prop :=
  tabRising none m = true ∧ (m.all (fun c => State.isMem c.1 && c.2 != 0)) = true

/-- The Weir is within its 32 entries: at most 28 from any source, and at most 4 more that only the KEY and
FLT event sources may take (R631). -/
def weirOk (l : List RecEntry) : Prop :=
  (l.filter (fun e => e.resv)).length ≤ 4 ∧ (l.filter (fun e => !e.resv)).length ≤ 28

/-! ## Frames -/

/-- The parts of the state. `stat` stands for every event bit of every status register. -/
inductive Piece
  | cyc | free | cfg | act | changed | stat | pairs | latch | busErr | reply | parity | str | ltb | scn | wav | mst
  | mtr | acc | lne | qdm | tbs | eth0 | eth1 | rtc | evr | key | upd | usb | sys | flt | pin | mem | pending
  deriving DecidableEq, Repr

namespace State

/-- Event bit i of the status register at an address is set, or held for a later 1 µs step (R94, R95). -/
def raised (s : State) (a i : Nat) : Prop :=
  (s.statOf a).bits.testBit i = true ∨ ∃ h ∈ (s.statOf a).held, h.bits.testBit i = true

end State

/-- A part is the same in two states. Memory is compared by what each of its bytes reads as; `stat` by what
`State.raised` says of each event bit. -/
def Piece.same (s t : State) : Piece → Prop
  | .cyc => t.cyc = s.cyc
  | .free => t.freeCtr = s.freeCtr
  | .cfg => t.regs.cfg = s.regs.cfg
  | .act => t.regs.act = s.regs.act
  | .changed => t.regs.changed = s.regs.changed
  | .stat => ∀ a i, t.raised a i ↔ s.raised a i
  | .pairs => t.regs.pairs = s.regs.pairs
  | .latch => t.regs.latch = s.regs.latch
  | .busErr => t.regs.busErr = s.regs.busErr
  | .reply => t.regs.reply = s.regs.reply
  | .parity => t.regs.partestSeen = s.regs.partestSeen
  | .str => t.str = s.str
  | .ltb => t.ltb = s.ltb
  | .scn => t.scn = s.scn
  | .wav => t.wav = s.wav
  | .mst => t.mst = s.mst
  | .mtr => t.mtr = s.mtr
  | .acc => t.acc = s.acc
  | .lne => t.lne = s.lne
  | .qdm => t.qdm = s.qdm
  | .tbs => t.tbs = s.tbs
  | .eth0 => t.eth0 = s.eth0
  | .eth1 => t.eth1 = s.eth1
  | .rtc => t.rtc = s.rtc
  | .evr => t.evr = s.evr
  | .key => t.key = s.key
  | .upd => t.upd = s.upd
  | .usb => t.usb = s.usb
  | .sys => t.sys = s.sys
  | .flt => t.flt = s.flt
  | .pin => t.pin = s.pin
  | .mem => ∀ a, t.byte a = s.byte a
  | .pending => t.pending = s.pending

/-- Nothing changes from s to t but the parts `L` and the event bits `F` (status register, bit). Where the
recorder is among the parts, its own status register may change too: an event bit may trigger it (R619). -/
structure Frame (L : List Piece) (F : List (Nat × Nat)) (s t : State) : Prop where
  parts : ∀ p, p ∉ L → p ≠ .stat → p.same s t
  flags : .stat ∉ L → ∀ a i, (a, i) ∉ F → ¬(a = reg wREC 0 ∧ .evr ∈ L) → (t.raised a i ↔ s.raised a i)

/-! ## Completion -/

namespace State

/-- The state after some time in which nothing happens (R546, R731). -/
def after (s : State) (dt : Nat) : State := { s with cyc := s.cyc + dt }

/-- The module has its supply, and the register at an address answers the master's 32-bit access (R75, R81); no
guarded pair of its block is open (R99). -/
def lets (s : State) (master addr : Nat) : Prop :=
  s.powered = true ∧ s.errCause master addr 4 = 0 ∧ ∀ w, windowOf addr = some w → s.openPair w = none

/-- From s to t, software's copy of the register at an address takes a value, and no other register's does. -/
def stores (s t : State) (a : Nat) (v : Word) : Prop := ∀ b, t.cfg b = if b = a then v else s.cfg b

/-- The service port's last message is the REPLY to a tag with a RESULT (R706). -/
abbrev replied (t : State) (tag code : Nat) : Prop :=
  t.usb.out.map (fun m => (m.op, m.tag, m.body.take 1)) = some (0x81, tag % 2 ^ 32, [BitVec.ofNat 8 code])

/-- The module has its supply, and the block in a window works: it is out of reset and enabled, and its lockstep
outputs are not blocked (R725, R726, R757). -/
def works (s : State) (w : Nat) : Prop := s.powered = true ∧ s.blockOn w = true ∧ s.sys.blocked.contains w = false

/-- An address lies in the descriptor ring of a queue of the image (R515). -/
def inRing (s : State) (x : Nat) : Bool :=
  s.qdm.cfgs.any (fun c => decide (s.ringBase c.1 ≤ x ∧ x < s.ringBase c.1 + 32 * s.ringN c.1))

/-- The open wave of a number (R242). -/
def waveNo (s : State) (n : Nat) : Option Wave := s.wav.waves.find? (fun w => w.num == n)

/-- No handle command is pending, STR_HANDLE is of a type, and the checks of R55 let the command written to STR_CMD
act on an index of it. -/
def strAllows (s : State) (op typ i : Nat) : Bool :=
  s.str.pend.isNone && (s.cfg (reg wSTR 0x034)).toNat / 2 ^ 20 % 16 == typ &&
    (match s.strCheck op (s.cfg (reg wSTR 0x034)).toNat (s.cfg (reg wSTR 0x040)).toNat with
     | .ok j => j == i
     | .error _ => false)

/-- The word of the last write of a shadow before fabric cycle c that no boundary has copied yet (R87, R88). -/
def lastWrite (s : State) (c a : Nat) : Option Word :=
  ((s.regs.changed.filter (fun x => x.key == a && decide (x.cyc < c))).getLast?).map Change.word

/-- From s to t, the shadows of a list are copied at a boundary in fabric cycle c: each active copy takes the last word
written before it, but where the shadow's parity does not match; every other active copy and every later write stay
(R87, R88, R117). -/
def copied (s t : State) (c : Nat) (l : List Nat) : Prop :=
  (∀ a, a ∈ l → s.shadowBad a = false → ∀ w, s.lastWrite c a = some w → t.actWord a = sound w) ∧
  (∀ a, a ∉ l ∨ s.shadowBad a = true → t.actWord a = s.actWord a) ∧
  t.regs.changed = s.regs.changed.filter (fun x => !(l.contains x.key && !s.shadowBad x.key && decide (x.cyc < c)))

/-- A shadow of the list whose parity does not match asserts CFG_PARITY (R117, R118). -/
abbrev copyAsserts (s t : State) (l : List Nat) : Prop :=
  t.sys = if l.any s.shadowBad = true then { s.sys with asserted := setAdd s.sys.asserted 6 } else s.sys

/-- What R55 refuses the command written to STR_CMD for. -/
def strRefusal (s : State) (op : Nat) : Option StrRefusal :=
  match s.strCheck op (s.cfg (reg wSTR 0x034)).toNat (s.cfg (reg wSTR 0x040)).toNat with
  | .ok _ => none
  | .error r => some r

/-- The OP of a START or a STOP (R48). -/
def moveOp (start : Bool) : Nat := if start then 4 else 3

/-- The state a START or a STOP ends in. -/
def moveTo (start : Bool) : HState := if start then .running else .stopped

/-- Slot a of lane n begins now, the lane runs, and nothing else is due at it: no start, takeover, release or
acknowledgement, and no field to take up. -/
abbrev slotBegins (s : State) (n a : Nat) : Prop :=
  s.works wLNE ∧ s.lne.lanes.length = 4 ∧ s.slotAt n s.raw = some a ∧ s.slotStart n a = s.raw ∧
    (s.lane n).slot ≠ some a ∧ (s.lane n).run = true ∧ (s.lane n).startAt = none ∧ (s.lane n).await = none ∧
    (s.lane n).releaseAt = none ∧ s.lne.takeover = none ∧ s.eligible s.cyc (fun _ e => decide (e = .slot n)) = []

/-- In slot a lane n uses a cell of a class, on a channel of the band (R427, R433). -/
abbrev slotCell (s : State) (n a cls ch : Nat) : Prop :=
  (s.cellOf n a).map (fun w => (fld w 30 28, s.hopChannel n a (fld w 27 22))) = some (cls, ch) ∧ s.chanInBand n ch = true

/-- Queue q is the one queue of lane n and a class, and it has a live head that is held in the lane. -/
abbrev headInLane (s : State) (n cls q : Nat) : Prop :=
  s.laneQueues n cls = [q] ∧ s.headLive q = true ∧ (s.queue q).held.isSome = true ∧ (s.queue q).xfer = none ∧
    (s.queue q).done = none

/-- A frame comes in on lane n and passes the checks of R448 on entry e up to that of its MIC. -/
abbrev frameReaches (s : State) (n e : Nat) (f : RxFrame) : Prop :=
  s.works wLNE ∧ f.lane = n ∧ n < 4 ∧ s.lne.lanes.length = 4 ∧ s.netKeyed = true ∧ s.findLantern f.src = some e ∧
    s.lt e 0x178 4 < f.fc ∧ f.fc < 2 ^ 32 ∧ f.rssi < 256 ∧ f.last < 2 ^ 64 ∧ State.memSpan (s.ltAddr e 0) 384 = true

/-- A data frame of a size the cell allows arrives in an UPLINK cell that lane n listens in. -/
abbrev dataReaches (s : State) (n e : Nat) (f : RxFrame) : Prop :=
  s.frameReaches n e f ∧ s.listens n f.sfd = true ∧ s.psduOf n f ≤ 250

/-- A data frame that asks for no acknowledgement and whose payload is at least a type's octets. -/
abbrev plainFrame (f : RxFrame) (typ len : Nat) : Prop :=
  f.ackReq = false ∧ f.bcast = false ∧ f.formJ = (typ == 0x84) ∧ f.payload.head? = some 0x59 ∧ fieldLE f.payload 1 1 = typ ∧
    len ≤ f.payload.length

/-- The frame's key is held and its MIC verifies under it (R448 checks 5 and 7, R450). -/
def verifies (s : State) (e : Nat) (f : RxFrame) : Bool :=
  match s.frameKey e f.formJ with
  | some k => Config.micOk k f.src f.fc f.payload
  | none => false

/-- What every frame that passes R448 writes: RX_FC, RSSI, RX_LANE and LAST_RX of its entry, and a count. -/
abbrev frameTaken (s t : State) (n e : Nat) (f : RxFrame) : Prop :=
  t.lt e 0x178 4 = f.fc ∧ t.lt e 0x102 1 = f.rssi ∧ t.lt e 0x103 1 = n ∧ t.lt e 0x108 8 = f.last ∧
    (t.lane n).accepted = ((s.lane n).accepted + 1) % 65536

/-- A frame whose key is not held, or whose MIC does not verify, is counted and dropped. -/
abbrev frameDropped (s t : State) (n e : Nat) (f : RxFrame) : Prop :=
  t.raised (reg wLNE (lneOff n 0)) 2 ∧ t.mem = s.mem ∧ t.regs.cfg = s.regs.cfg ∧ t.ltb = s.ltb ∧ t.qdm = s.qdm ∧
    t.wav = s.wav ∧ t.scn = s.scn ∧ t.str = s.str ∧
    t.lne = { s.lne with
      lanes := modAt s.lne.lanes n (fun l =>
        if (s.frameKey e f.formJ).isNone = true then { l with dSecurity := (l.dSecurity + 1) % 65536 }
        else { l with dMic := (l.dMic + 1) % 65536 }) }

/-- A frame is posted to receive queue q with its header, or dropped as NOBUF (R512, R524). -/
abbrev framePosted (s t : State) (q n e : Nat) (f : RxFrame) (foreign : Bool) : Prop :=
  if s.qRuns q = true ∧ (s.queue q).parked = false ∧ (s.queue q).rx.length < s.qCount q then
    t.queue q = { s.queue q with
      rx := (s.queue q).rx ++
        [{ header := s.rxHeader f.sfd f.last n f.rssi e, frame := f.header ++ f.payload, foreign := foreign }] }
  else
    t.queue q = { s.queue q with nobuf := min 65535 ((s.queue q).nobuf + 1) } ∧
      t.raised (reg wQDM (0x1014 + 0x40 * q)) 3

/-- The cause for which no address is given for a DMA address of queue q (R532). -/
def refusedFor (s : State) (q a : Nat) (write : Bool) : Option DmaCause :=
  match s.translate q a write with
  | .ok _ => none
  | .error c => some c

/-- TEMP of entry e takes a temperature from −40 °C to +125 °C and keeps its value on any other (R144). -/
abbrev tempTaken (s t : State) (e half : Nat) : Prop :=
  t.lt e 0x100 2 = (match dec16 half with
    | some q => if -40 ≤ q ∧ q ≤ 125 then half else s.lt e 0x100 2
    | none => s.lt e 0x100 2)

end State

/-- What one scan period finds, in any copy, by the armed test or on checking again (R115, R116, R121). -/
def State.scanFound (s : State) : List (Nat × PWord) := s.scanFinds false ++ s.testFinds ++ s.scanFinds true

/-- The address and the bytes of a command that is a plain access of a bus master; the other commands name their
registers. -/
def plainAccess (c : Instr) : Option (Nat × Nat) :=
  match c with
  | .registerWrite _ _ a n _ => some (a, n)
  | .errorResponse _ _ a n _ _ => some (a, n)
  | .statusClear _ _ a _ => some (a, 4)
  | .guardPairOpen _ _ a _ => some (a, 4)
  | .guardStrayWrite _ _ a _ => some (a, 4)
  | .loHiLatchRead _ _ a n => some (a, n)
  | .ltableDirectWrite _ _ a d => some (a, d.length)
  | _ => none

/-- The command, given the time since the last one, completes wherever `pre` holds at its time: it answers a
next state of which `post` holds, and only the parts `L` and the event bits `F` change. -/
def Completes (c : Nat → Instr) (L : List Piece) (F : List (Nat × Nat)) (pre : State → Prop)
    (post : State → State → Prop) : Prop :=
  ∀ dt s, s.powered = true → pre (s.after dt) →
    ∃ t, exec (c dt) s = .next t ∧ post (s.after dt) t ∧ Frame L F (s.after dt) t

end Sys2Proof.Machine
end

