-- ==== Sys2Proof/Certificates/Slice0/Obligations.lean ====
section
/-! DEFINITION. The statements: what each command does, what it leaves, and what every step keeps. -/

open Sys2Proof Sys2Proof.Machine

/-- Where SYS_PWRCMD lets the access through in a running module that is not in recovery safe mode and has no transition in progress, and the state asked for is not the one in force with nothing held: LIT, VIGIL and OFF begin their transition with HELD and RESULT 0 and the command stored; OFF from VIGIL opens every contactor output at once. A wake event kept from an earlier transition to OFF is dropped. HOLD is refused as code 2 with PWR_REFUSED. Everything else stays. -/
def Obligations.PowerCommands : Prop :=
  (∀ (m : Nat), Completes (fun dt => .pwrcmdLit dt m) [.cfg, .reply, .rtc, .sys]
    []
    (fun s => s.lets m (reg wSYS 0x040) ∧ s.sys.phase = .up ∧ s.sys.safe = false ∧ s.sys.trans = none ∧
      ¬(s.sys.pwr = .lit ∧ s.sys.held = false))
    (fun s t => s.stores t (reg wSYS 0x040) 3 ∧ t.rtc = { s.rtc with wakePend := none } ∧
      t.sys = { s.sys with
        held := false, result := 0,
        trans := some { target := .lit, t0 := s.raw, fade := 0, todo := numberedFrom 0 s.closingOrder, last := none,
                        opened := false, engines := false, fromLit := s.mastDrives } }))
  ∧ (∀ (m fade : Nat), fade < 65536 → Completes (fun dt => .pwrcmdVigil dt m fade) [.cfg, .reply, .rtc, .sys, .mst]
    []
    (fun s => s.lets m (reg wSYS 0x040) ∧ s.sys.phase = .up ∧ s.sys.safe = false ∧ s.sys.trans = none ∧
      ¬(s.sys.pwr = .vigil ∧ s.sys.held = false))
    (fun s t => s.stores t (reg wSYS 0x040) (BitVec.ofNat 32 (65536 * fade + 2)) ∧ t.rtc = { s.rtc with wakePend := none } ∧
      t.sys = { s.sys with
        held := false, result := 0,
        trans := some { target := .vigil, t0 := s.raw, fade := fade, todo := [], last := none, opened := false,
                        engines := false, fromLit := s.drivesGoOn } }))
  ∧ (∀ (m fade : Nat), fade < 65536 → Completes (fun dt => .pwrcmdOff dt m fade) [.cfg, .reply, .rtc, .sys, .mst]
    []
    (fun s => s.lets m (reg wSYS 0x040) ∧ s.sys.phase = .up ∧ s.sys.safe = false ∧ s.sys.trans = none ∧ s.sys.pwr = .lit)
    (fun s t => s.stores t (reg wSYS 0x040) (BitVec.ofNat 32 (65536 * fade)) ∧ t.rtc = { s.rtc with wakePend := none } ∧
      t.sys = { s.sys with
        held := false, result := 0,
        trans := some { target := .off, t0 := s.raw, fade := fade, todo := [], last := none, opened := false,
                        engines := false, fromLit := s.drivesGoOn } }))
  ∧ (∀ (m fade : Nat), fade < 65536 → Completes (fun dt => .pwrcmdOff dt m fade) [.cfg, .reply, .rtc, .sys, .mst]
    []
    (fun s => s.lets m (reg wSYS 0x040) ∧ s.sys.phase = .up ∧ s.sys.safe = false ∧ s.sys.trans = none ∧ s.sys.pwr = .vigil)
    (fun s t => s.stores t (reg wSYS 0x040) (BitVec.ofNat 32 (65536 * fade)) ∧ t.rtc = { s.rtc with wakePend := none } ∧
      t.sys = { s.sys with
        held := false, result := 0, closed := [], openCoil := [],
        trans := some { target := .off, t0 := s.raw, fade := 0, todo := [], last := some s.raw, opened := true,
                        engines := false, fromLit := false } }))
  ∧ (∀ (m : Nat), Completes (fun dt => .pwrcmdHold dt m) [.cfg, .evr, .reply, .sys]
    [(reg wSYS 0, 3)]
    (fun s => s.lets m (reg wSYS 0x040) ∧ s.sys.phase ≠ .clockHalt ∧ s.sys.safe = false)
    (fun s t => s.stores t (reg wSYS 0x040) 1 ∧ t.sys = { s.sys with result := 2 } ∧ t.raised (reg wSYS 0) 3))

/-- Closure k of a transition to LIT closes its output at t0 + 1 ms + k times the interval and no earlier; a transition to LIT ends in LIT when every output is closed and the engines run; the contactors of a transition to VIGIL or OFF open together at t0 + FADE + 1 ms; the transition to VIGIL then ends; in OFF PWRON goes low and the module stands without its supply. PWR_DONE is raised at the end of the transitions to LIT and VIGIL. Everything else stays. -/
def Obligations.PowerTransitions : Prop :=
  (∀ (k o : Nat) (r : List (Nat × Nat)) (x : Trans), Completes (fun dt => .contactorClose dt k) [.sys]
    []
    (fun s => s.sys.trans = some x ∧ x.todo = (k, o) :: r ∧ x.t0 + 200000 + k * s.closingStep ≤ s.raw)
    (fun s t => t.sys = { s.sys with
        closed := setAdd s.sys.closed o, overCur := without s.sys.overCur o,
        trans := some { x with todo := r, last := some s.raw } }))
  ∧ (∀ (k : Nat) (x : Trans), Completes (fun dt => .contactorClose dt k) []
    []
    (fun s => s.sys.trans = some x ∧ s.raw < x.t0 + 200000 + k * s.closingStep)
    (fun s t => t = s))
  ∧ (∀ (coils : List Nat) (x : Trans), (∀ k < 4, 20 ≤ nth 0 coils k ∧ nth 0 coils k ≤ 400) → Completes (fun dt => .litTransitionDone dt coils) [.evr, .sys]
    [(reg wSYS 0, 2)]
    (fun s => s.sys.trans = some x ∧ x.target = .lit ∧ x.todo = [] ∧ x.engines = true)
    (fun s t => t.sys = { s.sys with pwr := .lit, trans := none } ∧ t.raised (reg wSYS 0) 2))
  ∧ (∀ (x : Trans), Completes (fun dt => .contactorsOpen dt) [.sys]
    []
    (fun s => s.sys.trans = some x ∧ x.target ≠ .lit ∧ x.opened = false ∧ x.t0 + x.fade * 20000000 + 200000 ≤ s.raw)
    (fun s t => t.sys = { s.sys with
        closed := [], openCoil := [], trans := some { x with opened := true, last := some s.raw } }))
  ∧ (∀ (coils : List Nat) (x : Trans), Completes (fun dt => .vigilTransitionDone dt coils) [.evr, .sys]
    [(reg wSYS 0, 2)]
    (fun s => s.sys.trans = some x ∧ x.target = .vigil ∧ x.opened = true)
    (fun s t => t.sys = { s.sys with pwr := .vigil, trans := none } ∧ t.raised (reg wSYS 0) 2))
  ∧ (∀ (x : Trans), Completes (fun dt => .offEnter dt) [.evr, .free, .rtc, .sys]
    []
    (fun s => s.rtc.wakePend = none ∧ s.sys.trans = some x ∧ x.target = .off ∧ x.opened = true)
    (fun s t => t.rtc = { s.rtc with pwron := false } ∧
      t.sys = { s.sys with phase := .down, pwr := .off, trans := none, hostRun := false, asserted := [] }))

/-- While output k is closed, VIN is present and OVER is 0, a coil current below 20 mA sets OPEN_COIL k where it was 0, a current above 400 mA sets OVER k, each with COIL_FAULT raised, and a current that is no longer below clears OPEN_COIL k; any other current, and the current of an output not driven, changes nothing. In recovery safe mode a light photocell opens every output at once, and a dark one begins the closing of the outputs the island works by. Everything else stays. -/
def Obligations.CoilFaultsAndPhotocell : Prop :=
  (∀ (k ma : Nat), ma < 20 → Completes (fun dt => .coilOpenCoil dt k ma) [.evr, .sys]
    [(reg wSYS 0, 5)]
    (fun s => s.sys.closed.contains k = true ∧ s.sys.overCur.contains k = false ∧ s.sys.vin = true ∧ s.sys.openCoil.contains k = false)
    (fun s t => t.sys = { s.sys with openCoil := setAdd s.sys.openCoil k } ∧ t.raised (reg wSYS 0) 5))
  ∧ (∀ (k ma : Nat), 400 < ma → Completes (fun dt => .coilOver dt k ma) [.evr, .sys]
    [(reg wSYS 0, 5)]
    (fun s => s.sys.closed.contains k = true ∧ s.sys.overCur.contains k = false ∧ s.sys.vin = true)
    (fun s t => t.sys = { s.sys with overCur := setAdd s.sys.overCur k } ∧ t.raised (reg wSYS 0) 5))
  ∧ (∀ (k ma : Nat), 20 ≤ ma → Completes (fun dt => .openCoilClear dt k ma) [.sys]
    []
    (fun s => s.sys.closed.contains k = true ∧ s.sys.overCur.contains k = false ∧ s.sys.vin = true)
    (fun s t => t.sys = { s.sys with openCoil := without s.sys.openCoil k }))
  ∧ (∀ (x k ma : Nat), Completes (fun dt => (if x = 0 then .coilOpenCoil dt k ma else if x = 1 then .coilOver dt k ma else .openCoilClear dt k ma)) []
    []
    (fun s => s.coilDriven k = false ∨ (x = 0 ∧ 20 ≤ ma) ∨ (x = 1 ∧ ma ≤ 400) ∨ (2 ≤ x ∧ ma < 20))
    (fun s t => t = s))
  ∧ (Completes (fun dt => .photocellLevelHeld dt false) [.sys]
    []
    (fun s => s.sys.safe = true ∧ s.sys.phase = .up)
    (fun s t => t.sys = { s.sys with closed := [], openCoil := [], photo := none }))
  ∧ (Completes (fun dt => .photocellLevelHeld dt true) [.sys]
    []
    (fun s => s.sys.safe = true ∧ s.sys.phase = .up)
    (fun s t => t.sys = { s.sys with photo := some (s.raw, numberedFrom 0 (s.mtr.map.filterMap (fun f => f.2.contactor))) }))

/-- A RESETn pulse of at least 10 µs, one of 1 to 10 µs that acts, and a SYS_RSTCMD pair assert RESETN, RSTCMD_HOST and RSTCMD_SYS; the host watchdog, the system watchdog after its period and the boot window after its length assert WDT_HOST and WDT_SYS; a debug reset request asserts its source. A RESETn pulse below 1 µs does nothing. Everything else stays. -/
def Obligations.ResetSourcesAssert : Prop :=
  (∀ (width : Nat) (acts : Bool), (10000 ≤ width ∨ (1000 ≤ width ∧ acts = true)) → Completes (fun dt => .resetnPulse dt width acts) [.sys]
    []
    (fun s => s.sys.vin = true ∧ s.goingOff = false)
    (fun s t => t.sys = { s.sys with asserted := setAdd s.sys.asserted 3 }))
  ∧ (∀ (width : Nat) (acts : Bool), (width < 1000) → Completes (fun dt => .resetnPulse dt width acts) []
    []
    (fun _ => True)
    (fun s t => t = s))
  ∧ (Completes (fun dt => .wdtHostExpire dt) [.sys]
    []
    (fun s => s.sys.phase = .up ∧ s.sys.hostRun = true)
    (fun s t => t.sys = { s.sys with asserted := setAdd s.sys.asserted 4 }))
  ∧ (∀ (r : Nat), Completes (fun dt => .wdtSysExpire dt) [.sys]
    []
    (fun s => s.works wFLT ∧ s.sys.wdtAt = some r ∧ r + s.sys.wdtPeriod * 200000000 ≤ s.raw)
    (fun s t => t.sys = { s.sys with asserted := setAdd s.sys.asserted 5 }))
  ∧ (∀ (r : Nat), Completes (fun dt => .bootWindowExpire dt) [.sys]
    []
    (fun s => s.sys.phase = .up ∧ s.sys.booted = false ∧
      s.sys.bootAt = some r ∧ r + max 1 (fld (s.cfg (reg wSYS 0x050)) 11 0) * 200000000 ≤ s.raw)
    (fun s t => t.sys = { s.sys with asserted := setAdd s.sys.asserted 5 }))
  ∧ (∀ (m : Nat), Completes (fun dt => .rstcmdHost dt m) [.cfg, .reply, .sys]
    []
    (fun s => s.lets m (reg wSYS 0x048))
    (fun s t => s.stores t (reg wSYS 0x048) 0x10000000 ∧ t.sys = { s.sys with asserted := setAdd s.sys.asserted 12 }))
  ∧ (∀ (m : Nat), Completes (fun dt => .rstcmdSystem dt m) [.cfg, .reply, .sys]
    []
    (fun s => s.lets m (reg wSYS 0x048))
    (fun s t => s.stores t (reg wSYS 0x048) 0x20000000 ∧ t.sys = { s.sys with asserted := setAdd s.sys.asserted 13 }))
  ∧ (Completes (fun dt => .debugResetRequest dt) [.sys]
    []
    (fun _ => True)
    (fun s t => t.sys = { s.sys with asserted := setAdd s.sys.asserted 13 }))

/-- A BOOTOK pair in a running module that has not had one closes the boot window, clears WARMFAIL and COLDFAIL and starts the system watchdog with its period clamped to 1 to 600 s. A FUSEPROG pair with the service port present, the store unlocked and in PROVISIONED or OWNED, and a bit in range that reads back, blows exactly that bit of its map, with code 0 and FUSE_DONE. A kick restarts the watchdog's period with the PERIOD in force. Everything else stays. -/
def Obligations.BootFuseAndWatchdog : Prop :=
  (∀ (m : Nat) (v : Word), bit v 0 = true → Completes (fun dt => .sysBootok dt m v) [.cfg, .reply, .rtc, .sys]
    []
    (fun s => s.lets m (reg wSYS 0x04C) ∧ s.sys.phase = .up ∧ s.sys.booted = false)
    (fun s t => s.stores t (reg wSYS 0x04C) 1 ∧ t.rtc = { s.rtc with bkp28 := 0 } ∧
      t.sys = { s.sys with
        booted := true, bootAt := none, wdtAt := some s.raw,
        wdtPeriod := min 600 (max 1 (fld (s.cfg (reg wFLT 0x010)) 9 0)) }))
  ∧ (∀ (m : Nat) (v : Word), Completes (fun dt => .fuseprog dt m v true) [.cfg, .evr, .reply, .sys]
    [(reg wSYS 0, 6)]
    (fun s => s.lets m (reg wSYS 0x060) ∧ s.upd.svcPresent = true ∧ s.key.locked = false ∧
      (s.lifeCycle = .provisioned ∨ s.lifeCycle = .owned) ∧ (if bit v 31 then fld v 9 0 ≤ 551 else fld v 9 0 ≤ 27))
    (fun s t => t.sys = { s.sys with
        fuseCode := 0,
        fuses := if bit v 31 then { s.sys.fuses with pinMap := s.sys.fuses.pinMap ||| 2 ^ fld v 9 0 }
          else { s.sys.fuses with rstMap := s.sys.fuses.rstMap ||| 2 ^ fld v 9 0 } } ∧ t.raised (reg wSYS 0) 6))
  ∧ (∀ (m : Nat) (v : Word), bit v 0 = true → Completes (fun dt => .fltWdtkick dt m v) [.cfg, .reply, .sys]
    []
    (fun s => s.lets m (reg wFLT 0x014) ∧ s.sys.wdtAt.isSome = true)
    (fun s t => s.stores t (reg wFLT 0x014) 1 ∧
      t.sys = { s.sys with wdtAt := some s.raw, wdtPeriod := min 600 (max 1 (fld (s.cfg (reg wFLT 0x010)) 9 0)) }))

/-- A loss of VIN in a module that runs begins the hold-up and abandons any transition, the closing of a photocell and a wake event kept for OFF; HOLD is entered at its end, where the module stands without its clocks; VIN returns to a module in HOLD, which charges its hold-up; a loss of the backup cell's retention while VIN is absent is noted for the next start. Everything else stays. -/
def Obligations.SupplyLossAndReturn : Prop :=
  (Completes (fun dt => .vinLoss dt) [.rtc, .sys]
    []
    (fun s => s.sys.vin = true)
    (fun s t => t.sys = { s.sys with vin := false, charged := false, phase := .dying, trans := none, photo := none } ∧
      t.rtc = { s.rtc with wakePend := none }))
  ∧ (Completes (fun dt => .holdEnter dt) [.evr, .sys]
    []
    (fun s => s.sys.phase = .dying ∧ s.sys.vin = false)
    (fun s t => t.sys = { s.sys with phase := .down, pwr := .hold, trans := none, asserted := [], hostRun := false }))
  ∧ (∀ dt s, s.sys.vin = false → s.sys.phase = .down → exec (.vinReturn dt) s =
    .next { s with sys := { s.sys with vin := true, phase := .charging } })
  ∧ (∀ dt s, s.sys.vin = false → s.sys.phase = .down → exec (.vbakRetentionLoss dt) s =
    .next { s with sys := { s.sys with vbakLost := true } })

/-- Where sources are asserted in a running module whose last start succeeded, that is not in recovery safe mode and holds no trial, RESET_ASSERT runs a start that records exactly those sources, at the most severe of their levels; a start at L0 or L1 restarts the raw counter and one at L2 or L3 does not; an L3 start ends at once in VIGIL with the host released and a new boot window. A start after VIN has returned runs with VIN_POR, or BAK_POR where the retention was lost. A mandatory block without clock-good halts the start with its HALT code; an optional one is held in reset with CLK_FAIL; 10 s after the halt or its last retry a retry follows: one that finds the clocks runs at L1, another is followed by the next. -/
def Obligations.StartsRun : Prop :=
  (Completes (fun dt => .resetAssert dt) [.stat, .acc, .act, .busErr, .cfg, .changed, .cyc, .eth0, .eth1, .evr, .flt, .free, .key, .latch, .lne, .ltb, .mem, .mst, .mtr, .pairs, .parity, .qdm, .reply, .rtc, .scn, .str, .sys, .tbs, .upd, .usb, .wav]
    []
    (fun s => s.sys.phase = .up ∧ s.sys.booted = true ∧ s.sys.safe = false ∧ s.upd.sluice ≠ .trial ∧ s.sys.asserted ≠ [])
    (fun s t => t.sys.asserted = [] ∧ t.sys.sources = s.sys.asserted ∧
      t.sys.level = worstLevel s.sys.rstMap s.sys.asserted ∧ t.sys.booted = false ∧ t.sys.fuses = s.sys.fuses ∧
      t.cyc = (if t.sys.level ≤ 1 then 0 else s.cyc) ∧
      (t.sys.level = 3 → t.sys.phase = .up ∧ t.sys.pwr = .vigil ∧ t.sys.hostRun = true ∧ t.sys.bootAt = some s.raw)))
  ∧ (∀ dt s, s.sys.phase = .charging → ∃ t, exec (.holdupCharged dt) s = .next t ∧
    t.sys.asserted = [] ∧ t.sys.sources = [if s.sys.vbakLost then 0 else 1] ∧
    t.sys.level = (if s.sys.vbakLost then 0 else 1) ∧ t.sys.charged = true ∧ t.sys.fuses = s.sys.fuses ∧
    t.rtc.wakeSrc = 2 ∧ t.cyc = 0 ∧ t.pin = s.pin)
  ∧ (∀ (n r : Nat), n < 20 ∧ n ≠ wSYS ∧ n ≠ wTBS ∧ n ≠ wKEY → Completes (fun dt => .clockGoodTimeout dt false n) [.evr, .sys]
    [(reg wSYS 0, 4)]
    (fun s => s.sys.phase = .up ∧ s.sys.bootAt = some r ∧ s.raw ≤ r + 400000 ∧ s.blockOn n = true)
    (fun s t => t.sys = { s.sys with clkFail := setAdd s.sys.clkFail n } ∧ t.raised (reg wSYS 0) 4))
  ∧ (∀ (n r : Nat), Completes (fun dt => .clockGoodTimeout dt true n) [.stat, .acc, .act, .busErr, .cfg, .changed, .cyc, .eth0, .eth1, .evr, .flt, .free, .key, .latch, .lne, .ltb, .mem, .mst, .mtr, .pairs, .parity, .qdm, .reply, .rtc, .scn, .str, .sys, .tbs, .upd, .usb, .wav]
    []
    (fun s => s.sys.phase = .up ∧ s.sys.bootAt = some r ∧ s.raw ≤ r + 400000)
    (fun s t => t.sys = { s.sys with
        phase := .clockHalt, halt := if n = 0x0B ∨ n = 0x0E ∨ n = 0x1E then n else 0x1F, hostRun := false, bootAt := none,
        held := false, trans := none, retryAt := 0 } ∧ t.cyc = 0))
  ∧ (Completes (fun dt => .clockHaltRetry dt true) [.stat, .acc, .act, .busErr, .cfg, .changed, .cyc, .eth0, .eth1, .evr, .flt, .free, .key, .latch, .lne, .ltb, .mem, .mst, .mtr, .pairs, .parity, .qdm, .reply, .rtc, .scn, .str, .sys, .tbs, .upd, .usb, .wav]
    []
    (fun s => s.sys.phase = .clockHalt ∧ s.sys.retryAt + 10 * rawS ≤ s.raw)
    (fun s t => t.sys.phase ≠ .clockHalt ∧ t.sys.level = 1 ∧ t.sys.sources = s.sys.sources ∧ t.sys.fuses = s.sys.fuses ∧ t.cyc = 0))
  ∧ (Completes (fun dt => .clockHaltRetry dt false) [.sys]
    []
    (fun s => s.sys.phase = .clockHalt ∧ s.sys.retryAt + 10 * rawS ≤ s.raw)
    (fun s t => t.sys = { s.sys with retryAt := s.raw }))
  ∧ (∀ (b : Bool), Completes (fun dt => .clockHaltRetry dt b) []
    []
    (fun s => s.sys.phase ≠ .clockHalt ∨ s.raw < s.sys.retryAt + 10 * rawS)
    (fun s t => t = s))

/-- With no chunk in progress: MANIFEST in a RUNNING network session is answered by the first failing check's code, or taken as new with an empty staging area, or resumes the same manifest; CHUNK that passes its checks is in progress with the octets read from UPD_SRC; ACTIVATE in STAGED arms the Sluice and asserts the UPDATE reset; CONFIRM and REVERT in TRIAL end the trial, the first raising the confirmed security version and the second reverting the set; ABORT closes any session and discards the staging area. CMD_DONE or CMD_REFUSED is raised. Everything else stays. -/
def Obligations.UpdateHostCommands : Prop :=
  (∀ (m : Nat), Completes (fun dt => .updManifest dt m) [.cfg, .evr, .reply, .rtc, .upd]
    [(reg wUPD 0, 0), (reg wUPD 0, 1)]
    (fun s => s.lets m (reg wUPD 0x010) ∧ s.upd.chunk = none ∧ s.sessionOpen = true ∧ s.upd.sessNet = true ∧
      s.hst tSESSION 0 = .running ∧ State.memSpan s.updSrc 512 = true ∧
      s.upd.sluice ≠ .armed ∧ s.upd.sluice ≠ .copying ∧ s.upd.sluice ≠ .trial)
    (fun s t => match s.manifestCheck (s.bytes s.updSrc 512) with
      | .error c => t.upd = { s.upd with code := c } ∧ t.raised (reg wUPD 0) 1
      | .ok n => t.raised (reg wUPD 0) 0 ∧ t.upd.manifest = s.bytes s.updSrc 512 ∧ t.upd.code = 0 ∧
        (s.upd.sluice = .idle → t.upd = { s.upd with
          sluice := .receiving, manifest := s.bytes s.updSrc 512, manifestSlot := n, imageSlot := 0, bytes := 0,
          staging := [], stagedImage := none, code := 0 })))
  ∧ (∀ (m : Nat), Completes (fun dt => .updChunk dt m) [.cfg, .reply, .upd]
    []
    (fun s => s.lets m (reg wUPD 0x010) ∧ s.upd.chunk = none ∧ s.sessionOpen = true ∧ s.upd.sessNet = true ∧
      s.hst tSESSION 0 = .running ∧ s.upd.sluice = .receiving ∧
      1 ≤ fld (s.cfg (reg wUPD 0x024)) 20 0 ∧ fld (s.cfg (reg wUPD 0x024)) 20 0 ≤ 2 ^ 20 ∧
      (s.cfg (reg wUPD 0x020)).toNat = s.upd.bytes ∧
      s.upd.bytes + fld (s.cfg (reg wUPD 0x024)) 20 0 ≤ manifestTotal s.upd.manifest ∧
      State.memSpan s.updSrc (fld (s.cfg (reg wUPD 0x024)) 20 0) = true)
    (fun s t => t.upd = { s.upd with
        code := 0,
        chunk := some { offset := s.upd.bytes, data := s.bytes s.updSrc (fld (s.cfg (reg wUPD 0x024)) 20 0),
                        svcTag := none } }))
  ∧ (∀ (m : Nat), Completes (fun dt => .updActivate dt m) [.cfg, .evr, .reply, .rtc, .sys, .upd]
    [(reg wUPD 0, 0)]
    (fun s => s.lets m (reg wUPD 0x010) ∧ s.upd.chunk = none ∧ s.upd.sluice = .staged ∧
      (s.sessionOpen = false ∨ s.upd.sessNet = true))
    (fun s t => t.upd = { s.upd with code := 0, sluice := .armed } ∧
      t.sys = { s.sys with asserted := setAdd s.sys.asserted 11 } ∧ t.raised (reg wUPD 0) 0))
  ∧ (∀ (m : Nat), Completes (fun dt => .updConfirm dt m) [.cfg, .evr, .key, .reply, .rtc, .upd]
    [(reg wUPD 0, 0), (reg wUPD 0, 5)]
    (fun s => s.lets m (reg wUPD 0x010) ∧ s.upd.chunk = none ∧ s.upd.sluice = .trial)
    (fun s t => t.upd = { s.upd with
        confirmed := true, secver := max s.upd.secver s.activeSet.secver, trialAt := none, sluice := .idle, manifest := [],
        manifestSlot := 0, imageSlot := 0, bytes := 0, staging := [], stagedImage := none, code := 0 } ∧
      t.raised (reg wUPD 0) 0 ∧ t.raised (reg wUPD 0) 5))
  ∧ (∀ (m : Nat), Completes (fun dt => .updAbort dt m) [.cfg, .evr, .reply, .rtc, .str, .upd]
    [(reg wUPD 0, 0)]
    (fun s => s.lets m (reg wUPD 0x010) ∧ s.upd.chunk = none)
    (fun s t => t.upd = { s.upd with
        sluice := .idle, manifest := [], manifestSlot := 0, imageSlot := 0, bytes := 0, staging := [], stagedImage := none,
        code := 0 } ∧
      t.hst tSESSION 0 = .free ∧ t.raised (reg wUPD 0) 0))
  ∧ (∀ (m : Nat), Completes (fun dt => .updRevert dt m) [.cfg, .evr, .reply, .rtc, .sys, .upd]
    [(reg wUPD 0, 0), (reg wUPD 0, 6)]
    (fun s => s.lets m (reg wUPD 0x010) ∧ s.upd.chunk = none ∧ s.upd.sluice = .trial)
    (fun s t => t.upd = { s.upd with
        activeB := !s.upd.activeB, confirmed := true, sluice := .staged, trialAt := none, code := 0 } ∧
      t.sys = { s.sys with asserted := setAdd s.sys.asserted 11 } ∧ t.raised (reg wUPD 0) 0 ∧ t.raised (reg wUPD 0) 6))

/-- A host chunk that has been written and read back joins the staging area, and the last one begins the verification; one that could not be is refused as IO. Verification ends with the image staged or with the first failing part's code and everything discarded. Each copied block counts in its stream; the end of the copy makes the other set active and unconfirmed in TRIAL, or leaves the Sluice STAGED with the old set. An expired trial reverts the set and asserts the UPDATE reset. Everything else stays. -/
def Obligations.UpdateProgress : Prop :=
  (∀ (c : ChunkJob), Completes (fun dt => .chunkConfirmed dt true) [.evr, .rtc, .upd]
    [(reg wUPD 0, 0)]
    (fun s => s.works wUPD ∧ s.upd.chunk = some c ∧ c.svcTag = none)
    (fun s t => t.upd = { s.upd with
        chunk := none, staging := s.upd.staging ++ [(c.offset, c.data)], bytes := c.offset + c.data.length, code := 0,
        sluice := if manifestTotal s.upd.manifest ≤ c.offset + c.data.length then .verifying else s.upd.sluice } ∧
      t.raised (reg wUPD 0) 0))
  ∧ (∀ (c : ChunkJob), Completes (fun dt => .chunkConfirmed dt false) [.evr, .upd]
    [(reg wUPD 0, 1)]
    (fun s => s.works wUPD ∧ s.upd.chunk = some c ∧ c.svcTag = none)
    (fun s t => t.upd = { s.upd with chunk := none, code := 0xA } ∧ t.raised (reg wUPD 0) 1))
  ∧ (∀ (ioOk : Bool), Completes (fun dt => .verifyDone dt ioOk) [.evr, .rtc, .upd]
    [(reg wUPD 0, 3), (reg wUPD 0, 4)]
    (fun s => s.works wUPD ∧ s.upd.sluice = .verifying)
    (fun s t => match s.verifyParts ioOk (List.range (manifestCount s.upd.manifest)) none with
      | .ok g => t.upd = { s.upd with sluice := .staged, stagedImage := g.map (·.1), imageSlot := (g.map (·.2)).getD 0 } ∧
        t.raised (reg wUPD 0) 3
      | .error e => t.upd = { s.upd with
          sluice := .idle, manifest := [], manifestSlot := 0, imageSlot := 0, bytes := 0, staging := [],
          stagedImage := none, chunk := none, code := e.2 } ∧ t.raised (reg wUPD 0) 4))
  ∧ (Completes (fun dt => .verifyDone dt false) [.evr, .rtc, .upd]
    [(reg wUPD 0, 4)]
    (fun s => s.works wUPD ∧ s.upd.sluice = .verifying ∧ 1 ≤ manifestCount s.upd.manifest)
    (fun _ t => t.upd.code = 0xA ∧ t.upd.sluice = .idle ∧ t.upd.staging = [] ∧ t.raised (reg wUPD 0) 4))
  ∧ (∀ (host : Bool), Completes (fun dt => .copyBlock dt host true) [.upd]
    []
    (fun s => s.sys.phase = .copying ∧ s.upd.sluice = .copying ∧
      (if host then s.upd.copyHost < 8192 else s.upd.copyNor < 448))
    (fun s t => t.upd = (if host then { s.upd with copyHost := s.upd.copyHost + 1 }
        else { s.upd with copyNor := s.upd.copyNor + 1 })))
  ∧ (∀ (host : Bool), Completes (fun dt => .copyBlock dt host false) []
    []
    (fun s => s.sys.phase = .copying)
    (fun s t => t = s))
  ∧ (∀ (ok : Bool), Completes (fun dt => .copyComplete dt ok) [.stat, .acc, .act, .cfg, .changed, .evr, .lne, .ltb, .mem, .mst, .mtr, .qdm, .rtc, .scn, .str, .sys, .tbs, .upd]
    []
    (fun s => s.sys.phase = .copying ∧ s.upd.sluice = .copying ∧ s.upd.copyNor = 448 ∧ s.upd.copyHost = 8192)
    (fun s t => t.upd.copyNor = 0 ∧ t.upd.copyHost = 0 ∧ t.sys.phase ≠ .copying ∧
      (if ok then t.upd.sluice = .trial ∧ t.upd.activeB = !s.upd.activeB ∧ t.upd.confirmed = false ∧ t.activeSet = s.newSet ∧
        t.inactiveSet = s.activeSet
      else t.upd.sluice = .staged ∧ t.upd.activeB = s.upd.activeB ∧ t.activeSet = s.activeSet)))
  ∧ (∀ (r : Nat), Completes (fun dt => .trialExpire dt) [.evr, .rtc, .sys, .upd]
    [(reg wUPD 0, 6)]
    (fun s => s.works wUPD ∧ s.upd.sluice = .trial ∧ s.upd.trialAt = some r ∧ s.sys.phase = .up ∧
      r + manifestTrial s.upd.manifest * 200000000 ≤ s.raw)
    (fun s t => t.upd = { s.upd with activeB := !s.upd.activeB, confirmed := true, sluice := .staged, trialAt := none } ∧
      t.sys = { s.sys with asserted := setAdd s.sys.asserted 11 } ∧ t.raised (reg wUPD 0) 6))

/-- On an attached and enabled port: OPEN with no session and an idle Sluice opens and starts one and answers with the manifest's code; CHUNK that passes its checks is in progress with its tag; CLOSE frees the session; ACTIVATE in STAGED arms the Sluice and asserts the UPDATE reset; CONFIRM in TRIAL ends the trial; ABORT closes and discards. Each is answered by a REPLY with its tag and result. Everything else stays. -/
def Obligations.ServicePortSession : Prop :=
  (∀ (tag : Nat) (m : List Byte), m.length = 512 → Completes (fun dt => .svcOpen dt tag m) [.evr, .rtc, .str, .upd, .usb]
    [(reg wUPD 0, 1), (reg wUSB 0, 2)]
    (fun s => s.svcUp = true ∧ s.sys.phase ≠ .tamperHalt ∧ s.sessionOpen = false ∧ s.upd.sluice = .idle)
    (fun s t => t.hst tSESSION 0 = .running ∧ t.upd.sessNet = false ∧
      match s.manifestCheck m with
      | .error c => t.replied tag c ∧ t.upd.sluice = .idle
      | .ok _ => t.replied tag 0 ∧ t.upd.sluice = .receiving ∧ t.upd.manifest = m ∧ t.upd.bytes = 0))
  ∧ (∀ (tag off : Nat) (d : List Byte), d ≠ [] ∧ d.length ≤ 2 ^ 20 → Completes (fun dt => .svcChunk dt tag off d) [.upd]
    []
    (fun s => s.svcUp = true ∧ s.sys.phase ≠ .tamperHalt ∧ s.svcSession = true ∧ s.hst tSESSION 0 = .running ∧
      s.upd.chunk = none ∧ s.upd.sluice = .receiving ∧ s.upd.bytes = off ∧
      off + d.length ≤ manifestTotal s.upd.manifest)
    (fun s t => t.upd = { s.upd with chunk := some { offset := off, data := d, svcTag := some tag } }))
  ∧ (∀ (tag : Nat), Completes (fun dt => .svcClose dt tag) [.rtc, .str, .usb]
    []
    (fun s => s.svcUp = true ∧ s.sys.phase ≠ .tamperHalt ∧ s.svcSession = true)
    (fun _ t => t.replied tag 0 ∧ t.hst tSESSION 0 = .free))
  ∧ (∀ (tag : Nat), Completes (fun dt => .svcActivate dt tag) [.rtc, .sys, .upd, .usb]
    []
    (fun s => s.svcUp = true ∧ s.sys.phase ≠ .tamperHalt ∧ s.svcSession = true ∧ s.upd.sluice = .staged)
    (fun s t => t.replied tag 0 ∧ t.upd = { s.upd with sluice := .armed } ∧
      t.sys = { s.sys with asserted := setAdd s.sys.asserted 11 }))
  ∧ (∀ (tag : Nat), Completes (fun dt => .svcConfirm dt tag) [.evr, .key, .rtc, .upd, .usb]
    [(reg wUPD 0, 5)]
    (fun s => s.svcUp = true ∧ s.sys.phase ≠ .tamperHalt ∧ s.upd.sluice = .trial)
    (fun s t => t.replied tag 0 ∧ t.upd.sluice = .idle ∧ t.upd.confirmed = true ∧
      t.upd.secver = max s.upd.secver s.activeSet.secver ∧ t.raised (reg wUPD 0) 5))
  ∧ (∀ (tag : Nat), Completes (fun dt => .svcAbort dt tag) [.rtc, .str, .upd, .usb]
    []
    (fun s => s.svcUp = true ∧ s.sys.phase ≠ .tamperHalt ∧ s.upd.chunk = none)
    (fun _ t => t.replied tag 0 ∧ t.hst tSESSION 0 = .free ∧ t.upd.sluice = .idle ∧ t.upd.staging = [] ∧ t.upd.manifest = []))

/-- STATUS is answered with result 0 and a malformed message with FORMAT, CMD_REFUSED and the port's message error; a key message is answered with the first failing check's code, which KEY shows as a refused command too, or begins its command, and ends a HASH or HMAC in progress; console octets reach an open console and octets from the module leave as CONSOLE messages; SVC_PRESENTn and VBUS take the level they change to, each with its event, and a loss of VBUS detaches the device and closes the port's session. Everything else stays. -/
def Obligations.ServicePortMessages : Prop :=
  (∀ (tag : Nat), Completes (fun dt => .svcStatus dt tag) [.usb]
    []
    (fun s => s.svcUp = true ∧ s.sys.phase ≠ .tamperHalt)
    (fun s t => t.replied tag 0 ∧ t.usb.console = s.usb.console))
  ∧ (∀ (tag : Nat), Completes (fun dt => .svcBadMessage dt tag) [.evr, .usb]
    [(reg wUPD 0, 1), (reg wUSB 0, 2)]
    (fun s => s.svcUp = true ∧ s.sys.phase ≠ .tamperHalt)
    (fun _ t => t.replied tag 3 ∧ t.raised (reg wUPD 0) 1 ∧ t.raised (reg wUSB 0) 2))
  ∧ (∀ (tag : Nat) (msg : List Byte), Completes (fun dt => .svcKeymsg dt tag msg) [.evr, .key, .usb]
    [(reg wKEY 0, 1), (reg wUPD 0, 1), (reg wUSB 0, 2)]
    (fun s => s.svcUp = true ∧ s.sys.phase ≠ .tamperHalt ∧ s.key.job = none)
    (fun s t => match s.kumCheck msg msg.length with
      | .error c => t.replied tag c ∧ t.raised (reg wKEY 0) 1 ∧ t.key = { s.key with code := c, outLen := 0, stream := none }
      | .ok v => t.key = { s.key with job := some (s.kumJob msg v (some tag)), code := 0, outLen := 0, stream := none } ∧ t.usb = s.usb))
  ∧ (∀ (tag : Nat) (d : List Byte), d ≠ [] ∧ d.length ≤ 4096 → Completes (fun dt => .svcConsole dt tag d) [.usb]
    []
    (fun s => s.svcUp = true ∧ s.sys.phase ≠ .tamperHalt ∧ s.hst tSESSION 1 = .running)
    (fun s t => t.usb = { s.usb with console := d }))
  ∧ (∀ (d : List Byte), d ≠ [] → Completes (fun dt => .consoleOut dt d) [.free, .usb]
    []
    (fun s => s.works wUSB ∧ s.svcUp = true ∧ s.hst tSESSION 1 = .running)
    (fun s t => t.usb.out.map (fun x => (x.op, x.body)) = some (0x89, d) ∧ t.usb.console = s.usb.console))
  ∧ (∀ (a : Bool), Completes (fun dt => .svcPresentChange dt a) [.evr, .rtc, .upd]
    [(reg wUSB 0, 1)]
    (fun s => s.upd.svcPresent ≠ a)
    (fun s t => t.upd = { s.upd with svcPresent := a } ∧ t.raised (reg wUSB 0) 1))
  ∧ (∀ (c h : Bool), Completes (fun dt => .vbusChange dt true c h) [.evr, .usb]
    [(reg wUSB 0, 0)]
    (fun s => s.usb.vbus = false ∧ fld (s.cfg (reg wUSB 0x004)) 0 0 = 1)
    (fun s t => t.usb = { s.usb with vbus := true, configured := c, highSpeed := c && h } ∧ t.raised (reg wUSB 0) 0))
  ∧ (∀ (c h : Bool), Completes (fun dt => .vbusChange dt false c h) [.evr, .rtc, .str, .usb]
    [(reg wUSB 0, 0)]
    (fun s => s.usb.vbus = true)
    (fun s t => t.usb = { s.usb with vbus := false, configured := false, highSpeed := false } ∧ t.raised (reg wUSB 0) 0 ∧
      t.svcSession = false ∧ (s.svcSession = true → t.hst tSESSION 0 = .free)))

/-- An access to the register space with a cause of R81 is answered with data 0 and the error, whether it reads or writes; the first since BUSERR was cleared is captured with its address, master, direction and cause and sets BUSERR, a later one only counts up, saturating at 255. Everything else stays. -/
def Obligations.BusErrors : Prop :=
  (∀ (m addr size v : Nat) (w : Bool), State.isRegSpace addr = true ∧ State.isSplit m addr size = false → Completes (fun dt => .errorResponse dt m addr size w v) [.busErr, .evr, .reply]
    [(reg wSYS 0, 0)]
    (fun s => s.errCause m addr size ≠ 0 ∧ ¬s.raised (reg wSYS 0) 0)
    (fun s t => t.regs.reply = { data := 0, error := true } ∧ t.raised (reg wSYS 0) 0 ∧
      t.regs.busErr = { addr := addr % 2 ^ 32, count := 0, master := m, write := w, cause := s.errCause m addr size }))
  ∧ (∀ (m addr size v : Nat) (w : Bool), State.isRegSpace addr = true ∧ State.isSplit m addr size = false → Completes (fun dt => .errorResponse dt m addr size w v) [.busErr, .reply]
    []
    (fun s => s.errCause m addr size ≠ 0 ∧ s.raised (reg wSYS 0) 0)
    (fun s t => t.regs.reply = { data := 0, error := true } ∧
      t.regs.busErr = { s.regs.busErr with count := min (s.regs.busErr.count + 1) 255 }))

/-- A 32-bit write that the fabric lets through to a plain RW register with no rule of its own, at any alias of its address, stores exactly the register's writable bits. A read of a register whose read latches its upper half answers the register's value and latches the upper half. Everything else stays. Where a status register holds an event and its last post was in an earlier 1 µs step, the oldest held event's bits are set and no other (the recorder's own LOST, CAPERR and TALLY_SAT may be set with them in REC_STATUS), SEQ advances by one modulo 256 and each of those bits takes the new SEQ value as its mark; within the same step nothing happens. An access is answered with an error response under cause 1 for any access that is not an aligned 32-bit one, else 2 outside the windows, else the block's own cause (3 in reset, 4 not enabled), else 5 for a master that is neither a host core nor the debug port, and 0 for every other access. -/
def Obligations.RegisterAccesses : Prop :=
  (∀ (m addr v w : Nat) (i : RegInfo), [wSYS, wSCN, wWAV, wMST, wMTR, wACC, wLNE, wUPD, wFLT, wETH0, wETH1, wUSB, wPIN].contains w = true ∧ windowOf addr = some w ∧ upperHalf addr = false ∧ statMask (firstAddr addr) = 0 ∧ i.acc = .rw → ∀ (dt : Nat) (s0 : State), let s := s0.after dt; s0.powered = true → (s.lets m addr ∧ regInfo s.sys.fuses (firstAddr addr) = some i) →
    ∃ t, exec (.registerWrite dt m addr 4 v) s0 = .next t ∧
      (s.stores t (firstAddr addr) (BitVec.ofNat 32 v &&& i.mask) ∧ t.regs.reply = { data := 0, error := false }) ∧
      Frame [.cfg, .reply]
        [] s t)
  ∧ (∀ (m addr h : Nat), upperHalf addr = false → ∀ (dt : Nat) (s0 : State), let s := s0.after dt; s0.powered = true → (s.lets m addr ∧ s.latchHi (firstAddr addr) = some h) →
    ∃ t, exec (.loHiLatchRead dt m addr 4) s0 = .next t ∧
      (t.regs.reply = { data := s.view (firstAddr addr), error := false } ∧
      t.latchOf (firstAddr addr + 4) = BitVec.ofNat 32 h ∧
      ∀ b, b ≠ firstAddr addr + 4 → t.latchOf b = s.latchOf b) ∧
      Frame [.latch, .reply]
        [] s t)
  ∧ (∀ (addr : Nat) (h : Held) (r : List Held), statMask (firstAddr addr) ≠ 0 → ∀ (dt : Nat) (s0 : State), let s := s0.after dt; s0.powered = true → ((s.statOf (firstAddr addr)).held = h :: r ∧
      (s.statOf (firstAddr addr)).last.map (· / 400) ≠ some (s.cyc / 400)) →
    ∃ t, exec (.statusEventPost dt addr) s0 = .next t ∧
      ((t.statOf (firstAddr addr)).seq = ((s.statOf (firstAddr addr)).seq + 1) % 256 ∧
      (∀ b < 24, ((s.statOf (firstAddr addr)).bits ||| h.bits).testBit b = true → (t.statOf (firstAddr addr)).bits.testBit b = true) ∧
      (∀ b < 24, ¬(firstAddr addr = reg wREC 0 ∧ 2 ≤ b ∧ b ≤ 4) → (t.statOf (firstAddr addr)).bits.testBit b = true →
        ((s.statOf (firstAddr addr)).bits ||| h.bits).testBit b = true) ∧
      ∀ b < 24, h.bits.testBit b = true →
        tabGetD 0 (t.statOf (firstAddr addr)).marks b = ((s.statOf (firstAddr addr)).seq + 1) % 256) ∧
      Frame [.evr, .stat]
        [] s t)
  ∧ (∀ (addr : Nat), ∀ (dt : Nat) (s0 : State), let s := s0.after dt; s0.powered = true → ((s.statOf (firstAddr addr)).last.map (· / 400) = some (s.cyc / 400)) →
    ∃ t, exec (.statusEventPost dt addr) s0 = .next t ∧
      (t = s) ∧
      Frame []
        [] s t)
  ∧ (∀ (s : State) (m addr size : Nat),
    (s.errCause m addr size = 1 ↔ size ≠ 4 ∨ addr % 4 ≠ 0) ∧
    (size = 4 → addr % 4 = 0 →
      (s.errCause m addr size = 2 ↔ addr < 0x40000000 ∨ 0x40140000 ≤ addr) ∧
      (∀ w, 0x40000000 + 0x10000 * w ≤ addr → addr < 0x40010000 + 0x10000 * w → w ≤ 0x13 →
        (s.errCause m addr size = 3 ↔ s.blockCause w = 3) ∧ (s.errCause m addr size = 4 ↔ s.blockCause w = 4) ∧
        (s.errCause m addr size = 5 ↔ s.blockCause w = 0 ∧ 4 ≤ m ∧ m ≠ 15) ∧
        (s.errCause m addr size = 0 ↔ s.blockCause w = 0 ∧ (m ≤ 3 ∨ m = 15)))))

/-- A write of S and a mask to a status register clears each masked implemented bit b exactly where (SEQ − mark of b) modulo 256 is at least (SEQ − S) modulo 256; SEQ, the held events, every other bit and every other status register stay. -/
def Obligations.ClearingBySequence : Prop :=
  (∀ (m addr a : Nat) (v : Word), firstAddr addr = a ∧ upperHalf addr = false ∧ statMask a ≠ 0 → Completes (fun dt => .statusClear dt m addr v) [.reply, .stat]
    []
    (fun s => s.lets m addr)
    (fun s t => (∀ b < 24, (t.statOf a).bits.testBit b = true ↔ (s.statOf a).bits.testBit b = true ∧
        ¬(v.toNat.testBit b = true ∧ (statMask a).testBit b = true ∧
          ((s.statOf a).seq + 256 - v.toNat / 2 ^ 24) % 256 ≤
            ((s.statOf a).seq + 256 - tabGetD 0 (s.statOf a).marks b % 256) % 256)) ∧
      (t.statOf a).seq = (s.statOf a).seq ∧ (t.statOf a).held = (s.statOf a).held ∧
      ∀ x, x ≠ a → t.statOf x = s.statOf x))

/-- A write to a guarded register opens its block's pair with its offset, value, master and time; a second write of the complement at the matching upper-half offset within 32 fabric cycles stores the first value and closes the pair, and a second write of another value closes it with GUARD_VIOL and stores nothing; a write in the upper half with no pair open raises GUARD_VIOL and changes no register; a pair older than 32 cycles fails, a younger one stands. -/
def Obligations.GuardedPairs : Prop :=
  (∀ (m addr w : Nat) (v : Word), windowOf addr = some w ∧ guarded w = true ∧ upperHalf addr = false → ∀ (dt : Nat) (s0 : State), let s := s0.after dt; s0.powered = true → (s.lets m addr ∧ s.isWG (firstAddr addr) = true) →
    ∃ t, exec (.guardPairOpen dt m addr v) s0 = .next t ∧
      (t.openPair w = some { win := w, off := firstOff w addr, addr := addr, value := v, master := m, cyc := s.cyc } ∧
      ∀ x, x ≠ w → t.openPair x = s.openPair x) ∧
      Frame [.pairs, .reply]
        [] s t)
  ∧ (∀ (m addr n : Nat) (p : GuardPair), windowOf addr = some wFLT ∧ upperHalf addr = true ∧ firstOff wFLT addr = 0x010 ∧ BitVec.ofNat 32 n = ~~~p.value ∧ p.off = 0x010 → ∀ (dt : Nat) (s0 : State), let s := s0.after dt; s0.powered = true → (s.errCause m addr 4 = 0 ∧ s.openPair wFLT = some p ∧ s.cyc ≤ p.cyc + 32) →
    ∃ t, exec (.registerWrite dt m addr 4 n) s0 = .next t ∧
      (s.stores t (reg wFLT 0x010) (p.value &&& 0x3FF) ∧ t.openPair wFLT = none) ∧
      Frame [.cfg, .pairs, .reply]
        [] s t)
  ∧ (∀ (m addr n : Nat) (p : GuardPair), windowOf addr = some wFLT ∧ upperHalf addr = true ∧ BitVec.ofNat 32 n ≠ ~~~p.value → ∀ (dt : Nat) (s0 : State), let s := s0.after dt; s0.powered = true → (s.errCause m addr 4 = 0 ∧ s.openPair wFLT = some p ∧ s.cyc ≤ p.cyc + 32) →
    ∃ t, exec (.registerWrite dt m addr 4 n) s0 = .next t ∧
      (t.openPair wFLT = none ∧ t.raised (reg wFLT 0) 7) ∧
      Frame [.evr, .pairs, .reply]
        [(reg wFLT 0, 7)] s t)
  ∧ (∀ (m addr w : Nat) (v : Word), windowOf addr = some w ∧ guarded w = true ∧ upperHalf addr = true → ∀ (dt : Nat) (s0 : State), let s := s0.after dt; s0.powered = true → (s.errCause m addr 4 = 0 ∧ s.openPair w = none) →
    ∃ t, exec (.guardStrayWrite dt m addr v) s0 = .next t ∧
      (t.raised (reg w 0) (State.guardBit w)) ∧
      Frame [.evr, .reply]
        [(reg w 0, State.guardBit w)] s t)
  ∧ (∀ (w : Nat) (p : GuardPair), guarded w = true → ∀ (dt : Nat) (s0 : State), let s := s0.after dt; s0.powered = true → (s.openPair w = some p ∧ p.cyc + 32 < s.cyc) →
    ∃ t, exec (.guardTimeout dt w) s0 = .next t ∧
      (t.openPair w = none ∧ t.raised (reg w 0) (State.guardBit w)) ∧
      Frame [.evr, .pairs]
        [(reg w 0, State.guardBit w)] s t)
  ∧ (∀ (w : Nat) (p : GuardPair), ∀ (dt : Nat) (s0 : State), let s := s0.after dt; s0.powered = true → (s.openPair w = some p ∧ s.cyc ≤ p.cyc + 32) →
    ∃ t, exec (.guardTimeout dt w) s0 = .next t ∧
      (t = s) ∧
      Frame []
        [] s t)

/-- A corrected error below the limit is noted, counted for its row or sector and raises its bit; the correction that reaches the limit has an SRAM row served by the next spare row. An uncorrectable SRAM error is noted with its row, recorded past the Weir and asserts SRAM_UE; an MRAM error has its sector queued for a copy, whose commit remaps it to the next spare sector. An occurrence with no error changes nothing. Everything else stays. -/
def Obligations.IntegrityErrors : Prop :=
  (∀ (a : Nat), State.inSram a = true → Completes (fun dt => .scrub dt false a true) [.evr, .flt]
    [(reg wFLT 0, 0)]
    (fun s => s.works wFLT ∧ tabGetD 0 s.flt.rowCnt ((a - 0x20000000) / 1024) + 1 < max 1 (fld (s.cfg (reg wFLT 0x040)) 3 0))
    (fun s t => t.flt = { s.flt with
        eccAddr := a, eccMram := false, eccUe := false, eccScrub := true, eccCount := min (s.flt.eccCount + 1) 65535,
        rowCnt := tabSet s.flt.rowCnt ((a - 0x20000000) / 1024)
          (tabGetD 0 s.flt.rowCnt ((a - 0x20000000) / 1024) + 1) } ∧ t.raised (reg wFLT 0) 0))
  ∧ (∀ (a : Nat), State.inSram a = true → Completes (fun dt => .scrub dt false a true) [.evr, .flt]
    [(reg wFLT 0, 0), (reg wFLT 0, 3), (reg wFLT 0, 4)]
    (fun s => s.works wFLT ∧ s.flt.rows.length < 184 ∧
      max 1 (fld (s.cfg (reg wFLT 0x040)) 3 0) ≤ tabGetD 0 s.flt.rowCnt ((a - 0x20000000) / 1024) + 1)
    (fun s t => t.flt.rows = s.flt.rows ++ [((a - 0x20000000) / 1024, s.flt.rows.length)] ∧ t.raised (reg wFLT 0) 0 ∧
      t.raised (reg wFLT 0) 3 ∧ (s.flt.sramLow = false → 184 - (s.flt.rows.length + 1) ≤ 46 → t.raised (reg wFLT 0) 4)))
  ∧ (∀ (a : Nat), a < 0x1000000 → Completes (fun dt => .scrub dt true a true) [.evr, .flt]
    [(reg wFLT 0, 1)]
    (fun s => s.works wFLT ∧ tabGetD 0 s.flt.secCnt (a / 4096) + 1 < max 1 (fld (s.cfg (reg wFLT 0x040)) 3 0))
    (fun s t => t.flt = { s.flt with
        eccAddr := a, eccMram := true, eccUe := false, eccScrub := true, eccCount := min (s.flt.eccCount + 1) 65535,
        secCnt := tabSet s.flt.secCnt (a / 4096) (tabGetD 0 s.flt.secCnt (a / 4096) + 1) } ∧ t.raised (reg wFLT 0) 1))
  ∧ (∀ (m : Bool) (a : Nat), Completes (fun dt => .scrub dt m a false) []
    []
    (fun _ => True)
    (fun s t => t = s))
  ∧ (∀ (a : Nat) (scr : Bool), State.inSram a = true → Completes (fun dt => .sramUncorrectable dt a scr) [.evr, .flt, .sys]
    []
    (fun s => s.works wFLT)
    (fun s t => t.flt = { s.flt with
        eccAddr := a, eccMram := false, eccUe := true, eccScrub := scr, ueRow := some ((a - 0x20000000) / 1024) } ∧
      t.sys = { s.sys with asserted := setAdd s.sys.asserted 7 } ∧ t.evr.next = (s.evr.next + 1) % 2 ^ 64))
  ∧ (∀ (a : Nat) (u scr : Bool), a < 0x1000000 → Completes (fun dt => .mramError dt a u scr) [.evr, .flt]
    [(reg wFLT 0, 2)]
    (fun s => s.works wFLT ∧ s.flt.copying.contains (a / 4096) = false ∧ s.flt.sectors.length + s.flt.copying.length < 64)
    (fun s t => t.flt.copying = s.flt.copying ++ [a / 4096] ∧ t.flt.sectors = s.flt.sectors ∧ t.raised (reg wFLT 0) 2 ∧
      (u = true → t.flt.eccAddr = a ∧ t.flt.eccMram = true ∧ t.flt.eccUe = true ∧ t.flt.eccScrub = scr)))
  ∧ (∀ (sec : Nat) (r : List Nat), Completes (fun dt => .mramRemapCommit dt) [.evr, .flt]
    [(reg wFLT 0, 3), (reg wFLT 0, 4)]
    (fun s => s.works wFLT ∧ s.flt.copying = sec :: r)
    (fun s t => t.flt.copying = r ∧ t.flt.sectors = s.flt.sectors ++ [(sec, s.flt.sectors.length)] ∧ t.raised (reg wFLT 0) 3))

/-- A lockstep mismatch blocks its pair's outputs and asserts LOCKSTEP; a fault of a mandatory clock asserts CLK_MON, and one of the USB clock holds the block in reset with CLK_FAIL; a fault of the security monitor asserts SECMON; a stored word of a configuration register, in software's copy or in the active one, that comes to mismatch its parity bits asserts CFG_PARITY in the scan that checks it afterwards, and keeps the word; one that comes after its check in the scan is left to the next. The records of lockstep and security monitor take the next record number, and each register a scan finds takes one. A scan that finds nothing, with no test armed, changes nothing. Everything else stays. -/
def Obligations.MonitorsAssertResets : Prop :=
  (∀ (w : Nat), [wSYS, wSCN, wWAV, wLNE, wQDM, wTBS, wKEY].contains w = true → Completes (fun dt => .lockstepMismatch dt w) [.evr, .sys]
    []
    (fun s => s.works wFLT)
    (fun s t => t.sys = { s.sys with blocked := setAdd s.sys.blocked w, asserted := setAdd s.sys.asserted 8 } ∧
      t.evr.next = (s.evr.next + 1) % 2 ^ 64))
  ∧ (∀ (n : Nat), n ≤ 5 → Completes (fun dt => .clockMonitorFault dt n) [.sys]
    []
    (fun _ => True)
    (fun s t => t.sys = { s.sys with asserted := setAdd s.sys.asserted 9 }))
  ∧ (Completes (fun dt => .clockMonitorFault dt 7) [.evr, .sys]
    [(reg wSYS 0, 4)]
    (fun s => s.blockOn wUSB = true)
    (fun s t => t.sys = { s.sys with clkFail := setAdd s.sys.clkFail wUSB } ∧ t.raised (reg wSYS 0) 4 ∧ t.blockOn wUSB = false))
  ∧ (∀ (c : Nat), Completes (fun dt => .secmonFault dt c) [.evr, .sys]
    []
    (fun s => s.works wKEY)
    (fun s t => t.sys = { s.sys with asserted := setAdd s.sys.asserted 10 } ∧ t.evr.next = (s.evr.next + 1) % 2 ^ 64))
  ∧ (∀ (a p : Nat) (v : Word) (x : Bool), (p % 16 ≠ parityOf v) → Completes (fun dt => .parityScan dt (some { addr := a, active := x, value := v, parity := p, late := false })) [.act, .cfg, .changed, .evr, .parity, .sys]
    []
    (fun s => s.works wFLT ∧ s.isConfig (firstAddr a) = true ∧ (windowOf a).any s.blockOn = true ∧ s.scanned (s.storedKey (firstAddr a)) = true)
    (fun s t => t.sys = { s.sys with asserted := setAdd s.sys.asserted 6 } ∧
      t.evr.next = (s.evr.next +
        (s.corruptWord { addr := a, active := x, value := v, parity := p, late := false }).scanFound.length) % 2 ^ 64 ∧
      (s.storedKey (firstAddr a) ≠ reg wFLT 0x080 →
        (if x = true then t.actWord (s.storedKey (firstAddr a)) else t.cfgWord (s.storedKey (firstAddr a))) = { value := v, par := p % 16 })))
  ∧ (∀ (a p : Nat) (v : Word) (x : Bool), Completes (fun dt => .parityScan dt (some { addr := a, active := x, value := v, parity := p, late := true })) [.act, .cfg, .changed]
    []
    (fun s => s.works wFLT ∧ s.scanFound = [] ∧ bit (s.cfg (reg wFLT 0x080)) 31 = false)
    (fun s t => t = s.corruptWord { addr := a, active := x, value := v, parity := p, late := true }))
  ∧ (Completes (fun dt => .parityScan dt none) []
    []
    (fun s => s.works wFLT ∧ s.scanFound = [] ∧ bit (s.cfg (reg wFLT 0x080)) 31 = false)
    (fun s t => t = s))

/-- A FLT_PARTEST pair arms a test on the register it names; the next scan records it and asserts CFG_PARITY, and clears ARM (the model's choice, log entry 62); where it names no configuration register, ARM is cleared after one full scan period and nothing else happens. RETEST of a retired element that passes makes it a spare again with code 0; RELEASE of a substituted sink waits for the PERIOD boundary of its group. Everything else stays. -/
def Obligations.VergeAndParityTest : Prop :=
  (∀ (m : Nat) (v : Word), Completes (fun dt => .fltPartest dt m v) [.cfg, .parity, .reply]
    []
    (fun s => s.lets m (reg wFLT 0x080))
    (fun s t => s.stores t (reg wFLT 0x080) (v &&& 0x80FFFFFF) ∧ t.regs.partestSeen = false))
  ∧ (∀ (w off : Nat), Completes (fun dt => .parityScan dt none) [.cfg, .evr, .sys]
    []
    (fun s => s.works wFLT ∧ bit (s.cfg (reg wFLT 0x080)) 31 = true ∧ fld (s.cfg (reg wFLT 0x080)) 23 16 = w ∧
      fld (s.cfg (reg wFLT 0x080)) 15 0 = off ∧ s.isConfig (reg w off) = true ∧ s.blockOn w = true ∧ s.scanFinds false = [] ∧ s.scanFinds true = [])
    (fun s t => s.stores t (reg wFLT 0x080) (s.cfg (reg wFLT 0x080) &&& 0x7FFFFFFF) ∧
      t.sys = { s.sys with asserted := setAdd s.sys.asserted 6 } ∧ t.evr.next = (s.evr.next + 1) % 2 ^ 64))
  ∧ (∀ (w off : Nat), Completes (fun dt => .parityScan dt none) [.cfg, .parity]
    []
    (fun s => s.works wFLT ∧ bit (s.cfg (reg wFLT 0x080)) 31 = true ∧ fld (s.cfg (reg wFLT 0x080)) 23 16 = w ∧
      fld (s.cfg (reg wFLT 0x080)) 15 0 = off ∧ s.isConfig (reg w off) = false ∧ s.scanFinds false = [] ∧ s.scanFinds true = [])
    (fun s t => (if s.regs.partestSeen = true then
        s.stores t (reg wFLT 0x080) (s.cfg (reg wFLT 0x080) &&& 0x7FFFFFFF) ∧ t.regs.partestSeen = false
      else t.regs.cfg = s.regs.cfg ∧ t.regs.partestSeen = true)))
  ∧ (∀ (m k i : Nat), k ≤ 2 ∧ i < State.vergeSize k → Completes (fun dt => .vergeRetest dt m k i true) [.cfg, .evr, .flt, .reply]
    [(reg wFLT 0, 6)]
    (fun s => s.lets m (reg wFLT 0x054) ∧ s.vergeBusy = false ∧ s.retired k i = true)
    (fun s t => s.stores t (reg wFLT 0x054) (BitVec.ofNat 32 (2 ^ 28 + 256 * k + i)) ∧ t.raised (reg wFLT 0) 6 ∧
      t.flt = { s.flt with
        code := 0,
        sinkRet := if k = 0 then without s.flt.sinkRet i else s.flt.sinkRet,
        convRet := if k = 1 then without s.flt.convRet i else s.flt.convRet,
        xcvrRet := if k = 2 then without s.flt.xcvrRet i else s.flt.xcvrRet }))
  ∧ (∀ (m i : Nat), i < 56 → Completes (fun dt => .vergeRelease dt m 0 i) [.cfg, .mst, .reply]
    []
    (fun s => s.lets m (reg wFLT 0x054) ∧ s.vergeBusy = false ∧ s.flt.sinkSub.contains i = true)
    (fun s t => s.stores t (reg wFLT 0x054) (BitVec.ofNat 32 (2 * 2 ^ 28 + i)) ∧
      t.mst = { s.mst with groups := modAt s.mst.groups (i / 7) (fun g => { g with releaseDue := some (i % 7) }) }))

/-- With a RECORDER section, no record in progress and a whole credit: the writer takes the oldest entry of the Weir at the cost of one credit; with the Weir empty it starts the GAP record of the lowest-numbered source with pending losses, which are then no longer pending. A record in progress is committed to the slot of its number, and the number advances. In tally mode with room in the Weir, DUMP admits one record of the source's tally; SOFT triggers a RUNNING SOFT source once; both end with code 0 and CMD_DONE. A write to REC_TSEL latches the selected tally into the window and, with CLEAR, zeroes it. Everything else stays. -/
def Obligations.Recorder : Prop :=
  (∀ (e : RecEntry) (r : List RecEntry), Completes (fun dt => .weirWriterStart dt) [.evr]
    []
    (fun s => s.works wREC ∧ s.evr.weir = e :: r ∧ s.evr.cfg.isSome = true ∧ s.evr.writing = none ∧ 1 ≤ s.creditNow)
    (fun s t => t.evr = { s.evr with weir := r, writing := some e, credit := s.creditNow - 1, creditAt := s.raw }))
  ∧ (∀ (e : RecEntry), Completes (fun dt => .recordCommit dt) [.evr]
    []
    (fun s => s.works wREC ∧ s.evr.writing = some e)
    (fun s t => t.evr.writing = none ∧ t.evr.next = (s.evr.next + 1) % 2 ^ 64 ∧ t.evr.weir = s.evr.weir ∧
      fieldLE (t.recSlot (s.evr.next % s.recN)) 0 8 = s.evr.next % 2 ^ 64 ∧ t.evr.credit = s.evr.credit ∧ t.evr.lost = s.evr.lost ∧
      ∀ x, x ≠ s.evr.next % s.recN → t.recSlot x = s.recSlot x))
  ∧ (∀ (n : Nat) (g : Gap) (r : List (Nat × Gap)), Completes (fun dt => .gapRecord dt) [.evr]
    []
    (fun s => s.works wREC ∧ s.evr.weir = [] ∧ s.evr.gaps = (n, g) :: r ∧ s.evr.cfg.isSome = true ∧ s.evr.writing = none ∧
      1 ≤ s.creditNow)
    (fun s t => t.evr.gaps = r ∧ t.evr.credit = s.creditNow - 1 ∧ t.evr.creditAt = s.raw ∧ t.evr.weir = [] ∧
      t.evr.writing.map (fun e => (e.kind, e.source, fieldLE e.payload 0 4)) = some (3, n, g.lost % 2 ^ 32)))
  ∧ (∀ (m n : Nat), n < 64 → Completes (fun dt => .recDump dt m n) [.evr, .reply]
    [(reg wREC 0, 1)]
    (fun s => s.lets m (reg wREC 0x014) ∧ s.recCfg.snapshot = false ∧ (s.weirRoom n).isSome = true)
    (fun s t => t.evr.cmdCode = 0 ∧ t.evr.weir.length = s.evr.weir.length + 1 ∧ t.raised (reg wREC 0) 1 ∧
      t.evr.next = s.evr.next))
  ∧ (∀ (m n : Nat) (c : ImgSource), n < 64 → Completes (fun dt => .recSoft dt m n) [.evr, .reply]
    [(reg wREC 0, 1)]
    (fun s => s.lets m (reg wREC 0x014) ∧ s.recSource n = some c ∧ (∀ d ∈ s.recCfg.sources, d.num = n → d.trig = 1) ∧ s.hst tRECSRC n = .running ∧
      s.recCfg.snapshot = false ∧ (s.tally n).count < 2 ^ 32 - 1)
    (fun s t => t.evr.cmdCode = 0 ∧ (t.tally n).count = (s.tally n).count + 1 ∧ t.raised (reg wREC 0) 1))
  ∧ (∀ (m : Nat) (v : Word), Completes (fun dt => .recTselWrite dt m v) [.cfg, .evr, .reply]
    []
    (fun s => s.lets m (reg wREC 0x024))
    (fun s t => s.stores t (reg wREC 0x024) (v &&& 0x8000003F) ∧
      t.evr = { s.evr with
        twin := State.tallyWords (s.tally (fld v 5 0)),
        tallies := if bit v 31 then tabDel s.evr.tallies (fld v 5 0) else s.evr.tallies } ∧
      (bit v 31 = true → t.tally (fld v 5 0) = State.tallyZero)))

/-- With no command in progress, a key update message of any operation is refused with the first failing check's code and CMD_REFUSED, or begins its command with the store it will commit. The end of the commit pulse makes that store active, with the tamper policy and owner image written meanwhile and no slot that has been overwritten since, sets the events of what changed and blows SPENT for a change to SPENT; for CLEAR_TAMPER it clears the latches of inactive sources, and lifts the lock and the record when none is left. Everything else stays. The command of a message to SPENT commits a store in SPENT with no slot, the next owner generation and a tamper policy that is writable again, and is to blow the fuse. -/
def Obligations.KeyUpdateMessages : Prop :=
  (∀ (c : Nat → Nat → Instr) (m : Nat), c = .kumWrite ∨ c = .kumErase ∨ c = .kumLifecycle ∨ c = .kumClearTamper → Completes (fun dt => c dt m) [.cfg, .evr, .key, .reply]
    [(reg wKEY 0, 1)]
    (fun s => s.lets m (reg wKEY 0x00C) ∧ s.key.job = none)
    (fun s t => s.stores t (reg wKEY 0x00C) 0x10000000 ∧
      match s.kumCheck (s.keyBuf.take 260) s.keyLen with
      | .error e => t.key = { s.key with stream := none, code := e, outLen := 0 } ∧ t.raised (reg wKEY 0) 1
      | .ok v => t.key = { s.key with
          stream := none, job := some (s.kumJob (s.keyBuf.take 260) v none), code := 0, outLen := 0 }))
  ∧ (∀ (j : KeyJob) (x : Store), Completes (fun dt => .keyCommitPulseEnd dt) [.evr, .key, .sys]
    [(reg wKEY 0, 2), (reg wKEY 0, 3)]
    (fun s => s.works wKEY ∧ s.key.job = some j ∧ j.commit = some x ∧ j.clearTamper = false)
    (fun s t => t.key = { s.key with
        store := x.over s.key.store j.erase s.key.erasing, job := some { j with commit := none }, erasing := s.key.erasing || j.erase } ∧
      t.sys = (if j.spend then { s.sys with fuses := { s.sys.fuses with spent := true } } else s.sys) ∧
      (j.lcChange = true → t.raised (reg wKEY 0) 3) ∧ (j.slotChange = true → t.raised (reg wKEY 0) 2)))
  ∧ (∀ (j : KeyJob) (x : Store), Completes (fun dt => .keyCommitPulseEnd dt) [.evr, .key]
    [(reg wKEY 0, 2), (reg wKEY 0, 3), (reg wKEY 0, 6)]
    (fun s => s.works wKEY ∧ s.key.job = some j ∧ j.commit = some x ∧ j.clearTamper = true ∧ j.spend = false)
    (fun s t => t.key.store = x.over s.key.store j.erase s.key.erasing ∧ t.key.latched = s.key.latched.filter s.key.active.contains ∧
      (t.key.latched = [] → t.key.locked = false ∧ t.key.first = 0 ∧ t.key.tDate = 0 ∧ t.key.tTime = 0 ∧
        t.raised (reg wKEY 0) 6 ∧ t.key.job = some { j with commit := none, code := 0 }) ∧
      (t.key.latched ≠ [] → t.key.locked = s.key.locked ∧ t.key.job = some { j with commit := none, code := 0x10 })))
  ∧ (∀ (s : State) (m v : List Byte) (tag : Option Nat), fieldBE m 5 1 = 3 → fieldBE m 7 1 = 5 →
    (s.kumJob m v tag).spend = true ∧ (s.kumJob m v tag).erase = true ∧ (s.kumJob m v tag).lcChange = decide (s.lifeCycle ≠ .spent) ∧
    ∃ x, (s.kumJob m v tag).commit = some x ∧ x.lc = .spent ∧ x.slots = [] ∧ x.tpolWritten = false ∧ x.ownerImage = false ∧
      x.ownerGen = (s.key.store.ownerGen + 1) % 65536 ∧ x.tpolicy = s.key.store.tpolicy)

/-- With no command in progress, the store unlocked, the input of the command's length and a slot whose role and policy allow the usage: NETLOAD, WRAP, VERIFY, SIGN and HOSTWRITE begin with code 0, the result that the named algorithm gives and, for WRAP, the working key register taken; HOSTWRITE brings the store with the slot's new value. Everything else stays. -/
def Obligations.KeySlotCommands : Prop :=
  (∀ (m n : Nat) (x : Slot), n < 32 → Completes (fun dt => .netload dt m n) [.cfg, .key, .reply]
    []
    (fun s => s.lets m (reg wKEY 0x00C) ∧ s.key.job = none ∧ s.key.locked = false ∧ s.keyLen ≤ 512 ∧
      s.keySlot n = some x ∧ (roleUsages n).contains .lane = true ∧ bit x.policy 26 = true)
    (fun s t => t.key = { s.key with stream := none, job := some (plainJob 2 n 0 []), code := 0, outLen := 0 }))
  ∧ (∀ (m n : Nat) (x : Slot), n < 32 → Completes (fun dt => .keyWrap dt m n) [.cfg, .key, .reply]
    []
    (fun s => s.lets m (reg wKEY 0x00C) ∧ s.key.job = none ∧ s.key.locked = false ∧ (s.keyLen = 16 ∨ s.keyLen = 32) ∧
      s.keySlot n = some x ∧ (roleUsages n).contains .wrap = true ∧ bit x.policy 25 = true)
    (fun s t => t.key = { s.key with
        stream := none, code := 0, outLen := 0, wkr := .host, hostSlot := n,
        job := some (plainJob 3 n 0 (fit (s.keyLen + 8) (Config.aesWrap x.key s.keyInput))) }))
  ∧ (∀ (m n : Nat) (x : Slot), n < 32 → Completes (fun dt => .keyVerify dt m n) [.cfg, .key, .reply]
    []
    (fun s => s.lets m (reg wKEY 0x00C) ∧ s.key.job = none ∧ s.key.locked = false ∧ s.keyLen = 96 ∧
      s.keySlot n = some x ∧ (roleUsages n).contains .verify = true ∧ bit x.policy 21 = true)
    (fun s t => t.key = { s.key with
        stream := none, code := 0, outLen := 0,
        job := some (plainJob 6 n
          (if Config.ecdsaVerify x.key (s.keyInput.take 32) (s.keyInput.drop 32) then 0 else 6) []) }))
  ∧ (∀ (m n : Nat) (x : Slot), n < 32 → Completes (fun dt => .keySign dt m n) [.cfg, .free, .key, .reply]
    []
    (fun s => s.lets m (reg wKEY 0x00C) ∧ s.key.job = none ∧ s.key.locked = false ∧ s.keyLen = 32 ∧
      s.keySlot n = some x ∧ (roleUsages n).contains .sign = true ∧ bit x.policy 22 = true)
    (fun s t => t.key = { s.key with
        stream := none, code := 0, outLen := 0,
        job := some (plainJob 7 n 0 (fit 64 (Config.ecdsaSign x.key s.keyInput s.freeCtr))) }))
  ∧ (∀ (m n : Nat) (x : Slot), n < 32 → Completes (fun dt => .hostwrite dt m n) [.cfg, .key, .reply]
    []
    (fun s => s.lets m (reg wKEY 0x00C) ∧ s.key.job = none ∧ s.key.locked = false ∧ s.keyLen = 16 ∧
      s.keySlot n = some x ∧ (roleUsages n).contains .hostwrite = true ∧ bit x.policy 27 = true)
    (fun s t => t.key.store = s.key.store ∧
      t.key.job.map (fun j => (j.op, j.slot, j.code, j.slotChange, j.commit)) = some (0xA, n, 0, true,
        some { s.key.store with
          slots := tabSet s.key.store.slots n { x with value := s.keyInput ++ List.replicate 48 0 } })))

/-- With no command in progress: HASH whole gives the hash of its input, START begins a stream, CONTINUE extends it and FINAL gives the hash of all of it; HMAC on an allowed slot gives the code under its key, and a CONTINUE or FINAL of it with no stream is refused with FORMAT; ATTEST signs its statement under slot 0, and RANDOM begins with octets of the asked length. Everything else stays. -/
def Obligations.KeyStreamsAndAttest : Prop :=
  (∀ (m : Nat), Completes (fun dt => .keyHash dt m 0) [.cfg, .key, .reply]
    []
    (fun s => s.lets m (reg wKEY 0x00C) ∧ s.key.job = none ∧ s.keyLen ≤ 512)
    (fun s t => t.key = { s.key with
        stream := none, code := 0, outLen := 0, job := some (plainJob 4 0 0 (sha s.keyInput)) }))
  ∧ (∀ (m : Nat), Completes (fun dt => .keyHash dt m 1) [.cfg, .key, .reply]
    []
    (fun s => s.lets m (reg wKEY 0x00C) ∧ s.key.job = none ∧ s.keyLen ≤ 512)
    (fun s t => t.key = { s.key with
        stream := some (4, 0, s.keyInput), code := 0, outLen := 0, job := some (plainJob 4 0 0 []) }))
  ∧ (∀ (m : Nat) (b : List Byte), Completes (fun dt => .keyHash dt m 2) [.cfg, .key, .reply]
    []
    (fun s => s.lets m (reg wKEY 0x00C) ∧ s.key.job = none ∧ s.keyLen ≤ 512 ∧ s.key.stream = some (4, 0, b))
    (fun s t => t.key = { s.key with
        stream := some (4, 0, b ++ s.keyInput), code := 0, outLen := 0, job := some (plainJob 4 0 0 []) }))
  ∧ (∀ (m : Nat) (b : List Byte), Completes (fun dt => .keyHash dt m 3) [.cfg, .key, .reply]
    []
    (fun s => s.lets m (reg wKEY 0x00C) ∧ s.key.job = none ∧ s.keyLen ≤ 512 ∧ s.key.stream = some (4, 0, b))
    (fun s t => t.key = { s.key with
        stream := none, code := 0, outLen := 0, job := some (plainJob 4 0 0 (sha (b ++ s.keyInput))) }))
  ∧ (∀ (m n : Nat) (x : Slot), n < 32 → Completes (fun dt => .keyHmac dt m 0 n) [.cfg, .key, .reply]
    []
    (fun s => s.lets m (reg wKEY 0x00C) ∧ s.key.job = none ∧ s.key.locked = false ∧ s.keyLen ≤ 512 ∧
      s.keySlot n = some x ∧ (roleUsages n).contains .hmac = true ∧ bit x.policy 23 = true)
    (fun s t => t.key = { s.key with
        stream := none, code := 0, outLen := 0, wkr := .host, hostSlot := n,
        job := some (plainJob 5 n 0 (fit 32 (Config.hmac x.key s.keyInput))) }))
  ∧ (∀ (m n k : Nat) (x : Slot), n < 32 ∧ 2 ≤ k ∧ k ≤ 3 → Completes (fun dt => .keyHmac dt m k n) [.cfg, .evr, .key, .reply]
    [(reg wKEY 0, 1)]
    (fun s => s.lets m (reg wKEY 0x00C) ∧ s.key.job = none ∧ s.key.locked = false ∧ s.keyLen ≤ 512 ∧
      s.keySlot n = some x ∧ (roleUsages n).contains .hmac = true ∧ bit x.policy 23 = true ∧ s.key.stream = none)
    (fun s t => t.key = { s.key with code := 3, outLen := 0 } ∧ t.raised (reg wKEY 0) 1))
  ∧ (∀ (m : Nat) (x : Slot), Completes (fun dt => .attest dt m) [.cfg, .free, .key, .reply]
    []
    (fun s => s.lets m (reg wKEY 0x00C) ∧ s.key.job = none ∧ s.key.locked = false ∧ s.keyLen = 32 ∧ s.keySlot 0 = some x)
    (fun s t => t.key = { s.key with
        stream := none, code := 0, outLen := 0,
        job := some (plainJob 8 0 0 (s.attestStatement ++
          fit 64 (Config.ecdsaSign x.key (sha (s.keyInput ++ s.attestStatement)) s.freeCtr))) }))
  ∧ (∀ (m : Nat), Completes (fun dt => .keyRandom dt m) [.cfg, .free, .key, .reply]
    []
    (fun s => s.lets m (reg wKEY 0x00C) ∧ s.key.job = none ∧ 1 ≤ s.keyLen ∧ s.keyLen ≤ 512)
    (fun s t => t.key = { s.key with
        stream := none, code := 0, outLen := 0,
        job := some (plainJob 9 0 0 (fit s.keyLen (Config.drbg s.keyLen s.freeCtr))) }))

/-- A command with nothing left to commit completes with its code, its output length and CMD_DONE; a NETLOAD makes the slot's key the network key. The policy is taken once, and a second write only counts and raises its event. The overwriting of stale owner slots drops them. A tamper source whose action is not OFF latches with the date and time, zeroes the security monitor's retained SRAM, aborts the command in progress and, by its action, locks the store and erases the owner slots with SLOT_CHANGE; a source that goes inactive is no longer active. Everything else stays. -/
def Obligations.KeyCompletionAndTamper : Prop :=
  (∀ (j : KeyJob), Completes (fun dt => .keyOpComplete dt) [.cfg, .evr, .key]
    [(reg wKEY 0, 0)]
    (fun s => s.works wKEY ∧ s.key.job = some j ∧ j.commit = none ∧ j.svcTag = none ∧ j.clearTamper = false ∧ j.op ≠ 2)
    (fun s t => t.key = { s.key with
        job := none, code := j.code, outLen := j.out.length,
        wkr := if s.key.netKey.isSome then .network else .empty } ∧ t.raised (reg wKEY 0) 0))
  ∧ (∀ (n : Nat) (x : Slot), Completes (fun dt => .keyOpComplete dt) [.evr, .key, .lne]
    [(reg wKEY 0, 0)]
    (fun s => s.works wKEY ∧ s.key.job = some (plainJob 2 n 0 []) ∧ s.keySlot n = some x)
    (fun s t => t.key = { s.key with
        job := none, code := 0, outLen := 0, wkr := .network, netKey := some x.key, netSlot := n } ∧ t.raised (reg wKEY 0) 0))
  ∧ (∀ (m : Nat) (v : Word), Completes (fun dt => .keyTpolicyWrite dt m v) [.key, .reply]
    []
    (fun s => s.lets m (reg wKEY 0x01C) ∧ s.key.store.tpolWritten = false)
    (fun s t => t.key = { s.key with store := { s.key.store with tpolicy := v &&& 0x000F3FFF, tpolWritten := true } }))
  ∧ (∀ (m : Nat) (v : Word), Completes (fun dt => .keyTpolicyWrite dt m v) [.evr, .key, .reply]
    [(reg wKEY 0, 7)]
    (fun s => s.lets m (reg wKEY 0x01C) ∧ s.key.store.tpolWritten = true)
    (fun s t => t.key = { s.key with secCnt := min (s.key.secCnt + 1) 65535 } ∧ t.raised (reg wKEY 0) 7))
  ∧ (Completes (fun dt => .slotEraseDone dt) [.evr, .key]
    [(reg wKEY 0, 4)]
    (fun s => s.works wKEY ∧ s.key.erasing = true)
    (fun s t => t.key = { s.key with
        erasing := false,
        store := { s.key.store with
          slots := s.key.store.slots.filter (fun x => decide (x.1 ≤ 2) || x.2.gen == s.key.store.ownerGen) } } ∧
      t.raised (reg wKEY 0) 4))
  ∧ (∀ (n : Nat), n < 4 → Completes (fun dt => .tamperLatch dt n) [.cfg, .evr, .key, .rtc]
    [(reg wKEY 0, 2), (reg wKEY 0, 5)]
    (fun s => s.backupOn = true ∧ s.sys.phase = .up ∧ s.tamperAction n ≠ 0 ∧ s.key.latched = [])
    (fun s t => t.key.latched = [n] ∧ t.key.first = n ∧ t.key.active = setAdd s.key.active n ∧
      t.key.tDate = dateWord s.rtc.clk ∧ t.key.tTime = timeWord s.rtc.clk s.rtc.valid s.rtc.dst ∧
      t.key.job = none ∧ (s.key.job.isSome = true → t.key.code = 0xC) ∧
      (2 ≤ s.tamperAction n → t.key.locked = true ∧ t.key.wkr = .empty ∧ t.key.netKey = none) ∧
      t.key.store = (if s.tamperAction n = 3 then s.key.store.eraseOwner else s.key.store) ∧
      t.rtc.rsram = s.rtc.rsram.filter (fun e => decide (e.1 < 0xC00)) ∧ t.raised (reg wKEY 0) 5 ∧
      (if s.tamperAction n = 3 then t.raised (reg wKEY 0) 2 else (t.raised (reg wKEY 0) 2 ↔ s.raised (reg wKEY 0) 2))))
  ∧ (∀ (n : Nat), 4 ≤ n ∧ n < 7 → Completes (fun dt => .tamperLatch dt n) [.cfg, .evr, .key, .rtc]
    [(reg wKEY 0, 2), (reg wKEY 0, 5)]
    (fun s => s.sys.vin = true ∧ s.sys.phase = .up ∧ s.key.latched = [])
    (fun s t => t.key.latched = [n] ∧ t.key.first = n ∧ t.key.active = setAdd s.key.active n ∧ t.raised (reg wKEY 0) 5 ∧
      (2 ≤ s.tamperAction n → t.key.locked = true)))
  ∧ (∀ (n : Nat), Completes (fun dt => .tamperSourceInactive dt n) [.key]
    []
    (fun _ => True)
    (fun s t => t.key = { s.key with active := without s.key.active n }))

/-- A read of TBS_NOW_RAW_LO answers the low half of the raw count and latches the stamp of that count; a read of TBS_TSQ[k]_W0 moves the oldest entry of queue k into the queue's latch, or a latch of zeros when the queue is empty, and answers its word 0. Every other queue and every other part stay. An adjustment whose argument is in range and whose pair completes with none outstanding is taken up at the next raw count r: corrected time at r is unchanged by RATE, SLEW and SLEWSTOP and moved by the argument by STEP; only STEP advances the epoch. TBS_ADJRAW takes r, the code is 0 and the command's bit is set, with SLEW_ABORT where a running slew ended. A slew that has added its amount ends without a jump and sets SLEW_DONE. A stamp of an earlier raw count stays what it was. Milestones whose targets are converted again may fire late; nothing else changes. -/
def Obligations.Timebase : Prop :=
  (∀ (m : Nat), Completes (fun dt => .tbsNowRead dt m) [.reply, .tbs]
    []
    (fun s => s.lets m (reg wTBS 0x010))
    (fun s t => t.tbs = { s.tbs with now := some s.stamp } ∧
      t.regs.reply = { data := BitVec.ofNat 32 (half64 false s.raw), error := false }))
  ∧ (∀ (m k : Nat), k < 7 → Completes (fun dt => .tsqPop dt m k) [.reply, .tbs]
    []
    (fun s => s.lets m (reg wTBS (0x100 + 0x20 * k)) ∧ s.tbs.tsqs.length = 7)
    (fun s t => t.tsq k = { s.tsq k with latch := (s.tsq k).entries.head?, entries := (s.tsq k).entries.drop 1 } ∧
      (∀ j, j ≠ k → t.tsq j = s.tsq j) ∧ t.tbs = { s.tbs with tsqs := t.tbs.tsqs } ∧
      t.regs.reply = { data := BitVec.ofNat 32 (State.tsWord (s.tsq k).entries.head? 0), error := false } ∧
      ((s.tsq k).entries = [] → t.regs.reply.data = 0)))
  ∧ (∀ (m r : Nat), Completes (fun dt => .adjStep dt m) [.cfg, .acc, .evr, .reply, .tbs]
    [(reg wTBS 0, 0), (reg wTBS 0, 3), (reg wTBS 0, 10), (reg wTBS 0, 11)]
    (fun s => s.lets m (reg wTBS 0x048) ∧ s.tbs.adjAt.getD 0 ≤ s.raw ∧ s.adjArg ≠ 0 ∧ 0 ≤ s.tbs.corr (s.raw + 1) + s.adjArg)
    (fun s t => s.stores t (reg wTBS 0x048) 0x10000000 ∧ t.tbs.corr (s.raw + 1) = s.tbs.corr (s.raw + 1) + s.adjArg ∧
      t.tbs.epoch = (s.tbs.epoch + 1) % 65536 ∧ t.tbs.unset = false ∧ t.tbs.slew = none ∧ t.tbs.rate = s.tbs.rate ∧
      t.tbs.adjRaw = s.raw + 1 ∧ t.tbs.adjCode = 0 ∧ t.raised (reg wTBS 0) 0 ∧
      (s.tbs.slew.isSome = true → t.raised (reg wTBS 0) 3) ∧ (∀ v ∈ t.acc.ivs, v.open_ = true → v.closing.isSome = true) ∧
      (r ≤ s.raw → t.tbs.stampAt r = s.tbs.stampAt r)))
  ∧ (∀ (m r : Nat), Completes (fun dt => .adjRate dt m) [.cfg, .acc, .evr, .reply, .tbs]
    [(reg wTBS 0, 1), (reg wTBS 0, 10), (reg wTBS 0, 11)]
    (fun s => s.lets m (reg wTBS 0x048) ∧ s.tbs.adjAt.getD 0 ≤ s.raw ∧ -(2 ^ 39) ≤ s.adjArg ∧ s.adjArg < 2 ^ 39)
    (fun s t => s.stores t (reg wTBS 0x048) 0x20000000 ∧ t.tbs.corr (s.raw + 1) = s.tbs.corr (s.raw + 1) ∧
      t.tbs.rate = s.adjArg ∧ t.tbs.slew = s.tbs.slew ∧ t.tbs.epoch = s.tbs.epoch ∧ t.tbs.unset = s.tbs.unset ∧
      t.tbs.adjRaw = s.raw + 1 ∧ t.tbs.adjCode = 0 ∧ t.raised (reg wTBS 0) 1 ∧
      (r ≤ s.raw → t.tbs.stampAt r = s.tbs.stampAt r)))
  ∧ (∀ (m p r : Nat), 1 ≤ p ∧ p ≤ 255 → Completes (fun dt => .adjSlew dt m p) [.cfg, .acc, .evr, .reply, .tbs]
    [(reg wTBS 0, 1), (reg wTBS 0, 3), (reg wTBS 0, 10), (reg wTBS 0, 11)]
    (fun s => s.lets m (reg wTBS 0x048) ∧ s.tbs.adjAt.getD 0 ≤ s.raw ∧ s.adjArg ≠ 0 ∧ -999999999 ≤ s.adjArg ∧ s.adjArg ≤ 999999999)
    (fun s t => s.stores t (reg wTBS 0x048) (BitVec.ofNat 32 (3 * 2 ^ 28 + p * 2 ^ 16)) ∧
      t.tbs.corr (s.raw + 1) = s.tbs.corr (s.raw + 1) ∧
      t.tbs.slew = some { ppm := if s.adjArg < 0 then -(p : Int) else p, amount := s.adjArg, start := s.raw + 1 } ∧
      t.tbs.rate = s.tbs.rate ∧ t.tbs.epoch = s.tbs.epoch ∧ t.tbs.adjRaw = s.raw + 1 ∧ t.tbs.adjCode = 0 ∧
      t.raised (reg wTBS 0) 1 ∧ (s.tbs.slew.isSome = true → t.raised (reg wTBS 0) 3) ∧
      (r ≤ s.raw → t.tbs.stampAt r = s.tbs.stampAt r)))
  ∧ (∀ (m r : Nat), Completes (fun dt => .adjSlewstop dt m) [.cfg, .acc, .evr, .reply, .tbs]
    [(reg wTBS 0, 1), (reg wTBS 0, 10), (reg wTBS 0, 11)]
    (fun s => s.lets m (reg wTBS 0x048) ∧ s.tbs.adjAt.getD 0 ≤ s.raw ∧ s.tbs.slew.isSome = true)
    (fun s t => s.stores t (reg wTBS 0x048) 0x40000000 ∧ t.tbs.corr (s.raw + 1) = s.tbs.corr (s.raw + 1) ∧ t.tbs.slew = none ∧
      t.tbs.rate = s.tbs.rate ∧ t.tbs.epoch = s.tbs.epoch ∧ t.tbs.adjRaw = s.raw + 1 ∧ t.tbs.adjCode = 0 ∧
      t.raised (reg wTBS 0) 1 ∧ (r ≤ s.raw → t.tbs.stampAt r = s.tbs.stampAt r)))
  ∧ (∀ (w : Slew) (r : Nat), Completes (fun dt => .slewEnd dt) [.acc, .evr, .tbs]
    [(reg wTBS 0, 2), (reg wTBS 0, 10), (reg wTBS 0, 11)]
    (fun s => s.works wTBS ∧ s.tbs.slew = some w ∧ w.endRaw ≤ s.raw)
    (fun s t => t.tbs.slew = none ∧ t.tbs.corr w.endRaw = s.tbs.corr w.endRaw ∧ t.tbs.epoch = s.tbs.epoch ∧
      t.tbs.rate = s.tbs.rate ∧ t.tbs.adjRaw = s.tbs.adjRaw ∧ t.raised (reg wTBS 0) 2 ∧
      (r < w.endRaw → t.tbs.stampAt r = s.tbs.stampAt r)))

/-- With the input enabled, an edge that is held takes its raw count less 15 ns, is counted and sets PPS_EDGE; a shorter one only sets PPS_GLITCH; 1.5 s without an edge set PPS_LOST once. A one-shot milestone that fires is FIRED; a periodic one takes the next target of its series, and when that has passed fires once more, late, and takes the first target after the present count; with NOTIFY MS_FIRE is set. A pulse that has run its time leaves the pin at its other level. Other milestones and parts stay. -/
def Obligations.PpsAndMilestones : Prop :=
  (∀ (e us : Nat), Completes (fun dt => .ppsEdge dt e us) [.evr, .tbs]
    [(reg wTBS 0, 6), (reg wTBS 0, 8)]
    (fun s => s.works wTBS ∧ bit (s.cfg (reg wTBS 0x060)) 31 = true ∧ max 1 (fld (s.cfg (reg wTBS 0x060)) 7 0) ≤ us)
    (fun s t => t.raised (reg wTBS 0) 6 ∧
      t.tbs = { s.tbs with
        ppsRaw := e - 3, ppsCount := (s.tbs.ppsCount + 1) % 65536, ppsSeen := true, ppsPresent := true,
        ppsInRange := t.tbs.ppsInRange, ppsErr := t.tbs.ppsErr, ppsFrom := e - 3, ppsLostDone := false } ∧
      (s.tbs.ppsSeen = true → 20000 < ((e - 3 : Nat) : Int) - s.tbs.ppsRaw - 200000000 →
        t.tbs.ppsInRange = false ∧ t.raised (reg wTBS 0) 8)))
  ∧ (∀ (e us : Nat), Completes (fun dt => .ppsEdge dt e us) [.evr]
    [(reg wTBS 0, 7)]
    (fun s => s.works wTBS ∧ bit (s.cfg (reg wTBS 0x060)) 31 = true ∧ us < max 1 (fld (s.cfg (reg wTBS 0x060)) 7 0))
    (fun _ t => t.raised (reg wTBS 0) 7))
  ∧ (∀ (e us : Nat), Completes (fun dt => .ppsEdge dt e us) []
    []
    (fun s => bit (s.cfg (reg wTBS 0x060)) 31 = false)
    (fun s t => t = s))
  ∧ (Completes (fun dt => .ppsLost dt) [.evr, .tbs]
    [(reg wTBS 0, 9)]
    (fun s => s.works wTBS ∧ bit (s.cfg (reg wTBS 0x060)) 31 = true ∧ s.tbs.ppsLostDone = false ∧ s.tbs.ppsFrom + 300000000 ≤ s.raw)
    (fun s t => t.tbs = { s.tbs with ppsPresent := false, ppsLostDone := true } ∧ t.raised (reg wTBS 0) 9))
  ∧ (∀ (m : Nat), Completes (fun dt => .milestoneFire dt m) [.evr, .tbs]
    [(reg wTBS 0, 10)]
    (fun s => s.works wTBS ∧ m < s.tbs.ms.length ∧ (s.mile m).st = .armed ∧ (s.mile m).rawTarget ≤ s.raw ∧ s.msPeriodic m = false)
    (fun s t => (t.mile m).st = .fired ∧ (t.mile m).fires = ((s.mile m).fires + 1) % 65536 ∧ (t.mile m).fireRaw = s.raw ∧
      (t.mile m).late = false ∧ (t.mile m).target = (s.mile m).target ∧
      (∀ j, j ≠ m → t.mile j = s.mile j) ∧ t.tbs = { s.tbs with ms := t.tbs.ms } ∧
      (bit (s.cfg (reg wTBS (State.msOff m))) 25 = true → t.raised (reg wTBS 0) 10)))
  ∧ (∀ (m : Nat), Completes (fun dt => .milestoneFire dt m) [.evr, .tbs]
    [(reg wTBS 0, 10)]
    (fun s => s.works wTBS ∧ m < s.tbs.ms.length ∧ (s.mile m).st = .armed ∧ (s.mile m).rawTarget ≤ s.raw ∧ s.msPeriodic m = true ∧
      s.raw ≤ s.msRaw m ((s.mile m).target + s.msPeriod m))
    (fun s t => (t.mile m).st = .armed ∧ (t.mile m).fires = ((s.mile m).fires + 1) % 65536 ∧ (t.mile m).fireRaw = s.raw ∧
      (t.mile m).late = false ∧ (t.mile m).target = (s.mile m).target + s.msPeriod m ∧
      (∀ j, j ≠ m → t.mile j = s.mile j) ∧ t.tbs = { s.tbs with ms := t.tbs.ms } ∧
      (bit (s.cfg (reg wTBS (State.msOff m))) 25 = true → t.raised (reg wTBS 0) 10)))
  ∧ (∀ (m : Nat), Completes (fun dt => .milestoneFire dt m) [.evr, .tbs]
    [(reg wTBS 0, 10), (reg wTBS 0, 11)]
    (fun s => s.works wTBS ∧ m < s.tbs.ms.length ∧ (s.mile m).st = .armed ∧ (s.mile m).rawTarget ≤ s.raw ∧ s.msPeriodic m = true ∧
      s.msRaw m ((s.mile m).target + s.msPeriod m) < s.raw ∧ s.msCorr m = false ∧ 0 < s.msPeriod m ∧ 0 ≤ (s.mile m).target)
    (fun s t => (t.mile m).st = .armed ∧ (t.mile m).late = true ∧ t.raised (reg wTBS 0) 11 ∧
      (s.raw : Int) < (t.mile m).target ∧ (t.mile m).target ≤ s.raw + s.msPeriod m ∧
      (s.msPeriod m : Int) ∣ (t.mile m).target - (s.mile m).target ∧
      (∀ j, j ≠ m → t.mile j = s.mile j) ∧ t.tbs = { s.tbs with ms := t.tbs.ms }))
  ∧ (∀ (m r : Nat) (p : Bool), Completes (fun dt => .milestonePulseEnd dt m) [.tbs]
    []
    (fun s => s.works wTBS ∧ (s.mile m).pulse = some (r, p) ∧ r ≤ s.raw)
    (fun s t => t.mile m = { s.mile m with pin := p, pulse := none } ∧ (∀ j, j ≠ m → t.mile j = s.mile j) ∧
      t.tbs = { s.tbs with ms := t.tbs.ms }))

/-- At the end of a second the calendar takes the next second; an alarm whose time that is fires when the calendar is valid, and none fires when it is not. At the last value of the calendar CAL_END is set once and the calendar stands. A pending summer-time command moves the calendar by an hour more or less, changes DST and sets CMD_DONE. The calendar counts on backup power too. Everything else stays. From a legal date and time before the last value of the calendar, the next second is a legal date and time, and lies exactly one second later counted from the calendar's beginning. -/
def Obligations.CalendarRuns : Prop :=
  (Completes (fun dt => .rtcSecond dt) [.cfg, .evr, .rtc]
    [(reg wRTC 0, 0), (reg wRTC 0, 1)]
    (fun s => s.backupOn = true ∧ s.rtc.oscRun = true ∧ s.rtc.pend = none ∧ s.rtc.clk ≠ Clock.last)
    (fun s t => t.rtc.clk = s.rtc.clk.addSec ∧ t.rtc.dst = s.rtc.dst ∧ t.rtc.valid = s.rtc.valid ∧
      t.rtc.trimSec = s.trimStep.rtc.trimSec ∧ t.rtc.secLen = s.trimStep.rtc.secLen ∧ t.rtc.wakeSum = s.rtc.wakeSum + s.rtc.secLen ∧
      (∀ a, a < 2 → s.rtc.valid = true → s.almAt a s.rtc.clk.addSec.secs = true → t.raised (reg wRTC 0) a ∧
        t.almLast a = dateWord s.rtc.clk.addSec) ∧
      (∀ a, a < 2 → s.rtc.valid = false ∨ s.almAt a s.rtc.clk.addSec.secs = false →
        (t.raised (reg wRTC 0) a ↔ s.raised (reg wRTC 0) a) ∧ t.almLast a = s.almLast a)))
  ∧ (Completes (fun dt => .rtcSecond dt) [.evr, .rtc]
    [(reg wRTC 0, 9)]
    (fun s => s.backupOn = true ∧ s.rtc.oscRun = true ∧ s.rtc.pend = none ∧ s.rtc.clk = Clock.last ∧ s.rtc.ended = false)
    (fun s t => t.rtc = { s.trimStep.rtc with ended := true } ∧ t.raised (reg wRTC 0) 9))
  ∧ (Completes (fun dt => .rtcSecond dt) [.cfg, .evr, .rtc]
    [(reg wRTC 0, 0), (reg wRTC 0, 1), (reg wRTC 0, 2), (reg wRTC 0, 6)]
    (fun s => s.backupOn = true ∧ s.rtc.oscRun = true ∧ s.rtc.pend = some .fwd)
    (fun s t => t.rtc.clk = s.rtc.clk.addSec.addHour ∧ t.rtc.dst = true ∧ t.rtc.pend = none ∧ t.raised (reg wRTC 0) 6))
  ∧ (Completes (fun dt => .rtcSecond dt) [.cfg, .evr, .rtc]
    [(reg wRTC 0, 0), (reg wRTC 0, 1), (reg wRTC 0, 2), (reg wRTC 0, 6)]
    (fun s => s.backupOn = true ∧ s.rtc.oscRun = true ∧ s.rtc.pend = some .back ∧ s.rtc.clk ≠ Clock.last)
    (fun s t => t.rtc.clk = s.rtc.clk.addSec.subHour ∧ t.rtc.dst = false ∧ t.rtc.pend = none ∧ t.raised (reg wRTC 0) 6))
  ∧ (∀ dt s, s.powered = false → s.backupOn = true → s.rtc.oscRun = true → s.rtc.pend = none →
    s.rtc.clk ≠ Clock.last → s.rtc.valid = false →
    ∃ t, exec (.rtcSecond dt) s = .next t ∧ t = { s with rtc := { s.trimStep.rtc with clk := s.rtc.clk.addSec } })
  ∧ (∀ c : Clock, clockBad c = 0 → 2000 ≤ c.y → c ≠ Clock.last →
    clockBad c.addSec = 0 ∧ 2000 ≤ c.addSec.y ∧ c.addSec.secs = c.secs + 1)

/-- A SET whose date and time pass every check gives the calendar that value, makes it valid, clears CAL_END, sets CMD_DONE and has the scene engine start a programme day; one that fails a check changes nothing of the calendar, gives its code and sets CMD_REFUSED. An accepted summer-time command waits for the next second. Writes of RTC_TRIM, an alarm's registers and RTC_WAKEPER store their fields; an alarm written is armed again, and a ONCE alarm whose time has come fires late at once. Everything else stays. -/
def Obligations.RtcCommands : Prop :=
  (∀ (m k : Nat), 1 ≤ k ∧ k ≤ 3 → Completes (fun dt => .rtcSet dt m k) [.cfg, .evr, .reply, .rtc, .scn]
    [(reg wRTC 0, 0), (reg wRTC 0, 1), (reg wRTC 0, 2), (reg wRTC 0, 6), (reg wRTC 0, 9)]
    (fun s => s.lets m (reg wRTC 0x01C) ∧ s.rtc.pend = none ∧ clockBad (s.setTarget k).1 = 0)
    (fun s t => t.rtc.clk = (s.setTarget k).1 ∧ t.rtc.dst = (s.setTarget k).2 ∧ t.rtc.valid = true ∧ t.rtc.ended = false ∧
      t.rtc.cmdCode = 0 ∧ t.rtc.secLen = (if k = 1 then s.rtc.secLen else 32768) ∧ t.rtc.trimSec = s.rtc.trimSec ∧
      t.rtc.wakeSum = (if k = 1 then s.rtc.wakeSum else s.rtc.wakeSum + s.rtc.secLen) ∧
      t.raised (reg wRTC 0) 6 ∧ ¬t.raised (reg wRTC 0) 9 ∧ t.scn = { s.scn with calSet := true } ∧
      t.cfg (reg wRTC 0x01C) = BitVec.ofNat 32 (0x10000000 + k) ∧
      (∀ b, b ≠ reg wRTC 0x01C → b ≠ reg wRTC 0x040 → b ≠ reg wRTC 0x050 → t.cfg b = s.cfg b)))
  ∧ (∀ (m k : Nat), 1 ≤ k ∧ k ≤ 3 → Completes (fun dt => .rtcSet dt m k) [.cfg, .evr, .reply, .rtc]
    [(reg wRTC 0, 7)]
    (fun s => s.lets m (reg wRTC 0x01C) ∧ s.rtc.pend = none ∧ clockBad (s.setTarget k).1 ≠ 0)
    (fun s t => s.stores t (reg wRTC 0x01C) (BitVec.ofNat 32 (0x10000000 + k)) ∧
      t.rtc = { s.rtc with cmdCode := clockBad (s.setTarget k).1 } ∧ t.raised (reg wRTC 0) 7))
  ∧ (∀ (m : Nat), Completes (fun dt => .rtcDstfwd dt m) [.cfg, .reply, .rtc]
    []
    (fun s => s.lets m (reg wRTC 0x01C) ∧ s.rtc.pend = none ∧ s.rtc.dst = false ∧ s.rtc.clk.secs + 3601 ≤ Clock.last.secs)
    (fun s t => s.stores t (reg wRTC 0x01C) 0x20000000 ∧ t.rtc = { s.rtc with pend := some .fwd, cmdCode := 0 }))
  ∧ (∀ (m : Nat), Completes (fun dt => .rtcDstback dt m) [.cfg, .reply, .rtc]
    []
    (fun s => s.lets m (reg wRTC 0x01C) ∧ s.rtc.pend = none ∧ s.rtc.dst = true ∧ 3599 ≤ s.rtc.clk.secs)
    (fun s t => s.stores t (reg wRTC 0x01C) 0x30000000 ∧ t.rtc = { s.rtc with pend := some .back, cmdCode := 0 }))
  ∧ (∀ (m : Nat) (v : Word), Completes (fun dt => .rtcTrimWrite dt m v) [.cfg, .reply]
    []
    (fun s => s.lets m (reg wRTC 0x024))
    (fun s t => s.stores t (reg wRTC 0x024) (v &&& 0x000003FF)))
  ∧ (∀ (m o : Nat) (v : Word), o = 0x044 ∨ o = 0x048 ∨ o = 0x054 ∨ o = 0x058 → Completes (fun dt => .alarmWrite dt m (reg wRTC o) v) [.cfg, .reply, .rtc]
    []
    (fun s => s.lets m (reg wRTC o) ∧ (s.rtc.valid = false ∨ s.almMode (o / 16 - 4) ≠ 1))
    (fun s t => s.stores t (reg wRTC o) (v &&& if o % 16 = 4 then 0x00FFFFFF else 0x401F3F3F) ∧
      t.rtc = { s.rtc with almLast0 := if o < 0x050 then 0 else s.rtc.almLast0,
                           almLast1 := if o < 0x050 then s.rtc.almLast1 else 0 }))
  ∧ (∀ (m a : Nat) (v : Word), a < 2 → Completes (fun dt => .alarmWrite dt m (reg wRTC (0x040 + 0x10 * a)) v) [.cfg, .evr, .reply, .rtc]
    [(reg wRTC 0, 0), (reg wRTC 0, 1), (reg wRTC 0, 2)]
    (fun s => s.lets m (reg wRTC (0x040 + 0x10 * a)) ∧ s.rtc.valid = true ∧ fld v 31 30 = 1 ∧ s.almOnce a ≤ s.rtc.clk.secs)
    (fun s t => s.stores t (reg wRTC (0x040 + 0x10 * a)) (v &&& 0x2000007F) ∧ t.raised (reg wRTC 0) a ∧
      t.raised (reg wRTC 0) 2 ∧ t.almLast a = dateWord s.rtc.clk ∧ t.almLast (1 - a) = s.almLast (1 - a) ∧
      t.rtc.clk = s.rtc.clk))
  ∧ (∀ (m : Nat) (v : Word), Completes (fun dt => .wakeperWrite dt m v) [.cfg, .reply, .rtc]
    []
    (fun s => s.lets m (reg wRTC 0x028))
    (fun s t => s.stores t (reg wRTC 0x028) (v &&& 0x01FFFFFF) ∧ t.rtc = { s.rtc with wakeSum := 0 }))

/-- A periodic wake whose period the crystal can have counted since the wake counter began sets PERIODIC and starts the count again, and in OFF raises PWRON and a start; a stopped oscillator sets OSC_STOP and clears VALID; VBAK below 2.0 V while the domain draws from it sets VBAK_LOW. A read of retained SRAM answers its bytes, and a byte whose parity does not match is answered as stored, with RSRAM_PAR and its address. A read of RTC_DATE answers the date and latches the time and the prescaler. Everything else stays. -/
def Obligations.BackupDomain : Prop :=
  (Completes (fun dt => .periodicWake dt) [.evr, .rtc]
    [(reg wRTC 0, 3)]
    (fun s => s.backupOn = true ∧ s.rtc.oscRun = true ∧ fld (s.cfg (reg wRTC 0x028)) 24 0 ≠ 0 ∧
      128 * min 22118400 (fld (s.cfg (reg wRTC 0x028)) 24 0) ≤ s.rtc.wakeSum + s.rtc.secLen)
    (fun s t => t.raised (reg wRTC 0) 3 ∧ t.rtc = { s.rtc with wakeSum := 0, wakePend := t.rtc.wakePend }))
  ∧ (Completes (fun dt => .periodicWake dt) []
    []
    (fun s => fld (s.cfg (reg wRTC 0x028)) 24 0 = 0 ∨ s.rtc.wakeSum + s.rtc.secLen < 128 * min 22118400 (fld (s.cfg (reg wRTC 0x028)) 24 0))
    (fun s t => t = s))
  ∧ (Completes (fun dt => .oscStop dt) [.evr, .rtc]
    [(reg wRTC 0, 8)]
    (fun s => s.backupOn = true)
    (fun s t => t.rtc = { s.rtc with oscRun := false, valid := false } ∧ t.raised (reg wRTC 0) 8))
  ∧ (Completes (fun dt => .oscResume dt) [.rtc]
    []
    (fun s => s.backupOn = true)
    (fun s t => t.rtc = { s.rtc with oscRun := true }))
  ∧ (∀ (mv : Nat), mv < 2000 → Completes (fun dt => .vbakCheck dt mv) [.evr]
    [(reg wRTC 0, 10)]
    (fun s => s.sys.vin = false ∧ s.sys.vbakLost = false)
    (fun _ t => t.raised (reg wRTC 0) 10))
  ∧ (∀ (mv : Nat), Completes (fun dt => .vbakCheck dt mv) []
    []
    (fun s => 2000 ≤ mv ∨ s.sys.vin = true)
    (fun s t => t = s))
  ∧ (∀ (m o n : Nat), State.masterOk m = true ∧ (n = 1 ∨ n = 2 ∨ n = 4) ∧ o + n ≤ 0xC00 → Completes (fun dt => .rsramRead dt m o n none) [.reply]
    []
    (fun s => s.rtc.rsBad = [])
    (fun s t => t.regs.reply = { data := BitVec.ofNat 32 (leNat ((List.range n).map (fun i => s.rsByte (o + i)))), error := false }))
  ∧ (∀ (m o : Nat) (b : Byte), State.masterOk m = true ∧ o < 0xC00 → Completes (fun dt => .rsramRead dt m o 1 (some b)) [.evr, .reply, .rtc]
    [(reg wRTC 0, 11)]
    (fun s => (s.statOf (reg wRTC 0)).bits.testBit 11 = false)
    (fun s t => t.regs.reply = { data := BitVec.ofNat 32 b.toNat, error := false } ∧ t.rtc.parAddr = 0x21000000 + o ∧
      t.raised (reg wRTC 0) 11 ∧ t.rtc.rsBad = setAdd s.rtc.rsBad o ∧ t.rsByte o = b ∧
      (∀ x, x ≠ o → t.rsByte x = s.rsByte x)))
  ∧ (∀ (m o n : Nat) (c : Option Byte), State.masterOk m = false → Completes (fun dt => .rsramRead dt m o n c) [.reply]
    []
    (fun _ => True)
    (fun _ t => t.regs.reply = { data := 0, error := true }))
  ∧ (∀ (m sub : Nat), Completes (fun dt => .rtcDateRead dt m sub) [.reply, .rtc]
    []
    (fun s => s.lets m (reg wRTC 0x008))
    (fun s t => t.regs.reply = { data := dateWord s.rtc.clk, error := false } ∧
      t.rtc = { s.rtc with
        latchTime := some (timeWord s.rtc.clk s.rtc.valid s.rtc.dst), latchSub := some (BitVec.ofNat 32 (sub % 32768)) }))
  ∧ (∀ dt s, s.inOff = true → s.rtc.oscRun = true → s.wakeRipe = true →
    ∃ t, exec (.periodicWake dt) s = .next t ∧ t.rtc.pwron = true ∧ t.sys.asserted.contains 2 = true ∧
      t.rtc.wakeSrc = 5 ∧ t.raised (reg wRTC 0) 3 ∧ t.cyc = s.cyc)

/-- A command that passes the checks of R55: CREATE makes the index STOPPED with its owner, DESTROY frees it and advances its generation, QUERY changes no handle; CREATE and QUERY write the handle back. STOP and START of a type that completes at once change its state at once, and a START then copies the shadows written while STOPPED, each but one whose parity does not match; of another type they wait for the boundary; where the handle is already in that state nothing else happens. One that a check refuses changes no handle and reports the first refusal. STR_STATUS takes the result, the command count advances and CMD_DONE is set. Every other handle and part stay. -/
def Obligations.HandleCommands : Prop :=
  (∀ (m typ i : Nat), Completes (fun dt => .strCreate dt m) [.cfg, .acc, .evr, .reply, .rtc, .str, .upd]
    [(reg wSTR 0, 0)]
    (fun s => s.lets m (reg wSTR 0x030) ∧ s.strAllows 1 typ i = true)
    (fun s t => t.str = { s.str with
        handles := t.str.handles, cmdSeq := (s.str.cmdSeq + 1) % 256, result := 0, detail := 0, stAfter := .stopped } ∧
      t.handle typ i = { st := .stopped, gen := (s.handle typ i).gen,
                         owner := if typ = tQUEUE ∨ typ = tMILESTONE then (s.cfg (reg wSTR 0x040)).toNat else 0 } ∧
      (∀ k, k ≠ State.hkey typ i → tabGet t.str.handles k = tabGet s.str.handles k) ∧
      s.stores t (reg wSTR 0x034) (BitVec.ofNat 32 (s.handleVal typ i)) ∧ t.raised (reg wSTR 0) 0 ∧
      (typ ≠ tMETER ∧ typ ≠ tFEEDER → t.acc = s.acc) ∧ (typ = tMETER → t.acc = { s.acc with chIn := setAdd s.acc.chIn i }) ∧
      (typ = tFEEDER → t.acc.fdIn.contains i = true) ∧ (typ ≠ tSESSION → t.upd = s.upd ∧ t.rtc = s.rtc)))
  ∧ (∀ (m typ i : Nat), Completes (fun dt => .strDestroy dt m) [.acc, .evr, .reply, .rtc, .str]
    [(reg wSTR 0, 0)]
    (fun s => s.lets m (reg wSTR 0x030) ∧ s.strAllows 2 typ i = true)
    (fun s t => t.str = { s.str with
        handles := t.str.handles, cmdSeq := (s.str.cmdSeq + 1) % 256, result := 0, detail := 0, stAfter := .free } ∧
      t.handle typ i = { st := .free, gen := State.nextGen (s.handle typ i).gen, owner := 0 } ∧
      (∀ k, k ≠ State.hkey typ i → tabGet t.str.handles k = tabGet s.str.handles k) ∧ t.raised (reg wSTR 0) 0 ∧
      (typ ≠ tMETER ∧ typ ≠ tFEEDER → t.acc = s.acc) ∧ (typ = tMETER → t.acc = { s.acc with chIn := without s.acc.chIn i }) ∧
      (typ = tFEEDER → t.acc.fdIn.contains i = false) ∧ (typ ≠ tSESSION → t.rtc = s.rtc)))
  ∧ (∀ (m typ i : Nat), Completes (fun dt => .strQuery dt m) [.cfg, .evr, .reply, .str]
    [(reg wSTR 0, 0)]
    (fun s => s.lets m (reg wSTR 0x030) ∧ s.strAllows 5 typ i = true)
    (fun s t => t.str = { s.str with cmdSeq := (s.str.cmdSeq + 1) % 256, result := 0, detail := 0, stAfter := s.hst typ i } ∧
      s.stores t (reg wSTR 0x034) (BitVec.ofNat 32 (s.handleVal typ i)) ∧ t.raised (reg wSTR 0) 0))
  ∧ (∀ (m typ i : Nat) (x : Bool), typ = tWAVEPROF ∨ typ = tSESSION → Completes (fun dt => (if x then .strStart dt m else .strStop dt m)) [.act, .changed, .evr, .reply, .str, .sys]
    [(reg wSTR 0, 0)]
    (fun s => s.lets m (reg wSTR 0x030) ∧ s.strAllows (State.moveOp x) typ i = true ∧ s.mst.cal = none ∧ s.hst typ i ≠ State.moveTo x)
    (fun s t => t.str = { s.str with
        handles := t.str.handles, cmdSeq := (s.str.cmdSeq + 1) % 256, result := 0, detail := 0,
        stAfter := State.moveTo x } ∧
      t.handle typ i = { s.handle typ i with st := State.moveTo x } ∧
      (∀ k, k ≠ State.hkey typ i → tabGet t.str.handles k = tabGet s.str.handles k) ∧ t.raised (reg wSTR 0) 0 ∧
      (x = true → s.copied t (s.cyc + 1) (s.ownedChanged (s.cyc + 1) typ i) ∧ s.copyAsserts t (s.ownedChanged (s.cyc + 1) typ i)) ∧
      (x = false → t.regs.act = s.regs.act ∧ t.regs.changed = s.regs.changed ∧ t.sys = s.sys)))
  ∧ (∀ (m typ i : Nat) (x : Bool), typ ≤ 5 ∨ typ = tPROGRAMME → Completes (fun dt => (if x then .strStart dt m else .strStop dt m)) [.reply, .str]
    []
    (fun s => s.lets m (reg wSTR 0x030) ∧ s.strAllows (State.moveOp x) typ i = true ∧ s.mst.cal = none ∧ s.hst typ i ≠ State.moveTo x)
    (fun s t => t.str = { s.str with pend := some { start := x, typ := typ, idx := i, cyc := s.cyc } }))
  ∧ (∀ (m typ i : Nat) (x : Bool), Completes (fun dt => (if x then .strStart dt m else .strStop dt m)) [.evr, .reply, .str]
    [(reg wSTR 0, 0)]
    (fun s => s.lets m (reg wSTR 0x030) ∧ s.strAllows (State.moveOp x) typ i = true ∧ s.mst.cal = none ∧ s.hst typ i = State.moveTo x)
    (fun s t => t.str = { s.str with
        cmdSeq := (s.str.cmdSeq + 1) % 256, result := 0, detail := 0, stAfter := State.moveTo x } ∧
      t.raised (reg wSTR 0) 0))
  ∧ (∀ (m : Nat) (r : StrRefusal), Completes (fun dt => .strDestroy dt m) [.evr, .reply, .str]
    [(reg wSTR 0, 0)]
    (fun s => s.lets m (reg wSTR 0x030) ∧ s.str.pend = none ∧
      s.strRefusal 2 = some r)
    (fun s t => t.str = { s.str with
        cmdSeq := (s.str.cmdSeq + 1) % 256, result := r.result,
        detail := if r.result = 2 ∨ r.result = 3 ∨ r.result = 5 ∨ r.result = 6 then r.detail else 0,
        stAfter := match r.idx with | some i => s.hst ((s.cfg (reg wSTR 0x034)).toNat / 2 ^ 20 % 16) i | none => .free } ∧
      t.raised (reg wSTR 0) 0))
  ∧ (∀ (m : Nat), Completes (fun dt => .strStop dt m) [.evr, .reply]
    [(reg wSTR 0, 1)]
    (fun s => s.lets m (reg wSTR 0x030) ∧ s.str.pend.isSome = true)
    (fun _ t => t.raised (reg wSTR 0) 1))

/-- At the first boundary after its command, a pending STOP leaves the handle STOPPED and a pending START leaves it RUNNING, with the shadows written before the boundary in force, each but one whose parity does not match, which asserts CFG_PARITY; the command ends with result OK and CMD_DONE. A sink that stops is clamped off, and a head holds its drives. Before the boundary nothing happens (a METER or FEEDER completes with its feeder's CYCLE boundary alone). Every other handle stays. -/
def Obligations.HandlesAtTheirBoundary : Prop :=
  (∀ (typ i k : Nat), ∀ (dt : Nat) (s0 : State), let s := s0.after dt; s0.powered = true → (s.works wSTR ∧ s.str.pend = some { start := false, typ := typ, idx := i, cyc := k } ∧ k < s.cyc ∧ s.strDue typ i = true ∧ s.hst typ i = .running) →
    ∃ t, exec (.handleStopComplete dt) s0 = .next t ∧
      (t.str = { s.str with
        handles := t.str.handles, pend := none, cmdSeq := (s.str.cmdSeq + 1) % 256, result := 0, detail := 0,
        stAfter := .stopped } ∧
      t.handle typ i = { s.handle typ i with st := .stopped } ∧
      (∀ k, k ≠ State.hkey typ i → tabGet t.str.handles k = tabGet s.str.handles k) ∧ t.raised (reg wSTR 0) 0 ∧
      (typ ≠ tHEAD ∧ typ ≠ tSINK → t.mst = s.mst) ∧ (typ ≠ tMILESTONE → t.tbs = s.tbs) ∧
      (typ ≠ tLANTERN → t.scn = s.scn ∧ t.ltb = s.ltb ∧ ∀ a, t.byte a = s.byte a) ∧ (typ ≠ tLANTERN ∧ typ ≠ tQUEUE → t.qdm = s.qdm) ∧
      (∀ x, s.inRing x = false → t.byte x = s.byte x)) ∧
      Frame [.evr, .ltb, .mem, .mst, .qdm, .scn, .stat, .str, .tbs]
        [] s t)
  ∧ (∀ (i k : Nat), ∀ (dt : Nat) (s0 : State), let s := s0.after dt; s0.powered = true → (s.works wSTR ∧ s.str.pend = some { start := false, typ := tSINK, idx := i, cyc := k } ∧ k < s.cyc ∧ s.atPeriod (i / 7) = true ∧
      s.hst tSINK i = .running ∧ i < s.mst.sinks.length) →
    ∃ t, exec (.handleStopComplete dt) s0 = .next t ∧
      (t.handle tSINK i = { s.handle tSINK i with st := .stopped } ∧ t.sink i = (s.sink i).clampOff ∧
      (∀ j, j ≠ i → t.sink j = s.sink j) ∧ t.mst = { s.mst with sinks := t.mst.sinks }) ∧
      Frame [.evr, .mst, .str]
        [(reg wSTR 0, 0)] s t)
  ∧ (∀ (typ i k : Nat), ∀ (dt : Nat) (s0 : State), let s := s0.after dt; s0.powered = true → (s.works wSTR ∧ s.str.pend = some { start := true, typ := typ, idx := i, cyc := k } ∧ k < s.cyc ∧ s.strDue typ i = true) →
    ∃ t, exec (.handleStartComplete dt) s0 = .next t ∧
      (t.str = { s.str with
        handles := t.str.handles, pend := none, cmdSeq := (s.str.cmdSeq + 1) % 256, result := 0, detail := 0,
        stAfter := .running } ∧
      t.handle typ i = { s.handle typ i with st := .running } ∧
      (∀ k, k ≠ State.hkey typ i → tabGet t.str.handles k = tabGet s.str.handles k) ∧ t.raised (reg wSTR 0) 0 ∧
      s.copied t s.cyc (s.ownedChanged s.cyc typ i) ∧ s.copyAsserts t (s.ownedChanged s.cyc typ i) ∧
      t.scn = { s.scn with progStart := if typ = tPROGRAMME then true else s.scn.progStart }) ∧
      Frame [.act, .changed, .evr, .mst, .qdm, .scn, .stat, .str, .sys, .tbs]
        [] s t)
  ∧ (∀ (typ i k : Nat) (x : Bool), ∀ (dt : Nat) (s0 : State), let s := s0.after dt; s0.powered = true → (s.str.pend = some { start := x, typ := typ, idx := i, cyc := k } ∧ (s.strDue typ i = false ∨ s.cyc ≤ k)) →
    ∃ t, exec ((if x then .handleStartComplete dt else .handleStopComplete dt)) s0 = .next t ∧
      (t = s) ∧
      Frame []
        [] s t)

/-- COMMIT and CLEAR take the next ticket and join the queue with the index, mask and source in force; with 64 queued they only set EDIT_OVERRUN. A write of LTB_EUIHI stores it and looks up the entry that holds the EUI-64. A master's write to memory outside the LTABLE region stores its bytes; one that lies in the region stores nothing, and its address is recorded with DIRECT_WRITE unless one is recorded already; one outside every memory faults (the spec gives no device there: model's choice). Everything else stays. -/
def Obligations.TableCommands : Prop :=
  (∀ (m : Nat) (x : Bool), Completes (fun dt => (if x then .ltbClear dt m else .ltbCommit dt m)) [.ltb, .reply]
    []
    (fun s => s.lets m (reg wLTB 0x018) ∧ s.ltb.queue.length < 64)
    (fun s t => t.ltb = { s.ltb with
        issued := (s.ltb.issued + 1) % 256,
        queue := s.ltb.queue ++ [({
          ticket := (s.ltb.issued + 1) % 256, clear := x, index := fld (s.cfg (reg wLTB 0x014)) 11 0,
          mask := fld (s.cfg (reg wLTB 0x014)) 21 16, src := (s.cfg (reg wLTB 0x010)).toNat } : EditCmd)] }))
  ∧ (∀ (m : Nat) (x : Bool), Completes (fun dt => (if x then .ltbClear dt m else .ltbCommit dt m)) [.evr, .reply]
    [(reg wLTB 0, 3)]
    (fun s => s.lets m (reg wLTB 0x018) ∧ 64 ≤ s.ltb.queue.length)
    (fun _ t => t.raised (reg wLTB 0) 3))
  ∧ (∀ (m : Nat) (v : Word), Completes (fun dt => .ltbEuiLookup dt m v) [.cfg, .ltb, .reply]
    []
    (fun s => s.lets m (reg wLTB 0x034))
    (fun s t => s.stores t (reg wLTB 0x034) v ∧
      t.ltb = { s.ltb with euiFound := s.findEui ((s.cfg (reg wLTB 0x030)).toNat + 2 ^ 32 * v.toNat) }))
  ∧ (∀ (m a : Nat) (d : List Byte), State.memSpan a d.length = true → Completes (fun dt => .ltableDirectWrite dt m a d) [.mem]
    []
    (fun s => ∀ i, i < d.length → s.inLtable (a + i) = false)
    (fun s t => (∀ i, i < d.length → t.byte (a + i) = nth 0 d i) ∧ (∀ x, x < a ∨ a + d.length ≤ x → t.byte x = s.byte x)))
  ∧ (∀ (m a : Nat) (d : List Byte), State.memSpan a d.length = true ∧ d ≠ [] → Completes (fun dt => .ltableDirectWrite dt m a d) [.evr, .ltb]
    [(reg wLTB 0, 0)]
    (fun s => ∀ i, i < d.length → s.inLtable (a + i) = true)
    (fun s t => t.raised (reg wLTB 0) 0 ∧
      t.ltb = (if s.statSet (reg wLTB 0) 0 then s.ltb else { s.ltb with dwAddr := a })))
  ∧ (∀ dt m a d s, State.memSpan a d.length = false → exec (.ltableDirectWrite dt m a d) s = .fault (.noMemory a))

/-- A command whose entry is not RUNNING completes. A commit that passes every check replaces the bytes of its regions in one step and leaves every byte outside the entry; STATE changes only where the entry was empty, to ABSENT, or REFERENCE for a border reference, and SOLVE_STATUS reads 0xFF where the entry has not been solved. A CLEAR that passes empties the entry. One that a check refuses changes no byte and gives the code, with EDIT_FAIL. Each leaves the queue, is the ticket done last and sets EDIT_DONE. A radio entry with no authenticated frame for the silence time becomes SILENT. A command for a RUNNING entry waits. Everything else stays. -/
def Obligations.TableEdits : Prop :=
  (∀ (c : EditCmd) (r : List EditCmd), ∀ (dt : Nat) (s0 : State), let s := s0.after dt; s0.powered = true → (s.works wLTB ∧ s.ltb.queue = c :: r ∧ s.entryRunning c.index = false ∧ c.clear = false ∧ (s.commitCheck c).1 = 0 ∧
      State.memSpan (s.ltAddr c.index 0) 384 = true) →
    ∃ t, exec (.ltbCommitComplete dt) s0 = .next t ∧
      (t.ltb = { s.ltb with done := c.ticket, code := 0, queue := r } ∧ t.raised (reg wLTB 0) 1 ∧
      (∀ o, o < 384 → o ≠ 9 → t.byte (s.ltAddr c.index o) =
        if o = 0x152 ∧ (s.scnEntry c.index).solved = false then 0xFF
        else nth 0 (editMerge c.mask (s.bytes (s.ltAddr c.index 0) 384) (s.bytes c.src 384)) o) ∧
      t.byte (s.ltAddr c.index 9) = (if s.ltKind c.index = 0 then if s.byte (c.src + 8) = 3 then 6 else 1 else s.byte (s.ltAddr c.index 9)) ∧
      (∀ x, x < s.ltAddr c.index 0 ∨ s.ltAddr c.index 384 ≤ x → t.byte x = s.byte x)) ∧
      Frame [.evr, .ltb, .mem, .scn]
        [(reg wLTB 0, 1)] s t)
  ∧ (∀ (c : EditCmd) (r : List EditCmd), ∀ (dt : Nat) (s0 : State), let s := s0.after dt; s0.powered = true → (s.works wLTB ∧ s.ltb.queue = c :: r ∧ s.entryRunning c.index = false ∧ c.clear = true ∧ (s.clearCheck c).1 = 0 ∧
      State.memSpan (s.ltAddr c.index 0) 384 = true) →
    ∃ t, exec (.ltbCommitComplete dt) s0 = .next t ∧
      (t.ltb = { s.ltb with done := c.ticket, code := 0, queue := r } ∧ t.raised (reg wLTB 0) 1 ∧
      (∀ o, o < 384 → t.byte (s.ltAddr c.index o) = 0) ∧
      (∀ x, x < s.ltAddr c.index 0 ∨ s.ltAddr c.index 384 ≤ x → t.byte x = s.byte x) ∧
      t.scn = { s.scn with entries := tabDel s.scn.entries c.index }) ∧
      Frame [.evr, .ltb, .mem, .scn]
        [(reg wLTB 0, 1)] s t)
  ∧ (∀ (c : EditCmd) (r : List EditCmd), ∀ (dt : Nat) (s0 : State), let s := s0.after dt; s0.powered = true → (s.works wLTB ∧ s.ltb.queue = c :: r ∧ s.entryRunning c.index = false ∧
      ((if c.clear then s.clearCheck c else s.commitCheck c).1 ≠ 0)) →
    ∃ t, exec (.ltbCommitComplete dt) s0 = .next t ∧
      (t.ltb = { s.ltb with
        done := c.ticket, code := (if c.clear then s.clearCheck c else s.commitCheck c).1, queue := r } ∧
      t.raised (reg wLTB 0) 1 ∧ t.raised (reg wLTB 0) 2) ∧
      Frame [.evr, .ltb]
        [(reg wLTB 0, 1), (reg wLTB 0, 2)] s t)
  ∧ (∀ (c : EditCmd) (r : List EditCmd), ∀ (dt : Nat) (s0 : State), let s := s0.after dt; s0.powered = true → (s.ltb.queue = c :: r ∧ s.entryRunning c.index = true) →
    ∃ t, exec (.ltbCommitComplete dt) s0 = .next t ∧
      (t = s) ∧
      Frame []
        [] s t)
  ∧ (∀ (n : Nat), ∀ (dt : Nat) (s0 : State), let s := s0.after dt; s0.powered = true → (s.works wLTB ∧ s.silentDue n = true ∧ State.isMem (s.ltAddr n 9) = true) →
    ∃ t, exec (.entrySilent dt n) s0 = .next t ∧
      (t.ltState n = 3 ∧ t.raised (reg wLTB 0) 6 ∧ (∀ x, x ≠ s.ltAddr n 9 → t.byte x = s.byte x)) ∧
      Frame [.evr, .mem]
        [(reg wLTB 0, 6)] s t)

/-- When the target has come, the TICK boundary takes up every shadow of its domain that was written before it and whose parity matches, completes every queued edit, aims at the next whole multiple of 100 ms and advances TSEQ; where the scene engine runs SOLVE_DONE and TICK_DONE are set. Before that nothing happens. While the scene engine runs, a held frame whose queue has a free descriptor leaves the list and is the queue's next descriptor. Nothing else changes but what the tick's work drives. -/
def Obligations.TickAndHeldFrames : Prop :=
  (∀ (us : Nat), ∀ (dt : Nat) (s0 : State), let s := s0.after dt; s0.powered = true → (s.works wTBS ∧ s.tickDue = true) →
    ∃ t, exec (.tickBoundary dt us) s0 = .next t ∧
      (t.tbs.tickPrev = some s.raw ∧ t.tbs.tickTarget = TbsUnit.tickAfter s.corrNow false ∧
      (∀ a, (s.eligible s.cyc (fun _ e => decide (e = .tick))).contains a = true → s.shadowBad a = false →
        (s.lastWrite s.cyc a).all (fun w => decide (t.actWord a = sound w)) = true ∧ ∀ x ∈ t.regs.changed, x.key = a → s.cyc ≤ x.cyc) ∧
      (s.blockOn wLTB = true → t.ltb.queue = []) ∧ (∀ x, s.inLtable x = false → s.inRing x = false → t.byte x = s.byte x) ∧
      (s.blockOn wSCN = true → t.scn.tseq = (s.scn.tseq + 1) % 65536) ∧
      (s.blockOn wSCN = true → t.scnRuns = true → t.raised (reg wSCN 0) 0 ∧ t.raised (reg wSCN 0) 1)) ∧
      Frame [.act, .cfg, .changed, .evr, .ltb, .mem, .mst, .qdm, .scn, .stat, .str, .sys, .tbs]
        [] s t)
  ∧ (∀ (us : Nat), ∀ (dt : Nat) (s0 : State), let s := s0.after dt; s0.powered = true → (s.tickDue = false) →
    ∃ t, exec (.tickBoundary dt us) s0 = .next t ∧
      (t = s) ∧
      Frame []
        [] s t)
  ∧ (∀ (q : Nat) (h : HeldFrame) (r : List HeldFrame), ∀ (dt : Nat) (s0 : State), let s := s0.after dt; s0.powered = true → (s.works wSCN ∧ s.scnRuns = true ∧ s.scn.held = h :: r ∧ s.engineQueue 1 h.lane 1 = some q ∧ s.qFree q = true ∧ q < 64) →
    ∃ t, exec (.scnHeldFrameQueue dt) s0 = .next t ∧
      (t.scn = { s.scn with held := r } ∧ (t.queue q).tail = ((s.queue q).tail + 1) % 65536 ∧
      (t.queue q).head = (s.queue q).head ∧ (∀ j, j ≠ q → t.queue j = s.queue j) ∧
      t.qdm.bufs = s.qdm.bufs ++ [({ queue := q, index := (s.queue q).tail, pay := h.pay, at_ := s.raw } : EngBuf)] ∧
      (∀ b, b ≠ reg wQDM (0x100C + 0x40 * q) → t.cfg b = s.cfg b) ∧
      ((∀ i < 32, s.inLtable (s.descAddr q (s.queue q).tail + i) = false) → t.ltb = s.ltb) ∧
      (∀ x, x < s.descAddr q (s.queue q).tail ∨ s.descAddr q (s.queue q).tail + 32 ≤ x → t.byte x = s.byte x)) ∧
      Frame [.cfg, .evr, .ltb, .mem, .qdm, .scn]
        [(reg wLTB 0, 0)] s t)
  ∧ (∀ (dt : Nat) (s0 : State), let s := s0.after dt; s0.powered = true → (s.works wSCN ∧ s.scnRuns = false) →
    ∃ t, exec (.scnHeldFrameQueue dt) s0 = .next t ∧
      (t = s) ∧
      Frame []
        [] s t)

/-- A DETECT that fails a check is dropped: it leaves the FIFO, its counter and the entry's own count advance, and DETECT_DROP is set. One that joins no wave opens the lowest free number, anchored at its entry and time with the profile's speed bounds, and sets WAVE_OPEN; one that joins a wave anchors that wave anew. Every other wave stays. A wave that has reached its end leaves the list with WAVE_END. An empty FIFO changes nothing. Memory changes only in the rings of the queues and, for a drop, in the entry's count. -/
def Obligations.WaveDetects : Prop :=
  (∀ (n tr td sp hd cl us : Nat) (hv : Bool) (r : List WavIn), ∀ (dt : Nat) (s0 : State), let s := s0.after dt; s0.powered = true → (s.works wWAV ∧ s.wav.fifo = .detect n tr td sp hd hv cl :: r ∧ (s.detectBad n tr td sp hv cl).isSome = true) →
    ∃ t, exec (.wavDetectProcess dt us) s0 = .next t ∧
      (t.wav.fifo = r ∧ t.wav.waves = s.wav.waves ∧ t.wav.dup = s.wav.dup ∧ t.wav.counts = s.wav.counts ∧
      t.raised (reg wWAV 0) 2 ∧ t.wav.latCompute = max s.wav.latCompute (sat 16 us) ∧ s.wav.latTotal ≤ t.wav.latTotal ∧
      (s.wavStateBad n = true → t.wav.dState = sat 16 (s.wav.dState + 1) ∧ t.wav.dRange = s.wav.dRange) ∧
      (s.wavStateBad n = false → 700 < sp ∨ 3 < cl → t.wav.dRange = sat 16 (s.wav.dRange + 1) ∧ t.wav.dState = s.wav.dState) ∧
      (n < s.ltb.count → State.memSpan (s.ltAddr n 0x122) 2 = true → t.lt n 0x122 2 = sat 16 (s.lt n 0x122 2 + 1)) ∧
      (∀ x, x < s.ltAddr n 0x122 ∨ s.ltAddr n 0x124 ≤ x → t.byte x = s.byte x)) ∧
      Frame [.evr, .mem, .wav]
        [(reg wWAV 0, 2)] s t)
  ∧ (∀ (n tr td sp hd cl us k p c : Nat) (hv : Bool) (r : List WavIn), ∀ (dt : Nat) (s0 : State), let s := s0.after dt; s0.powered = true → (s.works wWAV ∧ s.wav.fifo = .detect n tr td sp hd hv cl :: r ∧ (s.detectBad n tr td sp hv cl).isNone = true ∧
      (s.wav.waves.any (fun w => s.joins w n td (if hv then some hd else none))) = false ∧ s.freeWave = some k ∧ s.lt n 0x00E 1 = p ∧
      (tabGetD 0 s.wav.counts k + 1) % 512 = c) →
    ∃ t, exec (.wavDetectProcess dt us) s0 = .next t ∧
      (t.wav.fifo = r ∧ t.raised (reg wWAV 0) 0 ∧ t.wav.dup = tabSet s.wav.dup n td ∧ tabGetD 0 t.wav.counts k = c ∧
      (t.waveNo k).map (fun w => (w.ident, w.anchor, w.t0, w.heading, w.hops, w.cls, w.remote)) =
        some (c * 128 + k, n, td, if hv then some hd else none, 0, cl, none) ∧ (t.waveNo k).map (fun w => w.prof) = some (s.profWords p) ∧
      (t.waveNo k).map (fun w => w.speed) = some (
        if sp = 0 then (profOf (s.profWords p)).speedDef
        else min (profOf (s.profWords p)).speedMax (max (profOf (s.profWords p)).speedMin sp)) ∧
      t.wav.waves.filter (fun w => w.num != k) = s.wav.waves ∧ (∀ x, s.inRing x = false → t.byte x = s.byte x)) ∧
      Frame [.cfg, .evr, .ltb, .mem, .mst, .qdm, .wav]
        [(reg wLTB 0, 0), (reg wWAV 0, 0), (reg wWAV 0, 4), (reg wWAV 0, 5), (reg wWAV 0, 6)] s t)
  ∧ (∀ (n tr td sp hd cl us : Nat) (hv : Bool) (r : List WavIn) (w : Wave), ∀ (dt : Nat) (s0 : State), let s := s0.after dt; s0.powered = true → (s.works wWAV ∧ s.wav.fifo = .detect n tr td sp hd hv cl :: r ∧ (s.detectBad n tr td sp hv cl).isNone = true ∧
      minBy (State.joinGap n td) (s.wav.waves.filter (fun x => s.joins x n td (if hv then some hd else none))) = some w) →
    ∃ t, exec (.wavDetectProcess dt us) s0 = .next t ∧
      (t.wav.fifo = r ∧ t.wav.dup = tabSet s.wav.dup n td ∧ t.wav.counts = s.wav.counts ∧
      (t.waveNo w.num).map (fun x => (x.ident, x.anchor, x.t0, x.heading, x.hops, x.cls, x.prof)) =
        some (w.ident, n, td, if hv then some hd else none, w.hops, cl, w.prof) ∧
      (sp ≠ 0 → (t.waveNo w.num).map (fun x => x.speed) =
        some (min (profOf w.prof).speedMax (max (profOf w.prof).speedMin sp))) ∧
      t.wav.waves.filter (fun x => x.num != w.num) = s.wav.waves.filter (fun x => x.num != w.num) ∧
      (∀ x, s.inRing x = false → t.byte x = s.byte x)) ∧
      Frame [.cfg, .evr, .free, .ltb, .mem, .mst, .qdm, .wav]
        [(reg wLTB 0, 0), (reg wWAV 0, 4), (reg wWAV 0, 5), (reg wWAV 0, 6)] s t)
  ∧ (∀ (us : Nat), ∀ (dt : Nat) (s0 : State), let s := s0.after dt; s0.powered = true → (s.wav.fifo = []) →
    ∃ t, exec (.wavDetectProcess dt us) s0 = .next t ∧
      (t = s) ∧
      Frame []
        [] s t)
  ∧ (∀ (n : Nat), ∀ (dt : Nat) (s0 : State), let s := s0.after dt; s0.powered = true → (s.works wWAV ∧ s.waveEndDue n = true) →
    ∃ t, exec (.waveEnd dt n) s0 = .next t ∧
      (t.wav = { s.wav with waves := s.wav.waves.filter (fun w => w.num != n) } ∧ t.raised (reg wWAV 0) 1) ∧
      Frame [.evr, .wav]
        [(reg wWAV 0, 1)] s t)

/-- A datagram that fails a check of R271 is dropped and counted as STALE or CHECK, with HANDOFF_DROP. An accepted OPEN opens the lowest free wave at its entry for its peer with one hop more; an accepted UPDATE anchors the wave of that peer and number anew at the entry its OPEN opened it at; an accepted CANCEL ends it, with WAVE_END; each is counted and sets HANDOFF_RECV. An UPDATE or CANCEL for no open wave is STALE. Every other wave stays, and memory changes only in the rings of the queues. -/
def Obligations.WaveHandoffs : Prop :=
  (∀ (p src : List Byte) (tr co us ty : Nat) (r : List WavIn) (st : Bool), ty = 1 ∨ ty = 2 ∨ ty = 3 → ∀ (dt : Nat) (s0 : State), let s := s0.after dt; s0.powered = true → (s.works wWAV ∧ s.wav.fifo = .datagram p tr co src :: r ∧
      (if fieldBE p 3 1 = 2 ∨ fieldBE p 3 1 = 3 then fieldBE p 3 1 else 1) = ty ∧
      (match s.handCheck p tr co src with | .error b => some b | .ok _ => none) = some st) →
    ∃ t, exec ((if ty = 1 then .wavHandoffOpen dt us else if ty = 2 then .wavHandoffUpdate dt us else .wavHandoffCancel dt us)) s0 = .next t ∧
      (t.wav.fifo = r ∧ t.wav.waves = s.wav.waves ∧ t.raised (reg wWAV 0) 8 ∧
      t.wav.hoStale = (if st then sat 16 (s.wav.hoStale + 1) else s.wav.hoStale) ∧
      t.wav.hoCheck = (if st then s.wav.hoCheck else sat 16 (s.wav.hoCheck + 1)) ∧ t.wav.hoRecv = s.wav.hoRecv) ∧
      Frame [.evr, .wav]
        [(reg wWAV 0, 8)] s t)
  ∧ (∀ (p src : List Byte) (tr co us n k c pe : Nat) (r : List WavIn), ∀ (dt : Nat) (s0 : State), let s := s0.after dt; s0.powered = true → (s.works wWAV ∧ s.wav.fifo = .datagram p tr co src :: r ∧ fieldBE p 3 1 = 1 ∧ (s.handCheck p tr co src).toOption = some pe ∧
      fieldBE p 16 2 = n ∧ s.wavStateBad n = false ∧ fieldBE p 45 1 ≤ 3 ∧
      ((profOf (s.profWords (s.lt n 0x00E 1))).classes >>> fieldBE p 45 1) % 2 = 1 ∧ s.freeWave = some k ∧
      (tabGetD 0 s.wav.counts k + 1) % 512 = c) →
    ∃ t, exec (.wavHandoffOpen dt us) s0 = .next t ∧
      (t.wav.fifo = r ∧ t.raised (reg wWAV 0) 0 ∧ t.raised (reg wWAV 0) 7 ∧ t.wav.hoRecv = (s.wav.hoRecv + 1) % 65536 ∧
      tabGetD 0 t.wav.counts k = c ∧
      (t.waveNo k).map (fun w => (w.ident, w.anchor, w.t0, w.heading, w.hops, w.cls, w.remote)) =
        some (c * 128 + k, n, s.tbs.rawOf (fieldBE p 26 8), some (fieldBE p 44 1), fieldBE p 46 1 + 1, fieldBE p 45 1,
          some (pe, fieldBE p 12 2, n)) ∧
      t.wav.waves.filter (fun w => w.num != k) = s.wav.waves ∧ (∀ x, s.inRing x = false → t.byte x = s.byte x)) ∧
      Frame [.cfg, .evr, .ltb, .mem, .mst, .qdm, .wav]
        [(reg wLTB 0, 0), (reg wWAV 0, 0), (reg wWAV 0, 4), (reg wWAV 0, 5), (reg wWAV 0, 6), (reg wWAV 0, 7)] s t)
  ∧ (∀ (p src : List Byte) (tr co us n pe : Nat) (r : List WavIn) (w : Wave), ∀ (dt : Nat) (s0 : State), let s := s0.after dt; s0.powered = true → (s.works wWAV ∧ s.wav.fifo = .datagram p tr co src :: r ∧ fieldBE p 3 1 = 2 ∧ (s.handCheck p tr co src).toOption = some pe ∧
      fieldBE p 16 2 = n ∧ s.wavStateBad n = false ∧
      s.wav.waves.find? (fun w => match w.remote with | some r => r.1 == pe && r.2.1 == fieldBE p 12 2 | none => false) = some w) →
    ∃ t, exec (.wavHandoffUpdate dt us) s0 = .next t ∧
      (t.wav.fifo = r ∧ t.raised (reg wWAV 0) 7 ∧ t.wav.hoRecv = (s.wav.hoRecv + 1) % 65536 ∧
      (t.waveNo w.num).map (fun x => (x.ident, x.anchor, x.t0, x.heading, x.hops, x.cls)) =
        some (w.ident, (w.remote.map (·.2.2)).getD n, s.tbs.rawOf (fieldBE p 26 8), some (fieldBE p 44 1), w.hops, fieldBE p 45 1) ∧
      t.wav.waves.filter (fun x => x.num != w.num) = s.wav.waves.filter (fun x => x.num != w.num) ∧
      (∀ x, s.inRing x = false → t.byte x = s.byte x)) ∧
      Frame [.cfg, .evr, .free, .ltb, .mem, .mst, .qdm, .wav]
        [(reg wLTB 0, 0), (reg wWAV 0, 4), (reg wWAV 0, 5), (reg wWAV 0, 6), (reg wWAV 0, 7)] s t)
  ∧ (∀ (p src : List Byte) (tr co us n pe : Nat) (r : List WavIn) (w : Wave), ∀ (dt : Nat) (s0 : State), let s := s0.after dt; s0.powered = true → (s.works wWAV ∧ s.wav.fifo = .datagram p tr co src :: r ∧ fieldBE p 3 1 = 3 ∧ (s.handCheck p tr co src).toOption = some pe ∧
      fieldBE p 16 2 = n ∧ s.wavStateBad n = false ∧
      s.wav.waves.find? (fun w => match w.remote with | some r => r.1 == pe && r.2.1 == fieldBE p 12 2 | none => false) = some w) →
    ∃ t, exec (.wavHandoffCancel dt us) s0 = .next t ∧
      (t.wav.fifo = r ∧ t.raised (reg wWAV 0) 1 ∧ t.raised (reg wWAV 0) 7 ∧ t.wav.hoRecv = (s.wav.hoRecv + 1) % 65536 ∧
      t.wav.waves = s.wav.waves.filter (fun x => x.num != w.num) ∧ (∀ x, s.inRing x = false → t.byte x = s.byte x)) ∧
      Frame [.cfg, .evr, .ltb, .mem, .mst, .qdm, .wav]
        [(reg wLTB 0, 0), (reg wWAV 0, 1), (reg wWAV 0, 4), (reg wWAV 0, 7)] s t)
  ∧ (∀ (p src : List Byte) (tr co us n pe ty : Nat) (r : List WavIn), ty = 2 ∨ ty = 3 → ∀ (dt : Nat) (s0 : State), let s := s0.after dt; s0.powered = true → (s.works wWAV ∧ s.wav.fifo = .datagram p tr co src :: r ∧ fieldBE p 3 1 = ty ∧ (s.handCheck p tr co src).toOption = some pe ∧
      fieldBE p 16 2 = n ∧ s.wavStateBad n = false ∧
      s.wav.waves.find? (fun w => match w.remote with | some r => r.1 == pe && r.2.1 == fieldBE p 12 2 | none => false) = none) →
    ∃ t, exec ((if ty = 2 then .wavHandoffUpdate dt us else .wavHandoffCancel dt us)) s0 = .next t ∧
      (t.wav.fifo = r ∧ t.wav.waves = s.wav.waves ∧ t.wav.hoStale = sat 16 (s.wav.hoStale + 1) ∧ t.raised (reg wWAV 0) 8 ∧
      t.wav.hoRecv = s.wav.hoRecv) ∧
      Frame [.evr, .wav]
        [(reg wWAV 0, 8)] s t)

/-- A group in RUN whose sinks have had zero drive for the time of DARK enters DARK: its code is kept and goes to the lower-supply limit. STARTUP and RECOVERY end in RUN after their times. Once in its interval the headroom loop moves the code towards the target, within its limits, or leaves it inside the band, on the least V_DS of the sinks without a fault, and begins a new interval. At the supply limit with SAT for 100 ms, HR_LIMIT is set. ACK returns a sink to service: its faults are cleared, and its group enters RECOVERY unless TRIPPED or held. Every other group and sink stays. -/
def Obligations.GroupPhases : Prop :=
  (∀ (g z : Nat), g < 8 → Completes (fun dt => .groupDark dt g) [.mst]
    []
    (fun s => s.works wMST ∧ s.mst.groups.length = 8 ∧ (s.group g).phase = .run ∧ (s.group g).zeroSince = some z ∧
      z + max 1 (fld (s.act (reg wMST 0x004)) 31 24) * 200000000 ≤ s.raw)
    (fun s t => t.group g = { s.group g with phase := .dark, since := s.raw, saved := some (s.group g).code, code := (s.hrLimits g).1 } ∧
      (∀ j, j ≠ g → t.group j = s.group j) ∧ t.mst = { s.mst with groups := t.mst.groups }))
  ∧ (∀ (g : Nat) (x : Bool), g < 8 → Completes (fun dt => (if x then .groupStartupEnd dt g else .groupRecoveryEnd dt g)) [.mst]
    []
    (fun s => s.works wMST ∧ s.mst.groups.length = 8 ∧ (s.group g).phase = (if x then .startup else .recovery) ∧
      (s.group g).since + (if x then max 1 (fld (s.act (reg wMST 0x004)) 15 8) * 20000000
        else max 1 (fld (s.act (reg wMST 0x004)) 23 16) * 200000000) ≤ s.raw)
    (fun s t => t.group g = { s.group g with phase := .run, since := s.raw } ∧
      (∀ j, j ≠ g → t.group j = s.group j) ∧ t.mst = { s.mst with groups := t.mst.groups }))
  ∧ (∀ (g v : Nat), g < 8 → Completes (fun dt => .headroomLoopStep dt g) [.mst]
    []
    (fun s => s.works wMST ∧ s.mst.groups.length = 8 ∧ s.mst.sinks.length = 56 ∧ s.hrRuns g = true ∧
      (s.group g).hrAt + max 1 (fld (s.act (reg wMST 0x008)) 31 24) * 200000 ≤ s.raw ∧
      minBy (fun x => x) ((List.range 6).filterMap (fun j =>
        if State.sinkFault (s.sink (7 * g + j)) then none else (s.sink (7 * g + j)).hrMin)) = some v)
    (fun s t => t.group g = { s.group g with
        hrAt := s.raw
        code := if v + 10 * fld (s.act (reg wMST 0x008)) 7 0 < 10 * fld (s.act (reg wMST (0x104 + 0x20 * g))) 30 24 then
            s.hrMoved g true (fld (s.act (reg wMST 0x008)) 15 8)
          else if 10 * fld (s.act (reg wMST (0x104 + 0x20 * g))) 30 24 + 10 * fld (s.act (reg wMST 0x008)) 7 0 < v then
            s.hrMoved g false (fld (s.act (reg wMST 0x008)) 23 16)
          else (s.group g).code } ∧
      (∀ j, j ≠ g → t.group j = s.group j) ∧
      (∀ k, k < 56 → t.sink k = if k / 7 = g then { s.sink k with hrMin := none } else s.sink k) ∧
      t.mst = { s.mst with groups := t.mst.groups, sinks := t.mst.sinks }))
  ∧ (∀ (g : Nat), g < 8 → Completes (fun dt => .headroomLoopStep dt g) []
    []
    (fun s => s.hrRuns g = false ∨ s.raw < (s.group g).hrAt + max 1 (fld (s.act (reg wMST 0x008)) 31 24) * 200000)
    (fun s t => t = s))
  ∧ (∀ (s : State) (g n : Nat) (up : Bool), min (s.hrLimits g).1 (s.hrLimits g).2 ≤ s.hrMoved g up n ∧
    s.hrMoved g up n ≤ max (s.hrLimits g).1 (s.hrLimits g).2)
  ∧ (∀ (g j r : Nat), g < 8 ∧ j < 6 → Completes (fun dt => .hrLimit dt g) [.evr, .mst]
    [(reg wMST 0, 5)]
    (fun s => s.works wMST ∧ s.mst.sinks.length = 56 ∧ s.hrRuns g = true ∧ (s.group g).code = (s.hrLimits g).2 ∧
      (s.sink (7 * g + j)).sat = true ∧ (s.sink (7 * g + j)).satSince = some r ∧ r + 20000000 ≤ s.raw)
    (fun s t => t.raised (reg wMST 0) 5 ∧ (∀ k, t.sink k = { s.sink k with satSince := (t.sink k).satSince }) ∧
      (∀ k, (t.sink k).satSince = (s.sink k).satSince ∨ (k / 7 = g ∧ (t.sink k).satSince = none)) ∧
      t.mst = { s.mst with sinks := t.mst.sinks }))
  ∧ (∀ (m c : Nat), c ≤ 55 ∧ c % 7 ≠ 6 → Completes (fun dt => .mstAck dt m c) [.evr, .mst, .reply]
    [(reg wMST 0, 13)]
    (fun s => s.lets m (reg wMST 0x00C) ∧ s.mst.groups.length = 8 ∧ s.mst.sinks.length = 56 ∧ s.mst.cal = none ∧ s.groupEnabled (c / 7) = true)
    (fun s t => t.sink c = { s.sink c with
        open_ := false, adjShort := false, ctrl := false, sat := false, vfRange := false, takenOut := false, satSince := none,
        hrMin := (t.sink c).hrMin } ∧
      (∀ j, j ≠ c → t.sink j = { s.sink j with hrMin := (t.sink j).hrMin }) ∧
      (∀ j, (t.sink j).hrMin = if j / 7 = c / 7 ∧ s.hrRuns (c / 7) = false ∧ t.hrRuns (c / 7) = true then none else (s.sink j).hrMin) ∧ (∀ j, j ≠ c / 7 → t.group j = s.group j) ∧ t.mst.heads = s.mst.heads ∧
      (t.group (c / 7)).phase = (if (s.group (c / 7)).phase = .tripped ∨ (s.group (c / 7)).phase = .held
        then (s.group (c / 7)).phase else .recovery) ∧ t.mst.cmdCode = 0 ∧ t.raised (reg wMST 0) 13))

/-- OPEN seen by enough consecutive checks, and ADJ_SHORT found by blanking or beside a stretched pulse, take the sink out of service in a group whose interlock does not apply, with its gate off, its bit and its event, and fault the handle that owns it alone. CTRL of three periods, or a current above 125 % of the target, clamps the gate off and, where the spare is usable and free, begins its routing. An overcurrent clamps the gate in HELD as well. SAT of three periods asks for one extra headroom step. Below its count or its threshold no fault is entered. With the interlock in STARTUP, TEST or RECOVERY a fault trips the group and faults its handles. A stretched pulse lasts 8 µs, owes the excess and blanks the adjoining sinks; it and a blanking happen in the sink's own period alone. Every other sink and group stays. -/
def Obligations.SinkFaults : Prop :=
  (∀ (c : Nat), Completes (fun dt => .sinkFaultOpen dt c) [.evr, .mst, .str]
    [(reg wMST 0, 1), (reg wSTR 0, 0), (reg wSTR 0, 2)]
    (fun s => s.works wMST ∧ s.mst.sinks.length = 56 ∧ s.sinkChecked c = true ∧ (s.sink c).open_ = false ∧
      max 1 (fld (s.act (reg wMST 0x004)) 3 0) ≤ (s.sink c).openCnt ∧
      ((s.imgGroup (c / 7)).interlock = false ∨ (s.group (c / 7)).phase = .run))
    (fun s t => t.sink c = { (s.sink c).clampOff with open_ := true, takenOut := true } ∧
      (∀ j, j ≠ c → t.sink j = s.sink j) ∧ t.mst = { s.mst with sinks := t.mst.sinks } ∧ t.raised (reg wMST 0) 1 ∧
      (s.sinkOwner c ≠ some (tSINK, c) → t.str = s.str) ∧
      (s.sinkOwner c = some (tSINK, c) → s.hst tSINK c = .running → t.hst tSINK c = .faulted ∧ t.raised (reg wSTR 0) 2)))
  ∧ (∀ (c : Nat), Completes (fun dt => .sinkFaultOpen dt c) [.evr, .mem, .mst, .str]
    [(reg wMST 0, 1), (reg wMST 0, 10), (reg wSTR 0, 0), (reg wSTR 0, 2), (reg wLTB 0, 7)]
    (fun s => s.works wMST ∧ s.mst.sinks.length = 56 ∧ s.mst.groups.length = 8 ∧ s.sinkChecked c = true ∧ (s.sink c).open_ = false ∧
      max 1 (fld (s.act (reg wMST 0x004)) 3 0) ≤ (s.sink c).openCnt ∧
      (s.imgGroup (c / 7)).interlock = true ∧ (s.group (c / 7)).phase ≠ .run)
    (fun s t => (t.group (c / 7)).phase = .tripped ∧ (t.group (c / 7)).interlocked = true ∧ (t.sink c).open_ = true ∧
      (∀ j, j ≠ c → t.sink j = s.sink j) ∧ (∀ j, j ≠ c / 7 → t.group j = s.group j) ∧ t.mst.heads = s.mst.heads ∧
      (∀ o ∈ s.groupOwners (c / 7), s.hst o.1 o.2 = .running → t.hst o.1 o.2 = .faulted) ∧
      t.raised (reg wMST 0) 1 ∧ t.raised (reg wMST 0) 10))
  ∧ (∀ (c i v : Nat) (x : Bool), Completes (fun dt => (if x then .sinkOvercurrent dt c i v else .sinkFaultCtrl dt c)) [.evr, .mst]
    [(reg wMST 0, 3)]
    (fun s => s.works wMST ∧ s.mst.sinks.length = 56 ∧ s.mst.groups.length = 8 ∧ s.sinkChecked c = true ∧ (s.sink c).ctrl = false ∧
      (if x then decide (5 * (s.sink c).targetMa / 4 < (i : Rat)) else decide (3 ≤ (s.sink c).ctrlCnt)) = true ∧
      (s.imgGroup (c / 7)).spare = true ∧ (s.group (c / 7)).subBusy = none ∧ (s.group (c / 7)).spareUsable = true ∧
      (s.group (c / 7)).spareTo = none)
    (fun s t => t.sink c = { (s.sink c).clampOff with
        ctrl := true, i := if x then i else (s.sink c).i, vds := if x then v else (s.sink c).vds } ∧
      (∀ j, j ≠ c → t.sink j = s.sink j) ∧
      t.group (c / 7) = { s.group (c / 7) with subBusy := some (c % 7) } ∧ (∀ j, j ≠ c / 7 → t.group j = s.group j) ∧
      t.mst.heads = s.mst.heads ∧ t.raised (reg wMST 0) 3))
  ∧ (∀ (c i v : Nat), c < 56 ∧ c % 7 < 6 → Completes (fun dt => .sinkOvercurrent dt c i v) [.evr, .flt, .mst, .str]
    [(reg wMST 0, 3), (reg wFLT 0, 5), (reg wSTR 0, 0), (reg wSTR 0, 2)]
    (fun s => s.works wMST ∧ s.mst.sinks.length = 56 ∧ (s.group (c / 7)).phase = .held ∧ 0 < (s.sink c).d ∧
      5 * (s.sink c).targetMa / 4 < (i : Rat))
    (fun s t => (t.sink c).d = 0 ∧ (t.sink c).mode = .off ∧ (t.sink c).ctrl = true ∧ (∀ j, j ≠ c → t.sink j = s.sink j)))
  ∧ (∀ (c : Nat), Completes (fun dt => .sinkFaultSat dt c) [.evr, .mst]
    [(reg wMST 0, 4)]
    (fun s => s.works wMST ∧ s.mst.sinks.length = 56 ∧ s.mst.groups.length = 8 ∧ s.sinkChecked c = true ∧ (s.sink c).sat = false ∧
      3 ≤ (s.sink c).satCnt)
    (fun s t => t.sink c = { s.sink c with sat := true, satSeen := true, satSince := some s.raw } ∧ (∀ j, j ≠ c → t.sink j = s.sink j) ∧
      t.group (c / 7) = { s.group (c / 7) with extraStep := true } ∧ (∀ j, j ≠ c / 7 → t.group j = s.group j) ∧
      t.mst.heads = s.mst.heads ∧ t.raised (reg wMST 0) 4))
  ∧ (∀ (c i v : Nat) (x : Nat), x ≤ 3 → Completes (fun dt => (if x = 0 then .sinkFaultOpen dt c else if x = 1 then .sinkFaultCtrl dt c else if x = 2 then .sinkFaultSat dt c else .sinkOvercurrent dt c i v)) []
    []
    (fun s => (if x = 0 then decide ((s.sink c).openCnt < max 1 (fld (s.act (reg wMST 0x004)) 3 0)) else if x = 1 then decide ((s.sink c).ctrlCnt < 3)
        else if x = 2 then decide ((s.sink c).satCnt < 3) else decide ((i : Rat) ≤ 5 * (s.sink c).targetMa / 4)) = true)
    (fun s t => t = s))
  ∧ (∀ (c i : Nat), Completes (fun dt => .sinkBlanking dt c i []) [.mst]
    []
    (fun s => s.works wMST ∧ s.mst.sinks.length = 56 ∧ s.sinkChecked c = true ∧ s.blankDue c = true ∧ 400 * i ≤ s.fullCode c)
    (fun s t => t.sink c = { s.sink c with blank := true, onTicks := min (s.sink c).onTicks 123400 } ∧
      (∀ j, j ≠ c → t.sink j = s.sink j) ∧ t.mst = { s.mst with sinks := t.mst.sinks }))
  ∧ (∀ (c i : Nat), Completes (fun dt => .sinkBlanking dt c i []) [.evr, .mst, .str]
    [(reg wMST 0, 2), (reg wSTR 0, 0), (reg wSTR 0, 2)]
    (fun s => s.works wMST ∧ s.mst.sinks.length = 56 ∧ s.sinkChecked c = true ∧ s.blankDue c = true ∧ s.fullCode c < 400 * i ∧ (s.sink c).adjShort = false ∧
      ((s.imgGroup (c / 7)).interlock = false ∨ (s.group (c / 7)).phase = .run))
    (fun s t => t.sink c = { (s.sink c).clampOff with
        adjShort := true, takenOut := true, blank := true, i := i, vds := (s.sink c).vds } ∧
      (∀ j, j ≠ c → t.sink j = s.sink j) ∧ t.raised (reg wMST 0) 2))
  ∧ (∀ (c : Nat), c < 56 ∧ c % 7 < 6 → Completes (fun dt => .pulseStretch dt c []) [.mst]
    []
    (fun s => s.works wMST ∧ s.mst.sinks.length = 56 ∧ (s.group (c / 7)).phase ≠ .held ∧ s.stretchDue c = true ∧ (s.sink c).mode = .pwm ∧
      15 ≤ (s.sink c).onTicks ∧ (s.sink c).onTicks < 3200)
    (fun s t => t.sink c = { s.sink c with
        mode := .stretch, excess := (s.sink c).excess + (3200 - (s.sink c).onTicks), onTicks := 3200, blank := true } ∧
      (∀ j, j = c + 1 ∨ (j + 1 = c ∧ c % 7 ≠ 0) → t.sink j = { s.sink j with blank := true, onTicks := min (s.sink j).onTicks 123400 }) ∧
      (∀ j, (j < c - 1 ∨ c + 1 < j ∨ (j + 1 = c ∧ c % 7 = 0)) → t.sink j = s.sink j) ∧ t.mst = { s.mst with sinks := t.mst.sinks }))
  ∧ (∀ (c i : Nat), c < 56 ∧ c % 7 < 6 → Completes (fun dt => .pulseStretch dt c [(c + 1, i)]) [.evr, .mst, .str]
    [(reg wMST 0, 2), (reg wSTR 0, 0), (reg wSTR 0, 2)]
    (fun s => s.works wMST ∧ s.mst.sinks.length = 56 ∧ (s.group (c / 7)).phase ≠ .held ∧ s.stretchDue c = true ∧ (s.sink c).mode = .pwm ∧
      15 ≤ (s.sink c).onTicks ∧ (s.sink c).onTicks < 3200 ∧ s.sinkChecked (c + 1) = true ∧ s.fullCode (c + 1) < 400 * i ∧
      (s.sink (c + 1)).adjShort = false ∧ ((s.imgGroup (c / 7)).interlock = false ∨ (s.group (c / 7)).phase = .run))
    (fun s t => (t.sink c).mode = .stretch ∧ (t.sink c).onTicks = 3200 ∧
      (t.sink (c + 1)).adjShort = true ∧ (t.sink (c + 1)).takenOut = true ∧ (t.sink (c + 1)).d = 0 ∧ t.raised (reg wMST 0) 2 ∧
      (∀ j, (j < c - 1 ∨ c + 1 < j) → t.sink j = s.sink j)))
  ∧ (∀ (c : Nat) (x : Bool), Completes (fun dt => (if x then .pulseStretch dt c [] else .sinkBlanking dt c 3 [])) []
    []
    (fun s => (if x then s.stretchDue c else s.blankDue c) = false)
    (fun s t => t = s))

/-- An idle spare is tested once in its 10 s: it holds what the test measured (which checks its registers then report is the model's choice, log entry 65), and one that fails is unusable, with SPARE_FAULT. A routed spare takes the sink over: the sink is substituted and retired, without its control fault, with SUBST. CALIBRATE of a free group starts with the NTC temperature; where an owner runs or the rest time has not passed it ends with its code. In a calibration each PERIOD boundary drives the channel in turn at full drive or at a quarter. At the end each used channel's current, voltage and temperature are written and its calibration marked valid; a sink that drew too little ends it with NO_CURRENT; until then nothing ends it. Everything else stays. -/
def Obligations.SpareSinksAndCalibration : Prop :=
  (∀ (g : Nat) (ok : Bool) (m : SinkMeas), g < 8 → Completes (fun dt => .spareSinkSelftest dt g ok m) [.evr, .mst]
    [(reg wMST 0, 12)]
    (fun s => s.works wMST ∧ s.mst.sinks.length = 56 ∧ s.mst.groups.length = 8 ∧ s.groupEnabled g = true ∧ (s.imgGroup g).spare = true ∧
      (s.group g).spareTo = none ∧ (s.group g).subBusy = none ∧ (s.group g).selfAt ≠ some (s.selfSlot g))
    (fun s t => t.sink (7 * g + 6) = { s.sink (7 * g + 6) with
        i := m.i, vds := m.vds, vf := (t.sink (7 * g + 6)).vf, tj := none, open_ := State.openSeen 50 m, ctrl := State.ctrlSeen 50 m,
        sat := State.satFound 50 m } ∧
      (∀ j, j ≠ 7 * g + 6 → t.sink j = s.sink j) ∧ (∀ j, j ≠ g → t.group j = s.group j) ∧
      t.group g = { s.group g with selfAt := some (s.selfSlot g), spareUsable := ok && (s.group g).spareUsable } ∧
      t.mst = { s.mst with sinks := t.mst.sinks, groups := t.mst.groups } ∧ (ok = false → t.raised (reg wMST 0) 12) ∧
      (ok = true → (t.raised (reg wMST 0) 12 ↔ s.raised (reg wMST 0) 12) ∧ t.evr = s.evr)))
  ∧ (∀ (g : Nat) (ok : Bool) (m : SinkMeas), Completes (fun dt => .spareSinkSelftest dt g ok m) []
    []
    (fun s => (s.group g).selfAt = some (s.selfSlot g))
    (fun s t => t = s))
  ∧ (∀ (g j : Nat), g < 8 ∧ j < 6 → Completes (fun dt => .spareSinkTakeover dt g) [.evr, .flt, .mst]
    [(reg wMST 0, 11), (reg wFLT 0, 3)]
    (fun s => s.works wMST ∧ s.mst.sinks.length = 56 ∧ s.mst.groups.length = 8 ∧ (s.group g).subBusy = some j ∧
      (∀ i, i < 6 → i ≠ j → (s.sink (7 * g + i)).ctrl = false ∨ (s.sink (7 * g + i)).takenOut = true))
    (fun s t => t.sink (7 * g + j) = { s.sink (7 * g + j) with subst := true, ctrl := false } ∧
      (∀ i, i ≠ 7 * g + j → t.sink i = s.sink i) ∧ t.group g = { s.group g with spareTo := some j, subBusy := none } ∧
      (∀ i, i ≠ g → t.group i = s.group i) ∧
      t.flt = { s.flt with
        sinkRet := setAdd s.flt.sinkRet (7 * g + j), sinkSub := setAdd s.flt.sinkSub (7 * g + j) } ∧
      t.raised (reg wMST 0) 11 ∧ t.raised (reg wFLT 0) 3))
  ∧ (∀ (m g z : Nat) (tq : Rat), g < 8 → Completes (fun dt => .mstCalibrate dt m g) [.mst, .reply]
    []
    (fun s => s.lets m (reg wMST 0x00C) ∧ s.mst.cal = none ∧ s.groupEnabled g = true ∧
      ((s.groupOwners g).all (fun o => s.hst o.1 o.2 == .stopped || s.hst o.1 o.2 == .free)) = true ∧
      (s.group g).zeroSince = some z ∧ (s.group g).ntc = some tq ∧ z + 360000000000 ≤ s.raw)
    (fun s t => t.mst = { s.mst with cal := some {
        group := g, tRef := tq, t0 := s.raw, periods := 0, samples := [], low := false, ended := false } }))
  ∧ (∀ (m g z : Nat), g < 8 → Completes (fun dt => .mstCalibrate dt m g) [.evr, .mst, .reply]
    [(reg wMST 0, 13)]
    (fun s => s.lets m (reg wMST 0x00C) ∧ s.mst.cal = none ∧ s.groupEnabled g = true ∧
      ((s.groupOwners g).all (fun o => s.hst o.1 o.2 == .stopped || s.hst o.1 o.2 == .free)) = true ∧
      (s.group g).zeroSince = some z ∧ s.raw < z + 360000000000)
    (fun s t => t.mst = { s.mst with cmdCode := 2 } ∧ t.raised (reg wMST 0) 13))
  ∧ (∀ (c : Cal), Completes (fun dt => .calibrationDone dt) [.cfg, .changed, .evr, .free, .mst]
    [(reg wMST 0, 13)]
    (fun s => s.works wMST ∧ s.mst.cal = some c ∧ c.group < 8 ∧ c.low = false ∧ (c.ended = true ∨ s.calSinks c.group = []))
    (fun s t => t.mst = { s.mst with cal := none, cmdCode := 0 } ∧ t.raised (reg wMST 0) 13 ∧
      (∀ x ∈ numberedFrom 0 (s.calSinks c.group), bit (t.cfg (reg wMST (0x40C + 0x20 * x.2))) 31 = true ∧
        t.cfg (reg wMST (0x404 + 0x20 * x.2)) = BitVec.ofNat 32
          (two16 (sat 16 (openNat 15 (State.calMean c (2 * x.1)).2)) (sat 16 (openNat 15 (State.calMean c (2 * x.1)).1))) ∧
        fld (t.cfg (reg wMST (0x408 + 0x20 * x.2))) 15 0 = enc16 c.tRef ∧
        fld (t.cfg (reg wMST (0x408 + 0x20 * x.2))) 31 16 = fld (s.cfg (reg wMST (0x408 + 0x20 * x.2))) 31 16) ∧
      (∀ b, b < reg wMST (0x404 + 0xE0 * c.group) ∨ reg wMST (0x4B0 + 0xE0 * c.group) ≤ b → t.cfg b = s.cfg b)))
  ∧ (∀ (c : Cal), Completes (fun dt => .calibrationDone dt) [.evr, .mst]
    [(reg wMST 0, 13)]
    (fun s => s.works wMST ∧ s.mst.cal = some c ∧ c.low = true)
    (fun s t => t.mst = { s.mst with cal := none, cmdCode := 4 } ∧ t.raised (reg wMST 0) 13))
  ∧ (∀ (c : Cal), Completes (fun dt => .calibrationDone dt) []
    []
    (fun s => s.mst.cal = some c ∧ c.low = false ∧ c.ended = false ∧ s.calSinks c.group ≠ [])
    (fun s t => t = s))
  ∧ (∀ (g k : Nat) (c : Cal), g < 8 → Completes (fun dt => .periodBoundary dt g []) [.act, .changed, .evr, .flt, .mem, .mst, .stat, .str, .sys]
    []
    (fun s => s.works wMST ∧ s.mst.groups.length = 8 ∧ s.mst.sinks.length = 56 ∧ s.groupEnabled g = true ∧ s.atPeriod g = true ∧
      (s.group g).phase ≠ .held ∧ (s.group g).clampDue = false ∧ s.regs.changed = [] ∧ s.str.pend = none ∧
      s.mst.cal = some c ∧ c.group = g ∧ c.low = false ∧ c.periods % 32 ≠ 0 ∧ s.mastDrives = true ∧ (s.calSinks g)[c.periods / 64]? = some k)
    (fun s t => t.mst.cal.map Cal.periods = some (c.periods + 1) ∧
      (t.sink k).d = (if c.periods / 32 % 2 = 1 then 16384 else 65535) ∧ (t.sink k).mode = .analog ∧
      (t.sink k).code = (if c.periods / 32 % 2 = 1 then roundNat ((s.fullCode k : Rat) / 4) else s.fullCode k)))

/-- At the PERIOD boundary of an enabled group that is not held the changed shadows of its domain come into force and each of its six sinks takes the drive that the rules give in the state reached: none when TRIPPED or while the mast drive does not run. At no other time does the boundary do anything. A head's due command starts its fade, and a wave whose raise time has come starts from the level the head then runs at. The window gives the group its estimate, derating limit and trip. A head's clamped drives keep their limits. Every other group stays. -/
def Obligations.PeriodsAndHeads : Prop :=
  (∀ (g : Nat) (ms : List SinkMeas), g < 8 → Completes (fun dt => .periodBoundary dt g ms) [.act, .changed, .evr, .flt, .mem, .mst, .stat, .str, .sys]
    []
    (fun s => s.works wMST ∧ s.mst.groups.length = 8 ∧ s.mst.sinks.length = 56 ∧ s.groupEnabled g = true ∧ s.atPeriod g = true ∧
      (s.group g).phase ≠ .held ∧ s.mst.cal = none)
    (fun s t => (∀ j, j < 6 → (t.sink (7 * g + j)).d = nth 0 (t.groupDrives g) j) ∧
      ((t.group g).phase = .tripped ∨ t.mastDrives = false → ∀ j, j < 6 → (t.sink (7 * g + j)).d = 0) ∧
      (∀ j, j ≠ g → t.group j = s.group j) ∧ (∀ j, j / 7 ≠ g → t.sink j = s.sink j) ∧
      (∀ a, (s.eligible s.cyc (fun _ e => decide (e = .period g))).contains a = true → s.shadowBad a = false →
        (s.lastWrite s.cyc a).all (fun w => decide (t.actWord a = sound w)) = true) ∧
      ((s.group g).clampDue = true → (t.group g).phase = .tripped ∧ (∀ j, j < 6 → (t.sink (7 * g + j)).d = 0)) ∧
      (∀ x, s.inLtable x = false → t.byte x = s.byte x)))
  ∧ (∀ (g : Nat) (ms : List SinkMeas), Completes (fun dt => .periodBoundary dt g ms) []
    []
    (fun s => s.atPeriod g = false ∨ s.groupEnabled g = false)
    (fun s t => t = s))
  ∧ (∀ (s : State) (g e : Nat) (d : List Nat) (i : Nat), i < 6 →
    nth 0 (s.clampHead g e d) i ≤ min (s.lt e (0x0A0 + 2 * i) 2) (s.lt e (0x0AC + 2 * i) 2))
  ∧ (∀ (h g : Nat) (c : HeadCmd), Completes (fun dt => .headCommandStart dt h) [.mst]
    []
    (fun s => s.works wMST ∧ s.mst.heads.length = 8 ∧ h < 8 ∧ s.groupOfHead h = some g ∧ s.atPeriod g = true ∧ minBy HeadCmd.teff (s.head h).pend = some c ∧ c.teff ≤ s.raw ∧
      (((s.head h).pend.erase c).any (fun x => decide (x.teff ≤ s.raw))) = false)
    (fun s t => (∀ j, j ≠ h → t.head j = s.head j) ∧ t.mst = { s.mst with heads := t.mst.heads, sinks := t.mst.sinks } ∧
      (s.isRunning tHEAD h = true → t.head h = { s.head h with
        cmd := some c, pend := (s.head h).pend.erase c,
        fade := some { src := s.sceneDrives (s.head h) s.raw, dst := c.at_ c.level, srcLevel := s.sceneLevel (s.head h) s.raw,
                       dstLevel := c.level, curve := c.curve, t0 := s.raw, len := c.fade * 20000000 } }) ∧
      (s.isRunning tHEAD h = false → t.head h = { s.head h with pend := (s.head h).pend.erase c })))
  ∧ (∀ (h g : Nat), Completes (fun dt => .headWaveTime dt h) [.mst]
    []
    (fun s => s.works wMST ∧ s.mst.heads.length = 8 ∧ h < 8 ∧ s.groupOfHead h = some g ∧ s.atPeriod g = true)
    (fun s t => (∀ j, j ≠ h → t.head j = s.head j) ∧ t.mst = { s.mst with heads := t.mst.heads, sinks := t.mst.sinks } ∧
      t.head h = { s.head h with waves := (t.head h).waves } ∧
      (∀ w ∈ (s.head h).waves, w.start = none → w.raise ≤ s.raw →
        ({ w with start := some (s.headLevel { s.head h with waves := (s.head h).waves.filter (fun x => x.start.isNone || decide (s.raw < State.waveRelease (s.head h) + x.fadeback * 2000000)) } s.raw), raise := s.raw } : HeadWave) ∈ (t.head h).waves) ∧
      (∀ w ∈ (s.head h).waves, w.start.isSome = true → s.raw < State.waveRelease (s.head h) + w.fadeback * 2000000 → w ∈ (t.head h).waves) ∧
      (∀ w ∈ (t.head h).waves, w.raise ≠ s.raw → w ∈ (s.head h).waves ∧ (w.start = none → s.raw < w.raise) ∧
        (w.start.isSome = true → s.raw < State.waveRelease (s.head h) + w.fadeback * 2000000))))
  ∧ (∀ (g : Nat) (l : List SinkMeas) (o : List Rat), g < 8 → Completes (fun dt => .mstTjWindow dt g l o) [.evr, .mem, .mst]
    [(reg wMST 0, 6), (reg wMST 0, 7), (reg wMST 0, 8)]
    (fun s => s.works wMST ∧ s.mst.groups.length = 8 ∧ s.groupEnabled g = true ∧ (s.tbs.tickTarget : Rat) - 200000 ≤ s.corrNow ∧
      (s.group g).winTick ≠ some s.tbs.tickTarget)
    (fun s t => (t.group g).winTick = some s.tbs.tickTarget ∧ (t.group g).derate = s.windowDerate g (t.group g).tEst ∧
      (t.group g).phase = (s.group g).phase ∧ (∀ j, j ≠ g → t.group j = s.group j) ∧ t.mst.heads = s.mst.heads ∧
      (∀ j, (t.sink j).d = (s.sink j).d ∧ (t.sink j).onTicks = (s.sink j).onTicks) ∧ (∀ j, j / 7 ≠ g → t.sink j = s.sink j) ∧
      ((t.group g).source ≠ .none → (max 100 (fld (s.act (reg wMST (0x108 + 0x20 * g))) 31 24) : Nat) ≤ (t.group g).tEst →
        (s.group g).phase ≠ .tripped → (s.group g).phase ≠ .held → (t.group g).clampDue = true) ∧
      ((s.group g).derate = 65535 → (t.group g).derate < 65535 → t.raised (reg wMST 0) 8) ∧
      (∀ x, s.inLtable x = false → t.byte x = s.byte x)))

/-- The island takes the samples whose instants have come: each is stamped with its count, which advances by a sample period, and every feeder's cycle in progress holds it. A crossing that counts, or one synthesised when none is found, ends the feeder's cycle: each phase that adds puts its active energy, from the samples before the crossing, into its element's registers, a phase that does not adds nothing, and no other feeder's register moves; the feeder's last boundary is the crossing, and while the link holds and the die runs every visible value is the accumulator's. A STOP or START of the feeder, or of a METER whose channel it takes up, completes there. With no crossing no cycle ends; with the island without supply nothing changes. The engines, the table and memory do not move. -/
def Obligations.LineCycles : Prop :=
  (∀ (f tc t0 : Nat) (l : List (List Int)) (img : ImgFeeder), f < 4 → ∀ (dt : Nat) (s0 : State), let s := s0.after dt; s0.powered = true → (s.imgFeeder f = some img ∧ img.phases.length = 3 ∧ s.mtr.feeds.length = 4 ∧ s.mtr.powered = true ∧
      (s.takeSamples l).nextCrossing f img = some tc ∧ ((s.takeSamples l).feed f).last = some t0 ∧ ((s.takeSamples l).feed f).substReady = none) →
    ∃ t, exec (.cycleBoundary dt f l) s0 = .next t ∧
      ((t.feed f).last = some tc ∧ (t.feed f).synth = false ∧ (∀ j, j ≠ f → (t.feed j).last = (s.feed j).last) ∧
      (∀ i, i < 3 → t.accOf f (i + 1) (if 0 ≤ ((s.takeSamples l).phaseCyc f img t0 ((s.takeSamples l).cycMeas f tc img).phases ((s.takeSamples l).cycMeas f tc img).chans i).p then 0 else 1) =
        (s.accOf f (i + 1) (if 0 ≤ ((s.takeSamples l).phaseCyc f img t0 ((s.takeSamples l).cycMeas f tc img).phases ((s.takeSamples l).cycMeas f tc img).chans i).p then 0 else 1) +
          (if s.phaseAdds f i ((s.takeSamples l).phaseCyc f img t0 ((s.takeSamples l).cycMeas f tc img).phases ((s.takeSamples l).cycMeas f tc img).chans i) then
            accUnits (absRat ((s.takeSamples l).phaseCyc f img t0 ((s.takeSamples l).cycMeas f tc img).phases ((s.takeSamples l).cycMeas f tc img).chans i).p) else 0)) % 2 ^ 96 ∨
        (s.phaseAdds f i ((s.takeSamples l).phaseCyc f img t0 ((s.takeSamples l).cycMeas f tc img).phases ((s.takeSamples l).cycMeas f tc img).chans i) = false ∧
          ∀ k, k < 8 → t.accOf f (i + 1) k = s.accOf f (i + 1) k)) ∧
      (∀ j, j < 4 → j ≠ f → ∀ e, e < 4 → ∀ k, k < 8 → t.accOf j e k = s.accOf j e k) ∧
      (s.mtr.linkDown = false → s.blockOn wMTR = true → ∀ e, e < 4 → ∀ k, k < 8 → t.accVis f e k = t.accWhole f e k) ∧
      (t.feed f).cross = (((s.takeSamples l).feed f).cross.dropWhile (fun c => c != tc)).drop 1 ∧
      (t.feed f).buf = ((s.takeSamples l).feed f).buf.filter (fun v => decide (tc ≤ v.at_))) ∧
      Frame [.acc, .act, .changed, .evr, .flt, .mtr, .stat, .str, .sys]
        [] s t)
  ∧ (∀ (f tc t0 : Nat) (l : List (List Int)) (img : ImgFeeder), f < 4 → ∀ (dt : Nat) (s0 : State), let s := s0.after dt; s0.powered = true → (s.imgFeeder f = some img ∧ img.phases.length = 3 ∧ s.mtr.feeds.length = 4 ∧ s.mtr.powered = true ∧
      (s.takeSamples l).synthDue f img = true ∧ tc = State.synthAt ((s.takeSamples l).feed f) img ∧ ((s.takeSamples l).feed f).last = some t0 ∧ ((s.takeSamples l).feed f).substReady = none) →
    ∃ t, exec (.cycleSynthTimeout dt f l) s0 = .next t ∧
      ((t.feed f).last = some tc ∧ (t.feed f).synth = true ∧ (∀ j, j ≠ f → (t.feed j).last = (s.feed j).last) ∧
      (∀ i, i < 3 → t.accOf f (i + 1) (if 0 ≤ ((s.takeSamples l).phaseCyc f img t0 ((s.takeSamples l).cycMeas f tc img).phases ((s.takeSamples l).cycMeas f tc img).chans i).p then 0 else 1) =
        (s.accOf f (i + 1) (if 0 ≤ ((s.takeSamples l).phaseCyc f img t0 ((s.takeSamples l).cycMeas f tc img).phases ((s.takeSamples l).cycMeas f tc img).chans i).p then 0 else 1) +
          (if s.phaseAdds f i ((s.takeSamples l).phaseCyc f img t0 ((s.takeSamples l).cycMeas f tc img).phases ((s.takeSamples l).cycMeas f tc img).chans i) then
            accUnits (absRat ((s.takeSamples l).phaseCyc f img t0 ((s.takeSamples l).cycMeas f tc img).phases ((s.takeSamples l).cycMeas f tc img).chans i).p) else 0)) % 2 ^ 96 ∨
        (s.phaseAdds f i ((s.takeSamples l).phaseCyc f img t0 ((s.takeSamples l).cycMeas f tc img).phases ((s.takeSamples l).cycMeas f tc img).chans i) = false ∧
          ∀ k, k < 8 → t.accOf f (i + 1) k = s.accOf f (i + 1) k)) ∧
      (∀ j, j < 4 → j ≠ f → ∀ e, e < 4 → ∀ k, k < 8 → t.accOf j e k = s.accOf j e k) ∧
      (s.mtr.linkDown = false → s.blockOn wMTR = true → ∀ e, e < 4 → ∀ k, k < 8 → t.accVis f e k = t.accWhole f e k) ∧
      ((s.feed f).synth = false → s.blockOn wMTR = true → t.raised (reg wMTR 0) 3) ∧
      (t.feed f).buf = ((s.takeSamples l).feed f).buf.filter (fun v => decide (tc ≤ v.at_))) ∧
      Frame [.acc, .act, .changed, .evr, .flt, .mtr, .stat, .str, .sys]
        [] s t)
  ∧ (∀ (f typ i k tc : Nat) (x : Bool) (img : ImgFeeder), f < 4 → ∀ (dt : Nat) (s0 : State), let s := s0.after dt; s0.powered = true → (s.imgFeeder f = some img ∧ s.mtr.powered = true ∧ s.nextCrossing f img = some tc ∧
      s.str.pend = some { start := x, typ := typ, idx := i, cyc := k } ∧ k < s.boundaryCyc tc ∧
      (typ = tFEEDER ∧ i = f ∨ typ = tMETER ∧ s.chanFeeder i = some f) ∧ (s.hst typ i = .running ∨ x = true)) →
    ∃ t, exec (.cycleBoundary dt f []) s0 = .next t ∧
      (t.str.pend = none ∧ t.hst typ i = State.moveTo x ∧ t.str.result = 0 ∧ t.str.cmdSeq = (s.str.cmdSeq + 1) % 256 ∧ t.raised (reg wSTR 0) 0) ∧
      Frame [.acc, .act, .changed, .evr, .flt, .mtr, .stat, .str, .sys]
        [] s t)
  ∧ (∀ (f : Nat) (l : List (List Int)) (img : ImgFeeder), f < 4 → ∀ (dt : Nat) (s0 : State), let s := s0.after dt; s0.powered = true → (s.imgFeeder f = some img ∧ s.mtr.powered = true ∧ (s.takeSamples l).nextCrossing f img = none) →
    ∃ t, exec (.cycleBoundary dt f l) s0 = .next t ∧
      (t.mtr = { (s.takeSamples l).mtr with feeds := t.mtr.feeds } ∧ (∀ j, j ≠ f → t.feed j = (s.takeSamples l).feed j) ∧
      t.feed f = { (s.takeSamples l).feed f with cross := [] }) ∧
      Frame [.mtr]
        [] s t)
  ∧ (∀ (f : Nat) (c : List Int) (img : ImgFeeder), sampleOk c = true ∧ f < 4 → ∀ (dt : Nat) (s0 : State), let s := s0.after dt; s0.powered = true → (s.imgFeeder f = some img ∧ s.mtr.powered = true ∧ s.mtr.chans.length = 20 ∧ (s.mtr.restarted = true ∨ s.mtr.stamp ≤ s.raw) ∧
      (s.takeSample c).synthDue f img = false) →
    ∃ t, exec (.cycleSynthTimeout dt f [c]) s0 = .next t ∧
      (t.mtr.stamp = s.mtr.stamp + 25000 ∧
      (∀ n, n < 20 → (t.chan n).code = nth 0 c n ∧ (t.chan n).run = (if nth 0 c n = (s.chan n).code then (s.chan n).run + 1 else 1)) ∧
      (∀ j, j < s.mtr.feeds.length → (s.mtr.map.filter (fun y => y.1 == j)).length = 1 →
        ((t.feed j).buf.getLast?.map TakenSample.at_) = some s.mtr.stamp ∧ (t.feed j).buf.dropLast = (s.feed j).buf) ∧
      (∀ j, (t.feed j).last = (s.feed j).last) ∧ t.mtr.sync = s.mtr.sync ∧ t.mtr.held = s.mtr.held) ∧
      Frame [.mtr]
        [] s t)
  ∧ (∀ (f : Nat) (x : Bool) (l : List (List Int)), ∀ (dt : Nat) (s0 : State), let s := s0.after dt; s0.powered = true → (s.mtr.powered = false) →
    ∃ t, exec ((if x then .cycleSynthTimeout dt f l else .cycleBoundary dt f l)) s0 = .next t ∧
      (t = s) ∧
      Frame []
        [] s t)

/-- At a raw count that is a multiple of 200,000 a good pulse within 1 µs keeps LOCKED, counts towards it in ACQUIRING, the third giving LOCKED, and leads from HOLDOVER to ACQUIRING; the third missing pulse gives HOLDOVER and its event. After a restart of the raw counter, and beyond 62.5 µs on leaving HOLDOVER, the pulse steps the timestamps to the next sample instant, with RESYNC; a smaller difference is slewed. At another count no pulse comes. A link without a good batch for 2 ms sets LINK once; a batch whose CRC is right brings back what the island held. A temperature average in range is taken for the corrections; none, or one out of range, sets TEMP. Everything else stays. -/
def Obligations.IslandSynchronisation : Prop :=
  (∀ (e : Int) (k : SyncState), e.natAbs ≤ 1000 → Completes (fun dt => .syncPulse dt true true e) [.mtr]
    []
    (fun s => s.mtr.powered = true ∧ s.mtr.restarted = false ∧ s.mtr.sync = k ∧ s.raw % 200000 = 0)
    (fun s t => t.mtr = { s.mtr with
        phaseErr := e, lastPulse := s.raw, lag := if k = .holdover then (e : Rat) else s.mtr.lag,
        sync := if k = .holdover then .acquiring else if k = .locked then .locked else if 3 ≤ s.mtr.syncGood + 1 then .locked else .acquiring,
        syncGood := if k = .holdover then 1 else if k = .locked then s.mtr.syncGood else s.mtr.syncGood + 1,
        syncMiss := 0 }))
  ∧ (∀ (e : Int), Completes (fun dt => .syncPulse dt true true e) [.acc, .evr, .mtr]
    [(reg wMTR 0, 0), (reg wMTR 0, 1)]
    (fun s => s.mtr.powered = true ∧ (s.mtr.restarted = true ∨ (s.mtr.sync = .holdover ∧ 62500 < e.natAbs)) ∧ s.raw % 200000 = 0)
    (fun s t => t.mtr.restarted = false ∧ t.mtr.phaseErr = e ∧ t.mtr.lastPulse = s.raw ∧ t.mtr.stamp = nextSample s.raw ∧ t.mtr.lag = 0 ∧
      (∀ v ∈ t.mtr.feeds, v.resync = true) ∧ t.mtr.feeds.length = s.mtr.feeds.length ∧
      (∀ j, j < s.mtr.feeds.length →
        (t.feed j).last = (s.feed j).last.map (State.stampMoved ((nextSample s.raw : Int) - s.mtr.stamp)) ∧ (t.feed j).buf.length = (s.feed j).buf.length) ∧
      (s.blockOn wMTR = true → t.raised (reg wMTR 0) 0) ∧ (s.mtr.restarted = false → t.acc = s.acc) ∧
      (s.mtr.restarted = true → ∀ v ∈ t.acc.ivs, v.open_ = true → v.dropped = true ∧ v.closing.isSome = true)))
  ∧ (∀ (e : Int) (m : Bool), Completes (fun dt => .syncPulse dt true m e) []
    []
    (fun s => s.raw % 200000 ≠ 0)
    (fun s t => t = s))
  ∧ (∀ (p m : Bool) (e : Int), (p && m) = false → Completes (fun dt => .syncPulse dt p m e) [.evr, .mtr]
    [(reg wMTR 0, 1)]
    (fun s => s.mtr.powered = true ∧ s.mtr.syncMiss = 2 ∧ s.mtr.sync ≠ .holdover ∧ (p = true → s.raw % 200000 = 0))
    (fun s t => t.mtr.sync = .holdover ∧ t.mtr.syncGood = 0 ∧ t.mtr.syncMiss = 0 ∧ (∀ v ∈ t.mtr.feeds, v.holdSeen = true) ∧
      (s.blockOn wMTR = true → t.raised (reg wMTR 0) 1)))
  ∧ (∀ (l : List (List Byte × Nat)), l.all (fun b => crc32c b.1 != b.2) = true → Completes (fun dt => .mtrLinkTimeout dt l) [.evr, .mtr]
    [(reg wMTR 0, 6)]
    (fun s => s.works wMTR ∧ s.mtr.linkDown = false)
    (fun s t => t.mtr = { s.mtr with linkDown := true } ∧ t.raised (reg wMTR 0) 6))
  ∧ (∀ (l : List (List Byte × Nat)) (o : List Byte) (c : Nat) (x : Bool), l.any (fun b => crc32c b.1 == b.2) = true ∧ crc32c o ≠ c → Completes (fun dt => (if x then .mtrLinkTimeout dt l else .mtrLinkRestore dt o c)) []
    []
    (fun _ => True)
    (fun s t => t = s))
  ∧ (∀ (o : List Byte), Completes (fun dt => .mtrLinkRestore dt o (crc32c o)) [.acc, .evr, .mtr]
    [(reg wMTR 0, 4), (reg wMTR 0, 5), (reg wACC 0, 7)]
    (fun s => s.works wMTR ∧ s.mtr.linkDown = true)
    (fun s t => t.mtr = { s.mtr with linkDown := false, held := [], chans := t.mtr.chans, feeds := t.mtr.feeds } ∧ t.acc.accs = s.acc.accs ∧
      (∀ j, t.feed j = { s.feed j with freq := (t.feed j).freq }) ∧
      (∀ r ∈ s.mtr.held, (s.mtr.stamp : Int) < r.at_ + 400000000 → r.feeder < 4 → ∀ e, e < 4 → ∀ k, k < 8 →
        t.accVis r.feeder e k = s.accWhole r.feeder e k)))
  ∧ (∀ (q : Rat), -50 ≤ q ∧ q ≤ 150 → Completes (fun dt => .mtrTempAverage dt (some q)) [.mtr]
    []
    (fun s => s.mtr.powered = true)
    (fun s t => t.mtr.temp = some q ∧ t.mtr.tempValid = true ∧ (∀ v ∈ t.mtr.feeds, v.tempDue = true) ∧ t.mtr.feeds.length = s.mtr.feeds.length ∧
      (∀ n, n < 20 → n < s.mtr.chans.length → (t.chan n).corr = if (s.chanFeeder n).isNone then s.corrAt n q else (s.chan n).corr) ∧
      (∀ n, t.chan n = { s.chan n with corr := (t.chan n).corr, past := (t.chan n).past })))
  ∧ (∀ (q : Option Rat), q.all (fun x => decide (x < -50 ∨ 150 < x)) = true → Completes (fun dt => .mtrTempAverage dt q) [.evr, .mtr]
    [(reg wMTR 0, 2)]
    (fun s => s.mtr.powered = true)
    (fun s t => t.mtr = { s.mtr with tempValid := false, temp := q.or s.mtr.temp } ∧ (s.blockOn wMTR = true → t.raised (reg wMTR 0) 2)))

/-- A round of an idle spare begins with the reference for 1 s; a spare within it goes on with the first channel of the mask in force that is neither the spare nor substituted nor failed; one outside it is unusable, with SPARE_FAULT. A check with too few cycles, or within tolerance, moves on; the first deviation is checked again; a confirmed one sets DEVIATION and begins the substitution. A converter with 64 identical codes sets STUCK and begins its channel's substitution by a free spare, or the channel fails; the spare itself is unusable then, and the channel it serves fails. A substitution due is ready at the CYCLE boundary of the feeder, and makes the channel substituted and retired, with SUBST. Every other channel stays. -/
def Obligations.SpareConverter : Prop :=
  (∀ (d : Rat), Completes (fun dt => .spareRefCheck dt d) [.mtr]
    []
    (fun s => s.mtr.powered = true ∧ s.spareCh.isSome = true ∧ s.mtr.spare = .idle ∧ s.spareFree = true)
    (fun s t => t.mtr = { s.mtr with spare := .refCheck, spareTarget := 0, refAt := s.raw }))
  ∧ (∀ (d : Rat) (n : Nat) (r : List Nat), absRat d ≤ 1 / 2000 → Completes (fun dt => .spareRefCheck dt d) [.mtr]
    []
    (fun s => s.mtr.powered = true ∧ s.spareCh.isSome = true ∧ s.mtr.spare = .refCheck ∧ s.mtr.refAt + 200000000 ≤ (s.raw : Int) ∧
      s.spareFree = true ∧ (List.range 20).dropWhile (fun k => !s.roundChan k) = n :: r)
    (fun s t => t.mtr = { s.mtr with
        spare := .checking, spareTarget := n, todo := r, repeating := false, confirmed := [], chans := t.mtr.chans } ∧
      (∀ j, s.spareCh ≠ some j → t.chan j = s.chan j)))
  ∧ (∀ (d : Rat), 1 / 2000 < absRat d → Completes (fun dt => .spareRefCheck dt d) [.evr, .mtr]
    [(reg wMTR 0, 10)]
    (fun s => s.mtr.powered = true ∧ s.spareCh.isSome = true ∧ s.mtr.spare = .refCheck ∧
      s.mtr.refAt + 200000000 ≤ (s.raw : Int) ∧ s.spareFree = true)
    (fun s t => t.mtr.spare = .unusable ∧ t.mtr.todo = [] ∧ (∀ j, s.spareCh ≠ some j → t.chan j = s.chan j) ∧
      (s.blockOn wMTR = true → t.raised (reg wMTR 0) 10)))
  ∧ (∀ (n : Nat) (l : List CheckCyc) (r : List Nat), Completes (fun dt => .channelCheckDone dt l) [.mtr]
    []
    (fun s => s.mtr.powered = true ∧ s.mtr.spare = .checking ∧ s.spareFree = true ∧ s.mtr.todo.dropWhile (fun k => !s.roundChan k) = n :: r ∧
      l.length = s.checkCycles ∧
      (2 * (State.checkCounted l).length < max 50 (fld (s.act (reg wMTR 0x004)) 15 0) ∨
      ((State.checkGain l).natAbs ≤ 10 * max 1 (fld (s.act (reg wMTR 0x004)) 31 24) ∧ (State.checkPhase l).natAbs ≤ 10 * max 1 (fld (s.act (reg wMTR 0x004)) 23 16))))
    (fun s t => t.mtr = { s.mtr with spare := .checking, spareTarget := n, todo := r, repeating := false, chans := t.mtr.chans } ∧
      (∀ j, j ≠ s.mtr.spareTarget → t.chan j = s.chan j)))
  ∧ (∀ (l : List CheckCyc), Completes (fun dt => .channelCheckDone dt l) [.mtr]
    []
    (fun s => s.mtr.powered = true ∧ s.mtr.spare = .checking ∧ s.spareFree = true ∧ s.mtr.repeating = false ∧ l.length = s.checkCycles ∧
      max 50 (fld (s.act (reg wMTR 0x004)) 15 0) ≤ 2 * (State.checkCounted l).length ∧
      (10 * max 1 (fld (s.act (reg wMTR 0x004)) 31 24) < (State.checkGain l).natAbs ∨ 10 * max 1 (fld (s.act (reg wMTR 0x004)) 23 16) < (State.checkPhase l).natAbs))
    (fun s t => t.mtr = { s.mtr with repeating := true, chans := t.mtr.chans } ∧ (∀ j, j ≠ s.mtr.spareTarget → t.chan j = s.chan j)))
  ∧ (∀ (f : Nat) (l : List CheckCyc), Completes (fun dt => .channelCheckDone dt l) [.evr, .mtr]
    [(reg wMTR 0, 8)]
    (fun s => s.mtr.powered = true ∧ s.mtr.spare = .checking ∧ s.spareFree = true ∧ s.mtr.repeating = true ∧ s.mtr.confirmed = [] ∧
      l.length = s.checkCycles ∧ max 50 (fld (s.act (reg wMTR 0x004)) 15 0) ≤ 2 * (State.checkCounted l).length ∧
      (10 * max 1 (fld (s.act (reg wMTR 0x004)) 31 24) < (State.checkGain l).natAbs ∨ 10 * max 1 (fld (s.act (reg wMTR 0x004)) 23 16) < (State.checkPhase l).natAbs) ∧
      s.chanFeeder s.mtr.spareTarget = some f ∧ f < s.mtr.feeds.length ∧ s.mtr.spareTarget < s.mtr.chans.length)
    (fun s t => (t.chan s.mtr.spareTarget).deviation = true ∧ (t.feed f).substDue = some s.mtr.spareTarget ∧
      (∀ j, j ≠ f → t.feed j = s.feed j) ∧ (∀ j, j ≠ s.mtr.spareTarget → t.chan j = s.chan j) ∧
      (s.blockOn wMTR = true → t.raised (reg wMTR 0) 8)))
  ∧ (∀ (n f : Nat), n < 20 → Completes (fun dt => .mtrStuck dt n []) [.evr, .mtr]
    [(reg wMTR 0, 7)]
    (fun s => s.mtr.powered = true ∧ s.sensor n ≠ 3 ∧ 64 ≤ (s.chan n).run ∧ (s.chan n).stuck = false ∧ (s.chan n).subst = false ∧ s.spareCh ≠ some n ∧
      s.spareFree = true ∧ s.chanFeeder n = some f ∧ f < s.mtr.feeds.length ∧ n < s.mtr.chans.length)
    (fun s t => t.chan n = { s.chan n with stuck := true } ∧ (t.feed f).substDue = some n ∧ (∀ j, j ≠ n → t.chan j = s.chan j) ∧
      (∀ j, j ≠ f → (t.feed j).substDue = (s.feed j).substDue) ∧ (s.blockOn wMTR = true → t.raised (reg wMTR 0) 7)))
  ∧ (∀ (n : Nat), n < 16 → Completes (fun dt => .mtrStuck dt n []) [.evr, .mtr, .str]
    [(reg wMTR 0, 7), (reg wFLT 0, 5), (reg wSTR 0, 0), (reg wSTR 0, 2)]
    (fun s => s.mtr.powered = true ∧ s.sensor n ≠ 3 ∧ 64 ≤ (s.chan n).run ∧ (s.chan n).stuck = false ∧ (s.chan n).subst = false ∧ s.spareCh ≠ some n ∧
      s.spareFree = false ∧ n < s.mtr.chans.length)
    (fun s t => t.chan n = { s.chan n with stuck := true, chfail := true } ∧ (∀ j, j ≠ n → t.chan j = s.chan j) ∧
      t.mtr.feeds = s.mtr.feeds ∧ t.raised (reg wFLT 0) 5 ∧ (s.hst tMETER n = .running → t.hst tMETER n = .faulted)))
  ∧ (∀ (n m : Nat), n < 20 ∧ m < 16 ∧ m ≠ n → Completes (fun dt => .mtrStuck dt n []) [.evr, .flt, .mtr, .str]
    [(reg wMTR 0, 7), (reg wFLT 0, 5), (reg wSTR 0, 0), (reg wSTR 0, 2)]
    (fun s => s.mtr.powered = true ∧ s.spareCh = some n ∧ 64 ≤ (s.chan n).run ∧ (s.chan n).stuck = false ∧ s.mtr.spare = .substituting ∧
      s.mtr.spareTarget = m ∧ s.mtr.chans.length = 20)
    (fun s t => t.mtr.spare = .unusable ∧ t.chan n = { s.chan n with stuck := true } ∧ t.chan m = { s.chan m with subst := false, chfail := true } ∧
      (∀ j, j ≠ n → j ≠ m → t.chan j = s.chan j) ∧ t.mtr.feeds = s.mtr.feeds ∧ t.flt.convSub = none ∧ t.raised (reg wFLT 0) 5 ∧
      (s.hst tMETER m = .running → t.hst tMETER m = .faulted)))
  ∧ (∀ (n : Nat) (l : List (List Int)), Completes (fun dt => .mtrStuck dt n l) [.mtr]
    []
    (fun s => ((s.takeSamples l).chan n).run < 64)
    (fun s t => t.mtr = (s.takeSamples l).mtr))
  ∧ (∀ (f n tc : Nat) (img : ImgFeeder), f < 4 → Completes (fun dt => .cycleBoundary dt f []) [.acc, .act, .changed, .evr, .flt, .mtr, .stat, .str, .sys]
    []
    (fun s => s.imgFeeder f = some img ∧ s.mtr.powered = true ∧ s.mtr.feeds.length = 4 ∧ s.nextCrossing f img = some tc ∧
      (s.feed f).substDue = some n ∧ (s.feed f).substReady = none ∧ (s.feed f).est = [])
    (fun _ t => (t.feed f).substReady = some n ∧ (t.feed f).substDue = none))
  ∧ (∀ (f n : Nat), Completes (fun dt => .meterSubstitution dt f) [.evr, .flt, .mtr]
    [(reg wMTR 0, 9), (reg wMTR 0, 12), (reg wFLT 0, 3)]
    (fun s => s.mtr.powered = true ∧ (s.feed f).substReady = some n ∧ n < s.mtr.chans.length)
    (fun s t => t.chan n = { s.chan n with subst := true, chfail := false } ∧ (∀ j, j ≠ n → t.chan j = s.chan j) ∧ t.mtr.spare = .substituting ∧
      t.mtr.spareTarget = n ∧ (t.feed f).substReady = none ∧ (∀ v ∈ t.mtr.feeds, ∀ p ∈ v.est, p.2 ≤ 1) ∧ t.flt = { s.flt with convRet := setAdd s.flt.convRet n, convSub := some n } ∧
      t.raised (reg wFLT 0) 3 ∧ (s.mtr.cmdPend = true → t.mtr.cmdPend = false ∧ t.mtr.cmdCode = 0 ∧ t.raised (reg wMTR 0) 12)))
  ∧ (∀ (f : Nat), Completes (fun dt => .meterSubstitution dt f) []
    []
    (fun s => (s.feed f).substReady = none ∨ s.mtr.powered = false)
    (fun s t => t = s))

/-- SEALRST clears the seal while the service switch is held, and is refused else. With no command waiting, SUBST of a channel that the free spare can serve and RELEASE of a substituted channel wait for the CYCLE boundary of its feeder; CHECKNOW starts a round of an idle spare. A command while one waits ends with BUSY. A supply failure stops the island; at power-up it acquires anew, keeps its accumulators when they were retained, and open intervals close with OUTAGE. Everything else stays. -/
def Obligations.IslandCommands : Prop :=
  (∀ (m : Nat) (x : Bool), Completes (fun dt => .islctlSealrst dt m) [.cfg, .evr, .mtr, .reply]
    [(reg wMTR 0, 12)]
    (fun s => s.lets m (reg wMTR 0x010) ∧ s.mtr.cmdPend = false ∧ s.upd.svcPresent = x)
    (fun s t => t.mtr = { s.mtr with cmdCode := if x then 0 else 1 } ∧ t.raised (reg wMTR 0) 12 ∧
      t.cfg (reg wMTR 0x010) = 0x10000000 ∧ t.cfg (reg wMTR 0x00C) = (if x then 0 else s.cfg (reg wMTR 0x00C)) ∧
      (∀ b, b ≠ reg wMTR 0x010 → b ≠ reg wMTR 0x00C → t.cfg b = s.cfg b)))
  ∧ (∀ (m n f : Nat), n < 20 → Completes (fun dt => .islctlSubst dt m n) [.cfg, .mtr, .reply]
    []
    (fun s => s.lets m (reg wMTR 0x010) ∧ s.mtr.cmdPend = false ∧ s.spareCh ≠ some n ∧ s.sensor n ≠ 3 ∧ s.spareFree = true ∧
      s.chanFeeder n = some f ∧ f < s.mtr.feeds.length)
    (fun s t => s.stores t (reg wMTR 0x010) (BitVec.ofNat 32 (0x20000000 + n)) ∧ t.mtr = { s.mtr with cmdPend := true, feeds := t.mtr.feeds } ∧
      t.feed f = { s.feed f with substDue := some n } ∧ (∀ j, j ≠ f → t.feed j = s.feed j)))
  ∧ (∀ (m n f : Nat), n < 20 → Completes (fun dt => .islctlRelease dt m n) [.cfg, .mtr, .reply]
    []
    (fun s => s.lets m (reg wMTR 0x010) ∧ s.mtr.cmdPend = false ∧ s.spareCh ≠ some n ∧ s.sensor n ≠ 3 ∧ (s.chan n).subst = true ∧
      s.chanFeeder n = some f ∧ f < s.mtr.feeds.length)
    (fun s t => s.stores t (reg wMTR 0x010) (BitVec.ofNat 32 (0x30000000 + n)) ∧ t.mtr = { s.mtr with cmdPend := true, feeds := t.mtr.feeds } ∧
      t.feed f = { s.feed f with releaseDue := some n } ∧ (∀ j, j ≠ f → t.feed j = s.feed j)))
  ∧ (∀ (m : Nat), Completes (fun dt => .islctlChecknow dt m) [.cfg, .evr, .mtr, .reply]
    [(reg wMTR 0, 12)]
    (fun s => s.lets m (reg wMTR 0x010) ∧ s.mtr.cmdPend = false ∧ s.spareFree = true ∧ s.mtr.spare = .idle)
    (fun s t => s.stores t (reg wMTR 0x010) 0x40000000 ∧
      t.mtr = { s.mtr with spare := .refCheck, spareTarget := 0, refAt := s.raw, cmdCode := 0 } ∧ t.raised (reg wMTR 0) 12))
  ∧ (∀ (m n : Nat) (x : Bool), n < 20 → Completes (fun dt => (if x then .islctlSubst dt m n else .islctlRelease dt m n)) [.cfg, .evr, .mtr, .reply]
    [(reg wMTR 0, 12)]
    (fun s => s.lets m (reg wMTR 0x010) ∧ s.mtr.cmdPend = true)
    (fun s t => t.mtr = { s.mtr with cmdCode := 5 } ∧ t.raised (reg wMTR 0) 12))
  ∧ (Completes (fun dt => .islandSupplyFail dt) [.mtr]
    []
    (fun _ => True)
    (fun s t => t.mtr = { s.mtr with powered := false }))
  ∧ (∀ (r : Bool), Completes (fun dt => .islandPowerUp dt r) [.acc, .evr, .free, .mtr]
    [(reg wACC 0, 10)]
    (fun s => s.mtr.powered = false)
    (fun s t => t.mtr.powered = true ∧ t.mtr.sync = .acquiring ∧ t.mtr.held = [] ∧ (∀ v ∈ t.mtr.feeds, v.last = none) ∧
      (∀ v ∈ t.acc.ivs, v.open_ = true → v.closing.isSome = true) ∧
      (r = true → t.acc.accs = s.acc.accs ∧ (t.raised (reg wACC 0) 10 ↔ s.raised (reg wACC 0) 10)) ∧
      (r = false → s.blockOn wACC = true → t.raised (reg wACC 0) 10) ∧ (r = false → s.blockOn wACC = false → t.acc.restoredDue = true)))

/-- With the link up, the oldest latched close of a feeder is written, once no lower feeder's close of the same moment waits: the next record number holds its counts, times and energies, it leaves the queue and INTERVAL is set; with no eligible entry NOLANTERN is set. The accumulators and the other feeders' records stay; memory changes only in the table's entries and the allocation table. The division gives every eligible entry its part and sums to the imported energy exactly. -/
def Obligations.IntervalsAndAllocation : Prop :=
  (∀ (f : Nat) (c : IvClose) (r : List IvClose), f < 4 → Completes (fun dt => .intervalClose dt f) [.acc, .evr, .free, .mem, .mst]
    [(reg wACC 0, 2), (reg wACC 0, 3), (reg wACC 0, 4), (reg wACC 0, 5), (reg wACC 0, 6), (reg wACC 0, 11)]
    (fun s => s.works wACC ∧ s.mtr.linkDown = false ∧ s.acc.ivs.length = 4 ∧ (s.feedIv f).latched = c :: r ∧
      s.closeGroup.head? = some f)
    (fun s t => (t.feedIv f).latched = r ∧ (t.feedIv f).recno = ((s.feedIv f).recno + 1) % 2 ^ 32 ∧ t.raised (reg wACC 0) 2 ∧
      (t.feedIv f).shown = (if s.allocOk then ((s.feedIv f).recno + 1) % 2 ^ 32 else (s.feedIv f).shown) ∧ (s.allocOk = false → t.raised (reg wACC 0) 11) ∧
      (tabGet t.acc.ring (2048 * f + ((s.feedIv f).recno + 1) % 2 ^ 32 % 2048)).map
        (fun x => (x.recno, x.feeder, x.startRaw, x.endRaw, x.cycles, x.imp, x.exp_)) =
        some (((s.feedIv f).recno + 1) % 2 ^ 32, f, c.startRaw, c.endRaw, c.cycles, nth 0 c.diff 0, nth 0 c.diff 1) ∧
      (∀ k, k ≠ 2048 * f + ((s.feedIv f).recno + 1) % 2 ^ 32 % 2048 → tabGet t.acc.ring k = tabGet s.acc.ring k) ∧
      t.acc.accs = s.acc.accs ∧ t.acc.vis = s.acc.vis ∧ (∀ j, j ≠ f → t.feedIv j = s.feedIv j) ∧
      (s.eligibleEntries f = [] → t.raised (reg wACC 0) 3 ∧ t.acc.totals = s.acc.totals) ∧
      t.mst = { s.mst with heads := t.mst.heads } ∧
      (∀ x, s.inLtable x = false → x < (s.cfg (reg wACC 0x184)).toNat ∨ (s.cfg (reg wACC 0x184)).toNat + 16 * s.ltb.count ≤ x → t.byte x = s.byte x)))
  ∧ (∀ (f : Nat), Completes (fun dt => .intervalClose dt f) []
    []
    (fun s => s.mtr.linkDown = true ∨ (s.feedIv f).latched = [] ∨ s.closeGroup.head? ≠ some f)
    (fun s t => t = s))
  ∧ (∀ (imp : Nat) (b : List (Nat × Nat)), b ≠ [] → (b.map (·.1)).Nodup →
    (State.allocate imp b).map (·.1) = b.map (·.1) ∧ ((State.allocate imp b).map (·.2)).sum = imp)

/-- A pulse output with pending pulses that may start emits one, at its width. A pair to ACC_CFG stores its fields, and a new quantum marks the next record of each feeder with QCHANGE; a pair to ACC_PULSE stores its fields, and a new source or weight rebases the mark and discards pending pulses; while the seal is set both are refused as locked writes. A read of a slot's UWH_LO answers the low half of its visible value and latches the rest. Everything else stays. -/
def Obligations.AccountsCommands : Prop :=
  (∀ (n : Nat), n < 4 → Completes (fun dt => .pulseEmit dt n) [.acc]
    []
    (fun s => s.works wACC ∧ s.acc.pulses.length = 4 ∧ 0 < (s.pulse n).pending ∧ (s.pulse n).next ≤ s.raw)
    (fun s t => t.pulse n = { s.pulse n with
        pending := (s.pulse n).pending - 1, width := s.pulseWidth n, until_ := some (s.raw + s.pulseWidth n * 20000),
        next := s.raw + 2 * s.pulseWidth n * 20000 } ∧
      (∀ j, j ≠ n → t.pulse j = s.pulse j) ∧ t.acc = { s.acc with pulses := t.acc.pulses }))
  ∧ (∀ (m : Nat) (v : Word), Completes (fun dt => .accCfgWrite dt m v) [.acc, .cfg, .evr, .reply]
    [(reg wACC 0, 9)]
    (fun s => s.lets m (reg wACC 0x004) ∧ bit (s.cfg (reg wMTR 0x00C)) 0 = false)
    (fun s t => s.stores t (reg wACC 0x004) (v &&& 0x00FF3F07) ∧
      (fld v 2 0 = fld (s.cfg (reg wACC 0x004)) 2 0 → t.acc = s.acc ∧ (t.raised (reg wACC 0) 9 ↔ s.raised (reg wACC 0) 9)) ∧
      (fld v 2 0 ≠ fld (s.cfg (reg wACC 0x004)) 2 0 → t.raised (reg wACC 0) 9 ∧ (∀ x ∈ t.acc.ivs, x.qchange = true) ∧
        t.acc = { s.acc with ivs := t.acc.ivs })))
  ∧ (∀ (m n : Nat) (v : Word), n < 4 → Completes (fun dt => .accPulseWrite dt m n v) [.acc, .cfg, .reply]
    []
    (fun s => s.lets m (reg wACC (0x010 + 4 * n)) ∧ bit (s.cfg (reg wMTR 0x00C)) 0 = false ∧ s.acc.pulses.length = 4)
    (fun s t => s.stores t (reg wACC (0x010 + 4 * n)) (v &&& 0xF0FFFFFF) ∧ (∀ j, j ≠ n → t.pulse j = s.pulse j) ∧
      t.acc = { s.acc with pulses := t.acc.pulses } ∧
      (if fld v 31 28 ≠ fld (s.cfg (reg wACC (0x010 + 4 * n))) 31 28 ∨ fld v 15 0 ≠ fld (s.cfg (reg wACC (0x010 + 4 * n))) 15 0 then
          t.pulse n = { s.pulse n with
            mark := if t.pulseWeight n = 0 then 0 else t.pulseValue n / t.pulseWeight n, pending := 0 }
        else t.pulse n = s.pulse n)))
  ∧ (∀ (m n : Nat) (v : Word) (x : Bool), n < 4 → Completes (fun dt => (if x then .accCfgWrite dt m v else .accPulseWrite dt m n v)) [.cfg, .evr, .reply]
    [(reg wACC 0, 0)]
    (fun s => s.lets m (reg wACC (if x then 0x004 else 0x010 + 4 * n)) ∧ bit (s.cfg (reg wMTR 0x00C)) 0 = true)
    (fun s t => t.raised (reg wACC 0) 0 ∧ (∀ b, t.cfg b = s.cfg b)))
  ∧ (∀ (m f e k : Nat), f < 4 ∧ e < 4 ∧ k < 8 ∧ (e = 0 ∨ k < 6) → Completes (fun dt => .accSlotRead dt m f e k) [.acc, .reply]
    []
    (fun s => s.lets m (reg wACC (0x400 + 0x200 * f + 0x80 * e + 0x10 * k)))
    (fun s t => t.regs.reply = { data := BitVec.ofNat 32 (s.accVis f e k % 2 ^ 32), error := false } ∧
      t.acc = { s.acc with slots := tabSet s.acc.slots (State.accKey f e k) {
        hi := BitVec.ofNat 32 (s.accVis f e k / 2 ^ 32),
        count := BitVec.ofNat 32 (State.countOf (quantumUWh s.qcode) (s.accVis f e k)), wrap := State.wrapWord s.qcode (s.accVis f e k),
        fresh := true } }))
  ∧ (∀ (m f e k : Nat), f < 4 ∧ e < 4 ∧ k < 8 ∧ e ≠ 0 ∧ 6 ≤ k → Completes (fun dt => .accSlotRead dt m f e k) [.reply]
    []
    (fun s => s.lets m (reg wACC (0x400 + 0x200 * f + 0x80 * e + 0x10 * k)))
    (fun _ t => t.regs.reply = { data := 0, error := false }))

/-- With nothing else due, a slot of a running lane with no cell, or with an UPLINK cell, changes only what the lane has tuned. A cell whose channel a lower lane crowds is left idle, counted in COLL_SKIP with its event bit. A beacon cell with airtime left sends the beacon. A transmit cell of a class launches the head its queue holds ready: the next frame counter, one attempt more, and a completion that is due unless an acknowledgement is asked for. A late head without LATE completes with LATE_DROP unlaunched. A slot served once is not served again. Everything else stays. -/
def Obligations.LaneSlots : Prop :=
  (∀ (n a : Nat) (rf : RfCheck), n < 4 → Completes (fun dt => .slotBoundary dt n rf) [.lne]
    []
    (fun s => s.slotBegins n a ∧ s.cellOf n a = none)
    (fun s t => t.lne = { s.lne with lanes := modAt s.lne.lanes n (fun l => { l with slot := some a, tuned := none }) }))
  ∧ (∀ (n a ch : Nat) (rf : RfCheck), n < 4 ∧ rf.locked = true → Completes (fun dt => .slotBoundary dt n rf) [.lne]
    []
    (fun s => s.slotBegins n a ∧ s.slotCell n a 3 ch ∧ s.collides n ch = false)
    (fun s t => t.lne = { s.lne with lanes := modAt s.lne.lanes n (fun l => { l with slot := some a, tuned := some ch }) }))
  ∧ (∀ (n a ch : Nat) (rf : RfCheck), n < 4 → Completes (fun dt => .slotBoundary dt n rf) [.evr, .lne]
    [(reg wLNE (lneOff n 0), 6)]
    (fun s => s.slotBegins n a ∧ (s.slotCell n a 3 ch ∨ s.slotCell n a 0 ch) ∧ s.collides n ch = true)
    (fun s t => t.raised (reg wLNE (lneOff n 0)) 6 ∧
      t.lne = { s.lne with
        lanes := modAt s.lne.lanes n (fun l => { l with slot := some a, tuned := none, collSkip := (l.collSkip + 1) % 65536 }) }))
  ∧ (∀ (n a ch : Nat) (rf : RfCheck), n < 4 ∧ rf.locked = true ∧ rf.refl ≤ 1 / 4 → Completes (fun dt => .slotBoundary dt n rf) [.lne]
    []
    (fun s => s.slotBegins n a ∧ (s.txPower n : Rat) - 3 ≤ rf.fwd ∧ s.slotCell n a 0 ch ∧ s.collides n ch = false ∧ s.airLastHour n false = 0 ∧
      (∀ k, k ≤ 127 → s.airRaw n k * 1000 ≤ s.dutyMax n * 3600 * rawS))
    (fun s t => t.lne = { s.lne with
        lanes := modAt s.lne.lanes n (fun l => { l with
          slot := some a, tuned := some ch, sent := (l.sent + 1) % 65536, txPwrFail := 0, antFail := 0, antFault := false,
          air := (t.lane n).air,
          lastTx := some {
            slot := a, dest := 0xFFFF, formJ := false, fc := none, octets := Config.beaconOctets (s.beaconOf n a), beacon := true,
            power := s.txPower n } }) } ∧
      (t.lane n).air.getLast? = some (s.txRaw n a, s.airRaw n (min 127 (Config.beaconOctets (s.beaconOf n a)).length), true)))
  ∧ (∀ (n a cls q ch air : Nat) (rf : RfCheck), n < 4 ∧ cls < 2 ∧ rf.locked = true ∧ rf.refl ≤ 1 / 4 → Completes (fun dt => .slotBoundary dt n rf) [.evr, .lne, .qdm, .tbs]
    [(reg wLNE (lneOff 4 0), 4), (reg wLNE (lneOff 4 0), 5), (reg wTBS 0, 12)]
    (fun s => s.slotBegins n a ∧ (s.txPower n : Rat) - 3 ≤ rf.fwd ∧ s.slotCell n a (cls + 1) ch ∧ s.collides n ch = false ∧ s.headInLane n cls q ∧ s.headReady n q a = true ∧
      s.qdm.gone = [] ∧ State.headLate (s.headDesc q) a = false ∧ s.netKeyed = true ∧ (s.queue q).headFc = none ∧ (s.queue q).attempts = 0 ∧
      s.lne.fc < 0xFFFFFFFF ∧ s.airRaw n ((s.headDesc q).len + s.formOctets n (s.headDesc q)) = air ∧ s.dutyStops n air false = false)
    (fun s t => t.lne.fc = s.lne.fc + 1 ∧ t.lne = { s.lne with fc := t.lne.fc, fcRec := t.lne.fcRec, lanes := t.lne.lanes } ∧
      t.lne.lanes = modAt s.lne.lanes n (fun l => { l with
        slot := some a, tuned := some ch, sent := (l.sent + 1) % 65536, txPwrFail := 0, antFail := 0, antFault := false,
        retries := l.retries % 65536, lateSent := l.lateSent % 65536,
        await := if (s.headDesc q).dest ≠ 0xFFFF ∧ (s.headDesc q).ackReq = true then
          some { queue := q, slot := a, dest := (s.headDesc q).dest } else none,
        air := (t.lane n).air, lastTx := (t.lane n).lastTx }) ∧
      (t.lane n).air.getLast? = some (s.txRaw n a, air, false) ∧
      ((t.lane n).lastTx.map (fun x => (x.slot, x.dest, x.fc, x.octets, x.beacon, x.power))) =
        (s.queue q).held.map (fun h => (a, (s.headDesc q).dest, some s.lne.fc, h.octets, false, s.txPower n)) ∧
      t.queue q = (fun x : Queue => { x with
        attempts := 1, headFc := some s.lne.fc, lateSent := x.lateSent,
        done := if (s.headDesc q).dest ≠ 0xFFFF ∧ (s.headDesc q).ackReq = true then none
          else some (0, (s.headDesc q).len, if x.lateSent = true then 2 else 0) }) (s.queue q) ∧ (∀ k, k ≠ q → t.queue k = s.queue k) ∧
      t.qdm = { s.qdm with queues := t.qdm.queues } ∧ ((s.headDesc q).tsReq = false → t.tbs = s.tbs)))
  ∧ (∀ (n a cls q ch : Nat) (rf : RfCheck), n < 4 ∧ cls < 2 → Completes (fun dt => .slotBoundary dt n rf) [.evr, .lne, .mem, .qdm]
    [(reg wLNE (lneOff n 0), 4), (reg wQDM (0x1014 + 0x40 * q), 0)]
    (fun s => s.slotBegins n a ∧ s.slotCell n a (cls + 1) ch ∧ s.headInLane n cls q ∧ s.qCount q = 1 ∧ s.qdm.gone = [] ∧
      State.headLate (s.headDesc q) a = true ∧ (s.headDesc q).late = false ∧ State.memSpan (s.descAddr q (s.queue q).head) 32 = true)
    (fun s t => t.byte (s.descAddr q (s.queue q).head + 28) = 1 ∧ t.byte (s.descAddr q (s.queue q).head + 30) = 1 ∧
      (t.queue q).head = ((s.queue q).head + 1) % 65536 ∧ (t.queue q).held = none ∧ (∀ k, k ≠ q → t.queue k = s.queue k) ∧
      (∀ x, x < s.descAddr q (s.queue q).head + 26 ∨ s.descAddr q (s.queue q).head + 32 ≤ x → t.byte x = s.byte x) ∧
      t.raised (reg wLNE (lneOff n 0)) 4 ∧
      t.lne = { s.lne with
        lanes := modAt s.lne.lanes n (fun l => { l with slot := some a, tuned := none, lateDrop := (l.lateDrop + 1) % 65536 }) }))
  ∧ (∀ (n : Nat) (rf : RfCheck), n < 4 → Completes (fun dt => .slotBoundary dt n rf) []
    []
    (fun s => s.works wLNE ∧ (∀ a ∈ (s.slotAt n s.raw).toList, s.slotStart n a ≠ s.raw ∨ (s.lane n).slot = some a))
    (fun s t => t = s))

/-- A start that is due makes the lane run and sets STARTED; it sets CFG_BAD instead where a running lane names the same connector, or a lower one starts with it. From 1,000 µs before a transmit cell the chosen head frame is being fetched. An attempt with no acknowledgement in its window is over: with no attempts left the descriptor is to complete with TX_FAIL, counted with its event bit. Before their time, each does nothing. Everything else stays. -/
def Obligations.LaneStartsAndRetries : Prop :=
  (∀ (n r : Nat), n < 4 → Completes (fun dt => .laneStart dt n) [.evr, .lne]
    [(reg wLNE (lneOff n 0), 0)]
    (fun s => s.works wLNE ∧ s.lne.lanes.length = 4 ∧ (s.lane n).startAt = some r ∧ r ≤ s.raw ∧ s.antBusy n = false ∧ s.antLost n = false ∧
      (s.lane n).xcvr = some n ∧ s.flt.xcvrRet.contains n = false)
    (fun s t => t.raised (reg wLNE (lneOff n 0)) 0 ∧
      t.lne = { s.lne with lanes := modAt s.lne.lanes n (fun l => { l with startAt := none, run := true, faulted := false }) }))
  ∧ (∀ (n r : Nat), n < 4 → Completes (fun dt => .laneStart dt n) [.evr, .lne]
    [(reg wLNE (lneOff n 0), 11)]
    (fun s => s.works wLNE ∧ (s.lane n).startAt = some r ∧ r ≤ s.raw ∧ (s.antBusy n = true ∨ s.antLost n = true))
    (fun s t => t.raised (reg wLNE (lneOff n 0)) 11 ∧
      t.lne = { s.lne with lanes := modAt s.lne.lanes n (fun l => { l with startAt := none, cfgBad := true }) }))
  ∧ (∀ (n : Nat), Completes (fun dt => .laneStart dt n) []
    []
    (fun s => ∀ r ∈ (s.lane n).startAt.toList, s.raw < r)
    (fun s t => t = s))
  ∧ (∀ (n cls a q : Nat), n < 4 ∧ cls < 2 → Completes (fun dt => .laneFetch dt n) [.qdm]
    []
    (fun s => s.works wLNE ∧ (s.lane n).run = true ∧ s.slotFrom n (s.raw + 1) = a ∧ s.slotStart n a ≤ s.raw + rawMs ∧
      (s.cellOf n a).map (fun w => fld w 30 28) = some (cls + 1) ∧ s.laneQueues n cls = [q] ∧ s.headReady n q a = true ∧
      (s.queue q).done = none ∧ (s.queue q).xfer = none ∧ (s.queue q).held = none ∧ s.qdm.gone = [] ∧
      s.descCheck q (s.headDesc q) = none ∧ State.headLate (s.headDesc q) a = false)
    (fun s t => t.queue q = { s.queue q with xfer := some { offset := 0, data := [] } } ∧ (∀ k, k ≠ q → t.queue k = s.queue k) ∧
      t.qdm = { s.qdm with queues := t.qdm.queues }))
  ∧ (∀ (n : Nat), n < 4 → Completes (fun dt => .laneFetch dt n) []
    []
    (fun s => (s.lane n).run = false ∨ s.raw + rawMs < s.slotStart n (s.slotFrom n (s.raw + 1)) ∨ s.cellOf n (s.slotFrom n (s.raw + 1)) = none)
    (fun s t => t = s))
  ∧ (∀ (n : Nat) (w : Await), n < 4 → Completes (fun dt => .ackTimeout dt n) [.evr, .lne, .qdm]
    [(reg wLNE (lneOff n 0), 5)]
    (fun s => s.works wLNE ∧ (s.lane n).await = some w ∧ s.ackEnd n w ≤ s.raw)
    (fun s t => (t.lane n).await = none ∧
      ((s.headDesc w.queue).retry < (s.queue w.queue).attempts →
        t.raised (reg wLNE (lneOff n 0)) 5 ∧
        t.lne = { s.lne with lanes := modAt s.lne.lanes n (fun l => { l with await := none, txFail := (l.txFail + 1) % 65536 }) } ∧
        t.queue w.queue = { s.queue w.queue with
          done := some (2, (s.headDesc w.queue).len, if (s.queue w.queue).lateSent = true then 2 else 0) } ∧
        (∀ k, k ≠ w.queue → t.queue k = s.queue k) ∧ t.qdm = { s.qdm with queues := t.qdm.queues }) ∧
      ((s.queue w.queue).attempts ≤ (s.headDesc w.queue).retry →
        t = { s with lne := { s.lne with lanes := modAt s.lne.lanes n (fun l => { l with await := none }) } })))
  ∧ (∀ (n : Nat), Completes (fun dt => .ackTimeout dt n) []
    []
    (fun s => ∀ w ∈ (s.lane n).await.toList, s.raw < s.ackEnd n w)
    (fun s t => t = s))

/-- With no command in progress, TAKEOVER of an enabled lane with the spare ready begins a takeover now, and is in progress until it ends; of a lane not enabled it gives code 4, and with the spare unusable or serving code 1. RELEASE is due at the first slot boundary at least 3 ms later, unless the spare does not serve the lane (2) or its own transceiver is retired (3). A round begins with the spare free, else code 1. Each is refused with code 5 while a command is in progress. A due release returns the lane to its own transceiver and frees the spare. Every 10 s the free spare begins a round. A round whose transmitter fails makes the spare unusable; else the receiver of the next lane in rotation is tested in an idle slot of the lane, or not at all in 10 s. A second failing test in a row is a transceiver fault, and the spare takes the lane over. Everything else stays. -/
def Obligations.SpareTransceiver : Prop :=
  (∀ (m n : Nat), n < 4 → Completes (fun dt => .lneTakeover dt m n) [.lne, .reply]
    []
    (fun s => s.lets m (reg wLNE 0x8004) ∧ s.lne.cmdBusy = false ∧ s.laneEnabled n = true ∧ s.spareReady = true ∧ (s.lane n).xcvr ≠ some 4)
    (fun s t => t.lne = { s.lne with
        cmdBusy := true, takeover := some (n, s.raw), locked := false, spare := .serving, spareTarget := n }))
  ∧ (∀ (m n : Nat), n < 4 → Completes (fun dt => .lneTakeover dt m n) [.evr, .lne, .reply]
    [(reg wLNE (lneOff 4 0), 0)]
    (fun s => s.lets m (reg wLNE 0x8004) ∧ (s.lne.cmdBusy = true ∨ s.laneEnabled n = false ∨ s.spareReady = false ∨ (s.lane n).xcvr = some 4))
    (fun s t => t.raised (reg wLNE 0x8000) 0 ∧
      t.lne = { s.lne with cmdCode := if s.lne.cmdBusy = true then 5 else if s.laneEnabled n = false then 4 else 1 }))
  ∧ (∀ (m n : Nat), n < 4 → Completes (fun dt => .lneRelease dt m n) [.lne, .reply]
    []
    (fun s => s.lets m (reg wLNE 0x8004) ∧ s.lne.cmdBusy = false ∧ (s.lane n).xcvr = some 4 ∧ s.flt.xcvrRet.contains n = false)
    (fun s t => t.lne = { s.lne with
        cmdBusy := true,
        lanes := modAt s.lne.lanes n (fun l => { l with releaseAt := some (s.slotStart n (s.slotFrom n (s.raw + 3 * rawMs))) }) }))
  ∧ (∀ (m n : Nat), n < 4 → Completes (fun dt => .lneRelease dt m n) [.evr, .lne, .reply]
    [(reg wLNE (lneOff 4 0), 0)]
    (fun s => s.lets m (reg wLNE 0x8004) ∧ (s.lne.cmdBusy = true ∨ (s.lane n).xcvr ≠ some 4 ∨ s.flt.xcvrRet.contains n = true))
    (fun s t => t.raised (reg wLNE 0x8000) 0 ∧
      t.lne = { s.lne with cmdCode := if s.lne.cmdBusy = true then 5 else if (s.lane n).xcvr ≠ some 4 then 2 else 3 }))
  ∧ (∀ (m : Nat), Completes (fun dt => .lneSpareRoundNow dt m) [.evr, .lne, .reply]
    [(reg wLNE (lneOff 4 0), 0)]
    (fun s => s.lets m (reg wLNE 0x8004))
    (fun s t => t.raised (reg wLNE 0x8000) 0 ∧
      t.lne = (if s.lne.cmdBusy = true then { s.lne with cmdCode := 5 }
        else if s.lne.spare = .free then { s.lne with spare := .selftest, roundAt := s.raw, cmdCode := 0 }
        else { s.lne with cmdCode := 1 })))
  ∧ (Completes (fun dt => .spareLocked dt) [.lne]
    []
    (fun s => s.works wLNE ∧ s.lne.takeover.isSome = true)
    (fun s t => t.lne = { s.lne with locked := true }))
  ∧ (∀ (n r : Nat), n < 4 → Completes (fun dt => .laneReturn dt n) [.evr, .flt, .lne]
    [(reg wLNE (lneOff 4 0), 0), (reg wLNE (lneOff 4 0), 1)]
    (fun s => s.works wLNE ∧ (s.lane n).releaseAt = some r ∧ r ≤ s.raw)
    (fun s t => t.lne = { s.lne with
        spare := .free, cmdCode := 0, cmdBusy := false,
        lanes := modAt s.lne.lanes n (fun l => { l with releaseAt := none, xcvr := some n }) } ∧
      t.flt = { s.flt with laneSub := none } ∧ t.raised (reg wLNE 0x8000) 0 ∧ t.raised (reg wLNE 0x8000) 1))
  ∧ (∀ (n : Nat), n < 4 → Completes (fun dt => .laneReturn dt n) []
    []
    (fun s => ∀ r ∈ (s.lane n).releaseAt.toList, s.raw < r)
    (fun s t => t = s))
  ∧ (∀ (b : Bool) (x : Option Bool), Completes (fun dt => .spareRound dt b x) [.lne]
    []
    (fun s => s.works wLNE ∧ s.lne.spare = .free ∧ s.lne.roundAt + 10 * rawS ≤ s.raw)
    (fun s t => t.lne = { s.lne with spare := .selftest, roundAt := s.raw }))
  ∧ (∀ (b : Bool) (x : Option Bool), Completes (fun dt => .spareRound dt b x) [.evr, .lne, .tbs]
    [(reg wLNE (lneOff 4 0), 2), (reg wTBS 0, 12)]
    (fun s => s.works wLNE ∧ s.lne.spare = .selftest)
    (fun s t => t.lne = (if b = true then { s.lne with spare := .rxtest, spareTarget := s.lne.rotate % 4 } else { s.lne with spare := .unusable }) ∧
      (b = false → t.raised (reg wLNE 0x8000) 2) ∧ (s.cfgF wTBS 0x004 0 0 = 0 → t.tbs = s.tbs)))
  ∧ (∀ (b x : Bool) (n : Nat), n < 4 → Completes (fun dt => .spareRound dt b (some x)) [.lne]
    []
    (fun s => s.works wLNE ∧ s.lne.spare = .rxtest ∧ s.lne.spareTarget = n ∧ s.laneIdle n = true ∧ (x = false → (s.lane n).rxTestFail = 0))
    (fun s t => t.lne = { s.lne with
        spare := .free, rotate := (n + 1) % 4,
        lanes := modAt s.lne.lanes n (fun l => { l with rxTestFail := if x = true then 0 else l.rxTestFail + 1 }) }))
  ∧ (∀ (b : Bool) (x : Option Bool) (n : Nat), Completes (fun dt => .spareRound dt b x) [.lne]
    []
    (fun s => s.works wLNE ∧ s.lne.spare = .rxtest ∧ s.lne.spareTarget = n ∧ (s.laneIdle n = false ∨ x = none) ∧ s.lne.roundAt + 10 * rawS ≤ s.raw)
    (fun s t => t.lne = { s.lne with spare := .free, rotate := (n + 1) % 4 }))
  ∧ (∀ (n : Nat), Completes (fun dt => .spareRound dt true (some false)) [.evr, .flt, .lne]
    [(reg wLNE (lneOff n 0), 8)]
    (fun s => s.works wLNE ∧ s.lne.spare = .rxtest ∧ s.lne.spareTarget = n ∧ s.laneIdle n = true ∧ 1 ≤ (s.lane n).rxTestFail ∧ n < 4 ∧
      s.lne.lanes.length = 4 ∧ s.lne.takeover = none ∧ (s.lane n).xcvr = some n)
    (fun s t => t.raised (reg wLNE (lneOff n 0)) 8 ∧ t.lne.takeover = some (n, s.raw) ∧ t.lne.spare = .serving ∧ t.lne.spareTarget = n))
  ∧ (∀ (b : Bool) (x : Option Bool), Completes (fun dt => .spareRound dt b x) []
    []
    (fun s => s.lne.spare = .serving ∨ s.lne.spare = .unusable ∨ (s.lne.spare = .free ∧ s.raw < s.lne.roundAt + 10 * rawS))
    (fun s t => t = s))

/-- A frame that fails a check is counted in that check's counter with RX_DROP; an acknowledgement outside its window counts FORMAT. An installation-keyed frame of an unknown source counts as an unknown JOIN with its event bit. A frame that verifies writes its entry's RX_FC, RSSI, RX_LANE and LAST_RX, is counted, and has its type's effect: REPORT writes ENERGY, sequence, time, TEMP and FAULTS; FAULT sets its bits in FAULTS and counts; DETECT enters the wave engine's FIFO; JOIN writes its fields and makes the entry JOINED or FAULTY, or MISMATCH; REPORT, FAULT, a PROBE response and a foreign frame are posted to the host lantern queue. A frame that asks for one draws an acknowledgement under the next frame counter, 1,000 µs after its last bit, with the time correction when CTRL.TCORR is 1. An acknowledgement that arrives completes the attempt it answers. Memory outside the entry stays, but for the descriptor of an ACCEPT. Everything else stays. -/
def Obligations.LaneFrames : Prop :=
  (∀ (n c : Nat), n < 4 ∧ 1 ≤ c ∧ c ≤ 7 → Completes (fun dt => .frameRejected dt n c) [.evr, .lne]
    [(reg wLNE (lneOff n 0), 2), (reg wLNE (lneOff 4 0), 3)]
    (fun s => s.works wLNE ∧ (s.lane n).run = true ∧ (c = 4 → s.netKeyed = false))
    (fun s t => t.raised (reg wLNE (lneOff n 0)) 2 ∧ (4 ≤ c ∧ s.netKeyed = false → t.raised (reg wLNE (lneOff 4 0)) 3) ∧
      t.lne = (if 4 ≤ c ∧ s.netKeyed = false then { s.lne with noKey := (s.lne.noKey + 1) % 65536 } else
        { s.lne with
          lanes := modAt s.lne.lanes n (fun l =>
            if c = 1 then { l with dFcs := (l.dFcs + 1) % 65536 }
            else if c = 2 then { l with dFormat := (l.dFormat + 1) % 65536 }
            else if c = 3 then { l with dAddr := (l.dAddr + 1) % 65536 }
            else if c = 5 then { l with dSecurity := (l.dSecurity + 1) % 65536 }
            else if c = 6 then { l with dReplay := (l.dReplay + 1) % 65536 }
            else { l with dMic := (l.dMic + 1) % 65536 }) })))
  ∧ (∀ (f : RxFrame), Completes (fun dt => .unknownJoin dt f) [.evr, .ltb]
    [(reg wLTB 0, 4)]
    (fun s => s.works wLNE ∧ f.lane < 4 ∧ s.listens f.lane f.sfd = true ∧ s.psduOf f.lane f ≤ 250 ∧ s.netKeyed = true ∧
      s.findLantern f.src = none ∧ f.formJ = true)
    (fun s t => t.ltb = { s.ltb with unknownJoin := min 65535 (s.ltb.unknownJoin + 1) } ∧ t.raised (reg wLTB 0) 4))
  ∧ (∀ (x : Nat) (f : RxFrame), Completes (fun dt => (if x = 0 then .reportReceive dt f else if x = 1 then .detectReceive dt f else if x = 2 then .faultReceive dt f else if x = 3 then .joinReceive dt f else if x = 4 then .probeResponseReceive dt f else .foreignFrame dt f)) [.evr, .lne]
    [(reg wLNE (lneOff f.lane 0), 2), (reg wLNE (lneOff 4 0), 3)]
    (fun s => s.works wLNE ∧ f.lane < 4 ∧ s.listens f.lane f.sfd = true ∧ s.psduOf f.lane f ≤ 250 ∧ f.formJ = false ∧
      (s.netKeyed = false ∨ s.findLantern f.src = none))
    (fun s t => t.raised (reg wLNE (lneOff f.lane 0)) 2 ∧
      t.lne = (if s.netKeyed = false then { s.lne with noKey := (s.lne.noKey + 1) % 65536 } else
        { s.lne with lanes := modAt s.lne.lanes f.lane (fun l => { l with dSecurity := (l.dSecurity + 1) % 65536 }) })))
  ∧ (∀ (n e q : Nat) (f : RxFrame), Completes (fun dt => .reportReceive dt f) [.evr, .lne, .mem, .qdm]
    [(reg wLNE (lneOff n 0), 2), (reg wLTB 0, 7), (reg wQDM (0x1014 + 0x40 * q), 3)]
    (fun s => s.dataReaches n e f ∧ State.plainFrame f 0x81 20 ∧ s.lrxQueue = some q ∧ (s.ltState e = 2 ∨ s.ltState e = 3 ∨ s.ltState e = 4) ∧
      s.reportNewer e f.payload = true)
    (fun s t => (s.verifies e f = false → s.frameDropped t n e f) ∧ (s.verifies e f = true → s.frameTaken t n e f ∧ s.framePosted t q n e f false ∧
        t.lt e 0x110 4 = fieldLE f.payload 6 4 ∧ t.lt e 0x114 4 = fieldLE f.payload 2 4 ∧ t.lt e 0x118 8 = f.last ∧
        s.tempTaken t e (fieldLE f.payload 10 2) ∧ t.lt e 0x104 4 = fieldLE f.payload 12 4 ∧
        (t.ltState e = if t.masked e = true then 4 else 2) ∧
        (∀ x, x < s.ltAddr e 0 ∨ s.ltAddr e 384 ≤ x → t.byte x = s.byte x) ∧ (∀ k, k ≠ q → t.queue k = s.queue k))))
  ∧ (∀ (n e q : Nat) (f : RxFrame), Completes (fun dt => .faultReceive dt f) [.evr, .lne, .mem, .qdm]
    [(reg wLNE (lneOff n 0), 2), (reg wLTB 0, 7), (reg wQDM (0x1014 + 0x40 * q), 3)]
    (fun s => s.dataReaches n e f ∧ State.plainFrame f 0x83 10 ∧ s.lrxQueue = some q ∧ (s.ltState e = 2 ∨ s.ltState e = 3 ∨ s.ltState e = 4))
    (fun s t => (s.verifies e f = false → s.frameDropped t n e f) ∧ (s.verifies e f = true → s.frameTaken t n e f ∧ s.framePosted t q n e f false ∧
        t.lt e 0x104 4 = s.lt e 0x104 4 ||| fieldLE f.payload 2 4 ∧ t.lt e 0x124 2 = min 65535 (s.lt e 0x124 2 + 1) ∧
        s.tempTaken t e (fieldLE f.payload 6 2) ∧ (t.ltState e = 2 ∨ t.ltState e = 4) ∧ (t.masked e = true → t.ltState e = 4) ∧
        (∀ x, x < s.ltAddr e 0 ∨ s.ltAddr e 384 ≤ x → t.byte x = s.byte x) ∧ (∀ k, k ≠ q → t.queue k = s.queue k))))
  ∧ (∀ (n e : Nat) (f : RxFrame), Completes (fun dt => .detectReceive dt f) [.evr, .lne, .mem, .wav]
    [(reg wLNE (lneOff n 0), 2)]
    (fun s => s.dataReaches n e f ∧ State.plainFrame f 0x82 14 ∧ (s.ltState e = 2 ∨ s.ltState e = 4) ∧
      fieldLE f.payload 7 2 < s.lneF n 0x010 31 16 ∧ s.wav.fifo.length < 48)
    (fun s t => (s.verifies e f = false → s.frameDropped t n e f) ∧ (s.verifies e f = true → s.frameTaken t n e f ∧
        t.wav = { s.wav with
          fifo := s.wav.fifo ++ [.detect e f.last (s.rawOfAsn n (fieldLE f.payload 2 5) (fieldLE f.payload 7 2)) (fieldLE f.payload 9 2)
            (fieldLE f.payload 11 1) (fieldLE f.payload 12 1 % 2 == 1) (fieldLE f.payload 13 1)]
          fifoMax := max s.wav.fifoMax (s.wav.fifo.length + 1) } ∧
        (∀ x, x < s.ltAddr e 0 ∨ s.ltAddr e 384 ≤ x → t.byte x = s.byte x))))
  ∧ (∀ (n e q : Nat) (f : RxFrame) (x : Bool), Completes (fun dt => (if x then .foreignFrame dt f else .probeResponseReceive dt f)) [.evr, .lne, .mem, .qdm]
    [(reg wLNE (lneOff n 0), 2), (reg wQDM (0x1014 + 0x40 * q), 3)]
    (fun s => s.dataReaches n e f ∧ f.ackReq = false ∧ s.lrxQueue = some q ∧ (s.ltState e = 2 ∨ s.ltState e = 4) ∧
      (if x then f.payload.head? ≠ some 0x59 else State.plainFrame f 0x86 27))
    (fun s t => (s.verifies e f = false → s.frameDropped t n e f) ∧ (s.verifies e f = true → s.frameTaken t n e f ∧ s.framePosted t q n e f x ∧
        t.ltState e = s.ltState e ∧
        (∀ y, y < s.ltAddr e 0 ∨ s.ltAddr e 384 ≤ y → t.byte y = s.byte y) ∧ (∀ k, k ≠ q → t.queue k = s.queue k))))
  ∧ (∀ (n e q : Nat) (f : RxFrame), Completes (fun dt => .foreignFrame dt f) [.evr, .lne, .mem, .qdm]
    [(reg wLNE (lneOff n 0), 2), (reg wQDM (0x1014 + 0x40 * q), 3), (reg wLNE (lneOff 4 0), 4), (reg wLNE (lneOff 4 0), 5)]
    (fun s => s.dataReaches n e f ∧ f.ackReq = true ∧ f.bcast = false ∧ f.formJ = false ∧ f.payload.head? ≠ some 0x59 ∧ s.lrxQueue = some q ∧
      (s.ltState e = 2 ∨ s.ltState e = 4) ∧ s.fcEnd = false ∧ s.hst tLANTERN e ≠ .faulted)
    (fun s t => (s.verifies e f = false → s.frameDropped t n e f) ∧ (s.verifies e f = true → s.frameTaken t n e f ∧ s.framePosted t q n e f true ∧
        t.lne.fc = s.lne.fc + 1 ∧ (t.lane n).ackSent = ((s.lane n).ackSent + 1) % 65536 ∧
        (t.lane n).lastAck = some {
          dest := e, formJ := false, fc := s.lne.fc, start := f.last + 200000, power := s.txPower n,
          corr := if s.lneF n 0x004 1 1 = 1 then some (s.sfdError n f.sfd) else none })))
  ∧ (∀ (n e q : Nat) (f : RxFrame), Completes (fun dt => .joinReceive dt f) [.cfg, .evr, .lne, .mem, .qdm, .scn, .str]
    [(reg wLNE (lneOff n 0), 2), (reg wLTB 0, 5), (reg wLTB 0, 7), (reg wSTR 0, 0), (reg wSTR 0, 2)]
    (fun s => s.dataReaches n e f ∧ State.plainFrame f 0x84 22 ∧ s.isRunning tLANTERN e = true ∧
      s.engineQueue 1 n 3 = some q ∧ s.qFree q = true ∧ s.ringOk q = true)
    (fun s t => (s.verifies e f = false → s.frameDropped t n e f) ∧ (s.verifies e f = true → s.frameTaken t n e f ∧
        t.lt e 0x128 4 = fieldLE f.payload 10 4 ∧ t.lt e 0x126 2 = min 65535 (s.lt e 0x126 2 + 1) ∧ s.tempTaken t e (fieldLE f.payload 14 2) ∧
        (t.scnEntry e).trJoin = true ∧
        (t.ltState e = if fieldLE f.payload 10 4 ≠ s.lt e 0x020 4 then 5 else if s.masked e = true then 4 else 2) ∧
        (fieldLE f.payload 10 4 ≠ s.lt e 0x020 4 → t.hst tLANTERN e = .faulted ∧ t.raised (reg wSTR 0) 2 ∧ t.qdm = s.qdm ∧
          t.regs.cfg = s.regs.cfg) ∧
        (fieldLE f.payload 10 4 = s.lt e 0x020 4 → t.str = s.str ∧ (t.queue q).tail = ((s.queue q).tail + 1) % 65536 ∧
          (∀ k, k ≠ q → t.queue k = s.queue k) ∧ (∀ b, b ≠ reg wQDM (0x100C + 0x40 * q) → t.cfg b = s.cfg b) ∧
          (t.engPay q (s.queue q).tail).isSome = true) ∧
        (∀ x, x < s.ltAddr e 0 ∨ s.ltAddr e 384 ≤ x → x < s.ringBase q ∨ s.ringBase q + 32 * s.ringN q ≤ x → t.byte x = s.byte x))))
  ∧ (∀ (n e : Nat) (f : RxFrame), Completes (fun dt => .joinReceive dt f) [.evr, .lne, .ltb, .mem]
    [(reg wLNE (lneOff n 0), 2), (reg wLTB 0, 7)]
    (fun s => s.dataReaches n e f ∧ State.plainFrame f 0x84 22 ∧ s.isRunning tLANTERN e = false)
    (fun s t => (s.verifies e f = false → s.frameDropped t n e f) ∧ (s.verifies e f = true → s.frameTaken t n e f ∧
        t.ltb = { s.ltb with idleDrop := min 65535 (s.ltb.idleDrop + 1) })))
  ∧ (∀ (n e : Nat) (f : RxFrame) (w : Await), Completes (fun dt => .enhancedAckReceive dt f) [.evr, .lne, .mem, .qdm]
    [(reg wLNE (lneOff n 0), 2)]
    (fun s => s.frameReaches n e f ∧ (s.lane n).run = true ∧ (s.lane n).await = some w ∧ s.ackInWindow n f.sfd = true ∧ f.formJ = false ∧
      (s.ltState e = 2 ∨ s.ltState e = 4))
    (fun s t => (s.verifies e f = false → s.frameDropped t n e f) ∧ (s.verifies e f = true → s.frameTaken t n e f ∧ t.ltState e = s.ltState e ∧
        (w.dest = e → (t.lane n).await = none ∧ (t.queue w.queue).done =
            some (0, (t.headDesc w.queue).len, if (s.queue w.queue).lateSent = true then 2 else 0) ∧
          (∀ k, k ≠ w.queue → t.queue k = s.queue k)) ∧
        (w.dest ≠ e → (t.lane n).await = some w ∧ t.qdm = s.qdm) ∧
        (∀ x, x < s.ltAddr e 0 ∨ s.ltAddr e 384 ≤ x → t.byte x = s.byte x))))
  ∧ (∀ (n : Nat) (f : RxFrame), Completes (fun dt => .enhancedAckReceive dt f) [.evr, .lne]
    [(reg wLNE (lneOff n 0), 2)]
    (fun s => s.works wLNE ∧ f.lane = n ∧ n < 4 ∧ (s.lane n).run = true ∧ s.ackInWindow n f.sfd = false)
    (fun s t => t.raised (reg wLNE (lneOff n 0)) 2 ∧
      t.lne = { s.lne with lanes := modAt s.lne.lanes n (fun l => { l with dFormat := (l.dFormat + 1) % 65536 }) }))

/-- A write of TAIL to a host-available queue that keeps the ring's bounds hands over the new descriptors and is stored; one that does not only sets the queue's event bit; one to an engine-owned queue is a locked write. RESUME lifts the fault of a parked engine-owned queue, else gives code 1 or 2. FLUSH completes every descriptor from HEAD to TAIL with FLUSHED in a stopped or parked queue, else code 3. A completion that is due writes the descriptor's last bytes and advances HEAD. A window takes ENABLE only with a valid setting, and its other fields only while not enabled. Everything else stays. -/
def Obligations.QueueCommands : Prop :=
  (∀ (m q : Nat) (v : Word), q < 64 → Completes (fun dt => .qdmTailWrite dt m q v) [.cfg, .qdm, .reply]
    []
    (fun s => s.lets m (reg wQDM (0x100C + 0x40 * q)) ∧ s.qEngine q = false ∧
      s.qCount q ≤ (fld v 15 0 + 65536 - (s.queue q).head) % 65536 ∧ (fld v 15 0 + 65536 - (s.queue q).head) % 65536 ≤ s.ringN q)
    (fun s t => s.stores t (reg wQDM (0x100C + 0x40 * q)) (v &&& 0xFFFF) ∧ t.queue q = { s.queue q with tail := fld v 15 0 } ∧
      (∀ k, k ≠ q → t.queue k = s.queue k) ∧
      t.qdm = { s.qdm with
        queues := t.qdm.queues
        handed := s.qdm.handed ++ (List.range ((fld v 15 0 + 65536 - (s.queue q).tail) % 65536)).map (fun i =>
          (q, ((s.queue q).tail + i) % 65536, s.raw)) }))
  ∧ (∀ (m q : Nat) (v : Word), q < 64 → Completes (fun dt => .qdmTailWrite dt m q v) [.evr, .reply]
    [(reg wQDM (0x1014 + 0x40 * q), 2)]
    (fun s => s.lets m (reg wQDM (0x100C + 0x40 * q)) ∧ s.qEngine q = false ∧
      ((fld v 15 0 + 65536 - (s.queue q).head) % 65536 < s.qCount q ∨ s.ringN q < (fld v 15 0 + 65536 - (s.queue q).head) % 65536))
    (fun _ t => t.raised (reg wQDM (0x1014 + 0x40 * q)) 2))
  ∧ (∀ (m q : Nat) (v : Word), q < 64 → Completes (fun dt => .qdmTailWrite dt m q v) [.evr, .reply]
    [(reg wQDM 0, 0)]
    (fun s => s.lets m (reg wQDM (0x100C + 0x40 * q)) ∧ s.qEngine q = true)
    (fun _ t => t.raised (reg wQDM 0) 0))
  ∧ (∀ (m q : Nat), q < 64 → Completes (fun dt => .qdmResume dt m q) [.evr, .qdm, .reply]
    [(reg wQDM 0, 3)]
    (fun s => s.lets m (reg wQDM 0x004))
    (fun s t => t.raised (reg wQDM 0) 3 ∧ (∀ k, k ≠ q → t.queue k = s.queue k) ∧
      (if s.qEngine q = false then t.qdm = { s.qdm with cmdCode := 1 }
       else if (s.queue q).parked = false then t.qdm = { s.qdm with cmdCode := 2 }
       else t.qdm = { s.qdm with cmdCode := 0, queues := t.qdm.queues } ∧ t.queue q = { s.queue q with parked := false })))
  ∧ (∀ (m q : Nat), q < 64 → Completes (fun dt => .qdmFlush dt m q) [.evr, .mem, .qdm, .reply]
    [(reg wQDM 0, 3), (reg wQDM (0x1014 + 0x40 * q), 0)]
    (fun s => s.lets m (reg wQDM 0x004) ∧ s.qEngine q = false ∧ s.isStopped tQUEUE q = true ∧ (s.queue q).done = none ∧ s.ringOk q = true ∧
      s.qCount q ≤ s.ringN q ∧ (s.queue q).head < 65536 ∧ (s.queue q).tail < 65536)
    (fun s t => (t.queue q).head = (s.queue q).tail ∧ (t.queue q).tail = (s.queue q).tail ∧ t.qdm.cmdCode = 0 ∧
      t.raised (reg wQDM 0) 3 ∧ (∀ k, k ≠ q → t.queue k = s.queue k) ∧
      (∀ k, k < s.qCount q → t.byte (s.descAddr q ((s.queue q).head + k) + 28) = 4) ∧
      (∀ x, x < s.ringBase q ∨ s.ringBase q + 32 * s.ringN q ≤ x → t.byte x = s.byte x)))
  ∧ (∀ (m q : Nat), q < 64 → Completes (fun dt => .qdmFlush dt m q) [.evr, .qdm, .reply]
    [(reg wQDM 0, 3)]
    (fun s => s.lets m (reg wQDM 0x004) ∧ (if s.qEngine q = true then (s.queue q).parked = false else s.isStopped tQUEUE q = false))
    (fun s t => t.raised (reg wQDM 0) 3 ∧ t.qdm = { s.qdm with cmdCode := 3 }))
  ∧ (∀ (q st len cf : Nat), Completes (fun dt => .descriptorComplete dt q) [.evr, .mem, .qdm]
    [(reg wQDM (0x1014 + 0x40 * q), 0)]
    (fun s => s.works wQDM ∧ (s.queue q).done = some (st, len, cf) ∧ State.memSpan (s.descAddr q (s.queue q).head) 32 = true)
    (fun s t => t.memLE (s.descAddr q (s.queue q).head + 26) 2 = len % 65536 ∧ t.memLE (s.descAddr q (s.queue q).head + 28) 1 = st % 256 ∧
      t.memLE (s.descAddr q (s.queue q).head + 29) 1 = (s.queue q).attempts % 256 ∧
      t.memLE (s.descAddr q (s.queue q).head + 30) 1 = (cf ||| 1) % 256 ∧
      (∀ x, x < s.descAddr q (s.queue q).head + 26 ∨ s.descAddr q (s.queue q).head + 32 ≤ x → t.byte x = s.byte x) ∧
      t.queue q = { s.queue q with
        head := ((s.queue q).head + 1) % 65536, xfer := none, held := none, attempts := 0, lateSent := false, headFc := none,
        done := none } ∧
      (∀ k, k ≠ q → t.queue k = s.queue k) ∧ ((s.headDesc q).notify = true → t.raised (reg wQDM (0x1014 + 0x40 * q)) 0)))
  ∧ (∀ (q : Nat), Completes (fun dt => .descriptorComplete dt q) []
    []
    (fun s => (s.queue q).done = none)
    (fun s t => t = s))
  ∧ (∀ (m w : Nat) (v : Word), w < 64 → Completes (fun dt => .windowEnableWrite dt m w v) [.cfg, .evr, .reply]
    [(reg wQDM 0, 1)]
    (fun s => s.lets m (reg wQDM (0x2000 + 0x20 * w)) ∧ bit (s.winReg w 0) 31 = false)
    (fun s t => s.stores t (reg wQDM (0x2000 + 0x20 * w))
        (if bit v 31 = true ∧ s.winValid w (v &&& 0xE000003F) = false then v &&& 0x6000003F else v &&& 0xE000003F) ∧
      (if bit v 31 = true ∧ s.winValid w (v &&& 0xE000003F) = false then t.raised (reg wQDM 0) 1 else
        t.evr = s.evr ∧ (t.raised (reg wQDM 0) 1 ↔ s.raised (reg wQDM 0) 1))))
  ∧ (∀ (m w : Nat) (v : Word), w < 64 → Completes (fun dt => .windowEnableWrite dt m w v) [.cfg, .evr, .reply]
    [(reg wQDM 0, 0)]
    (fun s => s.lets m (reg wQDM (0x2000 + 0x20 * w)) ∧ bit (s.winReg w 0) 31 = true)
    (fun s t => s.stores t (reg wQDM (0x2000 + 0x20 * w)) ((s.winReg w 0 &&& 0x7FFFFFFF) ||| (v &&& 0x80000000)) ∧ t.raised (reg wQDM 0) 0))

/-- The queue served next makes one burst. A descriptor that fails a check when it is read completes with that check's status, and no octet moves. A burst of a COPY whose windows allow it copies its octets, at most to the next 256-byte boundary, and advances its offset; the last makes the completion due. A burst of a frame to be sent takes its octets into the MAC or lane. A burst that no window translates, or that the memory fails, for the octets or for the read of the descriptor (cause RING), parks the queue with cause, address and offset, and faults a host-available queue's handle; nothing is copied. With no queue ready nothing happens. Everything else stays. -/
def Obligations.QueueBursts : Prop :=
  (∀ (q code : Nat) (b : Bool), Completes (fun dt => .dmaBurst dt b false) [.evr, .mem, .qdm]
    [(reg wQDM (0x1014 + 0x40 * q), 0)]
    (fun s => s.works wQDM ∧ s.burstQueue = some q ∧ (s.queue q).xfer = none ∧ s.descCheck q (s.headDesc q) = some code ∧ code < 256 ∧
      State.memSpan (s.descAddr q (s.queue q).head) 32 = true)
    (fun s t => t.memLE (s.descAddr q (s.queue q).head + 28) 1 = code ∧ t.memLE (s.descAddr q (s.queue q).head + 26) 2 = 0 ∧
      (t.queue q).head = ((s.queue q).head + 1) % 65536 ∧ (∀ k, k ≠ q → t.queue k = s.queue k) ∧
      (∀ x, x < s.descAddr q (s.queue q).head + 26 ∨ s.descAddr q (s.queue q).head + 32 ≤ x → t.byte x = s.byte x)))
  ∧ (∀ (q n p r : Nat) (d : Desc), Completes (fun dt => .dmaBurst dt false false) [.mem, .qdm]
    []
    (fun s => s.works wQDM ∧ s.burstQueue = some q ∧ s.qClass q = 5 ∧ s.headDesc q = d ∧ (s.queue q).xfer = none ∧ s.descCheck q d = none ∧
      n = State.burstLen d.addr d.len ∧ State.pieces d.word64 n = [(d.word64, n)] ∧
      (s.translate q d.addr false).toOption = some p ∧ (s.translate q d.word64 true).toOption = some r ∧ State.memSpan r n = true ∧
      (∀ k, k < n → s.inLtable (r + k) = false))
    (fun s t => (∀ k, k < n → t.byte (r + k) = s.byte (p + k)) ∧ (∀ x, x < r ∨ r + n ≤ x → t.byte x = s.byte x) ∧
      t.queue q = { s.queue q with
        xfer := some { offset := n, data := [] }, done := if d.len ≤ n then some (0, d.len, 0) else (s.queue q).done } ∧
      (∀ k, k ≠ q → t.queue k = s.queue k) ∧ t.qdm = { s.qdm with queues := t.qdm.queues, turn := q }))
  ∧ (∀ (q a : Nat) (c : DmaCause) (b : Bool) (d : Desc), c ≠ .ring → Completes (fun dt => .dmaBurst dt b false) [.evr, .qdm, .str]
    [(reg wQDM (0x1014 + 0x40 * q), 1), (reg wQDM 0, 2), (reg wSTR 0, 0), (reg wSTR 0, 2)]
    (fun s => s.works wQDM ∧ s.burstQueue = some q ∧ s.qClass q = 5 ∧ s.headDesc q = d ∧ (s.queue q).xfer = none ∧ s.descCheck q d = none ∧
      a = d.addr ∧ (if b = true then c = .memErr else s.refusedFor q a false = some c))
    (fun s t => (t.queue q).parked = true ∧ (t.queue q).cause = c.code ∧ (t.queue q).faultAddr = a ∧ (t.queue q).offset = 0 ∧
      (t.queue q).head = (s.queue q).head ∧ t.raised (reg wQDM 0) 2 ∧ t.raised (reg wQDM (0x1014 + 0x40 * q)) 1 ∧
      (s.qEngine q = false → s.isRunning tQUEUE q = true → t.hst tQUEUE q = .faulted ∧ t.raised (reg wSTR 0) 2) ∧
      (s.qEngine q = true → t.str = s.str) ∧
      (∀ k, k ≠ q → t.queue k = s.queue k) ∧ t.qdm = { s.qdm with queues := t.qdm.queues, turn := q }))
  ∧ (∀ (q : Nat) (b : Bool), Completes (fun dt => .dmaBurst dt b true) [.evr, .qdm, .str]
    [(reg wQDM (0x1014 + 0x40 * q), 1), (reg wQDM 0, 2), (reg wSTR 0, 0), (reg wSTR 0, 2)]
    (fun s => s.works wQDM ∧ s.burstQueue = some q ∧ (s.qClass q = 3 ∨ s.qClass q = 5) ∧ (s.queue q).xfer = none)
    (fun s t => (t.queue q).parked = true ∧ (t.queue q).cause = 4 ∧ (t.queue q).faultAddr = s.descAddr q (s.queue q).head ∧
      (t.queue q).offset = 0 ∧ (t.queue q).head = (s.queue q).head ∧ t.raised (reg wQDM 0) 2 ∧
      t.raised (reg wQDM (0x1014 + 0x40 * q)) 1 ∧
      (s.qEngine q = false → s.isRunning tQUEUE q = true → t.hst tQUEUE q = .faulted ∧ t.raised (reg wSTR 0) 2) ∧
      (s.qEngine q = true → t.str = s.str) ∧
      (∀ k, k ≠ q → t.queue k = s.queue k) ∧ t.qdm = { s.qdm with queues := t.qdm.queues, turn := q }))
  ∧ (∀ (q n p : Nat) (d : Desc), Completes (fun dt => .dmaBurst dt false false) [.qdm]
    []
    (fun s => s.works wQDM ∧ s.burstQueue = some q ∧ s.qClass q = 3 ∧ s.engPay q (s.queue q).head = none ∧ s.headDesc q = d ∧
      (s.queue q).xfer = none ∧ s.descCheck q d = none ∧ n = State.burstLen d.addr d.len ∧ (s.translate q d.addr false).toOption = some p)
    (fun s t => t.queue q = (if d.len ≤ n then { s.queue q with xfer := none, held := some { octets := s.bytes p n } }
        else { s.queue q with xfer := some { offset := n, data := s.bytes p n } }) ∧
      (∀ k, k ≠ q → t.queue k = s.queue k) ∧ t.qdm = { s.qdm with queues := t.qdm.queues, turn := q }))
  ∧ (∀ (b r : Bool), Completes (fun dt => .dmaBurst dt b r) []
    []
    (fun s => s.burstQueue = none)
    (fun s t => t = s))

/-- A fetched frame starts on the wire of a port that is up and enabled, padded to 60 octets and with the time inserted that ONESTEP asks for; its queue's completion is due, and a requested timestamp is queued. A frame received with a wrong FCS sets the port's event bit; one for another address is ignored; a handoff datagram enters the wave engine's FIFO; any other is posted to the running ERX queue that takes its priority, or is counted as dropped. A link comes up at a speed that the port advertises, and a link change has its event bit. Everything else stays. -/
def Obligations.EthernetPorts : Prop :=
  (∀ (p q : Nat), p < 2 → Completes (fun dt => .ethTransmit dt p) [.eth0, .eth1, .evr, .qdm, .tbs]
    [(reg wTBS 0, 12)]
    (fun s => s.works (State.wETH p) ∧ s.ethF p 0x004 0 0 = 1 ∧ (s.ethOf p).up = true ∧ s.etxNext p = some q)
    (fun s t => (t.ethOf p) = { s.ethOf p with
        lastTx := (s.queue q).held.map (fun h =>
          s.oneStep p (fit (max 60 h.octets.length) h.octets) (s.tbs.stampAt (s.raw + s.tslatTx p)).corr) } ∧
      t.ethOf (1 - p) = s.ethOf (1 - p) ∧ t.queue q = { s.queue q with done := some (0, (s.headDesc q).len, 0) } ∧
      (∀ k, k ≠ q → t.queue k = s.queue k) ∧ t.qdm = { s.qdm with queues := t.qdm.queues } ∧
      ((s.headDesc q).tsReq = false → t.tbs = s.tbs) ∧
      ((s.headDesc q).tsReq = true → (s.tsq (5 + p)).entries.length < 16 → s.tbs.tsqs.length = 7 →
        (t.tsq (5 + p)).entries.getLast?.map (fun e => (e.tag, e.queue, e.stamp)) =
          some ((s.headDesc q).tag, q, s.tbs.stampAt (s.raw + s.tslatTx p)))))
  ∧ (∀ (p : Nat), p < 2 → Completes (fun dt => .ethTransmit dt p) []
    []
    (fun s => s.ethF p 0x004 0 0 = 0 ∨ (s.ethOf p).up = false ∨ s.etxNext p = none)
    (fun s t => t = s))
  ∧ (∀ (p x y : Nat) (f : List Byte), p < 2 → Completes (fun dt => .ethFrameReceive dt p x y false f) [.evr]
    [(reg (State.wETH p) 0, 1)]
    (fun s => s.works (State.wETH p) ∧ s.ethF p 0x004 1 1 = 1 ∧ (s.ethOf p).up = true)
    (fun _ t => t.raised (reg (State.wETH p) 0) 1))
  ∧ (∀ (p x y : Nat) (b : Bool) (f : List Byte), p < 2 → Completes (fun dt => .ethFrameReceive dt p x y b f) []
    []
    (fun s => s.ethF p 0x004 1 1 = 0 ∨ (s.ethOf p).up = false ∨ (b = true ∧ s.ethDstOk p f = false))
    (fun s t => t = s))
  ∧ (∀ (p x y : Nat) (f g h : List Byte), p < 2 → Completes (fun dt => .ethFrameReceive dt p x y true f) [.wav]
    []
    (fun s => s.works (State.wETH p) ∧ s.ethF p 0x004 1 1 = 1 ∧ (s.ethOf p).up = true ∧ s.ethDstOk p f = true ∧
      s.waveDatagram p f = some (g, h) ∧ s.wav.fifo.length < 48)
    (fun s t => t.wav = { s.wav with
        fifo := s.wav.fifo ++ [.datagram g (x - s.tslatRx p) (s.tbs.corrNs (x - s.tslatRx p)) h],
        fifoMax := max s.wav.fifoMax (s.wav.fifo.length + 1) }))
  ∧ (∀ (p x y q : Nat) (f : List Byte), p < 2 → Completes (fun dt => .ethFrameReceive dt p x y true f) [.evr, .qdm]
    [(reg wQDM (0x1014 + 0x40 * q), 3)]
    (fun s => s.works (State.wETH p) ∧ s.ethF p 0x004 1 1 = 1 ∧ (s.ethOf p).up = true ∧ s.ethDstOk p f = true ∧
      s.waveDatagram p f = none ∧ (s.erxQueues p (ethPcp f)).find? s.qRuns = some q)
    (fun s t => (∀ k, k ≠ q → t.queue k = s.queue k) ∧ t.qdm = { s.qdm with queues := t.qdm.queues } ∧
      (if (s.queue q).parked = false ∧ (s.queue q).rx.length < s.qCount q then
        t.queue q = { s.queue q with
          rx := (s.queue q).rx ++ [{ header := s.rxHeader (x - s.tslatRx p) y p 0 0, frame := f, foreign := false }] }
       else t.queue q = { s.queue q with nobuf := min 65535 ((s.queue q).nobuf + 1) } ∧
        t.raised (reg wQDM (0x1014 + 0x40 * q)) 3)))
  ∧ (∀ (p x y : Nat) (f : List Byte), p < 2 → Completes (fun dt => .ethFrameReceive dt p x y true f) [.qdm]
    []
    (fun s => s.works (State.wETH p) ∧ s.ethF p 0x004 1 1 = 1 ∧ (s.ethOf p).up = true ∧ s.ethDstOk p f = true ∧
      s.waveDatagram p f = none ∧ s.erxQueues p (ethPcp f) = [])
    (fun s t => t.qdm = (if p = 0 then { s.qdm with erxDrop0 := min 65535 (s.qdm.erxDrop0 + 1) }
        else { s.qdm with erxDrop1 := min 65535 (s.qdm.erxDrop1 + 1) })))
  ∧ (∀ (p v : Nat) (b : Bool), p < 2 → Completes (fun dt => .ethLinkChange dt p b v) [.eth0, .eth1, .evr]
    [(reg (State.wETH p) 0, 0)]
    (fun s => s.works (State.wETH p))
    (fun s t => t.ethOf p = { s.ethOf p with
        up := b && s.advertised p v, speed := if b = true ∧ s.advertised p v = true then v else 0 } ∧
      t.ethOf (1 - p) = s.ethOf (1 - p) ∧ (t.ethOf p ≠ s.ethOf p → t.raised (reg (State.wETH p) 0) 0) ∧ (t.ethOf p = s.ethOf p → t = s) ∧
      (s.advertised p v = true ↔ (v = 1000 ∧ s.ethF p 0x004 4 4 = 1) ∨ (v = 100 ∧ s.ethF p 0x004 3 3 = 1) ∨ (v = 10 ∧ s.ethF p 0x004 2 2 = 1))))

/-- A step of a state with a command at the front of its queue is that command's effect on the state with the queue's rest; with an empty queue the module idles (the model's own queue and choice: log entry 1). -/
def Obligations.StepRunsFront : Prop :=
  ((∀ (c : Instr) (s : State), step { s with pending := c :: s.pending } = exec c s) ∧ ∀ s : State, s.pending = [] → step s = .next s)

/-- In the state after reset, with no image and the fuses of variant E: LTB_SILENTTIME, SCN_DERATE, SCN_MARGIN, SCN_DAY, SCN_ASTRO1, MST_DIAG, MTR_CHECK, ACC_CFG, each lane's PHYCFG and TIMING, TBS_ADJRES and SYS_PWRSTAT read as the Reset columns of the spec's field tables give them; no command waits and no byte of memory is listed (unlisted bytes read 0: the model's choice). -/
def Obligations.ResetValues : Prop :=
  ((∀ x ∈ [(reg wLTB 0x020, (600 : Word)), (reg wSCN 0x00C, 0x001A1455), (reg wSCN 0x010, 0x0A0107D0), (reg wSCN 0x014, 720),
      (reg wSCN 0x01C, 0x016804B0), (reg wMST 0x004, 0x0A0A1403), (reg wMTR 0x004, 0x0A1401F4), (reg wACC 0x004, 0x005A0F03),
      (reg wTBS 0x04C, 0x80000000), (reg wSYS 0x044, 0x00000802)], State.reset.view x.1 = x.2) ∧
    (∀ n, n < 4 → State.reset.view (reg wLNE (lneOff n 0x008)) = 0x33080000 ∧ State.reset.view (reg wLNE (lneOff n 0x010)) = 0x27100064) ∧
    State.reset.pending = [] ∧ State.reset.mem = [])

/-- The memory after reset has its canonical form (the model's own, log entry on memory), the Weir is within its bounds, the wave engine's FIFO holds at most 48 inputs, and each of the seven transmit-timestamp queues at most 16 entries. -/
def Obligations.InvariantsAtReset : Prop :=
  (Memory.wf State.reset.mem ∧ weirOk State.reset.evr.weir ∧ State.reset.wav.fifo.length ≤ 48 ∧
    State.reset.tbs.tsqs.length = 7 ∧ ∀ q ∈ State.reset.tbs.tsqs, q.entries.length ≤ 16)

/-- Whatever the state, every command answers a next state with the same waiting commands; only a plain access of a bus master to an address that is neither in the register space nor in the retained SRAM nor wholly in memory faults instead (the spec gives no device there: the model's choice), and nothing is ever refused. -/
def Obligations.EveryCommandAnswers : Prop :=
  (∀ (c : Instr) (s : State),
    (∃ t, exec c s = .next t ∧ t.pending = s.pending) ∨
      ∃ a n, plainAccess c = some (a, n) ∧ State.memSpan a n = false ∧ exec c s = .fault (.noMemory a))

/-- Whatever command is at the front of the queue, in whatever state, the fuses that name the variant and the module's addresses are the same after the step. -/
def Obligations.VariantFixed : Prop :=
  (∀ s t : State, step s = .next t →
    t.sys.fuses.variantU = s.sys.fuses.variantU ∧ t.sys.fuses.eui = s.sys.fuses.eui ∧ t.sys.fuses.mac0 = s.sys.fuses.mac0 ∧
      t.sys.fuses.mac1 = s.sys.fuses.mac1)

/-- From every state whose memory has its canonical form, a step leaves it in that form: addresses strictly rising, each of them a byte of a memory the spec gives, and no entry equal to what an unlisted byte reads as (the form is the model's own). -/
def Obligations.MemoryCanonical : Prop :=
  (∀ s t : State, Memory.wf s.mem → step s = .next t → Memory.wf t.mem)

/-- From every state in which they hold, a step leaves at most 28 entries of the Weir taken by any source and at most 4 by the KEY and FLT sources beyond them, at most 48 inputs in the wave engine's FIFO, and at most 16 entries in each transmit-timestamp queue. -/
def Obligations.QueuesBounded : Prop :=
  (∀ s t : State, step s = .next t →
    (weirOk s.evr.weir → weirOk t.evr.weir) ∧ (s.wav.fifo.length ≤ 48 → t.wav.fifo.length ≤ 48) ∧
      ((∀ q ∈ s.tbs.tsqs, q.entries.length ≤ 16) → ∀ q ∈ t.tbs.tsqs, q.entries.length ≤ 16))

/-- Whatever command is at the front of the queue, in whatever state, UPD_SECVER's stored version is at least as high after the step as before it. -/
def Obligations.SecurityVersionNeverFalls : Prop :=
  (∀ s t : State, step s = .next t → s.upd.secver ≤ t.upd.secver)
end

