-- ==== Sys2Proof/Laws/State.lean ====
section
/-! SUPPORT. Tables, memory and the named updates of the state: what each reads back. -/

namespace Sys2Proof.Laws
open Sys2Proof Sys2Proof.Machine

/-! ## Tables -/

theorem tabGet_tabSet {α : Type} (k j : Nat) (v : α) :
    ∀ l : List (Nat × α), tabGet (tabSet l k v) j = if j = k then some v else tabGet l j
  | [] => by simp only [tabSet, tabGet]; split <;> split <;> simp_all
  | (a, b) :: r => by
    have ih := tabGet_tabSet k j v r
    by_cases hj : j = k
    · subst hj
      rw [if_pos rfl]
      rw [if_pos rfl] at ih
      unfold tabSet
      split
      · simp only [tabGet, if_true]
      · split
        · simp only [tabGet, if_true]
        · rename_i h1 h2
          simp only [tabGet, ih, if_neg (Ne.symm h2)]
    · rw [if_neg hj]
      rw [if_neg hj] at ih
      have hk : k ≠ j := Ne.symm hj
      unfold tabSet
      split
      · simp only [tabGet, if_neg hk]
      · split
        · rename_i h; subst h; simp only [tabGet, if_neg hk]
        · simp only [tabGet, ih]

theorem tabGet_tabDel {α : Type} (k j : Nat) :
    ∀ l : List (Nat × α), tabGet (tabDel l k) j = if j = k then none else tabGet l j
  | [] => by simp [tabDel, tabGet]
  | (a, b) :: r => by
    have ih := tabGet_tabDel k j r
    simp only [tabDel] at ih
    simp only [tabDel, List.filter_cons]
    split
    · simp only [tabGet, ih]; split <;> split <;> simp_all
    · simp only [tabGet, ih]; split <;> (try split) <;> simp_all

/-- A table reads back what was listed for a key, and other keys read as before. -/
theorem tabGetD_tabPut {α : Type} [DecidableEq α] (d : α) (l : List (Nat × α)) (k j : Nat) (v : α) :
    tabGetD d (tabPut d l k v) j = if j = k then v else tabGetD d l j := by
  unfold tabGetD tabPut
  split
  · rename_i h; subst h; rw [tabGet_tabDel]; split <;> rfl
  · rw [tabGet_tabSet]; split <;> rfl

/-! ## Memory -/

/-- Read after write: the byte written, and every other byte as before (R526). -/
theorem byte_setByte (s : State) (a b : Nat) (v : Byte) (h : State.isMem a = true) :
    (s.setByte a v).byte b = if b = a then v else s.byte b := by
  simp only [State.setByte, h, if_true, State.byte, tabGetD_tabPut]

/-- A write to an address that is no memory changes nothing. -/
theorem setByte_noMem (s : State) (a : Nat) (v : Byte) (h : State.isMem a = false) : s.setByte a v = s := by
  simp [State.setByte, h]

/-- A byte outside the bytes written reads as before. -/
theorem byte_setBytes_out (l : List Byte) (s : State) (a b : Nat) (h : b < a ∨ a + l.length ≤ b) :
    (s.setBytes a l).byte b = s.byte b := by
  induction l generalizing s a with
  | nil => rfl
  | cons v r ih =>
    simp only [List.length_cons] at h
    rw [State.setBytes, ih _ _ (by omega)]
    cases hm : State.isMem a
    · rw [setByte_noMem _ _ _ hm]
    · rw [byte_setByte _ _ _ _ hm, if_neg (by omega)]

/-! ## Named updates -/

@[simp] theorem raw_after (s : State) (dt : Nat) : (s.after dt).raw = (s.cyc + dt) / 2 := rfl

/-- Time passes in a module with its supply. -/
theorem elapse_after {s : State} (h : s.powered = true) (dt : Nat) : s.elapse dt = s.after dt := by
  simp [State.elapse, State.after, h]

@[simp] theorem powered_after (s : State) (dt : Nat) : (s.after dt).powered = s.powered := rfl

/-- An occurrence acts in a module with its supply. -/
theorem occur_powered {s : State} (h : s.powered = true) (dt : Nat) (k : State → State) :
    s.occur dt k = k (s.after dt) := by
  simp only [State.occur, elapse_after h, powered_after, h, if_true]

/-- An occurrence acts in a block that works. -/
theorem occurIn_works {s : State} {w dt : Nat} (h : (s.after dt).works w) (k : State → State) :
    s.occurIn dt w k = k (s.after dt) := by
  obtain ⟨h1, h2, h3⟩ := h
  unfold State.occurIn
  rw [occur_powered (show s.powered = true from h1)]
  simp only [h2, h3, Bool.not_false, Bool.and_self, if_true]

theorem intervene_closed {s : State} {w : Nat} (v : Nat) (h : s.openPair w = none) : s.intervene w v = s := by
  simp only [State.intervene, State.expirePair, h]

/-- An access that the fabric lets through runs its row on the state with a clear answer. -/
theorem access_lets {s : State} {m a : Nat} (h : s.lets m a) (w : Bool) (k : State → State) :
    s.access m a w k = k (s.answer 0 false) := by
  obtain ⟨h1, h2, h3⟩ := h
  simp only [State.access, h1, h2, Bool.not_true, Bool.false_eq_true, if_false, ne_eq, not_true_eq_false]
  cases hw : windowOf a with
  | none => simp only [State.errCause, hw] at h2; split at h2 <;> contradiction
  | some w =>
    simp only [Option.getD_some, intervene_closed _ (h3 w hw), ite_self]

/-- A word of the bank reads back what was put there, and every other word as before. -/
theorem cfgWord_putCfg (s : State) (a b : Nat) (w : PWord) :
    (s.putCfg a w).cfgWord b = if b = a then w else s.cfgWord b := by
  simp only [State.cfgWord, State.putCfg]
  split
  · rename_i h; subst h; rw [tabGetD_tabPut]; simp
  · by_cases h : regReset s.sys.fuses b = regReset s.sys.fuses a
    · rw [h, tabGetD_tabPut]; simp_all
    · unfold tabGetD tabPut; split <;> simp_all [tabGet_tabDel, tabGet_tabSet]

@[simp] theorem sound_value (v : Word) : (sound v).value = v := rfl

/-- A register reads back what was stored, and every other register as before. -/
theorem cfg_setCfg (s : State) (a b : Nat) (v : Word) : (s.setCfg a v).cfg b = if b = a then v else s.cfg b := by
  simp only [State.cfg, State.setCfg, cfgWord_putCfg]
  split <;> rfl

/-- A store sets the parity of the register it stores, and of no other (R114). -/
theorem cfgWord_setCfg (s : State) (a b : Nat) (v : Word) :
    (s.setCfg a v).cfgWord b = if b = a then sound v else s.cfgWord b := cfgWord_putCfg s a b _

/-- A refused write leaves every register's value as it was (R109). -/
@[simp] theorem cfg_refreshCfg (s : State) (a b : Nat) : (s.refreshCfg a).cfg b = s.cfg b := by
  unfold State.refreshCfg
  split
  · rw [cfg_setCfg]; split
    · rename_i h; rw [h]
    · rfl
  · rfl

/-- An active copy reads back what was put there, and every other one as before. -/
theorem actWord_putAct (s : State) (a b : Nat) (w : PWord) :
    (s.putAct a w).actWord b = if b = a then w else s.actWord b := by
  simp only [State.actWord, State.putAct]
  split
  · rename_i h; subst h; rw [tabGetD_tabPut]; simp
  · by_cases h : regReset s.sys.fuses b = regReset s.sys.fuses a
    · rw [h, tabGetD_tabPut]; simp_all
    · unfold tabGetD tabPut; split <;> simp_all [tabGet_tabDel, tabGet_tabSet]

/-- Handles read back what was stored. -/
theorem handle_setHandle (s : State) (t i t' i' : Nat) (h : Handle) (hi : i < 65536) (hi' : i' < 65536) :
    (s.setHandle t i h).handle t' i' = if t' = t ∧ i' = i then h else s.handle t' i' := by
  simp only [State.handle, State.setHandle, tabGetD_tabPut, State.hkey]
  by_cases e : t' = t ∧ i' = i
  · obtain ⟨rfl, rfl⟩ := e; simp
  · rw [if_neg e, if_neg (by omega)]

/-- A status register reads back what was stored. -/
theorem statOf_setStat (s : State) (a b : Nat) (r : StatReg) :
    (s.setStat a r).statOf b = if b = a then r else s.statOf b := by
  simp only [State.statOf, State.setStat]
  rw [tabGetD_tabPut]

@[simp] theorem answer_reply (s : State) (v : Word) (e : Bool) :
    (s.answer v e).regs.reply = { data := v, error := e } := rfl
@[simp] theorem after_cyc (s : State) (dt : Nat) : (s.after dt).cyc = s.cyc + dt := rfl

end Sys2Proof.Laws
end

