-- ==== Sys2Proof/Laws/Frame.lean ====
section
/-! SUPPORT. What every operation of the module leaves unchanged: one lemma `frame_<operation>` for each, with the
pieces of the state and the event bits that the operation may change. -/

namespace Sys2Proof.Laws
open Sys2Proof Sys2Proof.Machine
set_option linter.all false


/-- No change at all. -/
theorem frame_refl {L : List Piece} {F : List (Nat × Nat)} (s : State) : Frame L F s s :=
  ⟨fun p _ _ => by cases p <;> simp [Piece.same], fun _ _ _ _ _ => Iff.rfl⟩

theorem same_trans {r s t : State} {p : Piece} (a : p.same r s) (b : p.same s t) : p.same r t := by
  cases p
  case stat => exact fun x y => (b x y).trans (a x y)
  case mem => exact fun x => (b x).trans (a x)
  all_goals exact Eq.trans b a

/-- One change after another. -/
theorem frame_trans {L : List Piece} {F : List (Nat × Nat)} {r s t : State} (a : Frame L F r s) (b : Frame L F s t) :
    Frame L F r t :=
  ⟨fun p h1 h2 => same_trans (a.parts p h1 h2) (b.parts p h1 h2),
   fun h1 x y h2 h3 => (b.flags h1 x y h2 h3).trans (a.flags h1 x y h2 h3)⟩

/-- A frame with more pieces and bits says less. -/
theorem frame_mono {L L' : List Piece} {F F' : List (Nat × Nat)} {s t : State} (h : Frame L F s t) (hL : L ⊆ L')
    (hF : F ⊆ F') : Frame L' F' s t :=
  ⟨fun p h1 h2 => h.parts p (fun a => h1 (hL a)) h2,
   fun h1 x y h2 h3 => h.flags (fun a => h1 (hL a)) x y (fun a => h2 (hF a)) (fun a => h3 ⟨a.1, hL a.2⟩)⟩

theorem raised_congr {s t : State} (h : t.regs.stat = s.regs.stat) (a i : Nat) : t.raised a i ↔ s.raised a i := by
  simp only [State.raised, State.statOf, h]

/-- `Frame`, of a state built field by field. -/
def FBuilt (L : List Piece) (F : List (Nat × Nat)) (z t : State) : Prop := Frame L F z t

theorem frame_mk {L : List Piece} {F : List (Nat × Nat)} {z : State} {cyc freeCtr regs str ltb scn wav mst mtr acc
    lne qdm tbs eth0 eth1 rtc evr key upd usb sys flt pin mem pending} :
    Frame L F z (State.mk cyc freeCtr regs str ltb scn wav mst mtr acc lne qdm tbs eth0 eth1 rtc evr key upd usb
      sys flt pin mem pending)
    = FBuilt L F z (State.mk cyc freeCtr regs str ltb scn wav mst mtr acc lne qdm tbs eth0 eth1 rtc evr key upd usb
      sys flt pin mem pending) := rfl

/-- An update of units: the pieces outside the list are as they were. -/
theorem fbuilt {L : List Piece} {F : List (Nat × Nat)} {z s : State} {cyc freeCtr regs str ltb scn wav mst mtr acc
    lne qdm tbs eth0 eth1 rtc evr key upd usb sys flt pin mem} (h : Frame L F z s)
    (hs : regs.stat = s.regs.stat)
    (hp : ∀ p, p ∉ L → p ≠ .stat → p.same s (State.mk cyc freeCtr regs str ltb scn wav mst mtr acc lne qdm tbs eth0
      eth1 rtc evr key upd usb sys flt pin mem s.pending)) :
    FBuilt L F z (State.mk cyc freeCtr regs str ltb scn wav mst mtr acc lne qdm tbs eth0 eth1 rtc evr key upd usb
      sys flt pin mem s.pending) :=
  frame_trans h ⟨hp, fun _ a i _ _ => raised_congr hs a i⟩

/-! ## Updates of one unit -/

theorem fset_cyc {L : List Piece} {F : List (Nat × Nat)} {z s : State} {x} (h : Frame L F z s)
    (hL : .cyc ∈ L) : FBuilt L F z { s with cyc := x } :=
  fbuilt h rfl (by intro p h1 h2; cases p; (case cyc => exact absurd hL h1); (case stat => exact absurd rfl h2); all_goals (first | rfl | exact fun _ => rfl))

theorem fset_freeCtr {L : List Piece} {F : List (Nat × Nat)} {z s : State} {x} (h : Frame L F z s)
    (hL : .free ∈ L) : FBuilt L F z { s with freeCtr := x } :=
  fbuilt h rfl (by intro p h1 h2; cases p; (case free => exact absurd hL h1); (case stat => exact absurd rfl h2); all_goals (first | rfl | exact fun _ => rfl))

theorem fset_str {L : List Piece} {F : List (Nat × Nat)} {z s : State} {x} (h : Frame L F z s)
    (hL : .str ∈ L) : FBuilt L F z { s with str := x } :=
  fbuilt h rfl (by intro p h1 h2; cases p; (case str => exact absurd hL h1); (case stat => exact absurd rfl h2); all_goals (first | rfl | exact fun _ => rfl))

theorem fset_ltb {L : List Piece} {F : List (Nat × Nat)} {z s : State} {x} (h : Frame L F z s)
    (hL : .ltb ∈ L) : FBuilt L F z { s with ltb := x } :=
  fbuilt h rfl (by intro p h1 h2; cases p; (case ltb => exact absurd hL h1); (case stat => exact absurd rfl h2); all_goals (first | rfl | exact fun _ => rfl))

theorem fset_scn {L : List Piece} {F : List (Nat × Nat)} {z s : State} {x} (h : Frame L F z s)
    (hL : .scn ∈ L) : FBuilt L F z { s with scn := x } :=
  fbuilt h rfl (by intro p h1 h2; cases p; (case scn => exact absurd hL h1); (case stat => exact absurd rfl h2); all_goals (first | rfl | exact fun _ => rfl))

theorem fset_wav {L : List Piece} {F : List (Nat × Nat)} {z s : State} {x} (h : Frame L F z s)
    (hL : .wav ∈ L) : FBuilt L F z { s with wav := x } :=
  fbuilt h rfl (by intro p h1 h2; cases p; (case wav => exact absurd hL h1); (case stat => exact absurd rfl h2); all_goals (first | rfl | exact fun _ => rfl))

theorem fset_mst {L : List Piece} {F : List (Nat × Nat)} {z s : State} {x} (h : Frame L F z s)
    (hL : .mst ∈ L) : FBuilt L F z { s with mst := x } :=
  fbuilt h rfl (by intro p h1 h2; cases p; (case mst => exact absurd hL h1); (case stat => exact absurd rfl h2); all_goals (first | rfl | exact fun _ => rfl))

theorem fset_mtr {L : List Piece} {F : List (Nat × Nat)} {z s : State} {x} (h : Frame L F z s)
    (hL : .mtr ∈ L) : FBuilt L F z { s with mtr := x } :=
  fbuilt h rfl (by intro p h1 h2; cases p; (case mtr => exact absurd hL h1); (case stat => exact absurd rfl h2); all_goals (first | rfl | exact fun _ => rfl))

theorem fset_acc {L : List Piece} {F : List (Nat × Nat)} {z s : State} {x} (h : Frame L F z s)
    (hL : .acc ∈ L) : FBuilt L F z { s with acc := x } :=
  fbuilt h rfl (by intro p h1 h2; cases p; (case acc => exact absurd hL h1); (case stat => exact absurd rfl h2); all_goals (first | rfl | exact fun _ => rfl))

theorem fset_lne {L : List Piece} {F : List (Nat × Nat)} {z s : State} {x} (h : Frame L F z s)
    (hL : .lne ∈ L) : FBuilt L F z { s with lne := x } :=
  fbuilt h rfl (by intro p h1 h2; cases p; (case lne => exact absurd hL h1); (case stat => exact absurd rfl h2); all_goals (first | rfl | exact fun _ => rfl))

theorem fset_qdm {L : List Piece} {F : List (Nat × Nat)} {z s : State} {x} (h : Frame L F z s)
    (hL : .qdm ∈ L) : FBuilt L F z { s with qdm := x } :=
  fbuilt h rfl (by intro p h1 h2; cases p; (case qdm => exact absurd hL h1); (case stat => exact absurd rfl h2); all_goals (first | rfl | exact fun _ => rfl))

theorem fset_tbs {L : List Piece} {F : List (Nat × Nat)} {z s : State} {x} (h : Frame L F z s)
    (hL : .tbs ∈ L) : FBuilt L F z { s with tbs := x } :=
  fbuilt h rfl (by intro p h1 h2; cases p; (case tbs => exact absurd hL h1); (case stat => exact absurd rfl h2); all_goals (first | rfl | exact fun _ => rfl))

theorem fset_eth0 {L : List Piece} {F : List (Nat × Nat)} {z s : State} {x} (h : Frame L F z s)
    (hL : .eth0 ∈ L) : FBuilt L F z { s with eth0 := x } :=
  fbuilt h rfl (by intro p h1 h2; cases p; (case eth0 => exact absurd hL h1); (case stat => exact absurd rfl h2); all_goals (first | rfl | exact fun _ => rfl))

theorem fset_eth1 {L : List Piece} {F : List (Nat × Nat)} {z s : State} {x} (h : Frame L F z s)
    (hL : .eth1 ∈ L) : FBuilt L F z { s with eth1 := x } :=
  fbuilt h rfl (by intro p h1 h2; cases p; (case eth1 => exact absurd hL h1); (case stat => exact absurd rfl h2); all_goals (first | rfl | exact fun _ => rfl))

theorem fset_rtc {L : List Piece} {F : List (Nat × Nat)} {z s : State} {x} (h : Frame L F z s)
    (hL : .rtc ∈ L) : FBuilt L F z { s with rtc := x } :=
  fbuilt h rfl (by intro p h1 h2; cases p; (case rtc => exact absurd hL h1); (case stat => exact absurd rfl h2); all_goals (first | rfl | exact fun _ => rfl))

theorem fset_evr {L : List Piece} {F : List (Nat × Nat)} {z s : State} {x} (h : Frame L F z s)
    (hL : .evr ∈ L) : FBuilt L F z { s with evr := x } :=
  fbuilt h rfl (by intro p h1 h2; cases p; (case evr => exact absurd hL h1); (case stat => exact absurd rfl h2); all_goals (first | rfl | exact fun _ => rfl))

theorem fset_key {L : List Piece} {F : List (Nat × Nat)} {z s : State} {x} (h : Frame L F z s)
    (hL : .key ∈ L) : FBuilt L F z { s with key := x } :=
  fbuilt h rfl (by intro p h1 h2; cases p; (case key => exact absurd hL h1); (case stat => exact absurd rfl h2); all_goals (first | rfl | exact fun _ => rfl))

theorem fset_upd {L : List Piece} {F : List (Nat × Nat)} {z s : State} {x} (h : Frame L F z s)
    (hL : .upd ∈ L) : FBuilt L F z { s with upd := x } :=
  fbuilt h rfl (by intro p h1 h2; cases p; (case upd => exact absurd hL h1); (case stat => exact absurd rfl h2); all_goals (first | rfl | exact fun _ => rfl))

theorem fset_usb {L : List Piece} {F : List (Nat × Nat)} {z s : State} {x} (h : Frame L F z s)
    (hL : .usb ∈ L) : FBuilt L F z { s with usb := x } :=
  fbuilt h rfl (by intro p h1 h2; cases p; (case usb => exact absurd hL h1); (case stat => exact absurd rfl h2); all_goals (first | rfl | exact fun _ => rfl))

theorem fset_sys {L : List Piece} {F : List (Nat × Nat)} {z s : State} {x} (h : Frame L F z s)
    (hL : .sys ∈ L) : FBuilt L F z { s with sys := x } :=
  fbuilt h rfl (by intro p h1 h2; cases p; (case sys => exact absurd hL h1); (case stat => exact absurd rfl h2); all_goals (first | rfl | exact fun _ => rfl))

theorem fset_flt {L : List Piece} {F : List (Nat × Nat)} {z s : State} {x} (h : Frame L F z s)
    (hL : .flt ∈ L) : FBuilt L F z { s with flt := x } :=
  fbuilt h rfl (by intro p h1 h2; cases p; (case flt => exact absurd hL h1); (case stat => exact absurd rfl h2); all_goals (first | rfl | exact fun _ => rfl))

theorem fset_pin {L : List Piece} {F : List (Nat × Nat)} {z s : State} {x} (h : Frame L F z s)
    (hL : .pin ∈ L) : FBuilt L F z { s with pin := x } :=
  fbuilt h rfl (by intro p h1 h2; cases p; (case pin => exact absurd hL h1); (case stat => exact absurd rfl h2); all_goals (first | rfl | exact fun _ => rfl))

theorem fset_cfg {L : List Piece} {F : List (Nat × Nat)} {z s : State} {x} (h : Frame L F z s)
    (hL : .cfg ∈ L) : FBuilt L F z { s with regs := { s.regs with cfg := x } } :=
  fbuilt h rfl (by intro p h1 h2; cases p; (case cfg => exact absurd hL h1); (case stat => exact absurd rfl h2); all_goals (first | rfl | exact fun _ => rfl))

theorem fset_act {L : List Piece} {F : List (Nat × Nat)} {z s : State} {x} (h : Frame L F z s)
    (hL : .act ∈ L) : FBuilt L F z { s with regs := { s.regs with act := x } } :=
  fbuilt h rfl (by intro p h1 h2; cases p; (case act => exact absurd hL h1); (case stat => exact absurd rfl h2); all_goals (first | rfl | exact fun _ => rfl))

theorem fset_changed {L : List Piece} {F : List (Nat × Nat)} {z s : State} {x} (h : Frame L F z s)
    (hL : .changed ∈ L) : FBuilt L F z { s with regs := { s.regs with changed := x } } :=
  fbuilt h rfl (by intro p h1 h2; cases p; (case changed => exact absurd hL h1); (case stat => exact absurd rfl h2); all_goals (first | rfl | exact fun _ => rfl))

theorem fset_pairs {L : List Piece} {F : List (Nat × Nat)} {z s : State} {x} (h : Frame L F z s)
    (hL : .pairs ∈ L) : FBuilt L F z { s with regs := { s.regs with pairs := x } } :=
  fbuilt h rfl (by intro p h1 h2; cases p; (case pairs => exact absurd hL h1); (case stat => exact absurd rfl h2); all_goals (first | rfl | exact fun _ => rfl))

theorem fset_latch {L : List Piece} {F : List (Nat × Nat)} {z s : State} {x} (h : Frame L F z s)
    (hL : .latch ∈ L) : FBuilt L F z { s with regs := { s.regs with latch := x } } :=
  fbuilt h rfl (by intro p h1 h2; cases p; (case latch => exact absurd hL h1); (case stat => exact absurd rfl h2); all_goals (first | rfl | exact fun _ => rfl))

theorem fset_busErr {L : List Piece} {F : List (Nat × Nat)} {z s : State} {x} (h : Frame L F z s)
    (hL : .busErr ∈ L) : FBuilt L F z { s with regs := { s.regs with busErr := x } } :=
  fbuilt h rfl (by intro p h1 h2; cases p; (case busErr => exact absurd hL h1); (case stat => exact absurd rfl h2); all_goals (first | rfl | exact fun _ => rfl))

theorem fset_reply {L : List Piece} {F : List (Nat × Nat)} {z s : State} {x} (h : Frame L F z s)
    (hL : .reply ∈ L) : FBuilt L F z { s with regs := { s.regs with reply := x } } :=
  fbuilt h rfl (by intro p h1 h2; cases p; (case reply => exact absurd hL h1); (case stat => exact absurd rfl h2); all_goals (first | rfl | exact fun _ => rfl))

theorem fset_parity {L : List Piece} {F : List (Nat × Nat)} {z s : State} {x} (h : Frame L F z s)
    (hL : .parity ∈ L) : FBuilt L F z { s with regs := { s.regs with partestSeen := x } } :=
  fbuilt h rfl (by intro p h1 h2; cases p; (case parity => exact absurd hL h1); (case stat => exact absurd rfl h2); all_goals (first | rfl | exact fun _ => rfl))

theorem frame_foldl {α : Type} {L : List Piece} {F : List (Nat × Nat)} {z : State} {f : State → α → State} {l : List α}
    {s : State} (h : Frame L F z s) (hf : ∀ t x, Frame L F z t → Frame L F z (f t x)) : Frame L F z (l.foldl f s) := by
  induction l generalizing s with
  | nil => exact h
  | cons x r ih => exact ih (hf s x h)

theorem frame_foldl1 {α β : Type} {L : List Piece} {F : List (Nat × Nat)} {z : State} {f : State × β → α → State × β}
    {l : List α} {s : State × β} (h : Frame L F z s.1) (hf : ∀ t x, Frame L F z t.1 → Frame L F z (f t x).1) :
    Frame L F z (l.foldl f s).1 := by
  induction l generalizing s with
  | nil => exact h
  | cons x r ih => exact ih (hf s x h)

theorem frame_ite {L : List Piece} {F : List (Nat × Nat)} {z a b : State} {c : Prop} [Decidable c]
    (ha : Frame L F z a) (hb : Frame L F z b) : Frame L F z (if c then a else b) := by split <;> assumption

theorem frame_ite1 {β : Type} {L : List Piece} {F : List (Nat × Nat)} {z : State} {a b : State × β} {c : Prop}
    [Decidable c] (ha : Frame L F z a.1) (hb : Frame L F z b.1) : Frame L F z (if c then a else b).1 := by
  split <;> assumption

/-! ## Event bits -/

/-- A status register is written: its own event bits are as the new value says, all others stay. -/
theorem frame_setStat {L : List Piece} {F : List (Nat × Nat)} {z s : State} {a : Nat} {r : StatReg}
    (h : Frame L F z s)
    (hr : .stat ∈ L ∨ (a = reg wREC 0 ∧ .evr ∈ L) ∨ ∀ i, (a, i) ∉ F →
      ((r.bits.testBit i = true ∨ ∃ x ∈ r.held, x.bits.testBit i = true) ↔ s.raised a i)) :
    Frame L F z (s.setStat a r) := by
  refine frame_trans h ⟨fun p _ hp => by cases p <;> simp_all [Piece.same, State.setStat, State.byte], fun h1 x i h2 h3 => ?_⟩
  simp only [State.raised, statOf_setStat]
  split
  · rename_i e
    subst e
    rcases hr with hr | hr | hr
    · exact absurd hr h1
    · exact absurd hr h3
    · exact hr i h2
  · rfl

theorem testBit_or_mem {F : List (Nat × Nat)} {a b c i : Nat} (hb : ∀ i, b.testBit i = true → (a, i) ∈ F)
    (hi : (a, i) ∉ F) : (c ||| b).testBit i = c.testBit i := by
  rw [Nat.testBit_or]
  cases h : b.testBit i
  · simp
  · exact absurd (hb i h) hi

theorem frame_setBits {L : List Piece} {F : List (Nat × Nat)} {z s : State} {a b : Nat} (h : Frame L F z s)
    (hb : .stat ∈ L ∨ (a = reg wREC 0 ∧ .evr ∈ L) ∨ ∀ i, b.testBit i = true → (a, i) ∈ F) :
    Frame L F z (s.setBits a b) := by
  unfold State.setBits
  refine frame_setStat h (hb.imp_right (Or.imp_right fun hb i hi => ?_))
  dsimp only
  rw [testBit_or_mem hb hi]
  rfl

theorem frame_joinBits {L : List Piece} {F : List (Nat × Nat)} {z s : State} {a b : Nat} (h : Frame L F z s)
    (hb : .stat ∈ L ∨ (a = reg wREC 0 ∧ .evr ∈ L) ∨ ∀ i, b.testBit i = true → (a, i) ∈ F) :
    Frame L F z (s.joinBits a b) := by
  unfold State.joinBits
  refine frame_setStat h (hb.imp_right (Or.imp_right fun hb i hi => ?_))
  dsimp only
  rw [testBit_or_mem hb hi]
  rfl

theorem frame_holdBits {L : List Piece} {F : List (Nat × Nat)} {z s : State} {a b : Nat} (h : Frame L F z s)
    (hb : .stat ∈ L ∨ (a = reg wREC 0 ∧ .evr ∈ L) ∨ ∀ i, b.testBit i = true → (a, i) ∈ F) :
    Frame L F z (s.holdBits a b) := by
  unfold State.holdBits
  dsimp only
  have no : ∀ {i}, (∀ i, b.testBit i = true → (a, i) ∈ F) → (a, i) ∉ F → b.testBit i = false := fun hb hi => by
    cases e : b.testBit _
    · rfl
    · exact absurd (hb _ e) hi
  cases hl : (s.statOf a).held.getLast? with
  | none =>
    refine frame_setStat h (hb.imp_right (Or.imp_right fun hb i hi => ?_))
    have e : (s.statOf a).held = [] := by simpa using hl
    simp [State.raised, e, no hb hi]
  | some x =>
    have e : (s.statOf a).held = (s.statOf a).held.dropLast ++ [x] := by
      obtain ⟨ys, hy⟩ := List.getLast?_eq_some_iff.1 hl
      simp [hy]
    dsimp only
    split
    · refine frame_setStat h (hb.imp_right (Or.imp_right fun hb i hi => ?_))
      simp only [State.raised]
      conv => rhs; rw [e]
      simp [Nat.testBit_or, no hb hi, or_and_right, exists_or]
    · refine frame_setStat h (hb.imp_right (Or.imp_right fun hb i hi => ?_))
      simp [State.raised, no hb hi, or_and_right, exists_or]


variable {L : List Piece} {F : List (Nat × Nat)} {z s : State}

theorem frame_elapse (dt : Nat) (hk0 : Frame L F z s) (hL : [.cyc] ⊆ L) : Frame L F z (State.elapse s dt) := by
  unfold State.elapse
  try dsimp only
  repeat' first
    | (with_reducible first
      | assumption | apply fset_cyc | apply frame_ite)
    | simp only [frame_mk]
    | split
    | exact hL (by decide)
    | exact List.Subset.trans (by decide) hL

theorem frame_fresh (hk0 : Frame L F z s) (hL : [.free] ⊆ L) : Frame L F z (State.fresh s) :=
  fset_freeCtr hk0 (hL (by decide))

theorem frame_setByte (a : Nat) (b : Byte) (hk0 : Frame L F z s) (hL : [.mem] ⊆ L) : Frame L F z (State.setByte s a b) := by
  unfold State.setByte
  try dsimp only
  repeat' first
    | (with_reducible first
      | assumption | apply fbuilt | apply frame_ite)
    | simp only [frame_mk]
    | split
    | rfl
    | exact hL (by decide)
    | exact List.Subset.trans (by decide) hL
    | (intro p h1 h2; cases p; (case mem => exact absurd (hL (by decide)) h1); (case stat => exact absurd rfl h2); all_goals (first | rfl | exact fun _ => rfl))

theorem frame_setBytes (a : Nat) (x2 : List Byte) (hk0 : Frame L F z s) (hL : [.mem] ⊆ L) : Frame L F z (State.setBytes s a x2) := by
  induction x2 generalizing s a
  · exact hk0
  · rename_i ih
    unfold State.setBytes
    try dsimp only
    repeat' first
      | (with_reducible first
        | assumption | apply ih | apply frame_setByte | apply frame_ite)
      | split
      | exact hL (by decide)
      | exact List.Subset.trans (by decide) hL

theorem frame_setMemLE (a : Nat) (n : Nat) (v : Nat) (hk0 : Frame L F z s) (hL : [.mem] ⊆ L) : Frame L F z (State.setMemLE s a n v) := by
  unfold State.setMemLE
  repeat' first
    | (with_reducible first
      | assumption | apply frame_setBytes)
    | exact hL (by decide)
    | exact List.Subset.trans (by decide) hL

theorem frame_putCfg (a : Nat) (w : PWord) (hk0 : Frame L F z s) (hL : [.cfg] ⊆ L) : Frame L F z (State.putCfg s a w) := by
  unfold State.putCfg
  try dsimp only
  repeat' first
    | (with_reducible first
      | assumption | apply fset_cfg | apply frame_ite)
    | simp only [frame_mk]
    | split
    | exact hL (by decide)
    | exact List.Subset.trans (by decide) hL

theorem frame_setCfg (a : Nat) (v : Word) (hk0 : Frame L F z s) (hL : [.cfg] ⊆ L) : Frame L F z (State.setCfg s a v) := by
  unfold State.setCfg
  repeat' first
    | (with_reducible first
      | assumption | apply frame_putCfg)
    | exact hL (by decide)
    | exact List.Subset.trans (by decide) hL

theorem frame_refreshCfg (a : Nat) (hk0 : Frame L F z s) (hL : [.cfg] ⊆ L) : Frame L F z (State.refreshCfg s a) := by
  unfold State.refreshCfg
  repeat' first
    | (with_reducible first
      | assumption | apply frame_setCfg | apply frame_ite)
    | split
    | exact hL (by decide)
    | exact List.Subset.trans (by decide) hL

theorem frame_putAct (a : Nat) (w : PWord) (hk0 : Frame L F z s) (hL : [.act] ⊆ L) : Frame L F z (State.putAct s a w) :=
  fset_act hk0 (hL (by decide))

theorem frame_setAct (a : Nat) (v : Word) (hk0 : Frame L F z s) (hL : [.act] ⊆ L) : Frame L F z (State.setAct s a v) := by
  unfold State.setAct
  repeat' first
    | (with_reducible first
      | assumption | apply frame_putAct)
    | exact hL (by decide)
    | exact List.Subset.trans (by decide) hL

theorem frame_markChanged (a : Nat) (hk0 : Frame L F z s) (hL : [.changed] ⊆ L) : Frame L F z (State.markChanged s a) :=
  fset_changed hk0 (hL (by decide))

theorem frame_takeUp (c : Nat) (a : Nat) (hk0 : Frame L F z s) (hL : [.act, .changed] ⊆ L) : Frame L F z (State.takeUp s c a) := by
  unfold State.takeUp
  try dsimp only
  repeat' first
    | (with_reducible first
      | assumption | apply frame_setAct | apply fset_changed | apply frame_ite)
    | simp only [frame_mk]
    | split
    | exact hL (by decide)
    | exact List.Subset.trans (by decide) hL

theorem frame_setLatch (a : Nat) (v : Word) (hk0 : Frame L F z s) (hL : [.latch] ⊆ L) : Frame L F z (State.setLatch s a v) :=
  fset_latch hk0 (hL (by decide))

theorem frame_answer (v : Word) (err : Bool) (hk0 : Frame L F z s) (hL : [.reply] ⊆ L) : Frame L F z (State.answer s v err) :=
  fset_reply hk0 (hL (by decide))

theorem frame_answerHi (v : Word) (hk0 : Frame L F z s) (hL : [.reply] ⊆ L) : Frame L F z (State.answerHi s v) :=
  fset_reply hk0 (hL (by decide))

theorem frame_raiseReset (n : Nat) (hk0 : Frame L F z s) (hL : [.sys] ⊆ L) : Frame L F z (State.raiseReset s n) :=
  fset_sys hk0 (hL (by decide))

theorem frame_setHandle (typ : Nat) (idx : Nat) (h0 : Handle) (hk0 : Frame L F z s) (hL : [.str] ⊆ L) : Frame L F z (State.setHandle s typ idx h0) :=
  fset_str hk0 (hL (by decide))

theorem frame_setLane (n : Nat) (f : Lane → Lane) (hk0 : Frame L F z s) (hL : [.lne] ⊆ L) : Frame L F z (State.setLane s n f) :=
  fset_lne hk0 (hL (by decide))

theorem frame_recStore (e : RecEntry) (hk0 : Frame L F z s) (hL : [.evr] ⊆ L) : Frame L F z (State.recStore s e) :=
  fset_evr hk0 (hL (by decide))

theorem frame_recBypass (kind : Nat) (source : Nat) (code : Nat) (payload : List Byte) (hk0 : Frame L F z s) (hL : [.evr] ⊆ L) : Frame L F z (State.recBypass s kind source code payload) := by
  unfold State.recBypass
  repeat' first
    | (with_reducible first
      | assumption | apply frame_recStore)
    | exact hL (by decide)
    | exact List.Subset.trans (by decide) hL

theorem frame_recLoseBy (set : State → Nat → State) (n : Nat) (st : Stamp) (h : Frame L F z s) (hE : .evr ∈ L)
    (hset : ∀ t i, Frame L F z t → Frame L F z (set t i)) : Frame L F z (State.recLoseBy set s n st) :=
  hset _ _ (fset_evr h hE)

theorem frame_weirAdmitBy (set : State → Nat → State) (x : RecEntry) (h : Frame L F z s) (hE : .evr ∈ L)
    (hset : ∀ t i, Frame L F z t → Frame L F z (set t i)) : Frame L F z (State.weirAdmitBy set s x) := by
  unfold State.weirAdmitBy
  split
  · exact fset_evr h hE
  · exact frame_recLoseBy _ _ _ h hE hset

theorem frame_triggerBy (set : State → Nat → State) (n : Nat) (h : Frame L F z s) (hE : .evr ∈ L)
    (hset : ∀ t i, Frame L F z t → Frame L F z (set t i)) : Frame L F z (State.triggerBy set s n) := by
  unfold State.triggerBy
  dsimp only
  repeat' first
    | (with_reducible first
      | assumption | apply hset | apply frame_weirAdmitBy | apply fset_evr | apply frame_ite)
    | simp only [frame_mk] | split

theorem frame_triggerAllBy (set : State → Nat → State) (l : List Nat) (h : Frame L F z s) (hE : .evr ∈ L)
    (hset : ∀ t i, Frame L F z t → Frame L F z (set t i)) : Frame L F z (State.triggerAllBy set s l) := by
  induction l generalizing s with
  | nil => exact h
  | cons n r ih => exact ih (frame_triggerBy set n h hE hset)

/-- The recorder's own event bits: of the status bits, only those of REC_STATUS change. -/
theorem frame_recBitN (n i : Nat) (h : Frame L F z s) (hE : .evr ∈ L) : Frame L F z (State.recBitN n s i) := by
  induction n generalizing s i with
  | zero => exact frame_holdBits h (.inr (.inl ⟨rfl, hE⟩))
  | succ n ih =>
    unfold State.recBitN
    dsimp only
    repeat' first
      | (with_reducible first
        | assumption | apply frame_holdBits | apply frame_triggerAllBy | apply frame_joinBits | apply frame_setBits)
      | exact fun _ _ h => ih _ h | exact .inr (.inl ⟨rfl, hE⟩) | split

theorem frame_recBit (i : Nat) (h : Frame L F z s) (hE : .evr ∈ L) : Frame L F z (s.recBit i) :=
  frame_recBitN 4 i h hE

theorem frame_weirAdmit (x : RecEntry) (h : Frame L F z s) (hE : .evr ∈ L) : Frame L F z (s.weirAdmit x) :=
  frame_weirAdmitBy _ _ h hE fun _ i h => frame_recBit i h hE

theorem frame_trigger (n : Nat) (h : Frame L F z s) (hE : .evr ∈ L) : Frame L F z (s.trigger n) :=
  frame_triggerBy _ _ h hE fun _ i h => frame_recBit i h hE

theorem frame_triggerAll (l : List Nat) (h : Frame L F z s) (hE : .evr ∈ L) : Frame L F z (s.triggerAll l) :=
  frame_triggerAllBy _ _ h hE fun _ i h => frame_recBit i h hE

theorem frame_event (w : Nat) (bitNo : Option Nat) (items : List (List Byte)) (h : Frame L F z s) (hE : .evr ∈ L) :
    Frame L F z (s.event w bitNo items) := frame_weirAdmit _ h hE

theorem frame_postNow {a b : Nat} (h : Frame L F z s) (hE : .evr ∈ L)
    (hb : .stat ∈ L ∨ ∀ i, b.testBit i = true → (a, i) ∈ F) : Frame L F z (s.postNow a b) :=
  frame_triggerAll _ (frame_setBits h (hb.imp_right .inr)) hE

theorem frame_post {a b : Nat} (h : Frame L F z s) (hE : .evr ∈ L)
    (hb : .stat ∈ L ∨ ∀ i, b.testBit i = true → (a, i) ∈ F) : Frame L F z (s.post a b) := by
  have hb' : .stat ∈ L ∨ ∀ i, (b % 2 ^ 24 &&& statMask a).testBit i = true → (a, i) ∈ F :=
    hb.imp_right fun hb i hi => hb i (by
      rw [Nat.testBit_and, Nat.testBit_mod_two_pow] at hi
      simp only [Bool.and_eq_true] at hi
      exact hi.1.2)
  unfold State.post
  dsimp only
  split
  · exact h
  · split
    · exact frame_triggerAll _ (frame_joinBits h (hb'.imp_right .inr)) hE
    · split
      · exact frame_holdBits h (hb'.imp_right .inr)
      · exact frame_postNow h hE hb'

theorem frame_postBit (w i : Nat) (h : Frame L F z s) (hE : .evr ∈ L) (hF : .stat ∈ L ∨ (reg w 0, i) ∈ F) :
    Frame L F z (s.postBit w i) :=
  frame_post h hE (hF.imp_right fun hF j hj => by
    rw [Nat.testBit_two_pow] at hj
    exact of_decide_eq_true hj ▸ hF)

theorem frame_postLane (n i : Nat) (h : Frame L F z s) (hE : .evr ∈ L)
    (hF : .stat ∈ L ∨ (reg wLNE (lneOff n 0), i) ∈ F) : Frame L F z (s.postLane n i) :=
  frame_post h hE (hF.imp_right fun hF j hj => by
    rw [Nat.testBit_two_pow] at hj
    exact of_decide_eq_true hj ▸ hF)

theorem frame_postEvent (w i : Nat) (items : List (List Byte)) (h : Frame L F z s) (hE : .evr ∈ L)
    (hF : .stat ∈ L ∨ (reg w 0, i) ∈ F) : Frame L F z (s.postEvent w i items) :=
  frame_event _ _ _ (frame_postBit w i h hE hF) hE

theorem frame_postHeld (a : Nat) (h : Frame L F z s) (hE : .evr ∈ L) (hS : .stat ∈ L) : Frame L F z (s.postHeld a) := by
  unfold State.postHeld
  dsimp only
  split
  · exact h
  · split
    · exact h
    · exact frame_postNow (frame_setStat h (.inl hS)) hE (.inl hS)

theorem frame_busError (master : Nat) (addr : Nat) (write : Bool) (cause : Nat) (hk0 : Frame L F z s) (hL : [.busErr, .evr, .reply] ⊆ L) (hF : .stat ∈ L ∨ [(reg wSYS 0, 0)] ⊆ F) : Frame L F z (State.busError s master addr write cause) := by
  unfold State.busError
  try dsimp only
  repeat' first
    | (with_reducible first
      | assumption | apply frame_postBit | apply frame_answer | apply fset_busErr | apply frame_ite)
    | simp only [frame_mk]
    | split
    | exact hL (by decide)
    | exact List.Subset.trans (by decide) hL
    | exact hF.imp_right (List.Subset.trans (by decide))
    | exact hF.imp_right fun a => a (by decide)

theorem frame_dropPair (w : Nat) (hk0 : Frame L F z s) (hL : [.pairs] ⊆ L) : Frame L F z (State.dropPair s w) := by
  unfold State.dropPair
  try dsimp only
  repeat' first
    | (with_reducible first
      | assumption | apply fset_pairs | apply frame_ite)
    | simp only [frame_mk]
    | split
    | exact hL (by decide)
    | exact List.Subset.trans (by decide) hL

theorem frame_guardFail (w : Nat) (off : Nat) (first : Nat) (second : Nat) (cause : Nat) (master : Nat) (hk0 : Frame L F z s) (hL : [.stat, .evr] ⊆ L) : Frame L F z (State.guardFail s w off first second cause master) := by
  unfold State.guardFail
  repeat' first
    | (with_reducible first
      | assumption | apply frame_postEvent)
    | exact hL (by decide)
    | exact List.Subset.trans (by decide) hL
    | exact .inl (hL (by decide))

theorem frame_failPair (p : GuardPair) (cause : Nat) (second : Nat) (hk0 : Frame L F z s) (hL : [.stat, .evr, .pairs] ⊆ L) : Frame L F z (State.failPair s p cause second) := by
  unfold State.failPair
  repeat' first
    | (with_reducible first
      | assumption | apply frame_guardFail | apply frame_dropPair)
    | exact hL (by decide)
    | exact List.Subset.trans (by decide) hL
    | exact .inl (hL (by decide))

theorem frame_expirePair (w : Nat) (hk0 : Frame L F z s) (hL : [.stat, .evr, .pairs] ⊆ L) : Frame L F z (State.expirePair s w) := by
  unfold State.expirePair
  try dsimp only
  repeat' first
    | (with_reducible first
      | assumption | apply frame_failPair | apply frame_ite)
    | simp only [frame_mk]
    | split
    | exact hL (by decide)
    | exact List.Subset.trans (by decide) hL
    | exact .inl (hL (by decide))

theorem frame_intervene (w : Nat) (second : Nat) (hk0 : Frame L F z s) (hL : [.stat, .evr, .pairs] ⊆ L) : Frame L F z (State.intervene s w second) := by
  unfold State.intervene
  try dsimp only
  repeat' first
    | (with_reducible first
      | assumption | apply frame_expirePair | apply frame_failPair | apply frame_ite)
    | simp only [frame_mk]
    | split
    | exact hL (by decide)
    | exact List.Subset.trans (by decide) hL
    | exact .inl (hL (by decide))

theorem frame_openPairAt (w : Nat) (off : Nat) (addr : Nat) (master : Nat) (v : Word) (hk0 : Frame L F z s) (hL : [.pairs] ⊆ L) : Frame L F z (State.openPairAt s w off addr master v) := by
  unfold State.openPairAt
  try dsimp only
  repeat' first
    | (with_reducible first
      | assumption | apply fset_pairs | apply frame_ite)
    | simp only [frame_mk]
    | split
    | exact hL (by decide)
    | exact List.Subset.trans (by decide) hL

theorem frame_access (master : Nat) (addr : Nat) (write : Bool) {k : State → State} (hk0 : Frame L F z s) (hk1 : ∀ t, Frame L F z t → Frame L F z (k t)) (hL : [.stat, .busErr, .evr, .pairs, .reply] ⊆ L) : Frame L F z (State.access s master addr write k) := by
  unfold State.access
  try dsimp only
  repeat' first
    | (with_reducible first
      | assumption | apply hk1 | apply frame_busError | apply frame_answer | apply frame_intervene
      | apply frame_ite)
    | split
    | exact hL (by decide)
    | exact List.Subset.trans (by decide) hL
    | exact .inl (hL (by decide))

theorem frame_pairWrite (master : Nat) (addr : Nat) {k : State → State} (hk0 : Frame L F z s) (hk1 : ∀ t, Frame L F z t → Frame L F z (k t)) (hL : [.stat, .busErr, .evr, .pairs, .reply] ⊆ L) : Frame L F z (State.pairWrite s master addr k) := by
  unfold State.pairWrite
  repeat' first
    | intro (_ : State) _ | intro (_ : Slot)
    | (with_reducible first
      | assumption | apply hk1 | apply frame_access)
    | exact hL (by decide)
    | exact List.Subset.trans (by decide) hL
    | exact .inl (hL (by decide))

theorem frame_occur (dt : Nat) {k : State → State} (hk0 : Frame L F z s) (hk1 : ∀ t, Frame L F z t → Frame L F z (k t)) (hL : [.cyc] ⊆ L) : Frame L F z (State.occur s dt k) := by
  unfold State.occur
  try dsimp only
  repeat' first
    | (with_reducible first
      | assumption | apply hk1 | apply frame_elapse | apply frame_ite)
    | split
    | exact hL (by decide)
    | exact List.Subset.trans (by decide) hL

theorem frame_occurIn (dt : Nat) (w : Nat) {k : State → State} (hk0 : Frame L F z s) (hk1 : ∀ t, Frame L F z t → Frame L F z (k t)) (hL : [.cyc] ⊆ L) : Frame L F z (State.occurIn s dt w k) := by
  unfold State.occurIn
  try dsimp only
  repeat' first
    | intro (_ : State) _ | intro (_ : Slot)
    | (with_reducible first
      | assumption | apply hk1 | apply frame_occur | apply frame_ite)
    | split
    | exact hL (by decide)
    | exact List.Subset.trans (by decide) hL

theorem frame_lockedWrite (master : Nat) (addr : Nat) (v : Word) (stoppedOnly : Bool) (hk0 : Frame L F z s) (hL : [.stat, .cfg, .evr] ⊆ L) : Frame L F z (State.lockedWrite s master addr v stoppedOnly) := by
  unfold State.lockedWrite
  try dsimp only
  repeat' first
    | (with_reducible first
      | assumption | apply frame_refreshCfg | apply frame_event | apply frame_post | apply frame_postBit
      | apply frame_ite)
    | split
    | exact hL (by decide)
    | exact List.Subset.trans (by decide) hL
    | exact .inl (hL (by decide))

theorem frame_shadowWrite (a : Nat) (mask : Word) (v : Word) (hk0 : Frame L F z s) (hL : [.cfg, .changed] ⊆ L) : Frame L F z (State.shadowWrite s a mask v) := by
  unfold State.shadowWrite
  try dsimp only
  repeat' first
    | (with_reducible first
      | assumption | apply frame_setCfg | apply frame_markChanged | apply frame_ite)
    | split
    | exact hL (by decide)
    | exact List.Subset.trans (by decide) hL

theorem frame_takeUpAll (c : Nat) (x2 : List Nat) (hk0 : Frame L F z s) (hL : [.act, .changed] ⊆ L) : Frame L F z (State.takeUpAll s c x2) := by
  induction x2 generalizing s c
  · exact hk0
  · rename_i ih
    unfold State.takeUpAll
    try dsimp only
    repeat' first
      | (with_reducible first
        | assumption | apply ih | apply frame_takeUp | apply frame_ite)
      | split
      | exact hL (by decide)
      | exact List.Subset.trans (by decide) hL

theorem frame_parityFault (addr : Nat) (w : PWord) (hk0 : Frame L F z s) (hL : [.evr, .sys] ⊆ L) : Frame L F z (State.parityFault s addr w) := by
  unfold State.parityFault
  repeat' first
    | (with_reducible first
      | assumption | apply frame_raiseReset | apply frame_recBypass)
    | exact hL (by decide)
    | exact List.Subset.trans (by decide) hL

theorem frame_copyAll (c : Nat) (l : List Nat) (hk0 : Frame L F z s) (hL : [.act, .changed, .evr, .sys] ⊆ L) : Frame L F z (State.copyAll s c l) := by
  unfold State.copyAll
  try dsimp only
  repeat' first
    | intro (_ : State) _ _ | intro (_ : State × _) _ _
    | (with_reducible first
      | assumption | apply frame_takeUpAll | apply frame_parityFault | apply frame_foldl1 | apply frame_foldl
      | apply frame_ite)
    | split
    | exact hL (by decide)
    | exact List.Subset.trans (by decide) hL

theorem frame_copyDomain (c : Nat) (d : Dom) (hk0 : Frame L F z s) (hL : [.act, .changed, .evr, .sys] ⊆ L) : Frame L F z (State.copyDomain s c d) := by
  unfold State.copyDomain
  try dsimp only
  repeat' first
    | (with_reducible first
      | assumption | apply frame_copyAll | apply frame_ite)
    | split
    | exact hL (by decide)
    | exact List.Subset.trans (by decide) hL

theorem frame_setMile (m : Nat) (f : Milestone → Milestone) (hk0 : Frame L F z s) (hL : [.tbs] ⊆ L) : Frame L F z (State.setMile s m f) :=
  fset_tbs hk0 (hL (by decide))

theorem frame_msPin (m : Nat) (r : Nat) (hk0 : Frame L F z s) (hL : [.tbs] ⊆ L) : Frame L F z (State.msPin s m r) := by
  unfold State.msPin
  try dsimp only
  repeat' first
    | (with_reducible first
      | assumption | apply frame_setMile | apply frame_ite)
    | simp only [frame_mk]
    | split
    | exact hL (by decide)
    | exact List.Subset.trans (by decide) hL

theorem frame_msAct (m : Nat) (r : Nat) (late : Bool) (hk0 : Frame L F z s) (hL : [.stat, .evr, .tbs] ⊆ L) : Frame L F z (State.msAct s m r late) := by
  unfold State.msAct
  try dsimp only
  repeat' first
    | (with_reducible first
      | assumption | apply frame_setMile | apply frame_msPin | apply frame_post | apply frame_triggerAll
      | apply fbuilt | apply frame_ite)
    | simp only [frame_mk]
    | split
    | rfl
    | exact hL (by decide)
    | exact List.Subset.trans (by decide) hL
    | exact .inl (hL (by decide))
    | (intro p h1 h2; cases p; (case evr => exact absurd (hL (by decide)) h1); (case tbs => exact absurd (hL (by decide)) h1); (case stat => exact absurd rfl h2); all_goals (first | rfl | exact fun _ => rfl))

theorem frame_msAim (m : Nat) (target : Int) (hk0 : Frame L F z s) (hL : [.tbs] ⊆ L) : Frame L F z (State.msAim s m target) := by
  unfold State.msAim
  try dsimp only
  repeat' first
    | (with_reducible first
      | assumption | apply frame_setMile | apply frame_ite)
    | simp only [frame_mk]
    | split
    | exact hL (by decide)
    | exact List.Subset.trans (by decide) hL

theorem frame_msFire (m : Nat) (r : Nat) (late : Bool) (hk0 : Frame L F z s) (hL : [.stat, .evr, .tbs] ⊆ L) : Frame L F z (State.msFire s m r late) := by
  unfold State.msFire
  try dsimp only
  repeat' first
    | (with_reducible first
      | assumption | apply frame_msAct | apply frame_setMile | apply frame_msAim | apply frame_ite)
    | simp only [frame_mk]
    | split
    | exact hL (by decide)
    | exact List.Subset.trans (by decide) hL
    | exact .inl (hL (by decide))

theorem frame_msArm (m : Nat) (hk0 : Frame L F z s) (hL : [.stat, .evr, .tbs] ⊆ L) : Frame L F z (State.msArm s m) := by
  unfold State.msArm
  try dsimp only
  repeat' first
    | (with_reducible first
      | assumption | apply frame_msAim | apply frame_setMile | apply frame_msFire | apply frame_ite)
    | simp only [frame_mk]
    | split
    | exact hL (by decide)
    | exact List.Subset.trans (by decide) hL
    | exact .inl (hL (by decide))

theorem frame_msStop (m : Nat) (hk0 : Frame L F z s) (hL : [.tbs] ⊆ L) : Frame L F z (State.msStop s m) := by
  unfold State.msStop
  try dsimp only
  repeat' first
    | (with_reducible first
      | assumption | apply frame_setMile | apply frame_ite)
    | simp only [frame_mk]
    | split
    | exact hL (by decide)
    | exact List.Subset.trans (by decide) hL

theorem frame_msReconvert (m : Nat) (r : Nat) (hk0 : Frame L F z s) (hL : [.stat, .evr, .tbs] ⊆ L) : Frame L F z (State.msReconvert s m r) := by
  unfold State.msReconvert
  try dsimp only
  repeat' first
    | (with_reducible first
      | assumption | apply frame_msAim | apply frame_msFire | apply frame_ite)
    | split
    | exact hL (by decide)
    | exact List.Subset.trans (by decide) hL
    | exact .inl (hL (by decide))

theorem frame_msReconvertAll (r : Nat) (x2 : List Nat) (hk0 : Frame L F z s) (hL : [.stat, .evr, .tbs] ⊆ L) : Frame L F z (State.msReconvertAll s r x2) := by
  induction x2 generalizing s r
  · exact hk0
  · rename_i ih
    unfold State.msReconvertAll
    try dsimp only
    repeat' first
      | (with_reducible first
        | assumption | apply ih | apply frame_msReconvert | apply frame_ite)
      | split
      | exact hL (by decide)
      | exact List.Subset.trans (by decide) hL
      | exact .inl (hL (by decide))

theorem frame_reconvert (r : Nat) (hk0 : Frame L F z s) (hL : [.stat, .acc, .evr, .tbs] ⊆ L) : Frame L F z (State.reconvert s r) := by
  unfold State.reconvert
  try dsimp only
  repeat' first
    | (with_reducible first
      | assumption | apply frame_msReconvertAll | apply fset_acc | apply fset_tbs | apply fbuilt
      | apply frame_ite)
    | simp only [frame_mk]
    | split
    | rfl
    | exact hL (by decide)
    | exact List.Subset.trans (by decide) hL
    | exact .inl (hL (by decide))
    | (intro p h1 h2; cases p; (case acc => exact absurd (hL (by decide)) h1); (case evr => exact absurd (hL (by decide)) h1); (case tbs => exact absurd (hL (by decide)) h1); (case stat => exact absurd rfl h2); all_goals (first | rfl | exact fun _ => rfl))

theorem frame_adjRefuse (code : Nat) (hk0 : Frame L F z s) (hL : [.evr, .tbs] ⊆ L) (hF : .stat ∈ L ∨ [(reg wTBS 0, 4)] ⊆ F) : Frame L F z (State.adjRefuse s code) := by
  unfold State.adjRefuse
  try dsimp only
  repeat' first
    | (with_reducible first
      | assumption | apply frame_postBit | apply fset_tbs)
    | simp only [frame_mk]
    | exact hL (by decide)
    | exact List.Subset.trans (by decide) hL
    | exact hF.imp_right (List.Subset.trans (by decide))
    | exact hF.imp_right fun a => a (by decide)

theorem frame_adjTake (r : Nat) (u : TbsUnit) (bits : Nat) (hk0 : Frame L F z s) (hL : [.stat, .acc, .evr, .tbs] ⊆ L) : Frame L F z (State.adjTake s r u bits) := by
  unfold State.adjTake
  try dsimp only
  repeat' first
    | (with_reducible first
      | assumption | apply frame_post | apply frame_reconvert | apply fset_tbs | apply fbuilt)
    | simp only [frame_mk]
    | rfl
    | exact hL (by decide)
    | exact List.Subset.trans (by decide) hL
    | exact .inl (hL (by decide))
    | (intro p h1 h2; cases p; (case acc => exact absurd (hL (by decide)) h1); (case evr => exact absurd (hL (by decide)) h1); (case tbs => exact absurd (hL (by decide)) h1); (case stat => exact absurd rfl h2); all_goals (first | rfl | exact fun _ => rfl))

theorem frame_closeOpenIvs (r : Nat) (flag : Nat) (hk0 : Frame L F z s) (hL : [.acc] ⊆ L) : Frame L F z (State.closeOpenIvs s r flag) := by
  unfold State.closeOpenIvs
  try dsimp only
  repeat' first
    | (with_reducible first
      | assumption | apply fset_acc | apply frame_ite)
    | simp only [frame_mk]
    | split
    | exact hL (by decide)
    | exact List.Subset.trans (by decide) hL

theorem frame_adjDoStep (r : Nat) (hk0 : Frame L F z s) (hL : [.stat, .acc, .evr, .tbs] ⊆ L) : Frame L F z (State.adjDoStep s r) := by
  unfold State.adjDoStep
  try dsimp only
  repeat' first
    | (with_reducible first
      | assumption | apply frame_adjRefuse | apply frame_closeOpenIvs | apply frame_adjTake | apply frame_ite)
    | simp only [frame_mk]
    | split
    | exact hL (by decide)
    | exact List.Subset.trans (by decide) hL
    | exact .inl (hL (by decide))

theorem frame_adjDoRate (r : Nat) (hk0 : Frame L F z s) (hL : [.stat, .acc, .evr, .tbs] ⊆ L) : Frame L F z (State.adjDoRate s r) := by
  unfold State.adjDoRate
  try dsimp only
  repeat' first
    | (with_reducible first
      | assumption | apply frame_adjRefuse | apply frame_adjTake | apply frame_ite)
    | simp only [frame_mk]
    | split
    | exact hL (by decide)
    | exact List.Subset.trans (by decide) hL
    | exact .inl (hL (by decide))

theorem frame_adjDoSlew (r : Nat) (rate : Nat) (hk0 : Frame L F z s) (hL : [.stat, .acc, .evr, .tbs] ⊆ L) : Frame L F z (State.adjDoSlew s r rate) := by
  unfold State.adjDoSlew
  try dsimp only
  repeat' first
    | (with_reducible first
      | assumption | apply frame_adjRefuse | apply frame_adjTake | apply frame_ite)
    | simp only [frame_mk]
    | split
    | exact hL (by decide)
    | exact List.Subset.trans (by decide) hL
    | exact .inl (hL (by decide))

theorem frame_adjDoSlewstop (r : Nat) (hk0 : Frame L F z s) (hL : [.stat, .acc, .evr, .tbs] ⊆ L) : Frame L F z (State.adjDoSlewstop s r) := by
  unfold State.adjDoSlewstop
  repeat' first
    | (with_reducible first
      | assumption | apply frame_adjRefuse | apply frame_adjTake | apply frame_ite)
    | split
    | exact hL (by decide)
    | exact List.Subset.trans (by decide) hL
    | exact .inl (hL (by decide))

theorem frame_tbsAdj (op : Nat) (rate : Nat) (hk0 : Frame L F z s) (hL : [.stat, .acc, .evr, .tbs] ⊆ L) : Frame L F z (State.tbsAdj s op rate) := by
  unfold State.tbsAdj
  try dsimp only
  repeat' first
    | (with_reducible first
      | assumption | apply frame_adjRefuse | apply frame_adjDoStep | apply frame_adjDoRate
      | apply frame_adjDoSlew | apply frame_adjDoSlewstop | apply frame_ite)
    | simp only [frame_mk]
    | split
    | exact hL (by decide)
    | exact List.Subset.trans (by decide) hL
    | exact .inl (hL (by decide))

theorem frame_tbsAdjWord (v : Word) (hk0 : Frame L F z s) (hL : [.stat, .acc, .cfg, .evr, .tbs] ⊆ L) : Frame L F z (State.tbsAdjWord s v) := by
  unfold State.tbsAdjWord
  repeat' first
    | (with_reducible first
      | assumption | apply frame_tbsAdj | apply frame_setCfg)
    | exact hL (by decide)
    | exact List.Subset.trans (by decide) hL
    | exact .inl (hL (by decide))

theorem frame_slewFinish (hk0 : Frame L F z s) (hL : [.stat, .acc, .evr, .tbs] ⊆ L) : Frame L F z (State.slewFinish s) := by
  unfold State.slewFinish
  try dsimp only
  repeat' first
    | (with_reducible first
      | assumption | apply frame_postBit | apply frame_reconvert | apply fset_tbs | apply frame_ite)
    | simp only [frame_mk]
    | split
    | exact hL (by decide)
    | exact List.Subset.trans (by decide) hL
    | exact .inl (hL (by decide))

theorem frame_ppsTake (edge : Nat) (heldUs : Nat) (hk0 : Frame L F z s) (hL : [.stat, .evr, .tbs] ⊆ L) : Frame L F z (State.ppsTake s edge heldUs) := by
  unfold State.ppsTake
  try dsimp only
  repeat' first
    | (with_reducible first
      | assumption | apply frame_postBit | apply frame_post | apply fset_tbs | apply fbuilt | apply frame_ite)
    | simp only [frame_mk]
    | split
    | rfl
    | exact hL (by decide)
    | exact List.Subset.trans (by decide) hL
    | exact .inl (hL (by decide))
    | (intro p h1 h2; cases p; (case evr => exact absurd (hL (by decide)) h1); (case tbs => exact absurd (hL (by decide)) h1); (case stat => exact absurd rfl h2); all_goals (first | rfl | exact fun _ => rfl))

theorem frame_ppsLose (hk0 : Frame L F z s) (hL : [.evr, .tbs] ⊆ L) (hF : .stat ∈ L ∨ [(reg wTBS 0, 9)] ⊆ F) : Frame L F z (State.ppsLose s) := by
  unfold State.ppsLose
  try dsimp only
  repeat' first
    | (with_reducible first
      | assumption | apply frame_postBit | apply fset_tbs | apply frame_ite)
    | simp only [frame_mk]
    | split
    | exact hL (by decide)
    | exact List.Subset.trans (by decide) hL
    | exact hF.imp_right (List.Subset.trans (by decide))
    | exact hF.imp_right fun a => a (by decide)

theorem frame_ppsCfgWrite (v : Word) (hk0 : Frame L F z s) (hL : [.cfg, .tbs] ⊆ L) : Frame L F z (State.ppsCfgWrite s v) := by
  unfold State.ppsCfgWrite
  try dsimp only
  repeat' first
    | (with_reducible first
      | assumption | apply frame_setCfg | apply fset_tbs | apply frame_ite)
    | simp only [frame_mk]
    | split
    | exact hL (by decide)
    | exact List.Subset.trans (by decide) hL

theorem frame_setTsq (k : Nat) (f : Tsq → Tsq) (hk0 : Frame L F z s) (hL : [.tbs] ⊆ L) : Frame L F z (State.setTsq s k f) :=
  fset_tbs hk0 (hL (by decide))

theorem frame_tsqAdd (k : Nat) (tag : Nat) (queue : Nat) (attempt : Nat) (st : Stamp) (hk0 : Frame L F z s) (hL : [.evr, .tbs] ⊆ L) (hF : .stat ∈ L ∨ [(reg wTBS 0, 12)] ⊆ F) : Frame L F z (State.tsqAdd s k tag queue attempt st) := by
  unfold State.tsqAdd
  try dsimp only
  repeat' first
    | (with_reducible first
      | assumption | apply frame_setTsq | apply frame_postBit | apply frame_ite)
    | simp only [frame_mk]
    | split
    | exact hL (by decide)
    | exact List.Subset.trans (by decide) hL
    | exact hF.imp_right (List.Subset.trans (by decide))
    | exact hF.imp_right fun a => a (by decide)

theorem frame_tsqRead (k : Nat) (hk0 : Frame L F z s) (hL : [.reply, .tbs] ⊆ L) : Frame L F z (State.tsqRead s k) := by
  unfold State.tsqRead
  try dsimp only
  repeat' first
    | (with_reducible first
      | assumption | apply frame_answer | apply frame_setTsq | apply frame_ite)
    | simp only [frame_mk]
    | split
    | exact hL (by decide)
    | exact List.Subset.trans (by decide) hL

theorem frame_nowRead (hk0 : Frame L F z s) (hL : [.reply, .tbs] ⊆ L) : Frame L F z (State.nowRead s) := by
  unfold State.nowRead
  try dsimp only
  repeat' first
    | (with_reducible first
      | assumption | apply frame_answer | apply fset_tbs)
    | simp only [frame_mk]
    | exact hL (by decide)
    | exact List.Subset.trans (by decide) hL

theorem frame_setLt (n : Nat) (off : Nat) (size : Nat) (v : Nat) (hk0 : Frame L F z s) (hL : [.mem] ⊆ L) : Frame L F z (State.setLt s n off size v) := by
  unfold State.setLt
  repeat' first
    | (with_reducible first
      | assumption | apply frame_setMemLE | apply frame_ite)
    | split
    | exact hL (by decide)
    | exact List.Subset.trans (by decide) hL

theorem frame_enterState (n : Nat) (v : Nat) (hk0 : Frame L F z s) (hL : [.stat, .evr, .mem] ⊆ L) : Frame L F z (State.enterState s n v) := by
  unfold State.enterState
  try dsimp only
  repeat' first
    | (with_reducible first
      | assumption | apply frame_setLt | apply frame_postBit | apply fbuilt | apply frame_ite)
    | simp only [frame_mk]
    | split
    | rfl
    | exact hL (by decide)
    | exact List.Subset.trans (by decide) hL
    | exact .inl (hL (by decide))
    | (intro p h1 h2; cases p; (case evr => exact absurd (hL (by decide)) h1); (case mem => exact absurd (hL (by decide)) h1); (case stat => exact absurd rfl h2); all_goals (first | rfl | exact fun _ => rfl))

theorem frame_enterJoined (n : Nat) (hk0 : Frame L F z s) (hL : [.stat, .evr, .mem] ⊆ L) : Frame L F z (State.enterJoined s n) := by
  unfold State.enterJoined
  repeat' first
    | (with_reducible first
      | assumption | apply frame_enterState | apply frame_ite)
    | split
    | exact hL (by decide)
    | exact List.Subset.trans (by decide) hL
    | exact .inl (hL (by decide))

theorem frame_strDone (result : Nat) (detail : Nat) (st : HState) (hk0 : Frame L F z s) (hL : [.evr, .str] ⊆ L) (hF : .stat ∈ L ∨ [(reg wSTR 0, 0)] ⊆ F) : Frame L F z (State.strDone s result detail st) := by
  unfold State.strDone
  try dsimp only
  repeat' first
    | (with_reducible first
      | assumption | apply frame_postBit | apply fset_str | apply frame_ite)
    | simp only [frame_mk]
    | split
    | exact hL (by decide)
    | exact List.Subset.trans (by decide) hL
    | exact hF.imp_right (List.Subset.trans (by decide))
    | exact hF.imp_right fun a => a (by decide)

theorem frame_strFaulted (typ : Nat) (idx : Nat) (hk0 : Frame L F z s) (hL : [.evr, .str] ⊆ L) (hF : .stat ∈ L ∨ [(reg wSTR 0, 0)] ⊆ F) : Frame L F z (State.strFaulted s typ idx) := by
  unfold State.strFaulted
  try dsimp only
  repeat' first
    | (with_reducible first
      | assumption | apply frame_strDone | apply frame_ite)
    | simp only [frame_mk]
    | split
    | exact hL (by decide)
    | exact List.Subset.trans (by decide) hL
    | exact hF.imp_right (List.Subset.trans (by decide))
    | exact hF.imp_right fun a => a (by decide)

theorem frame_faultHandle (typ : Nat) (idx : Nat) (hk0 : Frame L F z s) (hL : [.stat, .evr, .mem, .str] ⊆ L) : Frame L F z (State.faultHandle s typ idx) := by
  unfold State.faultHandle
  try dsimp only
  repeat' first
    | (with_reducible first
      | assumption | apply frame_postBit | apply frame_setHandle | apply frame_enterState
      | apply frame_strFaulted | apply frame_ite)
    | simp only [frame_mk]
    | split
    | exact hL (by decide)
    | exact List.Subset.trans (by decide) hL
    | exact .inl (hL (by decide))

theorem frame_enterMismatch (n : Nat) (hk0 : Frame L F z s) (hL : [.stat, .evr, .mem, .str] ⊆ L) : Frame L F z (State.enterMismatch s n) := by
  unfold State.enterMismatch
  repeat' first
    | (with_reducible first
      | assumption | apply frame_faultHandle | apply frame_enterState)
    | exact hL (by decide)
    | exact List.Subset.trans (by decide) hL
    | exact .inl (hL (by decide))

theorem frame_setScnEntry (n : Nat) (f : ScnEntry → ScnEntry) (hk0 : Frame L F z s) (hL : [.scn] ⊆ L) : Frame L F z (State.setScnEntry s n f) :=
  fset_scn hk0 (hL (by decide))

theorem frame_commitApply (c : EditCmd) (hk0 : Frame L F z s) (hL : [.stat, .evr, .mem, .scn] ⊆ L) : Frame L F z (State.commitApply s c) := by
  unfold State.commitApply
  try dsimp only
  repeat' first
    | (with_reducible first
      | assumption | apply frame_setBytes | apply frame_setLt | apply frame_enterState | apply frame_setScnEntry
      | apply frame_ite)
    | simp only [frame_mk]
    | split
    | exact hL (by decide)
    | exact List.Subset.trans (by decide) hL
    | exact .inl (hL (by decide))

theorem frame_clearApply (n : Nat) (hk0 : Frame L F z s) (hL : [.mem, .scn] ⊆ L) : Frame L F z (State.clearApply s n) := by
  unfold State.clearApply
  try dsimp only
  repeat' first
    | (with_reducible first
      | assumption | apply frame_setBytes | apply fset_scn)
    | simp only [frame_mk]
    | exact hL (by decide)
    | exact List.Subset.trans (by decide) hL

theorem frame_editEnd (c : EditCmd) (r : Nat × Nat) (hk0 : Frame L F z s) (hL : [.stat, .evr, .ltb] ⊆ L) : Frame L F z (State.editEnd s c r) := by
  unfold State.editEnd
  try dsimp only
  repeat' first
    | (with_reducible first
      | assumption | apply frame_postBit | apply frame_event | apply frame_post | apply fset_ltb | apply fbuilt
      | apply frame_ite)
    | simp only [frame_mk]
    | split
    | rfl
    | exact hL (by decide)
    | exact List.Subset.trans (by decide) hL
    | exact .inl (hL (by decide))
    | (intro p h1 h2; cases p; (case evr => exact absurd (hL (by decide)) h1); (case ltb => exact absurd (hL (by decide)) h1); (case stat => exact absurd rfl h2); all_goals (first | rfl | exact fun _ => rfl))

theorem frame_editHead (hk0 : Frame L F z s) (hL : [.stat, .evr, .ltb, .mem, .scn] ⊆ L) : Frame L F z (State.editHead s) := by
  unfold State.editHead
  try dsimp only
  repeat' first
    | (with_reducible first
      | assumption | apply frame_clearApply | apply frame_commitApply | apply frame_editEnd | apply frame_ite)
    | simp only [frame_mk]
    | split
    | exact hL (by decide)
    | exact List.Subset.trans (by decide) hL
    | exact .inl (hL (by decide))

theorem frame_editAll (x1 : Nat) (hk0 : Frame L F z s) (hL : [.stat, .evr, .ltb, .mem, .scn] ⊆ L) : Frame L F z (State.editAll s x1) := by
  induction x1 generalizing s
  · exact hk0
  · rename_i ih
    unfold State.editAll
    try dsimp only
    repeat' first
      | (with_reducible first
        | assumption | apply ih | apply frame_editHead | apply frame_ite)
      | split
      | exact hL (by decide)
      | exact List.Subset.trans (by decide) hL
      | exact .inl (hL (by decide))

theorem frame_editCommand (op : Nat) (hk0 : Frame L F z s) (hL : [.evr, .ltb] ⊆ L) (hF : .stat ∈ L ∨ [(reg wLTB 0, 3)] ⊆ F) : Frame L F z (State.editCommand s op) := by
  unfold State.editCommand
  try dsimp only
  repeat' first
    | (with_reducible first
      | assumption | apply frame_postBit | apply fset_ltb | apply frame_ite)
    | simp only [frame_mk]
    | split
    | exact hL (by decide)
    | exact List.Subset.trans (by decide) hL
    | exact hF.imp_right (List.Subset.trans (by decide))
    | exact hF.imp_right fun a => a (by decide)

theorem frame_euiHiWrite (v : Word) (hk0 : Frame L F z s) (hL : [.cfg, .ltb] ⊆ L) : Frame L F z (State.euiHiWrite s v) := by
  unfold State.euiHiWrite
  try dsimp only
  repeat' first
    | (with_reducible first
      | assumption | apply frame_setCfg | apply fset_ltb)
    | simp only [frame_mk]
    | exact hL (by decide)
    | exact List.Subset.trans (by decide) hL

theorem frame_ltbDiscard (a : Nat) (hk0 : Frame L F z s) (hL : [.evr, .ltb] ⊆ L) (hF : .stat ∈ L ∨ [(reg wLTB 0, 0)] ⊆ F) : Frame L F z (State.ltbDiscard s a) := by
  unfold State.ltbDiscard
  try dsimp only
  repeat' first
    | (with_reducible first
      | assumption | apply frame_postBit | apply fset_ltb | apply frame_ite)
    | simp only [frame_mk]
    | split
    | exact hL (by decide)
    | exact List.Subset.trans (by decide) hL
    | exact hF.imp_right (List.Subset.trans (by decide))
    | exact hF.imp_right fun a => a (by decide)

theorem frame_masterBytes (a : Nat) (x2 : List Byte) (hk0 : Frame L F z s) (hL : [.mem] ⊆ L) : Frame L F z (State.masterBytes s a x2) := by
  induction x2 generalizing s a
  · exact hk0
  · rename_i ih
    unfold State.masterBytes
    try dsimp only
    repeat' first
      | (with_reducible first
        | assumption | apply ih | apply frame_setByte | apply frame_ite)
      | split
      | exact hL (by decide)
      | exact List.Subset.trans (by decide) hL

theorem frame_masterWrite (a : Nat) (d : List Byte) (hk0 : Frame L F z s) (hL : [.evr, .ltb, .mem] ⊆ L) (hF : .stat ∈ L ∨ [(reg wLTB 0, 0)] ⊆ F) : Frame L F z (State.masterWrite s a d) := by
  unfold State.masterWrite
  try dsimp only
  repeat' first
    | (with_reducible first
      | assumption | apply frame_masterBytes | apply frame_ltbDiscard | apply frame_ite)
    | simp only [frame_mk]
    | split
    | exact hL (by decide)
    | exact List.Subset.trans (by decide) hL
    | exact hF.imp_right (List.Subset.trans (by decide))
    | exact hF.imp_right fun a => a (by decide)

theorem frame_accAdd (f : Nat) (e : Nat) (k : Nat) (n : Nat) (hk0 : Frame L F z s) (hL : [.acc] ⊆ L) : Frame L F z (State.accAdd s f e k n) :=
  fset_acc hk0 (hL (by decide))

theorem frame_accElement (f : Nat) (e : Nat) (p : Rat) (q : Rat) (hk0 : Frame L F z s) (hL : [.acc] ⊆ L) : Frame L F z (State.accElement s f e p q) := by
  unfold State.accElement
  repeat' first
    | (with_reducible first
      | assumption | apply frame_accAdd | apply frame_ite)
    | split
    | exact hL (by decide)
    | exact List.Subset.trans (by decide) hL

theorem frame_accPhases (f : Nat) (x2 : List (Nat × PhaseCyc)) (hk0 : Frame L F z s) (hL : [.acc] ⊆ L) : Frame L F z (State.accPhases s f x2) := by
  induction x2 generalizing s f
  · exact hk0
  · rename_i ih
    unfold State.accPhases
    try dsimp only
    repeat' first
      | (with_reducible first
        | assumption | apply ih | apply frame_accElement | apply frame_ite)
      | split
      | exact hL (by decide)
      | exact List.Subset.trans (by decide) hL

theorem frame_accCycle (r : CycRes) (hk0 : Frame L F z s) (hL : [.acc] ⊆ L) : Frame L F z (State.accCycle s r) := by
  unfold State.accCycle
  try dsimp only
  repeat' first
    | (with_reducible first
      | assumption | apply frame_accElement | apply frame_accPhases | apply frame_accAdd | apply frame_ite)
    | split
    | exact hL (by decide)
    | exact List.Subset.trans (by decide) hL

theorem frame_setIv (f : Nat) (g : FeedIv → FeedIv) (hk0 : Frame L F z s) (hL : [.acc] ⊆ L) : Frame L F z (State.setIv s f g) :=
  fset_acc hk0 (hL (by decide))

theorem frame_ivOpen (f : Nat) (b : Nat) (flags : Nat) (hk0 : Frame L F z s) (hL : [.acc] ⊆ L) : Frame L F z (State.ivOpen s f b flags) := by
  unfold State.ivOpen
  try dsimp only
  repeat' first
    | (with_reducible first
      | assumption | apply frame_setIv | apply frame_ite)
    | simp only [frame_mk]
    | split
    | exact hL (by decide)
    | exact List.Subset.trans (by decide) hL

theorem frame_ivLatch (f : Nat) (b : Nat) (flags : Nat) (hk0 : Frame L F z s) (hL : [.acc] ⊆ L) : Frame L F z (State.ivLatch s f b flags) := by
  unfold State.ivLatch
  try dsimp only
  repeat' first
    | (with_reducible first
      | assumption | apply frame_setIv | apply frame_ite)
    | simp only [frame_mk]
    | split
    | exact hL (by decide)
    | exact List.Subset.trans (by decide) hL

theorem frame_ivExtend (f : Nat) (b : Nat) (hk0 : Frame L F z s) (hL : [.acc] ⊆ L) : Frame L F z (State.ivExtend s f b) := by
  unfold State.ivExtend
  try dsimp only
  repeat' first
    | (with_reducible first
      | assumption | apply frame_setIv | apply frame_ite)
    | simp only [frame_mk]
    | split
    | exact hL (by decide)
    | exact List.Subset.trans (by decide) hL

theorem frame_ivBoundary (f : Nat) (b : Nat) (r : Option CycRes) (hk0 : Frame L F z s) (hL : [.acc] ⊆ L) : Frame L F z (State.ivBoundary s f b r) := by
  unfold State.ivBoundary
  try dsimp only
  repeat' first
    | (with_reducible first
      | assumption | apply frame_setIv | apply frame_ivLatch | apply frame_ivOpen | apply frame_ivExtend
      | apply frame_ite)
    | simp only [frame_mk]
    | split
    | exact hL (by decide)
    | exact List.Subset.trans (by decide) hL

theorem frame_setPulse (n : Nat) (g : PulseOut → PulseOut) (hk0 : Frame L F z s) (hL : [.acc] ⊆ L) : Frame L F z (State.setPulse s n g) :=
  fset_acc hk0 (hL (by decide))

theorem frame_pulseCredit (n : Nat) (hk0 : Frame L F z s) (hL : [.acc, .evr] ⊆ L) (hF : .stat ∈ L ∨ [(reg wACC 0, 7)] ⊆ F) : Frame L F z (State.pulseCredit s n) := by
  unfold State.pulseCredit
  try dsimp only
  repeat' first
    | (with_reducible first
      | assumption | apply frame_setPulse | apply frame_postBit | apply frame_ite)
    | simp only [frame_mk]
    | split
    | exact hL (by decide)
    | exact List.Subset.trans (by decide) hL
    | exact hF.imp_right (List.Subset.trans (by decide))
    | exact hF.imp_right fun a => a (by decide)

theorem frame_pulseMark (n : Nat) (hk0 : Frame L F z s) (hL : [.acc] ⊆ L) : Frame L F z (State.pulseMark s n) := by
  unfold State.pulseMark
  try dsimp only
  repeat' first
    | (with_reducible first
      | assumption | apply frame_setPulse | apply frame_ite)
    | simp only [frame_mk]
    | split
    | exact hL (by decide)
    | exact List.Subset.trans (by decide) hL

theorem frame_pulseRebase (n : Nat) (hk0 : Frame L F z s) (hL : [.acc] ⊆ L) : Frame L F z (State.pulseRebase s n) := by
  unfold State.pulseRebase
  try dsimp only
  repeat' first
    | (with_reducible first
      | assumption | apply frame_setPulse | apply frame_pulseMark | apply frame_ite)
    | simp only [frame_mk]
    | split
    | exact hL (by decide)
    | exact List.Subset.trans (by decide) hL

theorem frame_visUpdate (f : Nat) (hk0 : Frame L F z s) (hL : [.acc] ⊆ L) : Frame L F z (State.visUpdate s f) := by
  unfold State.visUpdate
  try dsimp only
  repeat' first
    | intro (_ : State) _ _ | intro (_ : State × _) _ _
    | (with_reducible first
      | assumption | apply frame_foldl1 | apply frame_foldl | apply fset_acc | apply frame_ite)
    | simp only [frame_mk]
    | split
    | exact hL (by decide)
    | exact List.Subset.trans (by decide) hL

theorem frame_powerNote (r : CycRes) (hk0 : Frame L F z s) (hL : [.acc] ⊆ L) : Frame L F z (State.powerNote s r) := by
  unfold State.powerNote
  try dsimp only
  repeat' first
    | (with_reducible first
      | assumption | apply fset_acc | apply frame_ite)
    | simp only [frame_mk]
    | split
    | exact hL (by decide)
    | exact List.Subset.trans (by decide) hL

theorem frame_pulseCycle (r : CycRes) (n : Nat) (hk0 : Frame L F z s) (hL : [.acc, .evr] ⊆ L) (hF : .stat ∈ L ∨ [(reg wACC 0, 7)] ⊆ F) : Frame L F z (State.pulseCycle s r n) := by
  unfold State.pulseCycle
  repeat' first
    | (with_reducible first
      | assumption | apply frame_pulseCredit | apply frame_ite)
    | split
    | exact hL (by decide)
    | exact List.Subset.trans (by decide) hL
    | exact hF.imp_right (List.Subset.trans (by decide))
    | exact hF.imp_right fun a => a (by decide)

theorem frame_pulseCycles (r : CycRes) (x2 : List Nat) (hk0 : Frame L F z s) (hL : [.acc, .evr] ⊆ L) (hF : .stat ∈ L ∨ [(reg wACC 0, 7)] ⊆ F) : Frame L F z (State.pulseCycles s r x2) := by
  induction x2 generalizing s r
  · exact hk0
  · rename_i ih
    unfold State.pulseCycles
    try dsimp only
    repeat' first
      | (with_reducible first
        | assumption | apply ih | apply frame_pulseCycle | apply frame_ite)
      | split
      | exact hL (by decide)
      | exact List.Subset.trans (by decide) hL
      | exact hF.imp_right (List.Subset.trans (by decide))
      | exact hF.imp_right fun a => a (by decide)

theorem frame_accDeliver (r : CycRes) (hk0 : Frame L F z s) (hL : [.acc, .evr] ⊆ L) (hF : .stat ∈ L ∨ [(reg wACC 0, 7)] ⊆ F) : Frame L F z (State.accDeliver s r) := by
  unfold State.accDeliver
  repeat' first
    | (with_reducible first
      | assumption | apply frame_pulseCycles | apply frame_powerNote | apply frame_visUpdate)
    | exact hL (by decide)
    | exact List.Subset.trans (by decide) hL
    | exact hF.imp_right (List.Subset.trans (by decide))
    | exact hF.imp_right fun a => a (by decide)

theorem frame_chService (ch : Nat) (on : Bool) (hk0 : Frame L F z s) (hL : [.acc] ⊆ L) : Frame L F z (State.chService s ch on) := by
  unfold State.chService
  try dsimp only
  repeat' first
    | (with_reducible first
      | assumption | apply fset_acc | apply frame_ite)
    | simp only [frame_mk]
    | split
    | exact hL (by decide)
    | exact List.Subset.trans (by decide) hL

theorem frame_fdService (f : Nat) (on : Bool) (hk0 : Frame L F z s) (hL : [.acc] ⊆ L) : Frame L F z (State.fdService s f on) := by
  unfold State.fdService
  try dsimp only
  repeat' first
    | intro (_ : State) _ _ | intro (_ : State × _) _ _
    | (with_reducible first
      | assumption | apply frame_setIv | apply frame_pulseMark | apply frame_foldl1 | apply frame_foldl
      | apply fset_acc | apply frame_ite)
    | simp only [frame_mk]
    | split
    | exact hL (by decide)
    | exact List.Subset.trans (by decide) hL

theorem frame_pulseStart (n : Nat) (hk0 : Frame L F z s) (hL : [.acc] ⊆ L) : Frame L F z (State.pulseStart s n) := by
  unfold State.pulseStart
  try dsimp only
  repeat' first
    | (with_reducible first
      | assumption | apply frame_setPulse | apply frame_ite)
    | simp only [frame_mk]
    | split
    | exact hL (by decide)
    | exact List.Subset.trans (by decide) hL

theorem frame_basisNote (n : Nat) (b : Nat × Bool) (hk0 : Frame L F z s) (hL : [.acc, .mem] ⊆ L) : Frame L F z (State.basisNote s n b) := by
  unfold State.basisNote
  try dsimp only
  repeat' first
    | (with_reducible first
      | assumption | apply frame_setLt | apply fset_acc | apply frame_ite)
    | simp only [frame_mk]
    | split
    | exact hL (by decide)
    | exact List.Subset.trans (by decide) hL

theorem frame_basisNotes (x1 : List (Nat × Nat × Bool)) (hk0 : Frame L F z s) (hL : [.acc, .mem] ⊆ L) : Frame L F z (State.basisNotes s x1) := by
  induction x1 generalizing s
  · exact hk0
  · rename_i ih
    unfold State.basisNotes
    try dsimp only
    repeat' first
      | (with_reducible first
        | assumption | apply ih | apply frame_basisNote | apply frame_ite)
      | split
      | exact hL (by decide)
      | exact List.Subset.trans (by decide) hL

theorem frame_allocWrite (x1 : List (Nat × Nat × Nat)) (hk0 : Frame L F z s) (hL : [.mem] ⊆ L) : Frame L F z (State.allocWrite s x1) := by
  induction x1 generalizing s
  · exact hk0
  · rename_i ih
    unfold State.allocWrite
    try dsimp only
    repeat' first
      | (with_reducible first
        | assumption | apply ih | apply frame_setBytes | apply frame_ite)
      | split
      | exact hL (by decide)
      | exact List.Subset.trans (by decide) hL

theorem frame_totalsAdd (l : List (Nat × Nat)) (hk0 : Frame L F z s) (hL : [.acc] ⊆ L) : Frame L F z (State.totalsAdd s l) := by
  unfold State.totalsAdd
  try dsimp only
  repeat' first
    | intro (_ : State) _ _ | intro (_ : State × _) _ _
    | (with_reducible first
      | assumption | apply frame_foldl1 | apply frame_foldl | apply fset_acc | apply frame_ite)
    | simp only [frame_mk]
    | split
    | exact hL (by decide)
    | exact List.Subset.trans (by decide) hL

theorem frame_totalsCopy (f : Nat) (recno : Nat) (ids : List Nat) (hk0 : Frame L F z s) (hL : [.acc] ⊆ L) : Frame L F z (State.totalsCopy s f recno ids) := by
  unfold State.totalsCopy
  try dsimp only
  repeat' first
    | (with_reducible first
      | assumption | apply fset_acc | apply frame_ite)
    | simp only [frame_mk]
    | split
    | exact hL (by decide)
    | exact List.Subset.trans (by decide) hL

theorem frame_resJudge (f : Nat) (recno : Nat) (residual : Int) (bound : Rat) (count : Nat) (hk0 : Frame L F z s) (hL : [.acc, .evr] ⊆ L) (hF : .stat ∈ L ∨ [(reg wACC 0, 4), (reg wACC 0, 5)] ⊆ F) : Frame L F z (State.resJudge s f recno residual bound count).1 := by
  unfold State.resJudge
  try dsimp only
  repeat' first
    | (with_reducible first
      | assumption | apply frame_setIv | apply frame_postEvent | apply frame_ite)
    | simp only [frame_mk]
    | split
    | exact hL (by decide)
    | exact List.Subset.trans (by decide) hL
    | exact hF.imp_right (List.Subset.trans (by decide))
    | exact hF.imp_right fun a => a (by decide)

theorem frame_ivWrite (f : Nat) (c : IvClose) (hk0 : Frame L F z s) (hL : [.acc, .evr, .free, .mem] ⊆ L) (hF : .stat ∈ L ∨ [(reg wACC 0, 2), (reg wACC 0, 3), (reg wACC 0, 4), (reg wACC 0, 5), (reg wACC 0, 6), (reg wACC 0, 11)] ⊆ F) : Frame L F z (State.ivWrite s f c) := by
  unfold State.ivWrite
  try dsimp only
  repeat' first
    | intro (_ : State) _ _ | intro (_ : State × _) _ _
    | (with_reducible first
      | assumption | apply frame_basisNotes | apply frame_setIv | apply frame_resJudge | apply frame_postEvent
      | apply frame_postBit | apply frame_totalsCopy | apply frame_totalsAdd | apply frame_allocWrite
      | apply frame_fresh | apply frame_foldl1 | apply frame_foldl | apply fset_acc | apply frame_ite)
    | simp only [frame_mk]
    | split
    | exact hL (by decide)
    | exact List.Subset.trans (by decide) hL
    | exact hF.imp_right (List.Subset.trans (by decide))
    | exact hF.imp_right fun a => a (by decide)

theorem frame_ivClose (f : Nat) (hk0 : Frame L F z s) (hL : [.acc, .evr, .free, .mem] ⊆ L) (hF : .stat ∈ L ∨ [(reg wACC 0, 2), (reg wACC 0, 3), (reg wACC 0, 4), (reg wACC 0, 5), (reg wACC 0, 6), (reg wACC 0, 11)] ⊆ F) : Frame L F z (State.ivClose s f) := by
  unfold State.ivClose
  try dsimp only
  repeat' first
    | (with_reducible first
      | assumption | apply frame_ivWrite | apply frame_ite)
    | simp only [frame_mk]
    | split
    | exact hL (by decide)
    | exact List.Subset.trans (by decide) hL
    | exact hF.imp_right (List.Subset.trans (by decide))
    | exact hF.imp_right fun a => a (by decide)

theorem frame_accCfgSet (master : Nat) (addr : Nat) (v : Word) (hk0 : Frame L F z s) (hL : [.stat, .acc, .cfg, .evr] ⊆ L) : Frame L F z (State.accCfgSet s master addr v) := by
  unfold State.accCfgSet
  try dsimp only
  repeat' first
    | (with_reducible first
      | assumption | apply frame_lockedWrite | apply frame_setCfg | apply frame_postBit | apply fset_acc
      | apply frame_ite)
    | simp only [frame_mk]
    | split
    | exact hL (by decide)
    | exact List.Subset.trans (by decide) hL
    | exact .inl (hL (by decide))

theorem frame_accPulseSet (master : Nat) (addr : Nat) (n : Nat) (v : Word) (hk0 : Frame L F z s) (hL : [.stat, .acc, .cfg, .evr] ⊆ L) : Frame L F z (State.accPulseSet s master addr n v) := by
  unfold State.accPulseSet
  try dsimp only
  repeat' first
    | (with_reducible first
      | assumption | apply frame_lockedWrite | apply frame_setCfg | apply frame_pulseRebase | apply frame_ite)
    | split
    | exact hL (by decide)
    | exact List.Subset.trans (by decide) hL
    | exact .inl (hL (by decide))

theorem frame_slotRead (f : Nat) (e : Nat) (k : Nat) (hk0 : Frame L F z s) (hL : [.acc, .reply] ⊆ L) : Frame L F z (State.slotRead s f e k) := by
  unfold State.slotRead
  try dsimp only
  repeat' first
    | (with_reducible first
      | assumption | apply frame_answer | apply fset_acc | apply frame_ite)
    | simp only [frame_mk]
    | split
    | exact hL (by decide)
    | exact List.Subset.trans (by decide) hL

theorem frame_slotCountRead (f : Nat) (e : Nat) (k : Nat) (hk0 : Frame L F z s) (hL : [.acc, .reply] ⊆ L) : Frame L F z (State.slotCountRead s f e k) := by
  unfold State.slotCountRead
  try dsimp only
  repeat' first
    | (with_reducible first
      | assumption | apply frame_answer | apply fset_acc | apply frame_ite)
    | simp only [frame_mk]
    | split
    | exact hL (by decide)
    | exact List.Subset.trans (by decide) hL

theorem frame_setChan (n : Nat) (f : Chan → Chan) (hk0 : Frame L F z s) (hL : [.mtr] ⊆ L) : Frame L F z (State.setChan s n f) :=
  fset_mtr hk0 (hL (by decide))

theorem frame_setFeed (f : Nat) (g : FeedCyc → FeedCyc) (hk0 : Frame L F z s) (hL : [.mtr] ⊆ L) : Frame L F z (State.setFeed s f g) :=
  fset_mtr hk0 (hL (by decide))

theorem frame_recal (a : Nat) (n : Nat) {k : State → State} (hk0 : Frame L F z s) (hk1 : ∀ t, Frame L F z t → Frame L F z (k t)) (hL : [.mtr] ⊆ L) : Frame L F z (State.recal s a n k) := by
  unfold State.recal
  try dsimp only
  repeat' first
    | (with_reducible first
      | assumption | apply hk1 | apply frame_setChan | apply frame_ite)
    | simp only [frame_mk]
    | split
    | exact hL (by decide)
    | exact List.Subset.trans (by decide) hL

theorem frame_feedSample (f : Nat) (img : ImgFeeder) (x : TakenSample) (hk0 : Frame L F z s) (hL : [.mtr] ⊆ L) : Frame L F z (State.feedSample s f img x) := by
  unfold State.feedSample
  try dsimp only
  repeat' first
    | (with_reducible first
      | assumption | apply frame_setFeed)
    | simp only [frame_mk]
    | exact hL (by decide)
    | exact List.Subset.trans (by decide) hL

theorem frame_takeSample (codes : List Int) (hk0 : Frame L F z s) (hL : [.mtr] ⊆ L) : Frame L F z (State.takeSample s codes) := by
  unfold State.takeSample
  try dsimp only
  repeat' first
    | intro (_ : State) _ _ | intro (_ : State × _) _ _
    | (with_reducible first
      | assumption | apply frame_feedSample | apply frame_foldl1 | apply frame_foldl | apply fset_mtr
      | apply frame_ite)
    | simp only [frame_mk]
    | split
    | exact hL (by decide)
    | exact List.Subset.trans (by decide) hL

theorem frame_takeSamples (l : List (List Int)) (hk0 : Frame L F z s) (hL : [.mtr] ⊆ L) :
    Frame L F z (s.takeSamples l) := by
  induction l generalizing s with
  | nil => exact hk0
  | cons c r ih =>
    unfold State.takeSamples
    exact frame_ite (ih (frame_takeSample c hk0 hL)) hk0

theorem frame_cycTaken (f : Nat) (t1 : Nat) (m : State.CycMeas) (hk0 : Frame L F z s) (hL : [.mtr] ⊆ L) : Frame L F z (State.cycTaken s f t1 m) := by
  unfold State.cycTaken
  try dsimp only
  repeat' first
    | (with_reducible first
      | assumption | apply frame_setFeed | apply frame_ite)
    | simp only [frame_mk]
    | split
    | exact hL (by decide)
    | exact List.Subset.trans (by decide) hL

theorem frame_writerStart (e : RecEntry) (hk0 : Frame L F z s) (hL : [.evr] ⊆ L) : Frame L F z (State.writerStart s e) :=
  fset_evr hk0 (hL (by decide))

theorem frame_writerTake (hk0 : Frame L F z s) (hL : [.evr] ⊆ L) : Frame L F z (State.writerTake s) := by
  unfold State.writerTake
  try dsimp only
  repeat' first
    | (with_reducible first
      | assumption | apply frame_writerStart | apply fset_evr | apply frame_ite)
    | simp only [frame_mk]
    | split
    | exact hL (by decide)
    | exact List.Subset.trans (by decide) hL

theorem frame_writerCommit (hk0 : Frame L F z s) (hL : [.evr] ⊆ L) : Frame L F z (State.writerCommit s) := by
  unfold State.writerCommit
  try dsimp only
  repeat' first
    | (with_reducible first
      | assumption | apply frame_recStore | apply frame_ite)
    | simp only [frame_mk]
    | split
    | exact hL (by decide)
    | exact List.Subset.trans (by decide) hL

theorem frame_writerGap (hk0 : Frame L F z s) (hL : [.evr] ⊆ L) : Frame L F z (State.writerGap s) := by
  unfold State.writerGap
  try dsimp only
  repeat' first
    | (with_reducible first
      | assumption | apply frame_writerStart | apply fset_evr | apply frame_ite)
    | simp only [frame_mk]
    | split
    | exact hL (by decide)
    | exact List.Subset.trans (by decide) hL

theorem frame_recCmdEnd (code : Nat) (hk0 : Frame L F z s) (hL : [.evr] ⊆ L) (hF : .stat ∈ L ∨ [(reg wREC 0, 1)] ⊆ F) : Frame L F z (State.recCmdEnd s code) := by
  unfold State.recCmdEnd
  try dsimp only
  repeat' first
    | (with_reducible first
      | assumption | apply frame_postBit | apply fset_evr)
    | simp only [frame_mk]
    | exact hL (by decide)
    | exact List.Subset.trans (by decide) hL
    | exact hF.imp_right (List.Subset.trans (by decide))
    | exact hF.imp_right fun a => a (by decide)

theorem frame_recDumpCmd (n : Nat) (hk0 : Frame L F z s) (hL : [.evr] ⊆ L) (hF : .stat ∈ L ∨ [(reg wREC 0, 1)] ⊆ F) : Frame L F z (State.recDumpCmd s n) := by
  unfold State.recDumpCmd
  try dsimp only
  repeat' first
    | (with_reducible first
      | assumption | apply frame_recCmdEnd | apply frame_weirAdmit | apply frame_ite)
    | split
    | exact hL (by decide)
    | exact List.Subset.trans (by decide) hL
    | exact hF.imp_right (List.Subset.trans (by decide))
    | exact hF.imp_right fun a => a (by decide)

theorem frame_recSoftCmd (n : Nat) (hk0 : Frame L F z s) (hL : [.evr] ⊆ L) (hF : .stat ∈ L ∨ [(reg wREC 0, 1)] ⊆ F) : Frame L F z (State.recSoftCmd s n) := by
  unfold State.recSoftCmd
  try dsimp only
  repeat' first
    | (with_reducible first
      | assumption | apply frame_recCmdEnd | apply frame_trigger | apply frame_ite)
    | simp only [frame_mk]
    | split
    | exact hL (by decide)
    | exact List.Subset.trans (by decide) hL
    | exact hF.imp_right (List.Subset.trans (by decide))
    | exact hF.imp_right fun a => a (by decide)

theorem frame_recTsel (v : Word) (hk0 : Frame L F z s) (hL : [.cfg, .evr] ⊆ L) : Frame L F z (State.recTsel s v) := by
  unfold State.recTsel
  try dsimp only
  repeat' first
    | (with_reducible first
      | assumption | apply frame_setCfg | apply fset_evr | apply frame_ite)
    | simp only [frame_mk]
    | split
    | exact hL (by decide)
    | exact List.Subset.trans (by decide) hL

theorem frame_recEdgeWrite (master : Nat) (addr : Nat) (a : Nat) (v : Word) (hk0 : Frame L F z s) (hL : [.stat, .cfg, .evr] ⊆ L) : Frame L F z (State.recEdgeWrite s master addr a v) := by
  unfold State.recEdgeWrite
  try dsimp only
  repeat' first
    | (with_reducible first
      | assumption | apply frame_setCfg | apply frame_lockedWrite | apply fset_evr | apply frame_ite)
    | simp only [frame_mk]
    | split
    | exact hL (by decide)
    | exact List.Subset.trans (by decide) hL
    | exact .inl (hL (by decide))

theorem frame_recSrcStart (n : Nat) (hk0 : Frame L F z s) (hL : [.evr] ⊆ L) : Frame L F z (State.recSrcStart s n) := by
  unfold State.recSrcStart
  try dsimp only
  repeat' first
    | (with_reducible first
      | assumption | apply fset_evr | apply frame_ite)
    | simp only [frame_mk]
    | split
    | exact hL (by decide)
    | exact List.Subset.trans (by decide) hL

theorem frame_recTear (hk0 : Frame L F z s) (hL : [.evr, .free] ⊆ L) : Frame L F z (State.recTear s) := by
  unfold State.recTear
  try dsimp only
  repeat' first
    | (with_reducible first
      | assumption | apply frame_fresh | apply fset_evr | apply frame_ite)
    | simp only [frame_mk]
    | split
    | exact hL (by decide)
    | exact List.Subset.trans (by decide) hL

theorem frame_recDiscard (hk0 : Frame L F z s) (hL : [.evr] ⊆ L) : Frame L F z (State.recDiscard s) :=
  fset_evr hk0 (hL (by decide))

theorem frame_recClear (hk0 : Frame L F z s) (hL : [.evr] ⊆ L) : Frame L F z (State.recClear s) :=
  fset_evr hk0 (hL (by decide))

theorem frame_recStart (level : Nat) (hk0 : Frame L F z s) (hL : [.evr] ⊆ L) (hF : .stat ∈ L ∨ [(reg wREC 0, 5)] ⊆ F) : Frame L F z (State.recStart s level) := by
  unfold State.recStart
  try dsimp only
  repeat' first
    | (with_reducible first
      | assumption | apply frame_recStore | apply frame_postBit | apply fset_evr | apply frame_ite)
    | simp only [frame_mk]
    | split
    | exact hL (by decide)
    | exact List.Subset.trans (by decide) hL
    | exact hF.imp_right (List.Subset.trans (by decide))
    | exact hF.imp_right fun a => a (by decide)

theorem frame_rtcPost (bits : Nat) (hk0 : Frame L F z s) (hL : [.stat, .evr] ⊆ L) : Frame L F z (State.rtcPost s bits) := by
  unfold State.rtcPost
  repeat' first
    | (with_reducible first
      | assumption | apply frame_post | apply frame_setBits | apply frame_ite)
    | split
    | exact hL (by decide)
    | exact List.Subset.trans (by decide) hL
    | exact .inl (hL (by decide))

theorem frame_clearStatBit (a : Nat) (i : Nat) (hk0 : Frame L F z s) (hL : [.stat] ⊆ L) : Frame L F z (State.clearStatBit s a i) := by
  unfold State.clearStatBit
  try dsimp only
  repeat' first
    | (with_reducible first
      | assumption | apply frame_setStat | apply frame_ite)
    | simp only [frame_mk]
    | split
    | exact hL (by decide)
    | exact List.Subset.trans (by decide) hL
    | exact .inl (hL (by decide))

theorem frame_wakeNote (src : Nat) (d : Word) (t : Word) (hk0 : Frame L F z s) (hL : [.rtc] ⊆ L) : Frame L F z (State.wakeNote s src d t) :=
  fset_rtc hk0 (hL (by decide))

theorem frame_wakeUp (src : Nat) (d : Word) (t : Word) (hk0 : Frame L F z s) (hL : [.rtc, .sys] ⊆ L) : Frame L F z (State.wakeUp s src d t) := by
  unfold State.wakeUp
  try dsimp only
  repeat' first
    | (with_reducible first
      | assumption | apply frame_wakeNote | apply fset_rtc | apply fset_sys | apply fbuilt)
    | simp only [frame_mk]
    | rfl
    | exact hL (by decide)
    | exact List.Subset.trans (by decide) hL
    | (intro p h1 h2; cases p; (case rtc => exact absurd (hL (by decide)) h1); (case sys => exact absurd (hL (by decide)) h1); (case stat => exact absurd rfl h2); all_goals (first | rfl | exact fun _ => rfl))

theorem frame_wakeEvent (src : Nat) (hk0 : Frame L F z s) (hL : [.rtc, .sys] ⊆ L) : Frame L F z (State.wakeEvent s src) := by
  unfold State.wakeEvent
  try dsimp only
  repeat' first
    | (with_reducible first
      | assumption | apply frame_wakeUp | apply fset_rtc | apply frame_ite)
    | simp only [frame_mk]
    | split
    | exact hL (by decide)
    | exact List.Subset.trans (by decide) hL

theorem frame_almFire (a : Nat) (late : Bool) (hk0 : Frame L F z s) (hL : [.stat, .cfg, .evr, .rtc, .sys] ⊆ L) : Frame L F z (State.almFire s a late) := by
  unfold State.almFire
  try dsimp only
  repeat' first
    | (with_reducible first
      | assumption | apply frame_setCfg | apply frame_rtcPost | apply frame_wakeEvent | apply fset_rtc
      | apply frame_ite)
    | simp only [frame_mk]
    | split
    | exact hL (by decide)
    | exact List.Subset.trans (by decide) hL
    | exact .inl (hL (by decide))

theorem frame_almCheck (old : Nat) (command : Bool) (a : Nat) (hk0 : Frame L F z s) (hL : [.stat, .cfg, .evr, .rtc, .sys] ⊆ L) : Frame L F z (State.almCheck s old command a) := by
  unfold State.almCheck
  try dsimp only
  repeat' first
    | (with_reducible first
      | assumption | apply frame_almFire | apply frame_ite)
    | split
    | exact hL (by decide)
    | exact List.Subset.trans (by decide) hL
    | exact .inl (hL (by decide))

theorem frame_almChecks (old : Nat) (command : Bool) (hk0 : Frame L F z s) (hL : [.stat, .cfg, .evr, .rtc, .sys] ⊆ L) : Frame L F z (State.almChecks s old command) := by
  unfold State.almChecks
  repeat' first
    | (with_reducible first
      | assumption | apply frame_almCheck)
    | exact hL (by decide)
    | exact List.Subset.trans (by decide) hL
    | exact .inl (hL (by decide))

theorem frame_almWrite (a : Nat) (v : Word) (hk0 : Frame L F z s) (hL : [.stat, .cfg, .evr, .rtc, .sys] ⊆ L) : Frame L F z (State.almWrite s a v) := by
  unfold State.almWrite
  try dsimp only
  repeat' first
    | (with_reducible first
      | assumption | apply frame_setCfg | apply frame_almFire | apply fset_rtc | apply frame_ite)
    | simp only [frame_mk]
    | split
    | exact hL (by decide)
    | exact List.Subset.trans (by decide) hL
    | exact .inl (hL (by decide))

theorem frame_rtcRefuse (code : Nat) (hk0 : Frame L F z s) (hL : [.stat, .evr, .rtc] ⊆ L) : Frame L F z (State.rtcRefuse s code) := by
  unfold State.rtcRefuse
  try dsimp only
  repeat' first
    | (with_reducible first
      | assumption | apply frame_rtcPost | apply fset_rtc)
    | simp only [frame_mk]
    | exact hL (by decide)
    | exact List.Subset.trans (by decide) hL
    | exact .inl (hL (by decide))

theorem frame_rtcDoSet (mask : Nat) (hk0 : Frame L F z s) (hL : [.stat, .cfg, .evr, .rtc, .scn, .sys] ⊆ L) : Frame L F z (State.rtcDoSet s mask) := by
  unfold State.rtcDoSet
  try dsimp only
  repeat' first
    | (with_reducible first
      | assumption | apply frame_rtcRefuse | apply frame_almChecks | apply frame_rtcPost
      | apply frame_clearStatBit | apply fset_rtc | apply fset_scn | apply fbuilt | apply frame_ite)
    | simp only [frame_mk]
    | split
    | rfl
    | exact hL (by decide)
    | exact List.Subset.trans (by decide) hL
    | exact .inl (hL (by decide))
    | (intro p h1 h2; cases p; (case cfg => exact absurd (hL (by decide)) h1); (case evr => exact absurd (hL (by decide)) h1); (case rtc => exact absurd (hL (by decide)) h1); (case scn => exact absurd (hL (by decide)) h1); (case sys => exact absurd (hL (by decide)) h1); (case stat => exact absurd rfl h2); all_goals (first | rfl | exact fun _ => rfl))

theorem frame_rtcDst (fwd : Bool) (hk0 : Frame L F z s) (hL : [.stat, .evr, .rtc] ⊆ L) : Frame L F z (State.rtcDst s fwd) := by
  unfold State.rtcDst
  try dsimp only
  repeat' first
    | (with_reducible first
      | assumption | apply frame_rtcRefuse | apply fset_rtc | apply frame_ite)
    | simp only [frame_mk]
    | split
    | exact hL (by decide)
    | exact List.Subset.trans (by decide) hL
    | exact .inl (hL (by decide))

theorem frame_wakeperStore (v : Word) (hk0 : Frame L F z s) (hL : [.cfg, .rtc] ⊆ L) : Frame L F z (State.wakeperStore s v) := by
  unfold State.wakeperStore
  try dsimp only
  repeat' first
    | (with_reducible first
      | assumption | apply frame_setCfg | apply fset_rtc)
    | simp only [frame_mk]
    | exact hL (by decide)
    | exact List.Subset.trans (by decide) hL

theorem frame_rtcCommand (v : Word) (hk0 : Frame L F z s) (hL : [.stat, .cfg, .evr, .rtc, .scn, .sys] ⊆ L) : Frame L F z (State.rtcCommand s v) := by
  unfold State.rtcCommand
  try dsimp only
  repeat' first
    | (with_reducible first
      | assumption | apply frame_setCfg | apply frame_rtcRefuse | apply frame_rtcDoSet | apply frame_rtcDst
      | apply frame_ite)
    | simp only [frame_mk]
    | split
    | exact hL (by decide)
    | exact List.Subset.trans (by decide) hL
    | exact .inl (hL (by decide))

theorem frame_trimStep (hk0 : Frame L F z s) (hL : [.rtc] ⊆ L) : Frame L F z (State.trimStep s) := by
  unfold State.trimStep
  try dsimp only
  repeat' first
    | (with_reducible first
      | assumption | apply fset_rtc | apply frame_ite)
    | simp only [frame_mk]
    | split
    | exact hL (by decide)
    | exact List.Subset.trans (by decide) hL

theorem frame_rtcTick (hk0 : Frame L F z s) (hL : [.stat, .cfg, .evr, .rtc, .sys] ⊆ L) : Frame L F z (State.rtcTick s) := by
  unfold State.rtcTick
  try dsimp only
  repeat' first
    | (with_reducible first
      | assumption | apply frame_trimStep | apply frame_almChecks | apply frame_rtcPost | apply fset_rtc
      | apply frame_ite)
    | simp only [frame_mk]
    | split
    | exact hL (by decide)
    | exact List.Subset.trans (by decide) hL
    | exact .inl (hL (by decide))

theorem frame_dateRead (sub : Nat) (hk0 : Frame L F z s) (hL : [.reply, .rtc] ⊆ L) : Frame L F z (State.dateRead s sub) := by
  unfold State.dateRead
  try dsimp only
  repeat' first
    | (with_reducible first
      | assumption | apply frame_answer | apply fset_rtc)
    | simp only [frame_mk]
    | exact hL (by decide)
    | exact List.Subset.trans (by decide) hL

theorem frame_timeRead (hk0 : Frame L F z s) (hL : [.reply, .rtc] ⊆ L) : Frame L F z (State.timeRead s) := by
  unfold State.timeRead
  try dsimp only
  repeat' first
    | (with_reducible first
      | assumption | apply frame_answer | apply fset_rtc)
    | simp only [frame_mk]
    | exact hL (by decide)
    | exact List.Subset.trans (by decide) hL

theorem frame_subRead (hk0 : Frame L F z s) (hL : [.free, .reply, .rtc] ⊆ L) : Frame L F z (State.subRead s) := by
  unfold State.subRead
  try dsimp only
  repeat' first
    | (with_reducible first
      | assumption | apply frame_fresh | apply frame_answer | apply fset_rtc)
    | simp only [frame_mk]
    | exact hL (by decide)
    | exact List.Subset.trans (by decide) hL

theorem frame_setRsByte (off : Nat) (b : Byte) (hk0 : Frame L F z s) (hL : [.rtc] ⊆ L) : Frame L F z (State.setRsByte s off b) :=
  fset_rtc hk0 (hL (by decide))

theorem frame_hostRsWrite (off : Nat) (x2 : List Byte) (hk0 : Frame L F z s) (hL : [.rtc] ⊆ L) : Frame L F z (State.hostRsWrite s off x2) := by
  induction x2 generalizing s off
  · exact hk0
  · rename_i ih
    unfold State.hostRsWrite
    try dsimp only
    repeat' first
      | (with_reducible first
        | assumption | apply ih | apply frame_setRsByte | apply frame_ite)
      | split
      | exact hL (by decide)
      | exact List.Subset.trans (by decide) hL

theorem frame_rsRead (off : Nat) (size : Nat) (corrupt : Option Byte) (hk0 : Frame L F z s) (hL : [.stat, .evr, .reply, .rtc] ⊆ L) : Frame L F z (State.rsRead s off size corrupt) := by
  unfold State.rsRead
  try dsimp only
  repeat' first
    | (with_reducible first
      | assumption | apply frame_rtcPost | apply frame_answer | apply fset_rtc | apply frame_ite)
    | simp only [frame_mk]
    | split
    | exact hL (by decide)
    | exact List.Subset.trans (by decide) hL
    | exact .inl (hL (by decide))

theorem frame_integrityRecord (w : Nat) (addr : Option Nat) (cause : Nat) (hk0 : Frame L F z s) (hL : [.evr] ⊆ L) : Frame L F z (State.integrityRecord s w addr cause) := by
  unfold State.integrityRecord
  try dsimp only
  repeat' first
    | (with_reducible first
      | assumption | apply frame_recBypass | apply frame_ite)
    | simp only [frame_mk]
    | split
    | exact hL (by decide)
    | exact List.Subset.trans (by decide) hL

theorem frame_vergeEvent (subst : Bool) (pool : Nat) (elem : Nat) (spare : Nat) (cause : Nat) (hk0 : Frame L F z s) (hL : [.evr] ⊆ L) (hF : .stat ∈ L ∨ [(reg wFLT 0, 3)] ⊆ F) : Frame L F z (State.vergeEvent s subst pool elem spare cause) := by
  unfold State.vergeEvent
  try dsimp only
  repeat' first
    | (with_reducible first
      | assumption | apply frame_postEvent | apply frame_event | apply frame_ite)
    | split
    | exact hL (by decide)
    | exact List.Subset.trans (by decide) hL
    | exact hF.imp_right (List.Subset.trans (by decide))
    | exact hF.imp_right fun a => a (by decide)

theorem frame_poolEmpty (hk0 : Frame L F z s) (hL : [.evr] ⊆ L) (hF : .stat ∈ L ∨ [(reg wFLT 0, 5)] ⊆ F) : Frame L F z (State.poolEmpty s) := by
  unfold State.poolEmpty
  repeat' first
    | (with_reducible first
      | assumption | apply frame_postBit)
    | exact hL (by decide)
    | exact List.Subset.trans (by decide) hL
    | exact hF.imp_right (List.Subset.trans (by decide))
    | exact hF.imp_right fun a => a (by decide)

theorem frame_poolLow (hk0 : Frame L F z s) (hL : [.evr, .flt] ⊆ L) (hF : .stat ∈ L ∨ [(reg wFLT 0, 4)] ⊆ F) : Frame L F z (State.poolLow s) := by
  unfold State.poolLow
  try dsimp only
  repeat' first
    | (with_reducible first
      | assumption | apply frame_postEvent | apply fset_flt | apply frame_ite)
    | simp only [frame_mk]
    | split
    | exact hL (by decide)
    | exact List.Subset.trans (by decide) hL
    | exact hF.imp_right (List.Subset.trans (by decide))
    | exact hF.imp_right fun a => a (by decide)

theorem frame_rowSubst (row : Nat) (cause : Nat) (hk0 : Frame L F z s) (hL : [.evr, .flt] ⊆ L) (hF : .stat ∈ L ∨ [(reg wFLT 0, 3), (reg wFLT 0, 4), (reg wFLT 0, 5)] ⊆ F) : Frame L F z (State.rowSubst s row cause) := by
  unfold State.rowSubst
  try dsimp only
  repeat' first
    | (with_reducible first
      | assumption | apply frame_poolEmpty | apply frame_poolLow | apply frame_vergeEvent | apply fset_flt
      | apply frame_ite)
    | simp only [frame_mk]
    | split
    | exact hL (by decide)
    | exact List.Subset.trans (by decide) hL
    | exact hF.imp_right (List.Subset.trans (by decide))
    | exact hF.imp_right fun a => a (by decide)

theorem frame_sectorCopy (sec : Nat) (hk0 : Frame L F z s) (hL : [.evr, .flt] ⊆ L) (hF : .stat ∈ L ∨ [(reg wFLT 0, 5)] ⊆ F) : Frame L F z (State.sectorCopy s sec) := by
  unfold State.sectorCopy
  try dsimp only
  repeat' first
    | (with_reducible first
      | assumption | apply frame_poolEmpty | apply fset_flt | apply frame_ite)
    | simp only [frame_mk]
    | split
    | exact hL (by decide)
    | exact List.Subset.trans (by decide) hL
    | exact hF.imp_right (List.Subset.trans (by decide))
    | exact hF.imp_right fun a => a (by decide)

theorem frame_sectorCommit (hk0 : Frame L F z s) (hL : [.evr, .flt] ⊆ L) (hF : .stat ∈ L ∨ [(reg wFLT 0, 3), (reg wFLT 0, 4)] ⊆ F) : Frame L F z (State.sectorCommit s) := by
  unfold State.sectorCommit
  try dsimp only
  repeat' first
    | (with_reducible first
      | assumption | apply frame_poolLow | apply frame_vergeEvent | apply fset_flt | apply frame_ite)
    | simp only [frame_mk]
    | split
    | exact hL (by decide)
    | exact List.Subset.trans (by decide) hL
    | exact hF.imp_right (List.Subset.trans (by decide))
    | exact hF.imp_right fun a => a (by decide)

theorem frame_eccNote (mram : Bool) (ue : Bool) (scrub : Bool) (addr : Nat) (hk0 : Frame L F z s) (hL : [.flt] ⊆ L) : Frame L F z (State.eccNote s mram ue scrub addr) := by
  unfold State.eccNote
  try dsimp only
  repeat' first
    | (with_reducible first
      | assumption | apply fset_flt | apply frame_ite)
    | simp only [frame_mk]
    | split
    | exact hL (by decide)
    | exact List.Subset.trans (by decide) hL

theorem frame_corrected (mram : Bool) (addr : Nat) (hk0 : Frame L F z s) (hL : [.stat, .evr, .flt] ⊆ L) : Frame L F z (State.corrected s mram addr) := by
  unfold State.corrected
  try dsimp only
  repeat' first
    | (with_reducible first
      | assumption | apply frame_postBit | apply frame_eccNote | apply frame_sectorCopy | apply frame_rowSubst
      | apply fset_flt | apply fbuilt | apply frame_ite)
    | simp only [frame_mk]
    | split
    | rfl
    | exact hL (by decide)
    | exact List.Subset.trans (by decide) hL
    | exact .inl (hL (by decide))
    | (intro p h1 h2; cases p; (case evr => exact absurd (hL (by decide)) h1); (case flt => exact absurd (hL (by decide)) h1); (case stat => exact absurd rfl h2); all_goals (first | rfl | exact fun _ => rfl))

theorem frame_vergeDone (code : Nat) (hk0 : Frame L F z s) (hL : [.evr, .flt] ⊆ L) (hF : .stat ∈ L ∨ [(reg wFLT 0, 6)] ⊆ F) : Frame L F z (State.vergeDone s code) := by
  unfold State.vergeDone
  try dsimp only
  repeat' first
    | (with_reducible first
      | assumption | apply frame_postBit | apply fset_flt)
    | simp only [frame_mk]
    | exact hL (by decide)
    | exact List.Subset.trans (by decide) hL
    | exact hF.imp_right (List.Subset.trans (by decide))
    | exact hF.imp_right fun a => a (by decide)

theorem frame_vergeTest (kind : Nat) (index : Nat) (pass : Bool) (hk0 : Frame L F z s) (hL : [.evr, .flt] ⊆ L) (hF : .stat ∈ L ∨ [(reg wFLT 0, 3), (reg wFLT 0, 6)] ⊆ F) : Frame L F z (State.vergeTest s kind index pass) := by
  unfold State.vergeTest
  try dsimp only
  repeat' first
    | (with_reducible first
      | assumption | apply frame_vergeDone | apply frame_vergeEvent | apply fset_flt | apply frame_ite)
    | simp only [frame_mk]
    | split
    | exact hL (by decide)
    | exact List.Subset.trans (by decide) hL
    | exact hF.imp_right (List.Subset.trans (by decide))
    | exact hF.imp_right fun a => a (by decide)

theorem frame_vergeFree (kind : Nat) (index : Nat) (hk0 : Frame L F z s) (hL : [.evr, .flt, .mst] ⊆ L) (hF : .stat ∈ L ∨ [(reg wFLT 0, 6)] ⊆ F) : Frame L F z (State.vergeFree s kind index) := by
  unfold State.vergeFree
  try dsimp only
  repeat' first
    | (with_reducible first
      | assumption | apply frame_vergeDone | apply fset_mst | apply frame_ite)
    | simp only [frame_mk]
    | split
    | exact hL (by decide)
    | exact List.Subset.trans (by decide) hL
    | exact hF.imp_right (List.Subset.trans (by decide))
    | exact hF.imp_right fun a => a (by decide)

theorem frame_corruptWord (c : Corrupt) (hk0 : Frame L F z s) (hL : [.act, .cfg, .changed] ⊆ L) : Frame L F z (State.corruptWord s c) := by
  unfold State.corruptWord
  try dsimp only
  repeat' first
    | (with_reducible first
      | assumption | apply frame_putAct | apply frame_putCfg | apply fset_cfg | apply fset_changed
      | apply fbuilt | apply frame_ite)
    | simp only [frame_mk]
    | split
    | rfl
    | exact hL (by decide)
    | exact List.Subset.trans (by decide) hL
    | (intro p h1 h2; cases p; (case act => exact absurd (hL (by decide)) h1); (case cfg => exact absurd (hL (by decide)) h1); (case changed => exact absurd (hL (by decide)) h1); (case stat => exact absurd rfl h2); all_goals (first | rfl | exact fun _ => rfl))

theorem frame_testEnd (hk0 : Frame L F z s) (hL : [.cfg, .parity] ⊆ L) : Frame L F z (State.testEnd s) := by
  unfold State.testEnd
  try dsimp only
  repeat' first
    | (with_reducible first
      | assumption | apply frame_setCfg | apply fset_parity | apply frame_ite)
    | simp only [frame_mk]
    | split
    | exact hL (by decide)
    | exact List.Subset.trans (by decide) hL

theorem frame_parityScan (hk0 : Frame L F z s) (hL : [.cfg, .evr, .parity, .sys] ⊆ L) : Frame L F z (State.parityScan s) := by
  unfold State.parityScan
  try dsimp only
  repeat' first
    | intro (_ : State) _ _ | intro (_ : State × _) _ _
    | (with_reducible first
      | assumption | apply frame_parityFault | apply frame_testEnd | apply frame_foldl1 | apply frame_foldl
      | apply frame_ite)
    | split
    | exact hL (by decide)
    | exact List.Subset.trans (by decide) hL

theorem frame_clockLost (w : Nat) (hk0 : Frame L F z s) (hL : [.evr, .sys] ⊆ L) (hF : .stat ∈ L ∨ [(reg wSYS 0, 4)] ⊆ F) : Frame L F z (State.clockLost s w) := by
  unfold State.clockLost
  try dsimp only
  repeat' first
    | (with_reducible first
      | assumption | apply frame_postEvent | apply fset_sys | apply frame_ite)
    | simp only [frame_mk]
    | split
    | exact hL (by decide)
    | exact List.Subset.trans (by decide) hL
    | exact hF.imp_right (List.Subset.trans (by decide))
    | exact hF.imp_right fun a => a (by decide)

theorem frame_wdtKick (v : Word) (hk0 : Frame L F z s) (hL : [.cfg, .sys] ⊆ L) : Frame L F z (State.wdtKick s v) := by
  unfold State.wdtKick
  try dsimp only
  repeat' first
    | (with_reducible first
      | assumption | apply frame_setCfg | apply fset_sys | apply frame_ite)
    | simp only [frame_mk]
    | split
    | exact hL (by decide)
    | exact List.Subset.trans (by decide) hL

theorem frame_partestArm (v : Word) (hk0 : Frame L F z s) (hL : [.cfg, .parity] ⊆ L) : Frame L F z (State.partestArm s v) := by
  unfold State.partestArm
  try dsimp only
  repeat' first
    | (with_reducible first
      | assumption | apply frame_setCfg | apply fset_parity)
    | simp only [frame_mk]
    | exact hL (by decide)
    | exact List.Subset.trans (by decide) hL

theorem frame_setSink (c : Nat) (f : Sink → Sink) (hk0 : Frame L F z s) (hL : [.mst] ⊆ L) : Frame L F z (State.setSink s c f) :=
  fset_mst hk0 (hL (by decide))

theorem frame_setGroup (g : Nat) (f : Group → Group) (hk0 : Frame L F z s) (hL : [.mst] ⊆ L) : Frame L F z (State.setGroup s g f) :=
  fset_mst hk0 (hL (by decide))

theorem frame_setHead (h0 : Nat) (f : Head → Head) (hk0 : Frame L F z s) (hL : [.mst] ⊆ L) : Frame L F z (State.setHead s h0 f) :=
  fset_mst hk0 (hL (by decide))

theorem frame_calApply (g : Nat) (hk0 : Frame L F z s) (hL : [.mst] ⊆ L) : Frame L F z (State.calApply s g) := by
  unfold State.calApply
  try dsimp only
  repeat' first
    | (with_reducible first
      | assumption | apply frame_setSink | apply fset_mst | apply frame_ite)
    | simp only [frame_mk]
    | split
    | exact hL (by decide)
    | exact List.Subset.trans (by decide) hL

theorem frame_driveGroup (g : Nat) (hk0 : Frame L F z s) (hL : [.mst] ⊆ L) : Frame L F z (State.driveGroup s g) := by
  unfold State.driveGroup
  try dsimp only
  repeat' first
    | intro (_ : State) _ _ | intro (_ : State × _) _ _
    | (with_reducible first
      | assumption | apply frame_setSink | apply frame_foldl1 | apply frame_foldl | apply frame_ite)
    | split
    | exact hL (by decide)
    | exact List.Subset.trans (by decide) hL

theorem frame_leaveDark (g : Nat) (hk0 : Frame L F z s) (hL : [.mst] ⊆ L) : Frame L F z (State.leaveDark s g) := by
  unfold State.leaveDark
  try dsimp only
  repeat' first
    | (with_reducible first
      | assumption | apply frame_setGroup | apply frame_ite)
    | simp only [frame_mk]
    | split
    | exact hL (by decide)
    | exact List.Subset.trans (by decide) hL

theorem frame_hrBegin (g : Nat) (hk0 : Frame L F z s) (hL : [.mst] ⊆ L) : Frame L F z (State.hrBegin s g) := by
  unfold State.hrBegin
  try dsimp only
  repeat' first
    | intro (_ : State) _ _ | intro (_ : State × _) _ _
    | (with_reducible first
      | assumption | apply frame_setGroup | apply frame_setSink | apply frame_foldl1 | apply frame_foldl
      | apply frame_ite)
    | simp only [frame_mk]
    | split
    | exact hL (by decide)
    | exact List.Subset.trans (by decide) hL

theorem frame_enterPhase (g : Nat) (p : Phase) (hk0 : Frame L F z s) (hL : [.mst] ⊆ L) : Frame L F z (State.enterPhase s g p) := by
  unfold State.enterPhase
  try dsimp only
  repeat' first
    | (with_reducible first
      | assumption | apply frame_leaveDark | apply frame_setGroup | apply frame_hrBegin | apply frame_ite)
    | simp only [frame_mk]
    | split
    | exact hL (by decide)
    | exact List.Subset.trans (by decide) hL

theorem frame_tripGroup (g : Nat) (therm : Bool) (items : List (List Byte)) (hk0 : Frame L F z s) (hL : [.stat, .evr, .mem, .mst, .str] ⊆ L) : Frame L F z (State.tripGroup s g therm items) := by
  unfold State.tripGroup
  try dsimp only
  repeat' first
    | intro (_ : State) _ _ | intro (_ : State × _) _ _
    | (with_reducible first
      | assumption | apply frame_setGroup | apply frame_enterPhase | apply frame_faultHandle
      | apply frame_postEvent | apply frame_foldl1 | apply frame_foldl | apply fbuilt | apply frame_ite)
    | simp only [frame_mk]
    | split
    | rfl
    | exact hL (by decide)
    | exact List.Subset.trans (by decide) hL
    | exact .inl (hL (by decide))
    | (intro p h1 h2; cases p; (case evr => exact absurd (hL (by decide)) h1); (case mem => exact absurd (hL (by decide)) h1); (case mst => exact absurd (hL (by decide)) h1); (case str => exact absurd (hL (by decide)) h1); (case stat => exact absurd rfl h2); all_goals (first | rfl | exact fun _ => rfl))

theorem frame_react (c : Nat) (hk0 : Frame L F z s) (hL : [.stat, .evr, .mem, .mst, .str] ⊆ L) : Frame L F z (State.react s c) := by
  unfold State.react
  try dsimp only
  repeat' first
    | (with_reducible first
      | assumption | apply frame_tripGroup | apply frame_setSink | apply frame_faultHandle | apply frame_ite)
    | simp only [frame_mk]
    | split
    | exact hL (by decide)
    | exact List.Subset.trans (by decide) hL
    | exact .inl (hL (by decide))

theorem frame_enterFault (c : Nat) (cause : Nat) (i : Nat) (vds : Nat) (hk0 : Frame L F z s) (hL : [.stat, .evr, .mst] ⊆ L) : Frame L F z (State.enterFault s c cause i vds) := by
  unfold State.enterFault
  try dsimp only
  repeat' first
    | (with_reducible first
      | assumption | apply frame_setSink | apply frame_postEvent | apply frame_event | apply fbuilt
      | apply frame_ite)
    | simp only [frame_mk]
    | split
    | rfl
    | exact hL (by decide)
    | exact List.Subset.trans (by decide) hL
    | exact .inl (hL (by decide))
    | (intro p h1 h2; cases p; (case evr => exact absurd (hL (by decide)) h1); (case mst => exact absurd (hL (by decide)) h1); (case stat => exact absurd rfl h2); all_goals (first | rfl | exact fun _ => rfl))

theorem frame_ctrlFault (c : Nat) (hk0 : Frame L F z s) (hL : [.stat, .evr, .mem, .mst, .str] ⊆ L) : Frame L F z (State.ctrlFault s c) := by
  unfold State.ctrlFault
  try dsimp only
  repeat' first
    | (with_reducible first
      | assumption | apply frame_setSink | apply frame_setGroup | apply frame_react | apply frame_poolEmpty
      | apply frame_ite)
    | simp only [frame_mk]
    | split
    | exact hL (by decide)
    | exact List.Subset.trans (by decide) hL
    | exact .inl (hL (by decide))

theorem frame_sinkFaulted (c : Nat) (cause : Nat) (i : Nat) (vds : Nat) (hk0 : Frame L F z s) (hL : [.stat, .evr, .mem, .mst, .str] ⊆ L) : Frame L F z (State.sinkFaulted s c cause i vds) := by
  unfold State.sinkFaulted
  try dsimp only
  repeat' first
    | (with_reducible first
      | assumption | apply frame_enterFault | apply frame_react | apply frame_ctrlFault | apply frame_setGroup
      | apply frame_ite)
    | simp only [frame_mk]
    | split
    | exact hL (by decide)
    | exact List.Subset.trans (by decide) hL
    | exact .inl (hL (by decide))

theorem frame_ackSink (c : Nat) (hk0 : Frame L F z s) (hL : [.mst] ⊆ L) : Frame L F z (State.ackSink s c) := by
  unfold State.ackSink
  try dsimp only
  repeat' first
    | (with_reducible first
      | assumption | apply frame_setSink | apply frame_ite)
    | simp only [frame_mk]
    | split
    | exact hL (by decide)
    | exact List.Subset.trans (by decide) hL

theorem frame_groupAck (g : Nat) (hk0 : Frame L F z s) (hL : [.mst] ⊆ L) : Frame L F z (State.groupAck s g) := by
  unfold State.groupAck
  try dsimp only
  repeat' first
    | intro (_ : State) _ _ | intro (_ : State × _) _ _
    | (with_reducible first
      | assumption | apply frame_ackSink | apply frame_setGroup | apply frame_enterPhase | apply frame_foldl1
      | apply frame_foldl | apply frame_ite)
    | simp only [frame_mk]
    | split
    | exact hL (by decide)
    | exact List.Subset.trans (by decide) hL

theorem frame_groupStarted (g : Nat) (hk0 : Frame L F z s) (hL : [.mst] ⊆ L) : Frame L F z (State.groupStarted s g) := by
  unfold State.groupStarted
  try dsimp only
  repeat' first
    | (with_reducible first
      | assumption | apply frame_setGroup | apply frame_enterPhase | apply frame_ite)
    | simp only [frame_mk]
    | split
    | exact hL (by decide)
    | exact List.Subset.trans (by decide) hL

theorem frame_headStart (h0 : Nat) (c : HeadCmd) (hk0 : Frame L F z s) (hL : [.mst] ⊆ L) : Frame L F z (State.headStart s h0 c) := by
  unfold State.headStart
  try dsimp only
  repeat' first
    | (with_reducible first
      | assumption | apply frame_setHead | apply frame_ite)
    | simp only [frame_mk]
    | split
    | exact hL (by decide)
    | exact List.Subset.trans (by decide) hL

theorem frame_headDueN (h0 : Nat) (x2 : Nat) (hk0 : Frame L F z s) (hL : [.mst] ⊆ L) : Frame L F z (State.headDueN s h0 x2) := by
  induction x2 generalizing s h0
  · exact hk0
  · rename_i ih
    unfold State.headDueN
    try dsimp only
    repeat' first
      | (with_reducible first
        | assumption | apply ih | apply frame_setHead | apply frame_headStart | apply frame_ite)
      | simp only [frame_mk]
      | split
      | exact hL (by decide)
      | exact List.Subset.trans (by decide) hL

theorem frame_headDue (h0 : Nat) (hk0 : Frame L F z s) (hL : [.mst] ⊆ L) : Frame L F z (State.headDue s h0) := by
  unfold State.headDue
  repeat' first
    | (with_reducible first
      | assumption | apply frame_headDueN)
    | exact hL (by decide)
    | exact List.Subset.trans (by decide) hL

theorem frame_headWaves (h0 : Nat) (hk0 : Frame L F z s) (hL : [.mst] ⊆ L) : Frame L F z (State.headWaves s h0) := by
  unfold State.headWaves
  try dsimp only
  repeat' first
    | (with_reducible first
      | assumption | apply frame_setHead | apply frame_ite)
    | simp only [frame_mk]
    | split
    | exact hL (by decide)
    | exact List.Subset.trans (by decide) hL

theorem frame_measure (g : Nat) (m : SinkMeas) (hk0 : Frame L F z s) (hL : [.mst] ⊆ L) : Frame L F z (State.measure s g m) := by
  unfold State.measure
  try dsimp only
  repeat' first
    | (with_reducible first
      | assumption | apply frame_setSink | apply frame_setHead | apply frame_ite)
    | simp only [frame_mk]
    | split
    | exact hL (by decide)
    | exact List.Subset.trans (by decide) hL

theorem frame_calMeasure (g : Nat) (meas : List SinkMeas) (hk0 : Frame L F z s) (hL : [.mst] ⊆ L) : Frame L F z (State.calMeasure s g meas) := by
  unfold State.calMeasure
  try dsimp only
  repeat' first
    | (with_reducible first
      | assumption | apply fset_mst | apply frame_ite)
    | simp only [frame_mk]
    | split
    | exact hL (by decide)
    | exact List.Subset.trans (by decide) hL

theorem frame_testTaken (g : Nat) (hk0 : Frame L F z s) (hL : [.mst] ⊆ L) : Frame L F z (State.testTaken s g) := by
  unfold State.testTaken
  try dsimp only
  repeat' first
    | (with_reducible first
      | assumption | apply frame_enterPhase | apply frame_ite)
    | simp only [frame_mk]
    | split
    | exact hL (by decide)
    | exact List.Subset.trans (by decide) hL

theorem frame_spareReleased (g : Nat) (hk0 : Frame L F z s) (hL : [.evr, .flt, .mst] ⊆ L) (hF : .stat ∈ L ∨ [(reg wFLT 0, 3), (reg wFLT 0, 6)] ⊆ F) : Frame L F z (State.spareReleased s g) := by
  unfold State.spareReleased
  try dsimp only
  repeat' first
    | (with_reducible first
      | assumption | apply frame_setGroup | apply frame_setSink | apply frame_vergeDone | apply frame_vergeEvent
      | apply fset_flt | apply frame_ite)
    | simp only [frame_mk]
    | split
    | exact hL (by decide)
    | exact List.Subset.trans (by decide) hL
    | exact hF.imp_right (List.Subset.trans (by decide))
    | exact hF.imp_right fun a => a (by decide)

theorem frame_extraHr (g : Nat) (hk0 : Frame L F z s) (hL : [.mst] ⊆ L) : Frame L F z (State.extraHr s g) := by
  unfold State.extraHr
  try dsimp only
  repeat' first
    | (with_reducible first
      | assumption | apply frame_setGroup | apply frame_ite)
    | simp only [frame_mk]
    | split
    | exact hL (by decide)
    | exact List.Subset.trans (by decide) hL

theorem frame_phaseMoves (g : Nat) (hk0 : Frame L F z s) (hL : [.mst] ⊆ L) : Frame L F z (State.phaseMoves s g) := by
  unfold State.phaseMoves
  try dsimp only
  repeat' first
    | (with_reducible first
      | assumption | apply frame_setGroup | apply frame_enterPhase | apply frame_ite)
    | simp only [frame_mk]
    | split
    | exact hL (by decide)
    | exact List.Subset.trans (by decide) hL

theorem frame_periodFaults (g : Nat) (meas : List SinkMeas) (hk0 : Frame L F z s) (hL : [.stat, .evr, .mem, .mst, .str] ⊆ L) : Frame L F z (State.periodFaults s g meas) := by
  unfold State.periodFaults
  try dsimp only
  repeat' first
    | intro (_ : State) _ _ | intro (_ : State × _) _ _
    | (with_reducible first
      | assumption | apply frame_calMeasure | apply frame_measure | apply frame_tripGroup | apply frame_foldl1
      | apply frame_foldl | apply frame_ite)
    | split
    | exact hL (by decide)
    | exact List.Subset.trans (by decide) hL
    | exact .inl (hL (by decide))

theorem frame_periodWork (g : Nat) (test : Bool) (hk0 : Frame L F z s) (hL : [.evr, .flt, .mst] ⊆ L) (hF : .stat ∈ L ∨ [(reg wFLT 0, 3), (reg wFLT 0, 6)] ⊆ F) : Frame L F z (State.periodWork s g test) := by
  unfold State.periodWork
  try dsimp only
  repeat' first
    | (with_reducible first
      | assumption | apply frame_spareReleased | apply frame_testTaken | apply frame_headWaves
      | apply frame_headDue | apply frame_phaseMoves | apply frame_extraHr | apply frame_calApply
      | apply frame_driveGroup | apply frame_ite)
    | simp only [frame_mk]
    | split
    | exact hL (by decide)
    | exact List.Subset.trans (by decide) hL
    | exact hF.imp_right (List.Subset.trans (by decide))
    | exact hF.imp_right fun a => a (by decide)

theorem frame_stringWindow (c : Nat) (lo : Nat) (hi : Nat) (ntc : Option Rat) (hk0 : Frame L F z s) (hL : [.stat, .evr, .mst] ⊆ L) : Frame L F z (State.stringWindow s c lo hi ntc).1 := by
  unfold State.stringWindow
  try dsimp only
  repeat' first
    | (with_reducible first
      | assumption | apply frame_setSink | apply frame_enterFault | apply frame_postBit | apply frame_ite)
    | simp only [frame_mk]
    | split
    | exact hL (by decide)
    | exact List.Subset.trans (by decide) hL
    | exact .inl (hL (by decide))

theorem frame_stringsWindow (g : Nat) (lo : Nat) (hi : Nat) (ntc : Option Rat) (hk0 : Frame L F z s) (hL : [.stat, .evr, .mst] ⊆ L) : Frame L F z (State.stringsWindow s g lo hi ntc).1 := by
  unfold State.stringsWindow
  try dsimp only
  repeat' first
    | intro (_ : State) _ _ | intro (_ : State × _) _ _
    | (with_reducible first
      | assumption | apply frame_stringWindow | apply frame_foldl1 | apply frame_foldl | apply frame_ite)
    | simp only [frame_mk]
    | split
    | exact hL (by decide)
    | exact List.Subset.trans (by decide) hL
    | exact .inl (hL (by decide))

theorem frame_ntcWindow (g : Nat) (ntc : Option Rat) (hk0 : Frame L F z s) (hL : [.evr, .mst] ⊆ L) (hF : .stat ∈ L ∨ [(reg wMST 0, 7)] ⊆ F) : Frame L F z (State.ntcWindow s g ntc) := by
  unfold State.ntcWindow
  try dsimp only
  repeat' first
    | (with_reducible first
      | assumption | apply frame_setGroup | apply frame_postEvent | apply frame_ite)
    | simp only [frame_mk]
    | split
    | exact hL (by decide)
    | exact List.Subset.trans (by decide) hL
    | exact hF.imp_right (List.Subset.trans (by decide))
    | exact hF.imp_right fun a => a (by decide)

theorem frame_writeHeadEntry (g : Nat) (e : Nat) (t : Rat) (d : Nat) (hk0 : Frame L F z s) (hL : [.mem] ⊆ L) : Frame L F z (State.writeHeadEntry s g e t d) := by
  unfold State.writeHeadEntry
  try dsimp only
  repeat' first
    | intro (_ : State) _ _ | intro (_ : State × _) _ _
    | (with_reducible first
      | assumption | apply frame_setLt | apply frame_foldl1 | apply frame_foldl | apply frame_ite)
    | split
    | exact hL (by decide)
    | exact List.Subset.trans (by decide) hL

theorem frame_satWindow (g : Nat) (hk0 : Frame L F z s) (hL : [.mst] ⊆ L) : Frame L F z (State.satWindow s g) := by
  unfold State.satWindow
  try dsimp only
  repeat' first
    | intro (_ : State) _ _ | intro (_ : State × _) _ _
    | (with_reducible first
      | assumption | apply frame_setSink | apply frame_foldl1 | apply frame_foldl | apply frame_ite)
    | simp only [frame_mk]
    | split
    | exact hL (by decide)
    | exact List.Subset.trans (by decide) hL

theorem frame_takeEstimate (g : Nat) (e : Rat × TSource × Option (Rat × Nat)) (d : Nat) (hk0 : Frame L F z s) (hL : [.evr, .mst] ⊆ L) (hF : .stat ∈ L ∨ [(reg wMST 0, 8)] ⊆ F) : Frame L F z (State.takeEstimate s g e d) := by
  unfold State.takeEstimate
  try dsimp only
  repeat' first
    | (with_reducible first
      | assumption | apply frame_setGroup | apply frame_postBit | apply frame_ite)
    | simp only [frame_mk]
    | split
    | exact hL (by decide)
    | exact List.Subset.trans (by decide) hL
    | exact hF.imp_right (List.Subset.trans (by decide))
    | exact hF.imp_right fun a => a (by decide)

theorem frame_tripDue (g : Nat) (hk0 : Frame L F z s) (hL : [.mst] ⊆ L) : Frame L F z (State.tripDue s g) := by
  unfold State.tripDue
  try dsimp only
  repeat' first
    | (with_reducible first
      | assumption | apply frame_setGroup | apply frame_ite)
    | simp only [frame_mk]
    | split
    | exact hL (by decide)
    | exact List.Subset.trans (by decide) hL

theorem frame_sampleNow (g : Nat) (m : SinkMeas) (hk0 : Frame L F z s) (hL : [.mst] ⊆ L) : Frame L F z (State.sampleNow s g m) := by
  unfold State.sampleNow
  try dsimp only
  repeat' first
    | (with_reducible first
      | assumption | apply frame_setSink | apply frame_ite)
    | split
    | exact hL (by decide)
    | exact List.Subset.trans (by decide) hL

theorem frame_tjWindow {s0 : State} (g : Nat) (last : List SinkMeas) (ohms : List Rat) (hk0 : Frame L F z s0) (hL : [.stat, .evr, .mem, .mst] ⊆ L) : Frame L F z (State.tjWindow s0 g last ohms) := by
  unfold State.tjWindow
  try dsimp only
  repeat' first
    | intro (_ : State) _ _ | intro (_ : State × _) _ _
    | (with_reducible first
      | assumption | apply frame_sampleNow | apply frame_ntcWindow | apply frame_stringsWindow
      | apply frame_satWindow | apply frame_takeEstimate | apply frame_writeHeadEntry | apply frame_tripDue
      | apply frame_foldl1 | apply frame_foldl | apply frame_ite)
    | simp only [frame_mk]
    | split
    | exact hL (by decide)
    | exact List.Subset.trans (by decide) hL
    | exact .inl (hL (by decide))

theorem frame_mstDone (code : Nat) (hk0 : Frame L F z s) (hL : [.evr, .mst] ⊆ L) (hF : .stat ∈ L ∨ [(reg wMST 0, 13)] ⊆ F) : Frame L F z (State.mstDone s code) := by
  unfold State.mstDone
  try dsimp only
  repeat' first
    | (with_reducible first
      | assumption | apply frame_postBit | apply fset_mst)
    | simp only [frame_mk]
    | exact hL (by decide)
    | exact List.Subset.trans (by decide) hL
    | exact hF.imp_right (List.Subset.trans (by decide))
    | exact hF.imp_right fun a => a (by decide)

theorem frame_calStart (g : Nat) (hk0 : Frame L F z s) (hL : [.evr, .mst] ⊆ L) (hF : .stat ∈ L ∨ [(reg wMST 0, 13)] ⊆ F) : Frame L F z (State.calStart s g) := by
  unfold State.calStart
  try dsimp only
  repeat' first
    | (with_reducible first
      | assumption | apply frame_mstDone | apply fset_mst | apply frame_ite)
    | simp only [frame_mk]
    | split
    | exact hL (by decide)
    | exact List.Subset.trans (by decide) hL
    | exact hF.imp_right (List.Subset.trans (by decide))
    | exact hF.imp_right fun a => a (by decide)

theorem frame_calEnd (code : Nat) (hk0 : Frame L F z s) (hL : [.evr, .mst] ⊆ L) (hF : .stat ∈ L ∨ [(reg wMST 0, 13)] ⊆ F) : Frame L F z (State.calEnd s code) := by
  unfold State.calEnd
  try dsimp only
  repeat' first
    | (with_reducible first
      | assumption | apply frame_mstDone | apply fset_mst)
    | simp only [frame_mk]
    | exact hL (by decide)
    | exact List.Subset.trans (by decide) hL
    | exact hF.imp_right (List.Subset.trans (by decide))
    | exact hF.imp_right fun a => a (by decide)

theorem frame_calAbort (typ : Nat) (idx : Nat) (hk0 : Frame L F z s) (hL : [.evr, .mst] ⊆ L) (hF : .stat ∈ L ∨ [(reg wMST 0, 13)] ⊆ F) : Frame L F z (State.calAbort s typ idx) := by
  unfold State.calAbort
  try dsimp only
  repeat' first
    | (with_reducible first
      | assumption | apply frame_calEnd | apply frame_ite)
    | simp only [frame_mk]
    | split
    | exact hL (by decide)
    | exact List.Subset.trans (by decide) hL
    | exact hF.imp_right (List.Subset.trans (by decide))
    | exact hF.imp_right fun a => a (by decide)

theorem frame_calWrite (c : Nat) (tRef : Rat) (full : Rat × Rat) (quarter : Rat × Rat) (hk0 : Frame L F z s) (hL : [.cfg, .changed, .free] ⊆ L) : Frame L F z (State.calWrite s c tRef full quarter) := by
  unfold State.calWrite
  try dsimp only
  repeat' first
    | (with_reducible first
      | assumption | apply frame_shadowWrite | apply frame_fresh | apply frame_ite)
    | split
    | exact hL (by decide)
    | exact List.Subset.trans (by decide) hL

theorem frame_calFinish (hk0 : Frame L F z s) (hL : [.cfg, .changed, .evr, .free, .mst] ⊆ L) (hF : .stat ∈ L ∨ [(reg wMST 0, 13)] ⊆ F) : Frame L F z (State.calFinish s) := by
  unfold State.calFinish
  try dsimp only
  repeat' first
    | intro (_ : State) _ _ | intro (_ : State × _) _ _
    | (with_reducible first
      | assumption | apply frame_calEnd | apply frame_calWrite | apply frame_foldl1 | apply frame_foldl
      | apply frame_ite)
    | simp only [frame_mk]
    | split
    | exact hL (by decide)
    | exact List.Subset.trans (by decide) hL
    | exact hF.imp_right (List.Subset.trans (by decide))
    | exact hF.imp_right fun a => a (by decide)

theorem frame_mstAckSink (c : Nat) (hk0 : Frame L F z s) (hL : [.evr, .mst] ⊆ L) (hF : .stat ∈ L ∨ [(reg wMST 0, 13)] ⊆ F) : Frame L F z (State.mstAckSink s c) := by
  unfold State.mstAckSink
  try dsimp only
  repeat' first
    | (with_reducible first
      | assumption | apply frame_mstDone | apply frame_ackSink | apply frame_enterPhase | apply frame_ite)
    | split
    | exact hL (by decide)
    | exact List.Subset.trans (by decide) hL
    | exact hF.imp_right (List.Subset.trans (by decide))
    | exact hF.imp_right fun a => a (by decide)

theorem frame_adjPair (c : Nat) (ic : Nat) (d : Nat) (id : Nat) (hk0 : Frame L F z s) (hL : [.stat, .evr, .mem, .mst, .str] ⊆ L) : Frame L F z (State.adjPair s c ic d id) := by
  unfold State.adjPair
  try dsimp only
  repeat' first
    | (with_reducible first
      | assumption | apply frame_enterFault | apply frame_react | apply frame_ite)
    | split
    | exact hL (by decide)
    | exact List.Subset.trans (by decide) hL
    | exact .inl (hL (by decide))

theorem frame_blankChecks (c : Nat) (i : Nat) (adj : List (Nat × Nat)) (hk0 : Frame L F z s) (hL : [.stat, .evr, .mem, .mst, .str] ⊆ L) : Frame L F z (State.blankChecks s c i adj) := by
  unfold State.blankChecks
  try dsimp only
  repeat' first
    | intro (_ : State) _ _ | intro (_ : State × _) _ _
    | (with_reducible first
      | assumption | apply frame_sinkFaulted | apply frame_adjPair | apply frame_foldl1 | apply frame_foldl
      | apply frame_ite)
    | split
    | exact hL (by decide)
    | exact List.Subset.trans (by decide) hL
    | exact .inl (hL (by decide))

theorem frame_blankSink (c : Nat) (hk0 : Frame L F z s) (hL : [.mst] ⊆ L) : Frame L F z (State.blankSink s c) := by
  unfold State.blankSink
  try dsimp only
  repeat' first
    | (with_reducible first
      | assumption | apply frame_setSink | apply frame_ite)
    | simp only [frame_mk]
    | split
    | exact hL (by decide)
    | exact List.Subset.trans (by decide) hL

theorem frame_leaveHeld (g : Nat) (hk0 : Frame L F z s) (hL : [.mst] ⊆ L) : Frame L F z (State.leaveHeld s g) := by
  unfold State.leaveHeld
  try dsimp only
  repeat' first
    | (with_reducible first
      | assumption | apply frame_setHead | apply frame_driveGroup | apply frame_setGroup
      | apply frame_enterPhase | apply frame_ite)
    | simp only [frame_mk]
    | split
    | exact hL (by decide)
    | exact List.Subset.trans (by decide) hL

theorem frame_fadeOut (h0 : Nat) (fade : Nat) (hk0 : Frame L F z s) (hL : [.mst] ⊆ L) : Frame L F z (State.fadeOut s h0 fade) := by
  unfold State.fadeOut
  try dsimp only
  repeat' first
    | (with_reducible first
      | assumption | apply frame_setHead | apply frame_ite)
    | simp only [frame_mk]
    | split
    | exact hL (by decide)
    | exact List.Subset.trans (by decide) hL

theorem frame_headsDark (hk0 : Frame L F z s) (hL : [.mst] ⊆ L) : Frame L F z (State.headsDark s) := by
  unfold State.headsDark
  try dsimp only
  repeat' first
    | (with_reducible first
      | assumption | apply fset_mst | apply frame_ite)
    | simp only [frame_mk]
    | split
    | exact hL (by decide)
    | exact List.Subset.trans (by decide) hL

theorem frame_onDie {k : State → State} (hk0 : Frame L F z s) (hk1 : ∀ t, Frame L F z t → Frame L F z (k t)) : Frame L F z (State.onDie s k) := by
  unfold State.onDie
  repeat' first
    | (with_reducible first
      | assumption | apply hk1 | apply frame_ite)
    | split

theorem frame_takeUpChan (c : Nat) (a : Nat) (n : Nat) (hk0 : Frame L F z s) (hL : [.act, .changed, .evr, .mtr, .sys] ⊆ L) : Frame L F z (State.takeUpChan s c a n) := by
  unfold State.takeUpChan
  try dsimp only
  repeat' first
    | intro (_ : State) _ | intro (_ : Slot)
    | (with_reducible first
      | assumption | apply frame_recal | apply frame_copyDomain | apply frame_setChan | apply frame_ite)
    | simp only [frame_mk]
    | split
    | exact hL (by decide)
    | exact List.Subset.trans (by decide) hL

theorem frame_takeUpFeeder (f : Nat) (c : Nat) (a : Nat) (hk0 : Frame L F z s) (hL : [.act, .changed, .evr, .mtr, .sys] ⊆ L) : Frame L F z (State.takeUpFeeder s f c a) := by
  unfold State.takeUpFeeder
  try dsimp only
  repeat' first
    | intro (_ : State) _ _ | intro (_ : State × _) _ _
    | (with_reducible first
      | assumption | apply frame_takeUpChan | apply frame_foldl1 | apply frame_foldl | apply frame_ite)
    | split
    | exact hL (by decide)
    | exact List.Subset.trans (by decide) hL

theorem frame_setCorr (a : Nat) (l : List Nat) (hk0 : Frame L F z s) (hL : [.mtr] ⊆ L) : Frame L F z (State.setCorr s a l) := by
  unfold State.setCorr
  try dsimp only
  repeat' first
    | intro (_ : State) _ _ | intro (_ : State × _) _ _
    | intro (_ : State) _ | intro (_ : Slot)
    | (with_reducible first
      | assumption | apply frame_recal | apply frame_setChan | apply frame_foldl1 | apply frame_foldl
      | apply frame_ite)
    | simp only [frame_mk]
    | split
    | exact hL (by decide)
    | exact List.Subset.trans (by decide) hL

theorem frame_tempAverage (t : Option Rat) (hk0 : Frame L F z s) (hL : [.evr, .mtr] ⊆ L) (hF : .stat ∈ L ∨ [(reg wMTR 0, 2)] ⊆ F) : Frame L F z (State.tempAverage s t) := by
  unfold State.tempAverage
  try dsimp only
  repeat' first
    | intro (_ : State) _ | intro (_ : Slot)
    | (with_reducible first
      | assumption | apply frame_setCorr | apply frame_onDie | apply frame_postEvent | apply fset_mtr
      | apply frame_ite)
    | simp only [frame_mk]
    | split
    | exact hL (by decide)
    | exact List.Subset.trans (by decide) hL
    | exact hF.imp_right (List.Subset.trans (by decide))
    | exact hF.imp_right fun a => a (by decide)

theorem frame_islDone (code : Nat) (hk0 : Frame L F z s) (hL : [.evr, .mtr] ⊆ L) (hF : .stat ∈ L ∨ [(reg wMTR 0, 12)] ⊆ F) : Frame L F z (State.islDone s code) := by
  unfold State.islDone
  try dsimp only
  repeat' first
    | (with_reducible first
      | assumption | apply frame_postBit | apply fset_mtr)
    | simp only [frame_mk]
    | exact hL (by decide)
    | exact List.Subset.trans (by decide) hL
    | exact hF.imp_right (List.Subset.trans (by decide))
    | exact hF.imp_right fun a => a (by decide)

theorem frame_islBusy (hk0 : Frame L F z s) (hL : [.evr, .mtr] ⊆ L) (hF : .stat ∈ L ∨ [(reg wMTR 0, 12)] ⊆ F) : Frame L F z (State.islBusy s) := by
  unfold State.islBusy
  try dsimp only
  repeat' first
    | (with_reducible first
      | assumption | apply frame_postBit | apply fset_mtr)
    | simp only [frame_mk]
    | exact hL (by decide)
    | exact List.Subset.trans (by decide) hL
    | exact hF.imp_right (List.Subset.trans (by decide))
    | exact hF.imp_right fun a => a (by decide)

theorem frame_islPendDone (hk0 : Frame L F z s) (hL : [.evr, .mtr] ⊆ L) (hF : .stat ∈ L ∨ [(reg wMTR 0, 12)] ⊆ F) : Frame L F z (State.islPendDone s) := by
  unfold State.islPendDone
  repeat' first
    | (with_reducible first
      | assumption | apply frame_islDone | apply frame_ite)
    | split
    | exact hL (by decide)
    | exact List.Subset.trans (by decide) hL
    | exact hF.imp_right (List.Subset.trans (by decide))
    | exact hF.imp_right fun a => a (by decide)

theorem frame_substitute (n : Nat) (cause : Nat) (hk0 : Frame L F z s) (hL : [.evr, .flt, .mtr] ⊆ L) (hF : .stat ∈ L ∨ [(reg wMTR 0, 9), (reg wMTR 0, 12), (reg wFLT 0, 3)] ⊆ F) : Frame L F z (State.substitute s n cause) := by
  unfold State.substitute
  try dsimp only
  repeat' first
    | intro (_ : State) _ | intro (_ : Slot)
    | (with_reducible first
      | assumption | apply frame_setChan | apply frame_islPendDone | apply frame_vergeEvent | apply frame_onDie
      | apply frame_postEvent | apply fset_flt | apply fset_mtr | apply fbuilt | apply frame_ite)
    | simp only [frame_mk]
    | split
    | rfl
    | exact hL (by decide)
    | exact List.Subset.trans (by decide) hL
    | exact hF.imp_right (List.Subset.trans (by decide))
    | exact hF.imp_right fun a => a (by decide)
    | (intro p h1 h2; cases p; (case evr => exact absurd (hL (by decide)) h1); (case flt => exact absurd (hL (by decide)) h1); (case mtr => exact absurd (hL (by decide)) h1); (case stat => exact absurd rfl h2); all_goals (first | rfl | exact fun _ => rfl))

theorem frame_substBegin (n : Nat) (stuck : Bool) (hk0 : Frame L F z s) (hL : [.evr, .flt, .mtr] ⊆ L) (hF : .stat ∈ L ∨ [(reg wMTR 0, 9), (reg wMTR 0, 12), (reg wFLT 0, 3)] ⊆ F) : Frame L F z (State.substBegin s n stuck) := by
  unfold State.substBegin
  try dsimp only
  repeat' first
    | (with_reducible first
      | assumption | apply frame_setFeed | apply frame_substitute | apply fset_mtr | apply frame_ite)
    | simp only [frame_mk]
    | split
    | exact hL (by decide)
    | exact List.Subset.trans (by decide) hL
    | exact hF.imp_right (List.Subset.trans (by decide))
    | exact hF.imp_right fun a => a (by decide)

theorem frame_chanFails (n : Nat) (hk0 : Frame L F z s) (hL : [.stat, .evr, .mem, .mtr, .str] ⊆ L) : Frame L F z (State.chanFails s n) := by
  unfold State.chanFails
  try dsimp only
  repeat' first
    | (with_reducible first
      | assumption | apply frame_poolEmpty | apply frame_setChan | apply frame_faultHandle | apply frame_ite)
    | simp only [frame_mk]
    | split
    | exact hL (by decide)
    | exact List.Subset.trans (by decide) hL
    | exact .inl (hL (by decide))

theorem frame_roundNext (hk0 : Frame L F z s) (hL : [.mtr] ⊆ L) : Frame L F z (State.roundNext s) := by
  unfold State.roundNext
  try dsimp only
  repeat' first
    | (with_reducible first
      | assumption | apply fset_mtr | apply frame_ite)
    | simp only [frame_mk]
    | split
    | exact hL (by decide)
    | exact List.Subset.trans (by decide) hL

theorem frame_spareBad (hk0 : Frame L F z s) (hL : [.mtr] ⊆ L) : Frame L F z (State.spareBad s) :=
  fset_mtr hk0 (hL (by decide))

theorem frame_refBegin (hk0 : Frame L F z s) (hL : [.mtr] ⊆ L) : Frame L F z (State.refBegin s) :=
  fset_mtr hk0 (hL (by decide))

theorem frame_refChecked (dev : Rat) (hk0 : Frame L F z s) (hL : [.evr, .mtr] ⊆ L) (hF : .stat ∈ L ∨ [(reg wMTR 0, 10)] ⊆ F) : Frame L F z (State.refChecked s dev) := by
  unfold State.refChecked
  try dsimp only
  repeat' first
    | intro (_ : State) _ | intro (_ : Slot)
    | (with_reducible first
      | assumption | apply frame_setChan | apply frame_onDie | apply frame_spareBad | apply frame_postBit
      | apply frame_roundNext | apply fset_mtr | apply frame_ite)
    | simp only [frame_mk]
    | split
    | exact hL (by decide)
    | exact List.Subset.trans (by decide) hL
    | exact hF.imp_right (List.Subset.trans (by decide))
    | exact hF.imp_right fun a => a (by decide)

theorem frame_devConfirmed (n : Nat) (gain : Int) (phase : Int) (hk0 : Frame L F z s) (hL : [.stat, .evr, .flt, .mem, .mtr, .str] ⊆ L) : Frame L F z (State.devConfirmed s n gain phase) := by
  unfold State.devConfirmed
  try dsimp only
  repeat' first
    | intro (_ : State) _ | intro (_ : Slot)
    | (with_reducible first
      | assumption | apply frame_onDie | apply frame_setChan | apply frame_postEvent | apply frame_spareBad
      | apply frame_postBit | apply frame_substBegin | apply frame_roundNext | apply frame_chanFails
      | apply fset_mtr | apply frame_ite)
    | simp only [frame_mk]
    | split
    | exact hL (by decide)
    | exact List.Subset.trans (by decide) hL
    | exact .inl (hL (by decide))

theorem frame_chanChecked (counted : Nat) (gain : Int) (phase : Int) (hk0 : Frame L F z s) (hL : [.stat, .evr, .flt, .mem, .mtr, .str] ⊆ L) : Frame L F z (State.chanChecked s counted gain phase) := by
  unfold State.chanChecked
  try dsimp only
  repeat' first
    | (with_reducible first
      | assumption | apply frame_roundNext | apply frame_setChan | apply frame_devConfirmed | apply fset_mtr
      | apply frame_ite)
    | simp only [frame_mk]
    | split
    | exact hL (by decide)
    | exact List.Subset.trans (by decide) hL
    | exact .inl (hL (by decide))

theorem frame_substRelease (n : Nat) (hk0 : Frame L F z s) (hL : [.evr, .flt, .mtr] ⊆ L) (hF : .stat ∈ L ∨ [(reg wMTR 0, 12), (reg wFLT 0, 3)] ⊆ F) : Frame L F z (State.substRelease s n) := by
  unfold State.substRelease
  try dsimp only
  repeat' first
    | (with_reducible first
      | assumption | apply frame_setChan | apply frame_roundNext | apply frame_islPendDone
      | apply frame_vergeEvent | apply fset_flt | apply fset_mtr | apply fbuilt | apply frame_ite)
    | simp only [frame_mk]
    | split
    | rfl
    | exact hL (by decide)
    | exact List.Subset.trans (by decide) hL
    | exact hF.imp_right (List.Subset.trans (by decide))
    | exact hF.imp_right fun a => a (by decide)
    | (intro p h1 h2; cases p; (case evr => exact absurd (hL (by decide)) h1); (case flt => exact absurd (hL (by decide)) h1); (case mtr => exact absurd (hL (by decide)) h1); (case stat => exact absurd rfl h2); all_goals (first | rfl | exact fun _ => rfl))

theorem frame_noteChans (r : CycRes) (hk0 : Frame L F z s) (hL : [.mtr] ⊆ L) : Frame L F z (State.noteChans s r) := by
  unfold State.noteChans
  try dsimp only
  repeat' first
    | intro (_ : State) _ _ | intro (_ : State × _) _ _
    | (with_reducible first
      | assumption | apply frame_setChan | apply frame_setFeed | apply frame_foldl1 | apply frame_foldl
      | apply frame_ite)
    | simp only [frame_mk]
    | split
    | exact hL (by decide)
    | exact List.Subset.trans (by decide) hL

theorem frame_dieCycle {s0 : State} (r : CycRes) (hk0 : Frame L F z s0) (hL : [.acc, .evr, .mtr] ⊆ L) (hF : .stat ∈ L ∨ [(reg wMTR 0, 4), (reg wMTR 0, 5), (reg wACC 0, 7)] ⊆ F) : Frame L F z (State.dieCycle s0 r) := by
  unfold State.dieCycle
  try dsimp only
  repeat' first
    | intro (_ : State) _ _ | intro (_ : State × _) _ _
    | (with_reducible first
      | assumption | apply frame_noteChans | apply frame_postBit | apply frame_postEvent
      | apply frame_accDeliver | apply frame_foldl1 | apply frame_foldl | apply frame_ite)
    | split
    | exact hL (by decide)
    | exact List.Subset.trans (by decide) hL
    | exact hF.imp_right (List.Subset.trans (by decide))
    | exact hF.imp_right fun a => a (by decide)

theorem frame_sendCycle (r : CycRes) (hk0 : Frame L F z s) (hL : [.acc, .evr, .mtr] ⊆ L) (hF : .stat ∈ L ∨ [(reg wMTR 0, 4), (reg wMTR 0, 5), (reg wACC 0, 7)] ⊆ F) : Frame L F z (State.sendCycle s r) := by
  unfold State.sendCycle
  try dsimp only
  repeat' first
    | (with_reducible first
      | assumption | apply frame_dieCycle | apply fset_mtr | apply frame_ite)
    | simp only [frame_mk]
    | split
    | exact hL (by decide)
    | exact List.Subset.trans (by decide) hL
    | exact hF.imp_right (List.Subset.trans (by decide))
    | exact hF.imp_right fun a => a (by decide)

theorem frame_deliverHeld (hk0 : Frame L F z s) (hL : [.acc, .evr, .mtr] ⊆ L) (hF : .stat ∈ L ∨ [(reg wMTR 0, 4), (reg wMTR 0, 5), (reg wACC 0, 7)] ⊆ F) : Frame L F z (State.deliverHeld s) := by
  unfold State.deliverHeld
  try dsimp only
  repeat' first
    | intro (_ : State) _ _ | intro (_ : State × _) _ _
    | (with_reducible first
      | assumption | apply frame_dieCycle | apply frame_foldl1 | apply frame_foldl | apply fset_mtr
      | apply frame_ite)
    | simp only [frame_mk]
    | split
    | exact hL (by decide)
    | exact List.Subset.trans (by decide) hL
    | exact hF.imp_right (List.Subset.trans (by decide))
    | exact hF.imp_right fun a => a (by decide)

theorem frame_substServe (f : Nat) (hk0 : Frame L F z s) (hL : [.evr, .flt, .mtr] ⊆ L) (hF : .stat ∈ L ∨ [(reg wMTR 0, 9), (reg wMTR 0, 12), (reg wFLT 0, 3)] ⊆ F) : Frame L F z (State.substServe s f) := by
  unfold State.substServe
  try dsimp only
  repeat' first
    | (with_reducible first
      | assumption | apply frame_substitute | apply frame_ite)
    | simp only [frame_mk]
    | split
    | exact hL (by decide)
    | exact List.Subset.trans (by decide) hL
    | exact hF.imp_right (List.Subset.trans (by decide))
    | exact hF.imp_right fun a => a (by decide)

theorem frame_boundaryMoves (f : Nat) (a : Nat) (hk0 : Frame L F z s) (hL : [.evr, .flt, .mtr] ⊆ L) (hF : .stat ∈ L ∨ [(reg wMTR 0, 12), (reg wFLT 0, 3)] ⊆ F) : Frame L F z (State.boundaryMoves s f a) := by
  unfold State.boundaryMoves
  try dsimp only
  repeat' first
    | (with_reducible first
      | assumption | apply frame_setFeed | apply frame_substRelease | apply frame_setCorr | apply frame_ite)
    | simp only [frame_mk]
    | split
    | exact hL (by decide)
    | exact List.Subset.trans (by decide) hL
    | exact hF.imp_right (List.Subset.trans (by decide))
    | exact hF.imp_right fun a => a (by decide)

theorem frame_countEst (f : Nat) (hk0 : Frame L F z s) (hL : [.mtr] ⊆ L) : Frame L F z (State.countEst s f) := by
  unfold State.countEst
  try dsimp only
  repeat' first
    | (with_reducible first
      | assumption | apply frame_setChan | apply frame_ite)
    | simp only [frame_mk]
    | split
    | exact hL (by decide)
    | exact List.Subset.trans (by decide) hL

theorem frame_lineBoundary {s0 : State} (f : Nat) (t1 : Nat) (img : ImgFeeder) (syn : Bool) (hk0 : Frame L F z s0) (hL : [.acc, .evr, .flt, .mtr] ⊆ L) (hF : .stat ∈ L ∨ [(reg wMTR 0, 3), (reg wMTR 0, 4), (reg wMTR 0, 5), (reg wMTR 0, 9), (reg wMTR 0, 12), (reg wACC 0, 7), (reg wFLT 0, 3)] ⊆ F) : Frame L F z (State.lineBoundary s0 f t1 img syn) := by
  unfold State.lineBoundary
  try dsimp only
  repeat' first
    | intro (_ : State) _ | intro (_ : Slot)
    | (with_reducible first
      | assumption | apply frame_substServe | apply frame_accCycle | apply frame_setFeed | apply frame_countEst
      | apply frame_sendCycle | apply frame_ivBoundary | apply frame_onDie | apply frame_postEvent
      | apply frame_boundaryMoves | apply frame_cycTaken | apply frame_ite)
    | simp only [frame_mk]
    | split
    | exact hL (by decide)
    | exact List.Subset.trans (by decide) hL
    | exact hF.imp_right (List.Subset.trans (by decide))
    | exact hF.imp_right fun a => a (by decide)

theorem frame_markHold (hk0 : Frame L F z s) (hL : [.mtr] ⊆ L) : Frame L F z (State.markHold s) := by
  unfold State.markHold
  try dsimp only
  repeat' first
    | (with_reducible first
      | assumption | apply fset_mtr | apply frame_ite)
    | simp only [frame_mk]
    | split
    | exact hL (by decide)
    | exact List.Subset.trans (by decide) hL

theorem frame_stepStamps (hk0 : Frame L F z s) (hL : [.acc, .evr, .mtr] ⊆ L) (hF : .stat ∈ L ∨ [(reg wMTR 0, 0)] ⊆ F) : Frame L F z (State.stepStamps s) := by
  unfold State.stepStamps
  try dsimp only
  repeat' first
    | intro (_ : State) _ | intro (_ : Slot)
    | (with_reducible first
      | assumption | apply frame_onDie | apply frame_postBit | apply fset_acc | apply fset_mtr | apply fbuilt
      | apply frame_ite)
    | simp only [frame_mk]
    | split
    | rfl
    | exact hL (by decide)
    | exact List.Subset.trans (by decide) hL
    | exact hF.imp_right (List.Subset.trans (by decide))
    | exact hF.imp_right fun a => a (by decide)
    | (intro p h1 h2; cases p; (case acc => exact absurd (hL (by decide)) h1); (case evr => exact absurd (hL (by decide)) h1); (case mtr => exact absurd (hL (by decide)) h1); (case stat => exact absurd rfl h2); all_goals (first | rfl | exact fun _ => rfl))

theorem frame_syncStep (present : Bool) (msg : Bool) (err : Int) (hk0 : Frame L F z s) (hL : [.acc, .evr, .mtr] ⊆ L) (hF : .stat ∈ L ∨ [(reg wMTR 0, 0), (reg wMTR 0, 1)] ⊆ F) : Frame L F z (State.syncStep s present msg err) := by
  unfold State.syncStep
  try dsimp only
  repeat' first
    | intro (_ : State) _ | intro (_ : Slot)
    | (with_reducible first
      | assumption | apply frame_stepStamps | apply frame_onDie | apply frame_markHold | apply frame_postEvent
      | apply fset_mtr | apply frame_ite)
    | simp only [frame_mk]
    | split
    | exact hL (by decide)
    | exact List.Subset.trans (by decide) hL
    | exact hF.imp_right (List.Subset.trans (by decide))
    | exact hF.imp_right fun a => a (by decide)

theorem frame_restoreFeeder (f : Nat) (hk0 : Frame L F z s) (hL : [.acc] ⊆ L) : Frame L F z (State.restoreFeeder s f) := by
  unfold State.restoreFeeder
  try dsimp only
  repeat' first
    | intro (_ : State) _ _ | intro (_ : State × _) _ _
    | (with_reducible first
      | assumption | apply frame_setIv | apply frame_foldl1 | apply frame_foldl | apply fset_acc
      | apply frame_ite)
    | simp only [frame_mk]
    | split
    | exact hL (by decide)
    | exact List.Subset.trans (by decide) hL

theorem frame_restoreAll (hk0 : Frame L F z s) (hL : [.acc, .evr, .free] ⊆ L) (hF : .stat ∈ L ∨ [(reg wACC 0, 10)] ⊆ F) : Frame L F z (State.restoreAll s) := by
  unfold State.restoreAll
  try dsimp only
  repeat' first
    | intro (_ : State) _ _ | intro (_ : State × _) _ _
    | (with_reducible first
      | assumption | apply frame_fresh | apply frame_restoreFeeder | apply frame_postEvent | apply frame_foldl1
      | apply frame_foldl | apply fset_acc | apply frame_ite)
    | simp only [frame_mk]
    | split
    | exact hL (by decide)
    | exact List.Subset.trans (by decide) hL
    | exact hF.imp_right (List.Subset.trans (by decide))
    | exact hF.imp_right fun a => a (by decide)

theorem frame_islandUp (retained : Bool) (hk0 : Frame L F z s) (hL : [.acc, .evr, .free, .mtr] ⊆ L) (hF : .stat ∈ L ∨ [(reg wACC 0, 10)] ⊆ F) : Frame L F z (State.islandUp s retained) := by
  unfold State.islandUp
  try dsimp only
  repeat' first
    | (with_reducible first
      | assumption | apply frame_restoreAll | apply fset_acc | apply fset_mtr | apply fbuilt | apply frame_ite)
    | simp only [frame_mk]
    | split
    | rfl
    | exact hL (by decide)
    | exact List.Subset.trans (by decide) hL
    | exact hF.imp_right (List.Subset.trans (by decide))
    | exact hF.imp_right fun a => a (by decide)
    | (intro p h1 h2; cases p; (case acc => exact absurd (hL (by decide)) h1); (case evr => exact absurd (hL (by decide)) h1); (case free => exact absurd (hL (by decide)) h1); (case mtr => exact absurd (hL (by decide)) h1); (case stat => exact absurd rfl h2); all_goals (first | rfl | exact fun _ => rfl))

theorem frame_stuckFound {t : State} (ch : Nat) (hk0 : Frame L F z t) (hL : [.stat, .evr, .flt, .mem, .mtr, .str] ⊆ L) : Frame L F z (State.stuckFound t ch) := by
  unfold State.stuckFound
  try dsimp only
  repeat' first
    | intro (_ : State) _ | intro (_ : Slot)
    | (with_reducible first
      | assumption | apply frame_onDie | apply frame_setChan | apply frame_postEvent | apply frame_spareBad
      | apply frame_chanFails | apply frame_substBegin | apply fset_flt | apply frame_ite)
    | simp only [frame_mk]
    | split
    | exact hL (by decide)
    | exact List.Subset.trans (by decide) hL
    | exact .inl (hL (by decide))

theorem frame_islSealrst (hk0 : Frame L F z s) (hL : [.cfg, .evr, .mtr] ⊆ L) (hF : .stat ∈ L ∨ [(reg wMTR 0, 12)] ⊆ F) : Frame L F z (State.islSealrst s) := by
  unfold State.islSealrst
  try dsimp only
  repeat' first
    | (with_reducible first
      | assumption | apply frame_islBusy | apply frame_islDone | apply frame_setCfg | apply frame_event
      | apply frame_ite)
    | split
    | exact hL (by decide)
    | exact List.Subset.trans (by decide) hL
    | exact hF.imp_right (List.Subset.trans (by decide))
    | exact hF.imp_right fun a => a (by decide)

theorem frame_islSubst (ch : Nat) (hk0 : Frame L F z s) (hL : [.evr, .flt, .mtr] ⊆ L) (hF : .stat ∈ L ∨ [(reg wMTR 0, 9), (reg wMTR 0, 12), (reg wFLT 0, 3)] ⊆ F) : Frame L F z (State.islSubst s ch) := by
  unfold State.islSubst
  try dsimp only
  repeat' first
    | (with_reducible first
      | assumption | apply frame_islBusy | apply frame_islDone | apply frame_substBegin | apply fset_mtr
      | apply frame_ite)
    | simp only [frame_mk]
    | split
    | exact hL (by decide)
    | exact List.Subset.trans (by decide) hL
    | exact hF.imp_right (List.Subset.trans (by decide))
    | exact hF.imp_right fun a => a (by decide)

theorem frame_islRelease (ch : Nat) (hk0 : Frame L F z s) (hL : [.evr, .flt, .mtr] ⊆ L) (hF : .stat ∈ L ∨ [(reg wMTR 0, 12), (reg wFLT 0, 3)] ⊆ F) : Frame L F z (State.islRelease s ch) := by
  unfold State.islRelease
  try dsimp only
  repeat' first
    | (with_reducible first
      | assumption | apply frame_islBusy | apply frame_islDone | apply frame_setFeed | apply frame_substRelease
      | apply fset_mtr | apply frame_ite)
    | simp only [frame_mk]
    | split
    | exact hL (by decide)
    | exact List.Subset.trans (by decide) hL
    | exact hF.imp_right (List.Subset.trans (by decide))
    | exact hF.imp_right fun a => a (by decide)

theorem frame_islCheck (hk0 : Frame L F z s) (hL : [.evr, .mtr] ⊆ L) (hF : .stat ∈ L ∨ [(reg wMTR 0, 12)] ⊆ F) : Frame L F z (State.islCheck s) := by
  unfold State.islCheck
  repeat' first
    | (with_reducible first
      | assumption | apply frame_islBusy | apply frame_islDone | apply frame_refBegin | apply frame_ite)
    | split
    | exact hL (by decide)
    | exact List.Subset.trans (by decide) hL
    | exact hF.imp_right (List.Subset.trans (by decide))
    | exact hF.imp_right fun a => a (by decide)

theorem frame_setQueue (q : Nat) (f : Queue → Queue) (hk0 : Frame L F z s) (hL : [.qdm] ⊆ L) : Frame L F z (State.setQueue s q f) :=
  fset_qdm hk0 (hL (by decide))

theorem frame_setTailAt (q : Nat) (v : Nat) (r : Nat) (hk0 : Frame L F z s) (hL : [.cfg, .qdm] ⊆ L) : Frame L F z (State.setTailAt s q v r) := by
  unfold State.setTailAt
  try dsimp only
  repeat' first
    | (with_reducible first
      | assumption | apply frame_setCfg | apply frame_setQueue | apply fset_qdm | apply frame_ite)
    | simp only [frame_mk]
    | split
    | exact hL (by decide)
    | exact List.Subset.trans (by decide) hL

theorem frame_setTail (q : Nat) (v : Nat) (hk0 : Frame L F z s) (hL : [.cfg, .qdm] ⊆ L) : Frame L F z (State.setTail s q v) := by
  unfold State.setTail
  repeat' first
    | (with_reducible first
      | assumption | apply frame_setTailAt)
    | exact hL (by decide)
    | exact List.Subset.trans (by decide) hL

theorem frame_tailWrite (master : Nat) (addr : Nat) (q : Nat) (v : Nat) (w : Word) (hk0 : Frame L F z s) (hL : [.stat, .cfg, .evr, .qdm] ⊆ L) : Frame L F z (State.tailWrite s master addr q v w) := by
  unfold State.tailWrite
  try dsimp only
  repeat' first
    | (with_reducible first
      | assumption | apply frame_lockedWrite | apply frame_setTail | apply frame_post | apply frame_ite)
    | split
    | exact hL (by decide)
    | exact List.Subset.trans (by decide) hL
    | exact .inl (hL (by decide))

theorem frame_enqueueAt (q : Nat) (p : EPay) (flags : Nat) (launch : Nat) (deadline : Nat) (dest : Nat) (r : Nat) (hk0 : Frame L F z s) (hL : [.cfg, .evr, .ltb, .mem, .qdm] ⊆ L) (hF : .stat ∈ L ∨ [(reg wLTB 0, 0)] ⊆ F) : Frame L F z (State.enqueueAt s q p flags launch deadline dest r) := by
  unfold State.enqueueAt
  try dsimp only
  repeat' first
    | (with_reducible first
      | assumption | apply frame_masterWrite | apply frame_setTailAt | apply fset_qdm)
    | simp only [frame_mk]
    | exact hL (by decide)
    | exact List.Subset.trans (by decide) hL
    | exact hF.imp_right (List.Subset.trans (by decide))
    | exact hF.imp_right fun a => a (by decide)

theorem frame_enqueue (q : Nat) (p : EPay) (flags : Nat) (launch : Nat) (deadline : Nat) (dest : Nat) (hk0 : Frame L F z s) (hL : [.cfg, .evr, .ltb, .mem, .qdm] ⊆ L) (hF : .stat ∈ L ∨ [(reg wLTB 0, 0)] ⊆ F) : Frame L F z (State.enqueue s q p flags launch deadline dest) := by
  unfold State.enqueue
  repeat' first
    | (with_reducible first
      | assumption | apply frame_enqueueAt)
    | exact hL (by decide)
    | exact List.Subset.trans (by decide) hL
    | exact hF.imp_right (List.Subset.trans (by decide))
    | exact hF.imp_right fun a => a (by decide)

theorem frame_enqueueEth (q : Nat) (p : EPay) (hk0 : Frame L F z s) (hL : [.cfg, .evr, .ltb, .mem, .qdm] ⊆ L) (hF : .stat ∈ L ∨ [(reg wLTB 0, 0)] ⊆ F) : Frame L F z (State.enqueueEth s q p) := by
  unfold State.enqueueEth
  repeat' first
    | (with_reducible first
      | assumption | apply frame_enqueue)
    | exact hL (by decide)
    | exact List.Subset.trans (by decide) hL
    | exact hF.imp_right (List.Subset.trans (by decide))
    | exact hF.imp_right fun a => a (by decide)

theorem frame_complete (q : Nat) (status : Nat) (len : Nat) (cflags : Nat) (hk0 : Frame L F z s) (hL : [.stat, .evr, .ltb, .mem, .qdm] ⊆ L) : Frame L F z (State.complete s q status len cflags) := by
  unfold State.complete
  try dsimp only
  repeat' first
    | (with_reducible first
      | assumption | apply frame_masterWrite | apply frame_setQueue | apply frame_post | apply fset_qdm
      | apply fbuilt | apply frame_ite)
    | simp only [frame_mk]
    | split
    | rfl
    | exact hL (by decide)
    | exact List.Subset.trans (by decide) hL
    | exact .inl (hL (by decide))
    | (intro p h1 h2; cases p; (case evr => exact absurd (hL (by decide)) h1); (case ltb => exact absurd (hL (by decide)) h1); (case mem => exact absurd (hL (by decide)) h1); (case qdm => exact absurd (hL (by decide)) h1); (case stat => exact absurd rfl h2); all_goals (first | rfl | exact fun _ => rfl))

theorem frame_settle (q : Nat) (hk0 : Frame L F z s) (hL : [.stat, .evr, .ltb, .mem, .qdm] ⊆ L) : Frame L F z (State.settle s q) := by
  unfold State.settle
  try dsimp only
  repeat' first
    | (with_reducible first
      | assumption | apply frame_complete | apply frame_ite)
    | simp only [frame_mk]
    | split
    | exact hL (by decide)
    | exact List.Subset.trans (by decide) hL
    | exact .inl (hL (by decide))

theorem frame_flushN (q : Nat) (x2 : Nat) (hk0 : Frame L F z s) (hL : [.stat, .evr, .ltb, .mem, .qdm] ⊆ L) : Frame L F z (State.flushN s q x2) := by
  induction x2 generalizing s q
  · exact hk0
  · rename_i ih
    unfold State.flushN
    try dsimp only
    repeat' first
      | (with_reducible first
        | assumption | apply ih | apply frame_complete | apply frame_ite)
      | split
      | exact hL (by decide)
      | exact List.Subset.trans (by decide) hL
      | exact .inl (hL (by decide))

theorem frame_flush (q : Nat) (hk0 : Frame L F z s) (hL : [.stat, .evr, .ltb, .mem, .qdm] ⊆ L) : Frame L F z (State.flush s q) := by
  unfold State.flush
  try dsimp only
  repeat' first
    | (with_reducible first
      | assumption | apply frame_settle | apply frame_flushN)
    | exact hL (by decide)
    | exact List.Subset.trans (by decide) hL
    | exact .inl (hL (by decide))

theorem frame_sweepN (q : Nat) (x2 : Nat) (hk0 : Frame L F z s) (hL : [.stat, .evr, .ltb, .mem, .qdm] ⊆ L) : Frame L F z (State.sweepN s q x2) := by
  induction x2 generalizing s q
  · exact hk0
  · rename_i ih
    unfold State.sweepN
    try dsimp only
    repeat' first
      | (with_reducible first
        | assumption | apply ih | apply frame_complete | apply frame_ite)
      | split
      | exact hL (by decide)
      | exact List.Subset.trans (by decide) hL
      | exact .inl (hL (by decide))

theorem frame_sweep (q : Nat) (hk0 : Frame L F z s) (hL : [.stat, .evr, .ltb, .mem, .qdm] ⊆ L) : Frame L F z (State.sweep s q) := by
  unfold State.sweep
  repeat' first
    | (with_reducible first
      | assumption | apply frame_sweepN)
    | exact hL (by decide)
    | exact List.Subset.trans (by decide) hL
    | exact .inl (hL (by decide))

theorem frame_withdrawDesc (q : Nat) (i : Nat) (hk0 : Frame L F z s) (hL : [.stat, .evr, .ltb, .mem, .qdm] ⊆ L) : Frame L F z (State.withdrawDesc s q i) := by
  unfold State.withdrawDesc
  try dsimp only
  repeat' first
    | (with_reducible first
      | assumption | apply frame_sweep | apply fset_qdm | apply frame_ite)
    | simp only [frame_mk]
    | split
    | exact hL (by decide)
    | exact List.Subset.trans (by decide) hL
    | exact .inl (hL (by decide))

theorem frame_withdrawUnicast (n : Nat) (hk0 : Frame L F z s) (hL : [.stat, .evr, .ltb, .mem, .qdm] ⊆ L) : Frame L F z (State.withdrawUnicast s n) := by
  unfold State.withdrawUnicast
  try dsimp only
  repeat' first
    | intro (_ : State) _ _ | intro (_ : State × _) _ _
    | (with_reducible first
      | assumption | apply frame_withdrawDesc | apply frame_foldl1 | apply frame_foldl | apply frame_ite)
    | simp only [frame_mk]
    | split
    | exact hL (by decide)
    | exact List.Subset.trans (by decide) hL
    | exact .inl (hL (by decide))

theorem frame_writePieces (x1 : List (Nat × Nat)) (x2 : List Byte) (hk0 : Frame L F z s) (hL : [.evr, .ltb, .mem] ⊆ L) (hF : .stat ∈ L ∨ [(reg wLTB 0, 0)] ⊆ F) : Frame L F z (State.writePieces s x1 x2) := by
  induction x1 generalizing s x2
  · exact hk0
  · rename_i ih
    unfold State.writePieces
    try dsimp only
    repeat' first
      | (with_reducible first
        | assumption | apply ih | apply frame_masterWrite | apply frame_ite)
      | split
      | exact hL (by decide)
      | exact List.Subset.trans (by decide) hL
      | exact hF.imp_right (List.Subset.trans (by decide))
      | exact hF.imp_right fun a => a (by decide)

theorem frame_winWrite (master : Nat) (addr : Nat) (w : Nat) (v : Word) (hk0 : Frame L F z s) (hL : [.stat, .cfg, .evr] ⊆ L) : Frame L F z (State.winWrite s master addr w v) := by
  unfold State.winWrite
  try dsimp only
  repeat' first
    | (with_reducible first
      | assumption | apply frame_lockedWrite | apply frame_setCfg | apply frame_postBit | apply frame_ite)
    | split
    | exact hL (by decide)
    | exact List.Subset.trans (by decide) hL
    | exact .inl (hL (by decide))

theorem frame_park (q : Nat) (c : DmaCause) (addr : Nat) (off : Nat) (hk0 : Frame L F z s) (hL : [.stat, .evr, .mem, .qdm, .str] ⊆ L) : Frame L F z (State.park s q c addr off) := by
  unfold State.park
  try dsimp only
  repeat' first
    | (with_reducible first
      | assumption | apply frame_setQueue | apply frame_postEvent | apply frame_post | apply frame_faultHandle
      | apply fbuilt | apply frame_ite)
    | simp only [frame_mk]
    | split
    | rfl
    | exact hL (by decide)
    | exact List.Subset.trans (by decide) hL
    | exact .inl (hL (by decide))
    | (intro p h1 h2; cases p; (case evr => exact absurd (hL (by decide)) h1); (case mem => exact absurd (hL (by decide)) h1); (case qdm => exact absurd (hL (by decide)) h1); (case str => exact absurd (hL (by decide)) h1); (case stat => exact absurd rfl h2); all_goals (first | rfl | exact fun _ => rfl))

theorem frame_unpark (q : Nat) (hk0 : Frame L F z s) (hL : [.qdm] ⊆ L) : Frame L F z (State.unpark s q) := by
  unfold State.unpark
  try dsimp only
  repeat' first
    | (with_reducible first
      | assumption | apply frame_setQueue | apply frame_ite)
    | simp only [frame_mk]
    | split
    | exact hL (by decide)
    | exact List.Subset.trans (by decide) hL

theorem frame_qdmDone (code : Nat) (hk0 : Frame L F z s) (hL : [.evr, .qdm] ⊆ L) (hF : .stat ∈ L ∨ [(reg wQDM 0, 3)] ⊆ F) : Frame L F z (State.qdmDone s code) := by
  unfold State.qdmDone
  try dsimp only
  repeat' first
    | (with_reducible first
      | assumption | apply frame_postBit | apply fset_qdm)
    | simp only [frame_mk]
    | exact hL (by decide)
    | exact List.Subset.trans (by decide) hL
    | exact hF.imp_right (List.Subset.trans (by decide))
    | exact hF.imp_right fun a => a (by decide)

theorem frame_qResume (q : Nat) (hk0 : Frame L F z s) (hL : [.evr, .qdm] ⊆ L) (hF : .stat ∈ L ∨ [(reg wQDM 0, 3)] ⊆ F) : Frame L F z (State.qResume s q) := by
  unfold State.qResume
  repeat' first
    | (with_reducible first
      | assumption | apply frame_qdmDone | apply frame_unpark | apply frame_ite)
    | split
    | exact hL (by decide)
    | exact List.Subset.trans (by decide) hL
    | exact hF.imp_right (List.Subset.trans (by decide))
    | exact hF.imp_right fun a => a (by decide)

theorem frame_qFlush (q : Nat) (hk0 : Frame L F z s) (hL : [.stat, .evr, .ltb, .mem, .qdm] ⊆ L) : Frame L F z (State.qFlush s q) := by
  unfold State.qFlush
  repeat' first
    | (with_reducible first
      | assumption | apply frame_qdmDone | apply frame_flush | apply frame_ite)
    | split
    | exact hL (by decide)
    | exact List.Subset.trans (by decide) hL
    | exact .inl (hL (by decide))

theorem frame_queueStop (q : Nat) (hk0 : Frame L F z s) (hL : [.qdm] ⊆ L) : Frame L F z (State.queueStop s q) := by
  unfold State.queueStop
  try dsimp only
  repeat' first
    | (with_reducible first
      | assumption | apply frame_setQueue | apply frame_ite)
    | simp only [frame_mk]
    | split
    | exact hL (by decide)
    | exact List.Subset.trans (by decide) hL

theorem frame_noBuf (q : Nat) (hk0 : Frame L F z s) (hL : [.stat, .evr, .qdm] ⊆ L) : Frame L F z (State.noBuf s q) := by
  unfold State.noBuf
  try dsimp only
  repeat' first
    | (with_reducible first
      | assumption | apply frame_post | apply frame_setQueue | apply fbuilt | apply frame_ite)
    | simp only [frame_mk]
    | split
    | rfl
    | exact hL (by decide)
    | exact List.Subset.trans (by decide) hL
    | exact .inl (hL (by decide))
    | (intro p h1 h2; cases p; (case evr => exact absurd (hL (by decide)) h1); (case qdm => exact absurd (hL (by decide)) h1); (case stat => exact absurd rfl h2); all_goals (first | rfl | exact fun _ => rfl))

theorem frame_rxPost (q : Nat) (j : RxJob) (hk0 : Frame L F z s) (hL : [.stat, .evr, .qdm] ⊆ L) : Frame L F z (State.rxPost s q j) := by
  unfold State.rxPost
  try dsimp only
  repeat' first
    | (with_reducible first
      | assumption | apply frame_setQueue | apply frame_noBuf | apply frame_ite)
    | simp only [frame_mk]
    | split
    | exact hL (by decide)
    | exact List.Subset.trans (by decide) hL
    | exact .inl (hL (by decide))

theorem frame_burstTx (q : Nat) (memError : Bool) (hk0 : Frame L F z s) (hL : [.stat, .evr, .mem, .qdm, .str] ⊆ L) : Frame L F z (State.burstTx s q memError) := by
  unfold State.burstTx
  try dsimp only
  repeat' first
    | (with_reducible first
      | assumption | apply frame_park | apply frame_setQueue | apply frame_ite)
    | simp only [frame_mk]
    | split
    | exact hL (by decide)
    | exact List.Subset.trans (by decide) hL
    | exact .inl (hL (by decide))

theorem frame_burstCopy (q : Nat) (memError : Bool) (hk0 : Frame L F z s) (hL : [.stat, .evr, .ltb, .mem, .qdm, .str] ⊆ L) : Frame L F z (State.burstCopy s q memError) := by
  unfold State.burstCopy
  try dsimp only
  repeat' first
    | (with_reducible first
      | assumption | apply frame_park | apply frame_writePieces | apply frame_setQueue | apply frame_ite)
    | simp only [frame_mk]
    | split
    | exact hL (by decide)
    | exact List.Subset.trans (by decide) hL
    | exact .inl (hL (by decide))

theorem frame_burstRx (q : Nat) (memError : Bool) (hk0 : Frame L F z s) (hL : [.stat, .evr, .ltb, .mem, .qdm, .str] ⊆ L) : Frame L F z (State.burstRx s q memError) := by
  unfold State.burstRx
  try dsimp only
  repeat' first
    | (with_reducible first
      | assumption | apply frame_setQueue | apply frame_complete | apply frame_park | apply frame_writePieces
      | apply frame_post | apply fbuilt | apply frame_ite)
    | simp only [frame_mk]
    | split
    | rfl
    | exact hL (by decide)
    | exact List.Subset.trans (by decide) hL
    | exact .inl (hL (by decide))
    | (intro p h1 h2; cases p; (case evr => exact absurd (hL (by decide)) h1); (case ltb => exact absurd (hL (by decide)) h1); (case mem => exact absurd (hL (by decide)) h1); (case qdm => exact absurd (hL (by decide)) h1); (case str => exact absurd (hL (by decide)) h1); (case stat => exact absurd rfl h2); all_goals (first | rfl | exact fun _ => rfl))

theorem frame_ringFault (q : Nat) (hk0 : Frame L F z s) (hL : [.stat, .evr, .ltb, .mem, .qdm, .str] ⊆ L) : Frame L F z (State.ringFault s q) := by
  unfold State.ringFault
  try dsimp only
  repeat' first
    | (with_reducible first
      | assumption | apply frame_park | apply frame_complete | apply frame_setQueue | apply frame_ite)
    | simp only [frame_mk]
    | split
    | exact hL (by decide)
    | exact List.Subset.trans (by decide) hL
    | exact .inl (hL (by decide))

theorem frame_burst (q : Nat) (memError : Bool) (ringError : Bool) (hk0 : Frame L F z s) (hL : [.stat, .evr, .ltb, .mem, .qdm, .str] ⊆ L) : Frame L F z (State.burst s q memError ringError) := by
  unfold State.burst
  try dsimp only
  repeat' first
    | (with_reducible first
      | assumption | apply frame_ringFault | apply frame_complete | apply frame_burstRx | apply frame_burstCopy
      | apply frame_burstTx | apply fset_qdm | apply frame_ite)
    | simp only [frame_mk]
    | split
    | exact hL (by decide)
    | exact List.Subset.trans (by decide) hL
    | exact .inl (hL (by decide))

theorem frame_fetchRest (q : Nat) (x2 : Nat) (hk0 : Frame L F z s) (hL : [.stat, .evr, .mem, .qdm, .str] ⊆ L) : Frame L F z (State.fetchRest s q x2) := by
  induction x2 generalizing s q
  · exact hk0
  · rename_i ih
    unfold State.fetchRest
    try dsimp only
    repeat' first
      | (with_reducible first
        | assumption | apply ih | apply frame_burstTx | apply frame_ite)
      | split
      | exact hL (by decide)
      | exact List.Subset.trans (by decide) hL
      | exact .inl (hL (by decide))

theorem frame_setProg (p : Nat) (f : ScnProg → ScnProg) (hk0 : Frame L F z s) (hL : [.scn] ⊆ L) : Frame L F z (State.setProg s p f) :=
  fset_scn hk0 (hL (by decide))

theorem frame_dayTick (hk0 : Frame L F z s) (hL : [.scn] ⊆ L) : Frame L F z (State.dayTick s).1 := by
  unfold State.dayTick
  try dsimp only
  repeat' first
    | (with_reducible first
      | assumption | apply fset_scn | apply frame_ite)
    | simp only [frame_mk]
    | split
    | exact hL (by decide)
    | exact List.Subset.trans (by decide) hL

theorem frame_astroTick (hk0 : Frame L F z s) (hL : [.evr, .scn] ⊆ L) (hF : .stat ∈ L ∨ [(reg wSCN 0, 5)] ⊆ F) : Frame L F z (State.astroTick s) := by
  unfold State.astroTick
  try dsimp only
  repeat' first
    | (with_reducible first
      | assumption | apply frame_postBit | apply fset_scn | apply frame_ite)
    | simp only [frame_mk]
    | split
    | exact hL (by decide)
    | exact List.Subset.trans (by decide) hL
    | exact hF.imp_right (List.Subset.trans (by decide))
    | exact hF.imp_right fun a => a (by decide)

theorem frame_derateEntry (n : Nat) (hk0 : Frame L F z s) (hL : [.mem] ⊆ L) : Frame L F z (State.derateEntry s n) := by
  unfold State.derateEntry
  try dsimp only
  repeat' first
    | intro (_ : State) _ _ | intro (_ : State × _) _ _
    | (with_reducible first
      | assumption | apply frame_setLt | apply frame_foldl1 | apply frame_foldl | apply frame_ite)
    | split
    | exact hL (by decide)
    | exact List.Subset.trans (by decide) hL

theorem frame_recordLevel (n : Nat) (l : List LevelCmd) (hk0 : Frame L F z s) (hL : [.scn] ⊆ L) : Frame L F z (State.recordLevel s n l) := by
  unfold State.recordLevel
  try dsimp only
  repeat' first
    | (with_reducible first
      | assumption | apply frame_setScnEntry | apply frame_ite)
    | simp only [frame_mk]
    | split
    | exact hL (by decide)
    | exact List.Subset.trans (by decide) hL

theorem frame_noteMoved (n : Nat) (hk0 : Frame L F z s) (hL : [.scn] ⊆ L) : Frame L F z (State.noteMoved s n) := by
  unfold State.noteMoved
  try dsimp only
  repeat' first
    | (with_reducible first
      | assumption | apply frame_setScnEntry | apply frame_ite)
    | simp only [frame_mk]
    | split
    | exact hL (by decide)
    | exact List.Subset.trans (by decide) hL

theorem frame_withdrawCopy (n : Nat) (b : EngBuf) (hk0 : Frame L F z s) (hL : [.stat, .evr, .ltb, .mem, .qdm] ⊆ L) : Frame L F z (State.withdrawCopy n s b) := by
  unfold State.withdrawCopy
  try dsimp only
  repeat' first
    | (with_reducible first
      | assumption | apply frame_masterWrite | apply frame_withdrawDesc | apply fset_qdm | apply frame_ite)
    | simp only [frame_mk]
    | split
    | exact hL (by decide)
    | exact List.Subset.trans (by decide) hL
    | exact .inl (hL (by decide))

theorem frame_withdrawScene (n : Nat) (hk0 : Frame L F z s) (hL : [.stat, .evr, .ltb, .mem, .qdm, .scn] ⊆ L) : Frame L F z (State.withdrawScene s n) := by
  unfold State.withdrawScene
  try dsimp only
  repeat' first
    | intro (_ : State) _ _ | intro (_ : State × _) _ _
    | (with_reducible first
      | assumption | apply frame_withdrawCopy | apply frame_setScnEntry | apply frame_foldl1 | apply frame_foldl
      | apply fset_scn | apply frame_ite)
    | simp only [frame_mk]
    | split
    | exact hL (by decide)
    | exact List.Subset.trans (by decide) hL
    | exact .inl (hL (by decide))

theorem frame_queueFrame (lane : Nat) (asn : Nat) (p : EPay) (r : Nat) (hk0 : Frame L F z s) (hL : [.cfg, .evr, .ltb, .mem, .qdm, .scn] ⊆ L) (hF : .stat ∈ L ∨ [(reg wSCN 0, 7), (reg wLTB 0, 0)] ⊆ F) : Frame L F z (State.queueFrame s lane asn p r) := by
  unfold State.queueFrame
  try dsimp only
  repeat' first
    | (with_reducible first
      | assumption | apply frame_postBit | apply frame_enqueueAt | apply fset_scn | apply frame_ite)
    | simp only [frame_mk]
    | split
    | exact hL (by decide)
    | exact List.Subset.trans (by decide) hL
    | exact hF.imp_right (List.Subset.trans (by decide))
    | exact hF.imp_right fun a => a (by decide)

theorem frame_queueHeld (hk0 : Frame L F z s) (hL : [.cfg, .evr, .ltb, .mem, .qdm, .scn] ⊆ L) (hF : .stat ∈ L ∨ [(reg wLTB 0, 0)] ⊆ F) : Frame L F z (State.queueHeld s) := by
  unfold State.queueHeld
  try dsimp only
  repeat' first
    | (with_reducible first
      | assumption | apply frame_enqueueAt | apply fset_scn | apply frame_ite)
    | simp only [frame_mk]
    | split
    | exact hL (by decide)
    | exact List.Subset.trans (by decide) hL
    | exact hF.imp_right (List.Subset.trans (by decide))
    | exact hF.imp_right fun a => a (by decide)

theorem frame_addCmd (n : Nat) (c : ScnCmd) (hk0 : Frame L F z s) (hL : [.scn] ⊆ L) : Frame L F z (State.addCmd s n c) := by
  unfold State.addCmd
  try dsimp only
  repeat' first
    | (with_reducible first
      | assumption | apply frame_setScnEntry | apply frame_ite)
    | simp only [frame_mk]
    | split
    | exact hL (by decide)
    | exact List.Subset.trans (by decide) hL

theorem frame_levelCmds {before : State} (levels : List LevelCmd) (can : List Nat) (reff : Nat) (copies : Nat) (n : Nat) (hk0 : Frame L F z s) (hL : [.scn] ⊆ L) : Frame L F z (State.levelCmds before levels can reff copies s n) := by
  unfold State.levelCmds
  try dsimp only
  repeat' first
    | (with_reducible first
      | assumption | apply frame_addCmd | apply frame_ite)
    | simp only [frame_mk]
    | split
    | exact hL (by decide)
    | exact List.Subset.trans (by decide) hL

theorem frame_queueRounds (lane : Nat) (asn : Nat) (r : Nat) (round : List EPay) (x5 : Nat) (hk0 : Frame L F z s) (hL : [.cfg, .evr, .ltb, .mem, .qdm, .scn] ⊆ L) (hF : .stat ∈ L ∨ [(reg wSCN 0, 7), (reg wLTB 0, 0)] ⊆ F) : Frame L F z (State.queueRounds s lane asn r round x5) := by
  induction x5 generalizing s lane asn r round
  · exact hk0
  · rename_i ih
    unfold State.queueRounds
    try dsimp only
    repeat' first
      | intro (_ : State) _ _ | intro (_ : State × _) _ _
      | (with_reducible first
        | assumption | apply ih | apply frame_queueFrame | apply frame_foldl1 | apply frame_foldl
        | apply frame_ite)
      | split
      | exact hL (by decide)
      | exact List.Subset.trans (by decide) hL
      | exact hF.imp_right (List.Subset.trans (by decide))
      | exact hF.imp_right fun a => a (by decide)

theorem frame_passHead (reff : Nat) (j : ScnJob) (hk0 : Frame L F z s) (hL : [.mst, .scn] ⊆ L) : Frame L F z (State.passHead reff s j) := by
  unfold State.passHead
  try dsimp only
  repeat' first
    | (with_reducible first
      | assumption | apply frame_addCmd | apply frame_setHead | apply frame_ite)
    | simp only [frame_mk]
    | split
    | exact hL (by decide)
    | exact List.Subset.trans (by decide) hL

theorem frame_noteScene (lane : Nat) (reff : Nat) (copies : Nat) (j : ScnJob) (hk0 : Frame L F z s) (hL : [.scn] ⊆ L) : Frame L F z (State.noteScene lane reff copies s j) := by
  unfold State.noteScene
  repeat' first
    | (with_reducible first
      | assumption | apply frame_addCmd)
    | exact hL (by decide)
    | exact List.Subset.trans (by decide) hL

theorem frame_queueLane (levels : List LevelCmd) (jobs : List ScnJob) (can : List Nat) (reff : Nat) (copies : Nat) (n : Nat) (hk0 : Frame L F z s) (hL : [.cfg, .evr, .ltb, .mem, .qdm, .scn] ⊆ L) (hF : .stat ∈ L ∨ [(reg wSCN 0, 7), (reg wLTB 0, 0)] ⊆ F) : Frame L F z (State.queueLane levels jobs can reff copies s n) := by
  unfold State.queueLane
  try dsimp only
  repeat' first
    | intro (_ : State) _ _ | intro (_ : State × _) _ _
    | (with_reducible first
      | assumption | apply frame_noteScene | apply frame_queueRounds | apply frame_foldl1 | apply frame_foldl
      | apply frame_ite)
    | split
    | exact hL (by decide)
    | exact List.Subset.trans (by decide) hL
    | exact hF.imp_right (List.Subset.trans (by decide))
    | exact hF.imp_right fun a => a (by decide)

theorem frame_queueTick {before : State} (levels : List LevelCmd) (jobs : List ScnJob) (hk0 : Frame L F z s) (hL : [.stat, .cfg, .evr, .ltb, .mem, .mst, .qdm, .scn] ⊆ L) : Frame L F z (State.queueTick before s levels jobs) := by
  unfold State.queueTick
  try dsimp only
  repeat' first
    | intro (_ : State) _ _ | intro (_ : State × _) _ _
    | (with_reducible first
      | assumption | apply frame_withdrawScene | apply frame_levelCmds | apply frame_queueLane
      | apply frame_passHead | apply frame_foldl1 | apply frame_foldl | apply fset_scn | apply frame_ite)
    | simp only [frame_mk]
    | split
    | exact hL (by decide)
    | exact List.Subset.trans (by decide) hL
    | exact .inl (hL (by decide))

theorem frame_writeCmd (n : Nat) (c : ScnCmd) (hk0 : Frame L F z s) (hL : [.mem] ⊆ L) : Frame L F z (State.writeCmd n s c) := by
  unfold State.writeCmd
  try dsimp only
  repeat' first
    | intro (_ : State) _ _ | intro (_ : State × _) _ _
    | (with_reducible first
      | assumption | apply frame_setLt | apply frame_foldl1 | apply frame_foldl | apply frame_ite)
    | split
    | exact hL (by decide)
    | exact List.Subset.trans (by decide) hL

theorem frame_effectEntry (n : Nat) (hk0 : Frame L F z s) (hL : [.mem, .scn] ⊆ L) : Frame L F z (State.effectEntry s n) := by
  unfold State.effectEntry
  try dsimp only
  repeat' first
    | intro (_ : State) _ _ | intro (_ : State × _) _ _
    | (with_reducible first
      | assumption | apply frame_setScnEntry | apply frame_writeCmd | apply frame_foldl1 | apply frame_foldl
      | apply frame_ite)
    | simp only [frame_mk]
    | split
    | exact hL (by decide)
    | exact List.Subset.trans (by decide) hL

theorem frame_effectAll (hk0 : Frame L F z s) (hL : [.mem, .scn] ⊆ L) : Frame L F z (State.effectAll s) := by
  unfold State.effectAll
  repeat' first
    | intro (_ : State) _ _ | intro (_ : State × _) _ _
    | (with_reducible first
      | assumption | apply frame_effectEntry | apply frame_foldl1 | apply frame_foldl)
    | exact hL (by decide)
    | exact List.Subset.trans (by decide) hL

theorem frame_ruleTick (d : Date) (o : State × List Nat) (p : Nat) (h : Frame L F z o.1)
    (hL : [.evr, .scn] ⊆ L) (hF : .stat ∈ L ∨ [(reg wSCN 0, 3)] ⊆ F) : Frame L F z (State.ruleTick d o p).1 := by
  unfold State.ruleTick
  dsimp only
  refine frame_ite1 (frame_setProg _ _ h (List.Subset.trans (by decide) hL)) ?_
  dsimp only
  exact frame_postBit _ _ (frame_setProg _ _ h (List.Subset.trans (by decide) hL)) (hL (by decide))
    (hF.imp_right fun a => a (by decide))

theorem frame_rulesTick (began : Bool) (hk0 : Frame L F z s) (hL : [.evr, .scn] ⊆ L)
    (hF : .stat ∈ L ∨ [(reg wSCN 0, 3)] ⊆ F) : Frame L F z (s.rulesTick began).1 := by
  unfold State.rulesTick
  repeat' first
    | intro (_ : State × _) _ _
    | (with_reducible first
      | assumption | apply frame_foldl1 | apply frame_ruleTick | apply fset_scn)
    | simp only [frame_mk] | split | exact hL (by decide)

theorem frame_entryTick (levels : List LevelCmd) (steps : List Nat) (all : Bool) (can : List Nat)
    (o : State × List ScnJob) (n : Nat) (h : Frame L F z o.1) (hL : [.evr, .mem, .scn] ⊆ L)
    (hF : .stat ∈ L ∨ [(reg wSCN 0, 4)] ⊆ F) : Frame L F z (State.entryTick levels steps all can o n).1 := by
  unfold State.entryTick
  dsimp only
  repeat' first
    | (with_reducible first
      | assumption | apply frame_postBit | apply frame_setLt | apply frame_setScnEntry | apply frame_noteMoved | apply frame_recordLevel
      | apply frame_derateEntry | apply frame_ite)
    | split
    | dsimp only
    | exact hL (by decide)
    | exact List.Subset.trans (by decide) hL
    | exact hF.imp_right fun h => h (by decide)

theorem frame_progTick (o : State.StepOut) (p : Nat) (h : Frame L F z o.st) (hL : [.evr, .scn] ⊆ L)
    (hF : .stat ∈ L ∨ [(reg wSCN 0, 2)] ⊆ F) : Frame L F z (State.progTick o p).st := by
  unfold State.progTick
  dsimp only
  split
  · exact h
  · have hp : ∀ f : ScnProg → ScnProg, Frame L F z (o.st.setProg p f) := fun f => frame_setProg p f h (List.Subset.trans (by decide) hL)
    exact frame_ite (frame_postBit _ _ (hp _) (hL (by decide)) (hF.imp_right fun h => h (by decide))) (hp _)

theorem frame_progTicks (l : List Nat) (o : State.StepOut) (h : Frame L F z o.st) (hL : [.evr, .scn] ⊆ L)
    (hF : .stat ∈ L ∨ [(reg wSCN 0, 2)] ⊆ F) : Frame L F z (l.foldl State.progTick o).st := by
  induction l generalizing o with
  | nil => exact h
  | cons x r ih => exact ih _ (frame_progTick o x h hL hF)

theorem frame_scnWork (solveUs : Nat) (hk0 : Frame L F z s) (hL : [.stat, .cfg, .evr, .ltb, .mem, .mst, .qdm, .scn] ⊆ L) : Frame L F z (State.scnWork s solveUs) := by
  have hs : Piece.stat ∈ L := hL (by decide)
  have hm : ∀ {M : List Piece}, M ⊆ [.stat, .cfg, .evr, .ltb, .mem, .mst, .qdm, .scn] → M ⊆ L := fun h => List.Subset.trans h hL
  unfold State.scnWork
  have hd : Frame L F z { s with scn := { s.scn with wasEnabled := true } }.dayTick.1 :=
    frame_dayTick (fset_scn hk0 (hL (by decide))) (hm (by decide))
  generalize { s with scn := { s.scn with wasEnabled := true } }.dayTick = d at hd
  dsimp only
  have hr : Frame L F z (d.1.astroTick.rulesTick d.2).1 :=
    frame_rulesTick _ (frame_astroTick hd (hm (by decide)) (.inl hs)) (hm (by decide)) (.inl hs)
  generalize d.1.astroTick.rulesTick d.2 = r at hr
  have ho : Frame L F z ((List.range 16).foldl State.progTick ({ st := r.1, levels := [], effect := [] } : State.StepOut)).st :=
    frame_progTicks _ _ hr (hm (by decide)) (.inl hs)
  generalize (List.range 16).foldl State.progTick ({ st := r.1, levels := [], effect := [] } : State.StepOut) = o at ho
  refine frame_postBit _ _ ?_ (hL (by decide)) (.inl hs)
  refine frame_queueTick _ _ (frame_postBit _ _ (fset_scn ?_ (hL (by decide))) (hL (by decide)) (.inl hs)) hL
  exact frame_foldl1 ho fun t x ht => frame_entryTick _ _ _ _ _ _ ht (hm (by decide)) (.inl hs)

theorem frame_scnTick (solveUs : Nat) (hk0 : Frame L F z s) (hL : [.stat, .cfg, .evr, .ltb, .mem, .mst, .qdm, .scn] ⊆ L) : Frame L F z (State.scnTick s solveUs) := by
  unfold State.scnTick
  try dsimp only
  repeat' first
    | (with_reducible first
      | assumption | apply frame_effectAll | apply frame_scnWork | apply fset_scn | apply frame_ite)
    | simp only [frame_mk]
    | split
    | exact hL (by decide)
    | exact List.Subset.trans (by decide) hL
    | exact .inl (hL (by decide))

theorem frame_curvesTaken (l : List Nat) (hk0 : Frame L F z s) (hL : [.evr, .scn] ⊆ L) (hF : .stat ∈ L ∨ [(reg wSCN 0, 6)] ⊆ F) : Frame L F z (State.curvesTaken s l) := by
  unfold State.curvesTaken
  try dsimp only
  repeat' first
    | intro (_ : State) _ _ | intro (_ : State × _) _ _
    | (with_reducible first
      | assumption | apply frame_postBit | apply frame_foldl1 | apply frame_foldl | apply fset_scn
      | apply frame_ite)
    | simp only [frame_mk]
    | split
    | exact hL (by decide)
    | exact List.Subset.trans (by decide) hL
    | exact hF.imp_right (List.Subset.trans (by decide))
    | exact hF.imp_right fun a => a (by decide)

theorem frame_rulesTaken (l : List Nat) (hk0 : Frame L F z s) (hL : [.scn] ⊆ L) : Frame L F z (State.rulesTaken s l) := by
  unfold State.rulesTaken
  try dsimp only
  repeat' first
    | (with_reducible first
      | assumption | apply fset_scn | apply frame_ite)
    | simp only [frame_mk]
    | split
    | exact hL (by decide)
    | exact List.Subset.trans (by decide) hL

theorem frame_setWav (f : WavUnit → WavUnit) (hk0 : Frame L F z s) (hL : [.wav] ⊆ L) : Frame L F z (State.setWav s f) :=
  fset_wav hk0 (hL (by decide))

theorem frame_detectDrop (n : Nat) (f : WavUnit → WavUnit) (hk0 : Frame L F z s) (hL : [.evr, .mem, .wav] ⊆ L) (hF : .stat ∈ L ∨ [(reg wWAV 0, 2)] ⊆ F) : Frame L F z (State.detectDrop s n f) := by
  unfold State.detectDrop
  repeat' first
    | (with_reducible first
      | assumption | apply frame_postBit | apply frame_setWav | apply frame_setLt)
    | exact hL (by decide)
    | exact List.Subset.trans (by decide) hL
    | exact hF.imp_right (List.Subset.trans (by decide))
    | exact hF.imp_right fun a => a (by decide)

theorem frame_wavEnter (x : WavIn) (hk0 : Frame L F z s) (hL : [.stat, .evr, .mem, .wav] ⊆ L) : Frame L F z (State.wavEnter s x) := by
  unfold State.wavEnter
  try dsimp only
  repeat' first
    | (with_reducible first
      | assumption | apply frame_setWav | apply frame_postBit | apply frame_detectDrop | apply frame_post
      | apply fbuilt | apply frame_ite)
    | simp only [frame_mk]
    | split
    | rfl
    | exact hL (by decide)
    | exact List.Subset.trans (by decide) hL
    | exact .inl (hL (by decide))
    | (intro p h1 h2; cases p; (case evr => exact absurd (hL (by decide)) h1); (case mem => exact absurd (hL (by decide)) h1); (case wav => exact absurd (hL (by decide)) h1); (case stat => exact absurd rfl h2); all_goals (first | rfl | exact fun _ => rfl))

theorem frame_queueWave (q : Nat) (n : Nat) (base : Nat) (w : Wave) (l : List Raised) (hk0 : Frame L F z s) (hL : [.cfg, .evr, .ltb, .mem, .qdm, .wav] ⊆ L) (hF : .stat ∈ L ∨ [(reg wWAV 0, 4), (reg wLTB 0, 0)] ⊆ F) : Frame L F z (State.queueWave s q n base w l).1 := by
  unfold State.queueWave
  try dsimp only
  repeat' first
    | (with_reducible first
      | assumption | apply frame_enqueue | apply frame_postBit | apply frame_setWav | apply frame_ite)
    | simp only [frame_mk]
    | split
    | exact hL (by decide)
    | exact List.Subset.trans (by decide) hL
    | exact hF.imp_right (List.Subset.trans (by decide))
    | exact hF.imp_right fun a => a (by decide)

theorem frame_waveLane (w : Wave) (n : Nat) (l : List Raised) (hk0 : Frame L F z s) (hL : [.cfg, .evr, .ltb, .mem, .qdm, .wav] ⊆ L)
    (hF : .stat ∈ L ∨ [(reg wWAV 0, 4), (reg wLTB 0, 0)] ⊆ F) :
    Frame L F z (State.waveLane w n s l).1 := by
  unfold State.waveLane
  repeat' first
    | intro (_ : State × _) _ _
    | (with_reducible first
      | assumption | apply frame_foldl1 | apply frame_queueWave)
    | split | exact List.Subset.trans (by decide) hL | exact hF.imp_right (List.Subset.trans (by decide)) | exact hF.imp_right fun a => a (by decide) | exact hL (by decide) | dsimp only | unfold State.queueCopies

theorem frame_waveHead (w : Wave) (r : Raised) (hk0 : Frame L F z s) (hL : [.mst] ⊆ L) : Frame L F z (State.waveHead w s r) := by
  unfold State.waveHead
  try dsimp only
  repeat' first
    | (with_reducible first
      | assumption | apply frame_setHead | apply frame_ite)
    | simp only [frame_mk]
    | split
    | exact hL (by decide)
    | exact List.Subset.trans (by decide) hL

theorem frame_waveSend (w : Wave) (l : List Raised) (hk0 : Frame L F z s) (hL : [.cfg, .evr, .ltb, .mem, .mst, .qdm, .wav] ⊆ L) (hF : .stat ∈ L ∨ [(reg wWAV 0, 4), (reg wLTB 0, 0)] ⊆ F) : Frame L F z (State.waveSend s w l).1 := by
  unfold State.waveSend
  try dsimp only
  repeat' first
    | intro (_ : State) _ _ | intro (_ : State × _) _ _
    | (with_reducible first
      | assumption | apply frame_waveHead | apply frame_waveLane | apply frame_foldl1 | apply frame_foldl
      | apply frame_ite)
    | split
    | exact hL (by decide)
    | exact List.Subset.trans (by decide) hL
    | exact hF.imp_right (List.Subset.trans (by decide))
    | exact hF.imp_right fun a => a (by decide)

theorem frame_handSend (w : Wave) (typ : Nat) (seq : Nat) (pt : HandPt) (arrival : Nat) (bearing : Nat) (hk0 : Frame L F z s) (hL : [.cfg, .evr, .ltb, .mem, .qdm, .wav] ⊆ L) (hF : .stat ∈ L ∨ [(reg wWAV 0, 6), (reg wLTB 0, 0)] ⊆ F) : Frame L F z (State.handSend s w typ seq pt arrival bearing).1 := by
  unfold State.handSend
  try dsimp only
  repeat' first
    | (with_reducible first
      | assumption | apply frame_postBit | apply frame_setWav | apply frame_enqueueEth | apply frame_ite)
    | simp only [frame_mk]
    | split
    | exact hL (by decide)
    | exact List.Subset.trans (by decide) hL
    | exact hF.imp_right (List.Subset.trans (by decide))
    | exact hF.imp_right fun a => a (by decide)

theorem frame_putWave (w : Wave) (hk0 : Frame L F z s) (hL : [.wav] ⊆ L) : Frame L F z (State.putWave s w) := by
  unfold State.putWave
  try dsimp only
  repeat' first
    | (with_reducible first
      | assumption | apply frame_setWav | apply frame_ite)
    | simp only [frame_mk]
    | split
    | exact hL (by decide)
    | exact List.Subset.trans (by decide) hL

theorem frame_handFound (o : State × Wave) (f : FoundPt) (h : Frame L F z o.1) (hL : [.cfg, .evr, .ltb, .mem, .qdm, .wav] ⊆ L)
    (hF : .stat ∈ L ∨ [(reg wWAV 0, 6), (reg wLTB 0, 0)] ⊆ F) :
    Frame L F z (State.handFound o f).1 := by
  unfold State.handFound
  dsimp only
  repeat' first
    | (with_reducible first
      | assumption | apply frame_handSend)
    | split | exact List.Subset.trans (by decide) hL | exact hF.imp_right (List.Subset.trans (by decide)) | exact hF.imp_right fun a => a (by decide) | dsimp only

theorem frame_handLost (o : State × Wave) (x : HandPt) (h : Frame L F z o.1) (hL : [.cfg, .evr, .ltb, .mem, .qdm, .wav] ⊆ L)
    (hF : .stat ∈ L ∨ [(reg wWAV 0, 6), (reg wLTB 0, 0)] ⊆ F) :
    Frame L F z (State.handLost o x).1 := by
  unfold State.handLost
  dsimp only
  repeat' first
    | (with_reducible first
      | assumption | apply frame_handSend)
    | split | exact List.Subset.trans (by decide) hL | exact hF.imp_right (List.Subset.trans (by decide)) | exact hF.imp_right fun a => a (by decide) | dsimp only

theorem frame_compute (w : Wave) (hk0 : Frame L F z s) (hL : [.cfg, .evr, .ltb, .mem, .mst, .qdm, .wav] ⊆ L)
    (hF : .stat ∈ L ∨ [(reg wWAV 0, 4), (reg wWAV 0, 5), (reg wWAV 0, 6), (reg wLTB 0, 0)] ⊆ F) : Frame L F z (s.compute w) := by
  unfold State.compute
  dsimp only
  repeat' first
    | intro (_ : State × _) _ _
    | (with_reducible first
      | assumption | apply frame_putWave | apply frame_foldl1 | apply frame_handFound | apply frame_handLost
      | apply frame_waveSend | apply frame_postBit | apply frame_setWav | apply frame_ite)
    | exact hL (by decide) | exact List.Subset.trans (by decide) hL | exact hF.imp_right (List.Subset.trans (by decide)) | exact hF.imp_right fun a => a (by decide)

theorem frame_openWave (n : Nat) (td : Nat) (speed : Nat) (heading : Option Nat) (cls : Nat) (hops : Nat) (remote : Option (Nat × Nat × Nat)) (hk0 : Frame L F z s) (hL : [.cfg, .evr, .ltb, .mem, .mst, .qdm, .wav] ⊆ L) (hF : .stat ∈ L ∨ [(reg wWAV 0, 0), (reg wWAV 0, 2), (reg wWAV 0, 3), (reg wWAV 0, 4), (reg wWAV 0, 5), (reg wWAV 0, 6), (reg wLTB 0, 0)] ⊆ F) : Frame L F z (State.openWave s n td speed heading cls hops remote) := by
  unfold State.openWave
  try dsimp only
  repeat' first
    | (with_reducible first
      | assumption | apply frame_postBit | apply frame_detectDrop | apply frame_compute | apply frame_setWav
      | apply frame_ite)
    | simp only [frame_mk]
    | split
    | exact hL (by decide)
    | exact List.Subset.trans (by decide) hL
    | exact hF.imp_right (List.Subset.trans (by decide))
    | exact hF.imp_right fun a => a (by decide)

theorem frame_reanchor (w : Wave) (n : Nat) (td : Nat) (speed : Nat) (heading : Option Nat) (cls : Nat) (hk0 : Frame L F z s) (hL : [.cfg, .evr, .free, .ltb, .mem, .mst, .qdm, .wav] ⊆ L) (hF : .stat ∈ L ∨ [(reg wWAV 0, 4), (reg wWAV 0, 5), (reg wWAV 0, 6), (reg wLTB 0, 0)] ⊆ F) : Frame L F z (State.reanchor s w n td speed heading cls) := by
  unfold State.reanchor
  try dsimp only
  repeat' first
    | (with_reducible first
      | assumption | apply frame_compute | apply frame_fresh | apply frame_ite)
    | simp only [frame_mk]
    | split
    | exact hL (by decide)
    | exact List.Subset.trans (by decide) hL
    | exact hF.imp_right (List.Subset.trans (by decide))
    | exact hF.imp_right fun a => a (by decide)

theorem frame_detectTake (n : Nat) (td : Nat) (speed : Nat) (heading : Nat) (hv : Bool) (cls : Nat) (hk0 : Frame L F z s) (hL : [.cfg, .evr, .free, .ltb, .mem, .mst, .qdm, .wav] ⊆ L) (hF : .stat ∈ L ∨ [(reg wWAV 0, 0), (reg wWAV 0, 2), (reg wWAV 0, 3), (reg wWAV 0, 4), (reg wWAV 0, 5), (reg wWAV 0, 6), (reg wLTB 0, 0)] ⊆ F) : Frame L F z (State.detectTake s n td speed heading hv cls) := by
  unfold State.detectTake
  try dsimp only
  repeat' first
    | (with_reducible first
      | assumption | apply frame_reanchor | apply frame_setWav | apply frame_openWave | apply frame_ite)
    | simp only [frame_mk]
    | split
    | exact hL (by decide)
    | exact List.Subset.trans (by decide) hL
    | exact hF.imp_right (List.Subset.trans (by decide))
    | exact hF.imp_right fun a => a (by decide)

theorem frame_wavLatency (tRx : Nat) (computeUs : Nat) (hk0 : Frame L F z s) (hL : [.wav] ⊆ L) : Frame L F z (State.wavLatency s tRx computeUs) := by
  unfold State.wavLatency
  try dsimp only
  repeat' first
    | (with_reducible first
      | assumption | apply frame_setWav | apply frame_ite)
    | simp only [frame_mk]
    | split
    | exact hL (by decide)
    | exact List.Subset.trans (by decide) hL

theorem frame_detectServe (computeUs : Nat) (hk0 : Frame L F z s) (hL : [.cfg, .evr, .free, .ltb, .mem, .mst, .qdm, .wav] ⊆ L) (hF : .stat ∈ L ∨ [(reg wWAV 0, 0), (reg wWAV 0, 2), (reg wWAV 0, 3), (reg wWAV 0, 4), (reg wWAV 0, 5), (reg wWAV 0, 6), (reg wLTB 0, 0)] ⊆ F) : Frame L F z (State.detectServe s computeUs) := by
  unfold State.detectServe
  try dsimp only
  repeat' first
    | (with_reducible first
      | assumption | apply frame_wavLatency | apply frame_setWav | apply frame_detectDrop
      | apply frame_detectTake | apply frame_ite)
    | simp only [frame_mk]
    | split
    | exact hL (by decide)
    | exact List.Subset.trans (by decide) hL
    | exact hF.imp_right (List.Subset.trans (by decide))
    | exact hF.imp_right fun a => a (by decide)

theorem frame_handDrop (stale : Bool) (hk0 : Frame L F z s) (hL : [.evr, .wav] ⊆ L) (hF : .stat ∈ L ∨ [(reg wWAV 0, 8)] ⊆ F) : Frame L F z (State.handDrop s stale) := by
  unfold State.handDrop
  try dsimp only
  repeat' first
    | (with_reducible first
      | assumption | apply frame_postBit | apply frame_setWav | apply frame_ite)
    | simp only [frame_mk]
    | split
    | exact hL (by decide)
    | exact List.Subset.trans (by decide) hL
    | exact hF.imp_right (List.Subset.trans (by decide))
    | exact hF.imp_right fun a => a (by decide)

theorem frame_noteSeq (p : Nat) (pay : List Byte) (tRx : Nat) (hk0 : Frame L F z s) (hL : [.evr, .wav] ⊆ L) (hF : .stat ∈ L ∨ [(reg wWAV 0, 7)] ⊆ F) : Frame L F z (State.noteSeq s p pay tRx) := by
  unfold State.noteSeq
  try dsimp only
  repeat' first
    | (with_reducible first
      | assumption | apply frame_postBit | apply frame_setWav | apply frame_ite)
    | simp only [frame_mk]
    | split
    | exact hL (by decide)
    | exact List.Subset.trans (by decide) hL
    | exact hF.imp_right (List.Subset.trans (by decide))
    | exact hF.imp_right fun a => a (by decide)

theorem frame_endWave (num : Nat) (hk0 : Frame L F z s) (hL : [.evr, .wav] ⊆ L) (hF : .stat ∈ L ∨ [(reg wWAV 0, 1)] ⊆ F) : Frame L F z (State.endWave s num) := by
  unfold State.endWave
  try dsimp only
  repeat' first
    | (with_reducible first
      | assumption | apply frame_postBit | apply frame_setWav | apply frame_ite)
    | simp only [frame_mk]
    | split
    | exact hL (by decide)
    | exact List.Subset.trans (by decide) hL
    | exact hF.imp_right (List.Subset.trans (by decide))
    | exact hF.imp_right fun a => a (by decide)

theorem frame_cancelWave (w : Wave) (hk0 : Frame L F z s) (hL : [.cfg, .evr, .ltb, .mem, .mst, .qdm, .wav] ⊆ L) (hF : .stat ∈ L ∨ [(reg wWAV 0, 1), (reg wWAV 0, 4), (reg wLTB 0, 0)] ⊆ F) : Frame L F z (State.cancelWave s w) := by
  unfold State.cancelWave
  try dsimp only
  repeat' first
    | (with_reducible first
      | assumption | apply frame_endWave | apply frame_waveSend | apply frame_ite)
    | simp only [frame_mk]
    | split
    | exact hL (by decide)
    | exact List.Subset.trans (by decide) hL
    | exact hF.imp_right (List.Subset.trans (by decide))
    | exact hF.imp_right fun a => a (by decide)

theorem frame_handTake (p : Nat) (pay : List Byte) (tRx : Nat) (hk0 : Frame L F z s) (hL : [.cfg, .evr, .free, .ltb, .mem, .mst, .qdm, .wav] ⊆ L) (hF : .stat ∈ L ∨ [(reg wWAV 0, 0), (reg wWAV 0, 1), (reg wWAV 0, 2), (reg wWAV 0, 3), (reg wWAV 0, 4), (reg wWAV 0, 5), (reg wWAV 0, 6), (reg wWAV 0, 7), (reg wWAV 0, 8), (reg wLTB 0, 0)] ⊆ F) : Frame L F z (State.handTake s p pay tRx) := by
  unfold State.handTake
  try dsimp only
  repeat' first
    | (with_reducible first
      | assumption | apply frame_noteSeq | apply frame_detectDrop | apply frame_openWave | apply frame_reanchor
      | apply frame_handDrop | apply frame_cancelWave | apply frame_ite)
    | simp only [frame_mk]
    | split
    | exact hL (by decide)
    | exact List.Subset.trans (by decide) hL
    | exact hF.imp_right (List.Subset.trans (by decide))
    | exact hF.imp_right fun a => a (by decide)

theorem frame_handServe (typ : Nat) (computeUs : Nat) (hk0 : Frame L F z s) (hL : [.cfg, .evr, .free, .ltb, .mem, .mst, .qdm, .wav] ⊆ L) (hF : .stat ∈ L ∨ [(reg wWAV 0, 0), (reg wWAV 0, 1), (reg wWAV 0, 2), (reg wWAV 0, 3), (reg wWAV 0, 4), (reg wWAV 0, 5), (reg wWAV 0, 6), (reg wWAV 0, 7), (reg wWAV 0, 8), (reg wLTB 0, 0)] ⊆ F) : Frame L F z (State.handServe s typ computeUs) := by
  unfold State.handServe
  try dsimp only
  repeat' first
    | (with_reducible first
      | assumption | apply frame_wavLatency | apply frame_setWav | apply frame_handDrop | apply frame_postBit
      | apply frame_detectDrop | apply frame_handTake | apply frame_ite)
    | simp only [frame_mk]
    | split
    | exact hL (by decide)
    | exact List.Subset.trans (by decide) hL
    | exact hF.imp_right (List.Subset.trans (by decide))
    | exact hF.imp_right fun a => a (by decide)

theorem frame_peersTaken (l : List Nat) (hk0 : Frame L F z s) (hL : [.evr] ⊆ L) (hF : .stat ∈ L ∨ [(reg wWAV 0, 9)] ⊆ F) : Frame L F z (State.peersTaken s l) := by
  unfold State.peersTaken
  try dsimp only
  repeat' first
    | intro (_ : State) _ _ | intro (_ : State × _) _ _
    | (with_reducible first
      | assumption | apply frame_postBit | apply frame_foldl1 | apply frame_foldl | apply frame_ite)
    | split
    | exact hL (by decide)
    | exact List.Subset.trans (by decide) hL
    | exact hF.imp_right (List.Subset.trans (by decide))
    | exact hF.imp_right fun a => a (by decide)

theorem frame_laneBad (n : Nat) (hk0 : Frame L F z s) (hL : [.stat, .evr] ⊆ L) : Frame L F z (State.laneBad s n) := by
  unfold State.laneBad
  repeat' first
    | (with_reducible first
      | assumption | apply frame_postLane)
    | exact hL (by decide)
    | exact List.Subset.trans (by decide) hL
    | exact .inl (hL (by decide))

theorem frame_takeoverBegin (n : Nat) (hk0 : Frame L F z s) (hL : [.lne] ⊆ L) : Frame L F z (State.takeoverBegin s n) :=
  fset_lne hk0 (hL (by decide))

theorem frame_laneStranded (n : Nat) (hk0 : Frame L F z s) (hL : [.evr, .lne] ⊆ L) (hF : .stat ∈ L ∨ [(reg wFLT 0, 5)] ⊆ F) : Frame L F z (State.laneStranded s n) := by
  unfold State.laneStranded
  try dsimp only
  repeat' first
    | (with_reducible first
      | assumption | apply frame_poolEmpty | apply frame_setLane | apply frame_ite)
    | simp only [frame_mk]
    | split
    | exact hL (by decide)
    | exact List.Subset.trans (by decide) hL
    | exact hF.imp_right (List.Subset.trans (by decide))
    | exact hF.imp_right fun a => a (by decide)

theorem frame_takeoverOrStop (n : Nat) (hk0 : Frame L F z s) (hL : [.evr, .lne] ⊆ L) (hF : .stat ∈ L ∨ [(reg wFLT 0, 5)] ⊆ F) : Frame L F z (State.takeoverOrStop s n) := by
  unfold State.takeoverOrStop
  repeat' first
    | (with_reducible first
      | assumption | apply frame_takeoverBegin | apply frame_laneStranded | apply frame_ite)
    | split
    | exact hL (by decide)
    | exact List.Subset.trans (by decide) hL
    | exact hF.imp_right (List.Subset.trans (by decide))
    | exact hF.imp_right fun a => a (by decide)

theorem frame_laneEnable (n : Nat) (hk0 : Frame L F z s) (hL : [.stat, .evr, .lne] ⊆ L) : Frame L F z (State.laneEnable s n) := by
  unfold State.laneEnable
  try dsimp only
  repeat' first
    | (with_reducible first
      | assumption | apply frame_setLane | apply frame_laneBad | apply frame_ite)
    | simp only [frame_mk]
    | split
    | exact hL (by decide)
    | exact List.Subset.trans (by decide) hL
    | exact .inl (hL (by decide))

theorem frame_laneDisable (n : Nat) (hk0 : Frame L F z s) (hL : [.lne] ⊆ L) : Frame L F z (State.laneDisable s n) := by
  unfold State.laneDisable
  try dsimp only
  repeat' first
    | (with_reducible first
      | assumption | apply frame_setLane)
    | simp only [frame_mk]
    | exact hL (by decide)
    | exact List.Subset.trans (by decide) hL

theorem frame_laneStartDue (n : Nat) (hk0 : Frame L F z s) (hL : [.stat, .evr, .lne] ⊆ L) : Frame L F z (State.laneStartDue s n) := by
  unfold State.laneStartDue
  try dsimp only
  repeat' first
    | (with_reducible first
      | assumption | apply frame_laneBad | apply frame_setLane | apply frame_postLane
      | apply frame_takeoverOrStop | apply fbuilt | apply frame_ite)
    | simp only [frame_mk]
    | split
    | rfl
    | exact hL (by decide)
    | exact List.Subset.trans (by decide) hL
    | exact .inl (hL (by decide))
    | (intro p h1 h2; cases p; (case evr => exact absurd (hL (by decide)) h1); (case lne => exact absurd (hL (by decide)) h1); (case stat => exact absurd rfl h2); all_goals (first | rfl | exact fun _ => rfl))

theorem frame_slotTaken (n : Nat) (l : List Nat) (hk0 : Frame L F z s) (hL : [.stat, .evr, .lne] ⊆ L) : Frame L F z (State.slotTaken s n l) := by
  unfold State.slotTaken
  try dsimp only
  repeat' first
    | (with_reducible first
      | assumption | apply frame_postLane | apply frame_laneEnable | apply frame_laneDisable | apply frame_ite)
    | split
    | exact hL (by decide)
    | exact List.Subset.trans (by decide) hL
    | exact .inl (hL (by decide))

theorem frame_fcUse (hk0 : Frame L F z s) (hL : [.stat, .evr, .lne] ⊆ L) : Frame L F z (State.fcUse s) := by
  unfold State.fcUse
  try dsimp only
  repeat' first
    | (with_reducible first
      | assumption | apply frame_post | apply fset_lne | apply fbuilt | apply frame_ite)
    | simp only [frame_mk]
    | split
    | rfl
    | exact hL (by decide)
    | exact List.Subset.trans (by decide) hL
    | exact .inl (hL (by decide))
    | (intro p h1 h2; cases p; (case evr => exact absurd (hL (by decide)) h1); (case lne => exact absurd (hL (by decide)) h1); (case stat => exact absurd rfl h2); all_goals (first | rfl | exact fun _ => rfl))

theorem frame_fcOwn (o : Nat × Nat) (hk0 : Frame L F z s) (hL : [.lne] ⊆ L) : Frame L F z (State.fcOwn s o) := by
  unfold State.fcOwn
  try dsimp only
  repeat' first
    | (with_reducible first
      | assumption | apply fset_lne | apply frame_ite)
    | simp only [frame_mk]
    | split
    | exact hL (by decide)
    | exact List.Subset.trans (by decide) hL

theorem frame_fcMarks (v : Nat) (hk0 : Frame L F z s) (hL : [.stat, .evr] ⊆ L) : Frame L F z (State.fcMarks s v) := by
  unfold State.fcMarks
  repeat' first
    | (with_reducible first
      | assumption | apply frame_post)
    | exact hL (by decide)
    | exact List.Subset.trans (by decide) hL
    | exact .inl (hL (by decide))

theorem frame_fcResume (hk0 : Frame L F z s) (hL : [.stat, .evr, .lne] ⊆ L) : Frame L F z (State.fcResume s) := by
  unfold State.fcResume
  try dsimp only
  repeat' first
    | (with_reducible first
      | assumption | apply frame_fcMarks | apply fset_lne | apply frame_ite)
    | simp only [frame_mk]
    | split
    | exact hL (by decide)
    | exact List.Subset.trans (by decide) hL
    | exact .inl (hL (by decide))

theorem frame_lateDropHead (n : Nat) (q : Nat) (hk0 : Frame L F z s) (hL : [.stat, .evr, .lne, .ltb, .mem, .qdm] ⊆ L) : Frame L F z (State.lateDropHead s n q) := by
  unfold State.lateDropHead
  try dsimp only
  repeat' first
    | (with_reducible first
      | assumption | apply frame_postLane | apply frame_setLane | apply frame_complete | apply fbuilt
      | apply frame_ite)
    | simp only [frame_mk]
    | split
    | rfl
    | exact hL (by decide)
    | exact List.Subset.trans (by decide) hL
    | exact .inl (hL (by decide))
    | (intro p h1 h2; cases p; (case evr => exact absurd (hL (by decide)) h1); (case lne => exact absurd (hL (by decide)) h1); (case ltb => exact absurd (hL (by decide)) h1); (case mem => exact absurd (hL (by decide)) h1); (case qdm => exact absurd (hL (by decide)) h1); (case stat => exact absurd rfl h2); all_goals (first | rfl | exact fun _ => rfl))

theorem frame_lateHeads (n : Nat) (q : Nat) (a : Nat) (x4 : Nat) (hk0 : Frame L F z s) (hL : [.stat, .evr, .lne, .ltb, .mem, .qdm] ⊆ L) : Frame L F z (State.lateHeads s n q a x4) := by
  induction x4 generalizing s n q a
  · exact hk0
  · rename_i ih
    unfold State.lateHeads
    try dsimp only
    repeat' first
      | (with_reducible first
        | assumption | apply ih | apply frame_complete | apply frame_lateDropHead | apply frame_ite)
      | simp only [frame_mk]
      | split
      | exact hL (by decide)
      | exact List.Subset.trans (by decide) hL
      | exact .inl (hL (by decide))

theorem frame_lateAll (n : Nat) (a : Nat) (x3 : List Nat) (hk0 : Frame L F z s) (hL : [.stat, .evr, .lne, .ltb, .mem, .qdm] ⊆ L) : Frame L F z (State.lateAll s n a x3) := by
  induction x3 generalizing s n a
  · exact hk0
  · rename_i ih
    unfold State.lateAll
    try dsimp only
    repeat' first
      | (with_reducible first
        | assumption | apply ih | apply frame_settle | apply frame_lateHeads | apply frame_ite)
      | split
      | exact hL (by decide)
      | exact List.Subset.trans (by decide) hL
      | exact .inl (hL (by decide))

theorem frame_fetchAll (q : Nat) (hk0 : Frame L F z s) (hL : [.stat, .evr, .mem, .qdm, .str] ⊆ L) : Frame L F z (State.fetchAll s q) := by
  unfold State.fetchAll
  try dsimp only
  repeat' first
    | (with_reducible first
      | assumption | apply frame_setQueue | apply frame_fetchRest | apply frame_ite)
    | simp only [frame_mk]
    | split
    | exact hL (by decide)
    | exact List.Subset.trans (by decide) hL
    | exact .inl (hL (by decide))

theorem frame_collSkip (n : Nat) (hk0 : Frame L F z s) (hL : [.stat, .evr, .lne] ⊆ L) : Frame L F z (State.collSkip s n) := by
  unfold State.collSkip
  try dsimp only
  repeat' first
    | (with_reducible first
      | assumption | apply frame_postLane | apply frame_setLane | apply fbuilt | apply frame_ite)
    | simp only [frame_mk]
    | split
    | rfl
    | exact hL (by decide)
    | exact List.Subset.trans (by decide) hL
    | exact .inl (hL (by decide))
    | (intro p h1 h2; cases p; (case evr => exact absurd (hL (by decide)) h1); (case lne => exact absurd (hL (by decide)) h1); (case stat => exact absurd rfl h2); all_goals (first | rfl | exact fun _ => rfl))

theorem frame_dutySkipped (n : Nat) (hk0 : Frame L F z s) (hL : [.stat, .evr, .lne] ⊆ L) : Frame L F z (State.dutySkipped s n) := by
  unfold State.dutySkipped
  try dsimp only
  repeat' first
    | (with_reducible first
      | assumption | apply frame_postLane | apply frame_setLane | apply fbuilt | apply frame_ite)
    | simp only [frame_mk]
    | split
    | rfl
    | exact hL (by decide)
    | exact List.Subset.trans (by decide) hL
    | exact .inl (hL (by decide))
    | (intro p h1 h2; cases p; (case evr => exact absurd (hL (by decide)) h1); (case lne => exact absurd (hL (by decide)) h1); (case stat => exact absurd rfl h2); all_goals (first | rfl | exact fun _ => rfl))

theorem frame_addAir (n : Nat) (start : Nat) (len : Nat) (beacon : Bool) (hk0 : Frame L F z s) (hL : [.lne] ⊆ L) : Frame L F z (State.addAir s n start len beacon) := by
  unfold State.addAir
  try dsimp only
  repeat' first
    | (with_reducible first
      | assumption | apply frame_setLane | apply frame_ite)
    | simp only [frame_mk]
    | split
    | exact hL (by decide)
    | exact List.Subset.trans (by decide) hL

theorem frame_noKeyCount (hk0 : Frame L F z s) (hL : [.stat, .evr, .lne] ⊆ L) : Frame L F z (State.noKeyCount s) := by
  unfold State.noKeyCount
  try dsimp only
  repeat' first
    | (with_reducible first
      | assumption | apply frame_post | apply fset_lne | apply fbuilt)
    | simp only [frame_mk]
    | rfl
    | exact hL (by decide)
    | exact List.Subset.trans (by decide) hL
    | exact .inl (hL (by decide))
    | (intro p h1 h2; cases p; (case evr => exact absurd (hL (by decide)) h1); (case lne => exact absurd (hL (by decide)) h1); (case stat => exact absurd rfl h2); all_goals (first | rfl | exact fun _ => rfl))

theorem frame_sendBeacon (n : Nat) (a : Nat) (ch : Nat) (hk0 : Frame L F z s) (hL : [.stat, .evr, .lne] ⊆ L) : Frame L F z (State.sendBeacon s n a ch) := by
  unfold State.sendBeacon
  try dsimp only
  repeat' first
    | (with_reducible first
      | assumption | apply frame_dutySkipped | apply frame_setLane | apply frame_addAir | apply frame_ite)
    | simp only [frame_mk]
    | split
    | exact hL (by decide)
    | exact List.Subset.trans (by decide) hL
    | exact .inl (hL (by decide))

theorem frame_launchHead (n : Nat) (q : Nat) (a : Nat) (ch : Nat) (air : Nat) (hk0 : Frame L F z s) (hL : [.stat, .evr, .lne, .qdm, .tbs] ⊆ L) : Frame L F z (State.launchHead s n q a ch air) := by
  unfold State.launchHead
  try dsimp only
  repeat' first
    | (with_reducible first
      | assumption | apply frame_fcUse | apply frame_setLane | apply frame_addAir | apply frame_setQueue
      | apply frame_postLane | apply frame_tsqAdd | apply fbuilt | apply frame_ite)
    | simp only [frame_mk]
    | split
    | rfl
    | exact hL (by decide)
    | exact List.Subset.trans (by decide) hL
    | exact .inl (hL (by decide))
    | (intro p h1 h2; cases p; (case evr => exact absurd (hL (by decide)) h1); (case lne => exact absurd (hL (by decide)) h1); (case qdm => exact absurd (hL (by decide)) h1); (case tbs => exact absurd (hL (by decide)) h1); (case stat => exact absurd rfl h2); all_goals (first | rfl | exact fun _ => rfl))

theorem frame_sendHead (n : Nat) (cls : Nat) (a : Nat) (ch : Nat) (hk0 : Frame L F z s) (hL : [.stat, .evr, .lne, .ltb, .mem, .qdm, .str, .tbs] ⊆ L) : Frame L F z (State.sendHead s n cls a ch) := by
  unfold State.sendHead
  try dsimp only
  repeat' first
    | (with_reducible first
      | assumption | apply frame_fetchAll | apply frame_collSkip | apply frame_dutySkipped
      | apply frame_noKeyCount | apply frame_complete | apply frame_launchHead | apply frame_ite)
    | simp only [frame_mk]
    | split
    | exact hL (by decide)
    | exact List.Subset.trans (by decide) hL
    | exact .inl (hL (by decide))

theorem frame_ackFail (n : Nat) (hk0 : Frame L F z s) (hL : [.stat, .evr, .lne, .qdm] ⊆ L) : Frame L F z (State.ackFail s n) := by
  unfold State.ackFail
  try dsimp only
  repeat' first
    | (with_reducible first
      | assumption | apply frame_setLane | apply frame_setQueue | apply frame_postLane | apply fbuilt
      | apply frame_ite)
    | simp only [frame_mk]
    | split
    | rfl
    | exact hL (by decide)
    | exact List.Subset.trans (by decide) hL
    | exact .inl (hL (by decide))
    | (intro p h1 h2; cases p; (case evr => exact absurd (hL (by decide)) h1); (case lne => exact absurd (hL (by decide)) h1); (case qdm => exact absurd (hL (by decide)) h1); (case stat => exact absurd rfl h2); all_goals (first | rfl | exact fun _ => rfl))

theorem frame_ackTake (n : Nat) (entry : Nat) (hk0 : Frame L F z s) (hL : [.lne, .qdm] ⊆ L) : Frame L F z (State.ackTake s n entry) := by
  unfold State.ackTake
  try dsimp only
  repeat' first
    | (with_reducible first
      | assumption | apply frame_setQueue | apply frame_setLane | apply frame_ite)
    | simp only [frame_mk]
    | split
    | exact hL (by decide)
    | exact List.Subset.trans (by decide) hL

theorem frame_laneEvent (n : Nat) (i : Nat) (cause : Nat) (hk0 : Frame L F z s) (hL : [.stat, .evr] ⊆ L) : Frame L F z (State.laneEvent s n i cause) := by
  unfold State.laneEvent
  repeat' first
    | (with_reducible first
      | assumption | apply frame_event | apply frame_postLane)
    | exact hL (by decide)
    | exact List.Subset.trans (by decide) hL
    | exact .inl (hL (by decide))

theorem frame_xcvrFault (n : Nat) (cause : Nat) (hk0 : Frame L F z s) (hL : [.stat, .evr, .lne] ⊆ L) : Frame L F z (State.xcvrFault s n cause) := by
  unfold State.xcvrFault
  try dsimp only
  repeat' first
    | (with_reducible first
      | assumption | apply frame_setLane | apply frame_laneEvent | apply frame_laneStranded
      | apply frame_takeoverOrStop | apply fset_lne | apply frame_ite)
    | simp only [frame_mk]
    | split
    | exact hL (by decide)
    | exact List.Subset.trans (by decide) hL
    | exact .inl (hL (by decide))

theorem frame_pllCheck (n : Nat) (rf : RfCheck) (hk0 : Frame L F z s) (hL : [.stat, .evr, .lne] ⊆ L) : Frame L F z (State.pllCheck s n rf) := by
  unfold State.pllCheck
  try dsimp only
  repeat' first
    | (with_reducible first
      | assumption | apply frame_xcvrFault | apply frame_setLane | apply frame_ite)
    | simp only [frame_mk]
    | split
    | exact hL (by decide)
    | exact List.Subset.trans (by decide) hL
    | exact .inl (hL (by decide))

theorem frame_powerChecks (n : Nat) (rf : RfCheck) (hk0 : Frame L F z s) (hL : [.stat, .evr, .lne] ⊆ L) : Frame L F z (State.powerChecks s n rf) := by
  unfold State.powerChecks
  try dsimp only
  repeat' first
    | (with_reducible first
      | assumption | apply frame_setLane | apply frame_laneEvent | apply frame_xcvrFault | apply frame_ite)
    | simp only [frame_mk]
    | split
    | exact hL (by decide)
    | exact List.Subset.trans (by decide) hL
    | exact .inl (hL (by decide))

theorem frame_lneDone (code : Nat) (hk0 : Frame L F z s) (hL : [.stat, .evr, .lne] ⊆ L) : Frame L F z (State.lneDone s code) := by
  unfold State.lneDone
  try dsimp only
  repeat' first
    | (with_reducible first
      | assumption | apply frame_post | apply fset_lne | apply fbuilt)
    | simp only [frame_mk]
    | rfl
    | exact hL (by decide)
    | exact List.Subset.trans (by decide) hL
    | exact .inl (hL (by decide))
    | (intro p h1 h2; cases p; (case evr => exact absurd (hL (by decide)) h1); (case lne => exact absurd (hL (by decide)) h1); (case stat => exact absurd rfl h2); all_goals (first | rfl | exact fun _ => rfl))

theorem frame_takeoverEnd (n : Nat) (hk0 : Frame L F z s) (hL : [.stat, .evr, .flt, .lne] ⊆ L) : Frame L F z (State.takeoverEnd s n) := by
  unfold State.takeoverEnd
  try dsimp only
  repeat' first
    | (with_reducible first
      | assumption | apply frame_laneEvent | apply frame_setLane | apply frame_vergeEvent | apply frame_lneDone
      | apply fset_flt | apply fset_lne | apply fbuilt | apply frame_ite)
    | simp only [frame_mk]
    | split
    | rfl
    | exact hL (by decide)
    | exact List.Subset.trans (by decide) hL
    | exact .inl (hL (by decide))
    | (intro p h1 h2; cases p; (case evr => exact absurd (hL (by decide)) h1); (case flt => exact absurd (hL (by decide)) h1); (case lne => exact absurd (hL (by decide)) h1); (case stat => exact absurd rfl h2); all_goals (first | rfl | exact fun _ => rfl))

theorem frame_laneReturnDue (n : Nat) (hk0 : Frame L F z s) (hL : [.stat, .evr, .flt, .lne] ⊆ L) : Frame L F z (State.laneReturnDue s n) := by
  unfold State.laneReturnDue
  try dsimp only
  repeat' first
    | (with_reducible first
      | assumption | apply frame_setLane | apply frame_lneDone | apply frame_vergeEvent | apply frame_post
      | apply fset_flt | apply fset_lne | apply fbuilt | apply frame_ite)
    | simp only [frame_mk]
    | split
    | rfl
    | exact hL (by decide)
    | exact List.Subset.trans (by decide) hL
    | exact .inl (hL (by decide))
    | (intro p h1 h2; cases p; (case evr => exact absurd (hL (by decide)) h1); (case flt => exact absurd (hL (by decide)) h1); (case lne => exact absurd (hL (by decide)) h1); (case stat => exact absurd rfl h2); all_goals (first | rfl | exact fun _ => rfl))

theorem frame_lneBusy (hk0 : Frame L F z s) (hL : [.stat, .evr, .lne] ⊆ L) : Frame L F z (State.lneBusy s) := by
  unfold State.lneBusy
  try dsimp only
  repeat' first
    | (with_reducible first
      | assumption | apply frame_post | apply fset_lne | apply fbuilt)
    | simp only [frame_mk]
    | rfl
    | exact hL (by decide)
    | exact List.Subset.trans (by decide) hL
    | exact .inl (hL (by decide))
    | (intro p h1 h2; cases p; (case evr => exact absurd (hL (by decide)) h1); (case lne => exact absurd (hL (by decide)) h1); (case stat => exact absurd rfl h2); all_goals (first | rfl | exact fun _ => rfl))

theorem frame_cmdTakeover (n : Nat) (hk0 : Frame L F z s) (hL : [.stat, .evr, .lne] ⊆ L) : Frame L F z (State.cmdTakeover s n) := by
  unfold State.cmdTakeover
  try dsimp only
  repeat' first
    | (with_reducible first
      | assumption | apply frame_lneBusy | apply frame_lneDone | apply frame_takeoverBegin | apply fset_lne
      | apply frame_ite)
    | simp only [frame_mk]
    | split
    | exact hL (by decide)
    | exact List.Subset.trans (by decide) hL
    | exact .inl (hL (by decide))

theorem frame_cmdRelease (n : Nat) (hk0 : Frame L F z s) (hL : [.stat, .evr, .lne] ⊆ L) : Frame L F z (State.cmdRelease s n) := by
  unfold State.cmdRelease
  try dsimp only
  repeat' first
    | (with_reducible first
      | assumption | apply frame_lneBusy | apply frame_lneDone | apply frame_setLane | apply fset_lne
      | apply frame_ite)
    | simp only [frame_mk]
    | split
    | exact hL (by decide)
    | exact List.Subset.trans (by decide) hL
    | exact .inl (hL (by decide))

theorem frame_roundBegin (hk0 : Frame L F z s) (hL : [.lne] ⊆ L) : Frame L F z (State.roundBegin s) :=
  fset_lne hk0 (hL (by decide))

theorem frame_cmdRound (hk0 : Frame L F z s) (hL : [.stat, .evr, .lne] ⊆ L) : Frame L F z (State.cmdRound s) := by
  unfold State.cmdRound
  repeat' first
    | (with_reducible first
      | assumption | apply frame_lneBusy | apply frame_lneDone | apply frame_roundBegin | apply frame_ite)
    | split
    | exact hL (by decide)
    | exact List.Subset.trans (by decide) hL
    | exact .inl (hL (by decide))

theorem frame_lneCommand (v : Word) (hk0 : Frame L F z s) (hL : [.stat, .evr, .lne] ⊆ L) : Frame L F z (State.lneCommand s v) := by
  unfold State.lneCommand
  try dsimp only
  repeat' first
    | (with_reducible first
      | assumption | apply frame_cmdTakeover | apply frame_cmdRelease | apply frame_cmdRound | apply frame_ite)
    | simp only [frame_mk]
    | split
    | exact hL (by decide)
    | exact List.Subset.trans (by decide) hL
    | exact .inl (hL (by decide))

theorem frame_roundDue (hk0 : Frame L F z s) (hL : [.lne] ⊆ L) : Frame L F z (State.roundDue s) := by
  unfold State.roundDue
  repeat' first
    | (with_reducible first
      | assumption | apply frame_roundBegin | apply frame_ite)
    | split
    | exact hL (by decide)
    | exact List.Subset.trans (by decide) hL

theorem frame_selfTested (ok : Bool) (hk0 : Frame L F z s) (hL : [.stat, .evr, .lne, .tbs] ⊆ L) : Frame L F z (State.selfTested s ok) := by
  unfold State.selfTested
  try dsimp only
  repeat' first
    | (with_reducible first
      | assumption | apply frame_tsqAdd | apply frame_post | apply fset_lne | apply fbuilt | apply frame_ite)
    | simp only [frame_mk]
    | split
    | rfl
    | exact hL (by decide)
    | exact List.Subset.trans (by decide) hL
    | exact .inl (hL (by decide))
    | (intro p h1 h2; cases p; (case evr => exact absurd (hL (by decide)) h1); (case lne => exact absurd (hL (by decide)) h1); (case tbs => exact absurd (hL (by decide)) h1); (case stat => exact absurd rfl h2); all_goals (first | rfl | exact fun _ => rfl))

theorem frame_roundEnd (hk0 : Frame L F z s) (hL : [.lne] ⊆ L) : Frame L F z (State.roundEnd s) :=
  fset_lne hk0 (hL (by decide))

theorem frame_rxTested (ok : Option Bool) (hk0 : Frame L F z s) (hL : [.stat, .evr, .lne] ⊆ L) : Frame L F z (State.rxTested s ok) := by
  unfold State.rxTested
  try dsimp only
  repeat' first
    | (with_reducible first
      | assumption | apply frame_setLane | apply frame_roundEnd | apply frame_xcvrFault | apply frame_ite)
    | simp only [frame_mk]
    | split
    | exact hL (by decide)
    | exact List.Subset.trans (by decide) hL
    | exact .inl (hL (by decide))

theorem frame_spareTest (txOk : Bool) (rxOk : Option Bool) (hk0 : Frame L F z s) (hL : [.stat, .evr, .lne, .tbs] ⊆ L) : Frame L F z (State.spareTest s txOk rxOk) := by
  unfold State.spareTest
  try dsimp only
  repeat' first
    | (with_reducible first
      | assumption | apply frame_roundDue | apply frame_selfTested | apply frame_rxTested | apply frame_ite)
    | simp only [frame_mk]
    | split
    | exact hL (by decide)
    | exact List.Subset.trans (by decide) hL
    | exact .inl (hL (by decide))

theorem frame_cellAct (n : Nat) (a : Nat) (cls : Nat) (ch : Nat) (hk0 : Frame L F z s) (hL : [.stat, .evr, .lne, .ltb, .mem, .qdm, .str, .tbs] ⊆ L) : Frame L F z (State.cellAct s n a cls ch) := by
  unfold State.cellAct
  try dsimp only
  repeat' first
    | (with_reducible first
      | assumption | apply frame_sendHead | apply frame_collSkip | apply frame_sendBeacon | apply frame_setLane
      | apply frame_ite)
    | simp only [frame_mk]
    | split
    | exact hL (by decide)
    | exact List.Subset.trans (by decide) hL
    | exact .inl (hL (by decide))

theorem frame_rfChecks (n : Nat) (sent : Bool) (rf : RfCheck) (hk0 : Frame L F z s) (hL : [.stat, .evr, .lne] ⊆ L) : Frame L F z (State.rfChecks s n sent rf) := by
  unfold State.rfChecks
  try dsimp only
  repeat' first
    | (with_reducible first
      | assumption | apply frame_powerChecks | apply frame_pllCheck | apply frame_ite)
    | split
    | exact hL (by decide)
    | exact List.Subset.trans (by decide) hL
    | exact .inl (hL (by decide))

theorem frame_cellLate (n : Nat) (a : Nat) (w : Word) (hk0 : Frame L F z s) (hL : [.stat, .evr, .lne, .ltb, .mem, .qdm] ⊆ L) : Frame L F z (State.cellLate s n a w) := by
  unfold State.cellLate
  try dsimp only
  repeat' first
    | (with_reducible first
      | assumption | apply frame_lateAll | apply frame_ite)
    | simp only [frame_mk]
    | split
    | exact hL (by decide)
    | exact List.Subset.trans (by decide) hL
    | exact .inl (hL (by decide))

theorem frame_cellServe (n : Nat) (a : Nat) (w : Word) (rf : RfCheck) (hk0 : Frame L F z s) (hL : [.stat, .evr, .lne, .ltb, .mem, .qdm, .str, .tbs] ⊆ L) : Frame L F z (State.cellServe s n a w rf) := by
  unfold State.cellServe
  try dsimp only
  repeat' first
    | (with_reducible first
      | assumption | apply frame_cellLate | apply frame_laneBad | apply frame_rfChecks | apply frame_cellAct
      | apply frame_ite)
    | split
    | exact hL (by decide)
    | exact List.Subset.trans (by decide) hL
    | exact .inl (hL (by decide))

theorem frame_slotServe (n : Nat) (a : Nat) (rf : RfCheck) (hk0 : Frame L F z s) (hL : [.stat, .evr, .lne, .ltb, .mem, .qdm, .str, .tbs] ⊆ L) : Frame L F z (State.slotServe s n a rf) := by
  unfold State.slotServe
  try dsimp only
  repeat' first
    | (with_reducible first
      | assumption | apply frame_setLane | apply frame_cellServe | apply frame_lateAll | apply frame_ite)
    | simp only [frame_mk]
    | split
    | exact hL (by decide)
    | exact List.Subset.trans (by decide) hL
    | exact .inl (hL (by decide))

theorem frame_slotWork (n : Nat) (rf : RfCheck) (hk0 : Frame L F z s) (hL : [.stat, .act, .changed, .evr, .flt, .lne, .ltb, .mem, .qdm, .str, .sys, .tbs] ⊆ L) : Frame L F z (State.slotWork s n rf) := by
  unfold State.slotWork
  try dsimp only
  repeat' first
    | (with_reducible first
      | assumption | apply frame_laneStartDue | apply frame_slotTaken | apply frame_copyDomain
      | apply frame_laneReturnDue | apply frame_takeoverEnd | apply frame_ackFail | apply frame_slotServe
      | apply frame_ite)
    | simp only [frame_mk]
    | split
    | exact hL (by decide)
    | exact List.Subset.trans (by decide) hL
    | exact .inl (hL (by decide))

theorem frame_laneFetchDue (n : Nat) (hk0 : Frame L F z s) (hL : [.stat, .evr, .lne, .ltb, .mem, .qdm] ⊆ L) : Frame L F z (State.laneFetchDue s n) := by
  unfold State.laneFetchDue
  try dsimp only
  repeat' first
    | (with_reducible first
      | assumption | apply frame_lateAll | apply frame_setQueue | apply frame_ite)
    | simp only [frame_mk]
    | split
    | exact hL (by decide)
    | exact List.Subset.trans (by decide) hL
    | exact .inl (hL (by decide))

theorem frame_rxDrop (n : Nat) (check : Nat) (hk0 : Frame L F z s) (hL : [.stat, .evr, .lne] ⊆ L) : Frame L F z (State.rxDrop s n check) := by
  unfold State.rxDrop
  try dsimp only
  repeat' first
    | (with_reducible first
      | assumption | apply frame_setLane | apply frame_noKeyCount | apply frame_postLane | apply fbuilt
      | apply frame_ite)
    | simp only [frame_mk]
    | split
    | rfl
    | exact hL (by decide)
    | exact List.Subset.trans (by decide) hL
    | exact .inl (hL (by decide))
    | (intro p h1 h2; cases p; (case evr => exact absurd (hL (by decide)) h1); (case lne => exact absurd (hL (by decide)) h1); (case stat => exact absurd rfl h2); all_goals (first | rfl | exact fun _ => rfl))

theorem frame_rxAccept (n : Nat) (e : Nat) (f : RxFrame) (hk0 : Frame L F z s) (hL : [.stat, .evr, .lne, .mem] ⊆ L) : Frame L F z (State.rxAccept s n e f) := by
  unfold State.rxAccept
  try dsimp only
  repeat' first
    | (with_reducible first
      | assumption | apply frame_setLt | apply frame_enterJoined | apply frame_setLane | apply frame_ite)
    | simp only [frame_mk]
    | split
    | exact hL (by decide)
    | exact List.Subset.trans (by decide) hL
    | exact .inl (hL (by decide))

theorem frame_sendAck (n : Nat) (e : Nat) (f : RxFrame) (hk0 : Frame L F z s) (hL : [.stat, .evr, .lne] ⊆ L) : Frame L F z (State.sendAck s n e f) := by
  unfold State.sendAck
  try dsimp only
  repeat' first
    | (with_reducible first
      | assumption | apply frame_setLane | apply frame_addAir | apply frame_fcUse | apply frame_ite)
    | simp only [frame_mk]
    | split
    | exact hL (by decide)
    | exact List.Subset.trans (by decide) hL
    | exact .inl (hL (by decide))

theorem frame_postLrx (n : Nat) (e : Nat) (f : RxFrame) (foreign : Bool) (hk0 : Frame L F z s) (hL : [.stat, .evr, .qdm] ⊆ L) : Frame L F z (State.postLrx s n e f foreign) := by
  unfold State.postLrx
  try dsimp only
  repeat' first
    | (with_reducible first
      | assumption | apply frame_rxPost | apply frame_ite)
    | simp only [frame_mk]
    | split
    | exact hL (by decide)
    | exact List.Subset.trans (by decide) hL
    | exact .inl (hL (by decide))

theorem frame_lcsDrop (n : Nat) (f : RxFrame) (typ : Nat) (case_ : Nat) (hk0 : Frame L F z s) (hL : [.evr] ⊆ L) : Frame L F z (State.lcsDrop s n f typ case_) := by
  unfold State.lcsDrop
  repeat' first
    | (with_reducible first
      | assumption | apply frame_event)
    | exact hL (by decide)
    | exact List.Subset.trans (by decide) hL

theorem frame_idleDrop (hk0 : Frame L F z s) (hL : [.ltb] ⊆ L) : Frame L F z (State.idleDrop s) :=
  fset_ltb hk0 (hL (by decide))

theorem frame_takeTemp (e : Nat) (half : Nat) (hk0 : Frame L F z s) (hL : [.mem] ⊆ L) : Frame L F z (State.takeTemp s e half) := by
  unfold State.takeTemp
  try dsimp only
  repeat' first
    | (with_reducible first
      | assumption | apply frame_setLt | apply frame_ite)
    | simp only [frame_mk]
    | split
    | exact hL (by decide)
    | exact List.Subset.trans (by decide) hL

theorem frame_takeFaults (e : Nat) (v : Nat) (report : Bool) (hk0 : Frame L F z s) (hL : [.stat, .evr, .mem] ⊆ L) : Frame L F z (State.takeFaults s e v report) := by
  unfold State.takeFaults
  try dsimp only
  repeat' first
    | (with_reducible first
      | assumption | apply frame_setLt | apply frame_enterState | apply frame_ite)
    | split
    | exact hL (by decide)
    | exact List.Subset.trans (by decide) hL
    | exact .inl (hL (by decide))

theorem frame_takeReport (n : Nat) (e : Nat) (f : RxFrame) (hk0 : Frame L F z s) (hL : [.stat, .evr, .mem, .qdm] ⊆ L) : Frame L F z (State.takeReport s n e f) := by
  unfold State.takeReport
  try dsimp only
  repeat' first
    | (with_reducible first
      | assumption | apply frame_setLt | apply frame_postLrx | apply frame_takeFaults | apply frame_takeTemp)
    | exact hL (by decide)
    | exact List.Subset.trans (by decide) hL
    | exact .inl (hL (by decide))

theorem frame_takeFault (n : Nat) (e : Nat) (f : RxFrame) (hk0 : Frame L F z s) (hL : [.stat, .evr, .mem, .qdm] ⊆ L) : Frame L F z (State.takeFault s n e f) := by
  unfold State.takeFault
  try dsimp only
  repeat' first
    | (with_reducible first
      | assumption | apply frame_setLt | apply frame_takeTemp | apply frame_postLrx | apply frame_takeFaults)
    | exact hL (by decide)
    | exact List.Subset.trans (by decide) hL
    | exact .inl (hL (by decide))

theorem frame_takeDetect (n : Nat) (e : Nat) (f : RxFrame) (hk0 : Frame L F z s) (hL : [.stat, .evr, .mem, .wav] ⊆ L) : Frame L F z (State.takeDetect s n e f) := by
  unfold State.takeDetect
  try dsimp only
  repeat' first
    | (with_reducible first
      | assumption | apply frame_wavEnter)
    | exact hL (by decide)
    | exact List.Subset.trans (by decide) hL
    | exact .inl (hL (by decide))

theorem frame_noAccept (n : Nat) (e : Nat) (hk0 : Frame L F z s) (hL : [.evr] ⊆ L) : Frame L F z (State.noAccept s n e) := by
  unfold State.noAccept
  repeat' first
    | (with_reducible first
      | assumption | apply frame_event)
    | exact hL (by decide)
    | exact List.Subset.trans (by decide) hL

theorem frame_sendAccept (n : Nat) (e : Nat) (nonce : List Byte) (hk0 : Frame L F z s) (hL : [.cfg, .evr, .ltb, .mem, .qdm] ⊆ L) (hF : .stat ∈ L ∨ [(reg wLTB 0, 0)] ⊆ F) : Frame L F z (State.sendAccept s n e nonce) := by
  unfold State.sendAccept
  try dsimp only
  repeat' first
    | (with_reducible first
      | assumption | apply frame_enqueue | apply frame_noAccept | apply frame_ite)
    | simp only [frame_mk]
    | split
    | exact hL (by decide)
    | exact List.Subset.trans (by decide) hL
    | exact hF.imp_right (List.Subset.trans (by decide))
    | exact hF.imp_right fun a => a (by decide)

theorem frame_mismatch (e : Nat) (hk0 : Frame L F z s) (hL : [.stat, .evr, .ltb, .mem, .qdm, .scn, .str] ⊆ L) : Frame L F z (State.mismatch s e) := by
  unfold State.mismatch
  try dsimp only
  repeat' first
    | (with_reducible first
      | assumption | apply frame_withdrawUnicast | apply frame_withdrawScene | apply frame_enterMismatch)
    | exact hL (by decide)
    | exact List.Subset.trans (by decide) hL
    | exact .inl (hL (by decide))

theorem frame_takeJoin (n : Nat) (e : Nat) (f : RxFrame) (hk0 : Frame L F z s) (hL : [.stat, .cfg, .evr, .ltb, .mem, .qdm, .scn, .str] ⊆ L) : Frame L F z (State.takeJoin s n e f) := by
  unfold State.takeJoin
  try dsimp only
  repeat' first
    | (with_reducible first
      | assumption | apply frame_takeTemp | apply frame_setLt | apply frame_setScnEntry | apply frame_sendAccept
      | apply frame_enterJoined | apply frame_mismatch | apply frame_ite)
    | simp only [frame_mk]
    | split
    | exact hL (by decide)
    | exact List.Subset.trans (by decide) hL
    | exact .inl (hL (by decide))

theorem frame_lcsTake (n : Nat) (e : Nat) (f : RxFrame) (hk0 : Frame L F z s) (hL : [.stat, .cfg, .evr, .ltb, .mem, .qdm, .scn, .str, .wav] ⊆ L) : Frame L F z (State.lcsTake s n e f) := by
  unfold State.lcsTake
  try dsimp only
  repeat' first
    | (with_reducible first
      | assumption | apply frame_postLrx | apply frame_lcsDrop | apply frame_idleDrop | apply frame_takeReport
      | apply frame_takeDetect | apply frame_takeFault | apply frame_takeJoin | apply frame_ite)
    | simp only [frame_mk]
    | split
    | exact hL (by decide)
    | exact List.Subset.trans (by decide) hL
    | exact .inl (hL (by decide))

theorem frame_unknownFrame (src : Nat) (hk0 : Frame L F z s) (hL : [.evr, .ltb] ⊆ L) (hF : .stat ∈ L ∨ [(reg wLTB 0, 4)] ⊆ F) : Frame L F z (State.unknownFrame s src) := by
  unfold State.unknownFrame
  try dsimp only
  repeat' first
    | (with_reducible first
      | assumption | apply frame_postEvent | apply fset_ltb)
    | simp only [frame_mk]
    | exact hL (by decide)
    | exact List.Subset.trans (by decide) hL
    | exact hF.imp_right (List.Subset.trans (by decide))
    | exact hF.imp_right fun a => a (by decide)

theorem frame_dataFrame (f : RxFrame) (hk0 : Frame L F z s) (hL : [.stat, .cfg, .evr, .lne, .ltb, .mem, .qdm, .scn, .str, .wav] ⊆ L) : Frame L F z (State.dataFrame s f) := by
  unfold State.dataFrame
  try dsimp only
  repeat' first
    | (with_reducible first
      | assumption | apply frame_rxDrop | apply frame_unknownFrame | apply frame_lcsTake | apply frame_sendAck
      | apply frame_rxAccept | apply frame_ite)
    | simp only [frame_mk]
    | split
    | exact hL (by decide)
    | exact List.Subset.trans (by decide) hL
    | exact .inl (hL (by decide))

theorem frame_ackFrame (f : RxFrame) (hk0 : Frame L F z s) (hL : [.stat, .evr, .lne, .mem, .qdm] ⊆ L) : Frame L F z (State.ackFrame s f) := by
  unfold State.ackFrame
  try dsimp only
  repeat' first
    | (with_reducible first
      | assumption | apply frame_rxDrop | apply frame_ackTake | apply frame_rxAccept | apply frame_ite)
    | simp only [frame_mk]
    | split
    | exact hL (by decide)
    | exact List.Subset.trans (by decide) hL
    | exact .inl (hL (by decide))

theorem frame_setEth (p : Nat) (f : EthUnit → EthUnit) (hk0 : Frame L F z s) (hL : [.eth0, .eth1] ⊆ L) : Frame L F z (State.setEth s p f) := by
  unfold State.setEth
  try dsimp only
  repeat' first
    | (with_reducible first
      | assumption | apply fset_eth0 | apply fset_eth1 | apply fbuilt | apply frame_ite)
    | simp only [frame_mk]
    | split
    | rfl
    | exact hL (by decide)
    | exact List.Subset.trans (by decide) hL
    | (intro p h1 h2; cases p; (case eth0 => exact absurd (hL (by decide)) h1); (case eth1 => exact absurd (hL (by decide)) h1); (case stat => exact absurd rfl h2); all_goals (first | rfl | exact fun _ => rfl))

theorem frame_etxSend (p : Nat) (hk0 : Frame L F z s) (hL : [.eth0, .eth1, .evr, .qdm, .tbs] ⊆ L) (hF : .stat ∈ L ∨ [(reg wTBS 0, 12)] ⊆ F) : Frame L F z (State.etxSend s p) := by
  unfold State.etxSend
  try dsimp only
  repeat' first
    | (with_reducible first
      | assumption | apply frame_setQueue | apply frame_setEth | apply frame_tsqAdd | apply frame_ite)
    | simp only [frame_mk]
    | split
    | exact hL (by decide)
    | exact List.Subset.trans (by decide) hL
    | exact hF.imp_right (List.Subset.trans (by decide))
    | exact hF.imp_right fun a => a (by decide)

theorem frame_erxPost (p : Nat) (sfd : Nat) (last : Nat) (f : List Byte) (hk0 : Frame L F z s) (hL : [.stat, .evr, .qdm] ⊆ L) : Frame L F z (State.erxPost s p sfd last f) := by
  unfold State.erxPost
  try dsimp only
  repeat' first
    | (with_reducible first
      | assumption | apply frame_rxPost | apply frame_noBuf | apply fset_qdm | apply frame_ite)
    | simp only [frame_mk]
    | split
    | exact hL (by decide)
    | exact List.Subset.trans (by decide) hL
    | exact .inl (hL (by decide))

theorem frame_ethArrive (p : Nat) (sfd : Nat) (last : Nat) (fcsOk : Bool) (f : List Byte) (hk0 : Frame L F z s) (hL : [.stat, .evr, .mem, .qdm, .wav] ⊆ L) : Frame L F z (State.ethArrive s p sfd last fcsOk f) := by
  unfold State.ethArrive
  try dsimp only
  repeat' first
    | (with_reducible first
      | assumption | apply frame_postBit | apply frame_wavEnter | apply frame_erxPost | apply fbuilt
      | apply frame_ite)
    | simp only [frame_mk]
    | split
    | rfl
    | exact hL (by decide)
    | exact List.Subset.trans (by decide) hL
    | exact .inl (hL (by decide))
    | (intro p h1 h2; cases p; (case evr => exact absurd (hL (by decide)) h1); (case mem => exact absurd (hL (by decide)) h1); (case qdm => exact absurd (hL (by decide)) h1); (case wav => exact absurd (hL (by decide)) h1); (case stat => exact absurd rfl h2); all_goals (first | rfl | exact fun _ => rfl))

theorem frame_ethLink (p : Nat) (up : Bool) (speed : Nat) (hk0 : Frame L F z s) (hL : [.stat, .eth0, .eth1, .evr] ⊆ L) : Frame L F z (State.ethLink s p up speed) := by
  unfold State.ethLink
  try dsimp only
  repeat' first
    | (with_reducible first
      | assumption | apply frame_postBit | apply frame_setEth | apply fbuilt | apply frame_ite)
    | simp only [frame_mk]
    | split
    | rfl
    | exact hL (by decide)
    | exact List.Subset.trans (by decide) hL
    | exact .inl (hL (by decide))
    | (intro p h1 h2; cases p; (case eth0 => exact absurd (hL (by decide)) h1); (case eth1 => exact absurd (hL (by decide)) h1); (case evr => exact absurd (hL (by decide)) h1); (case stat => exact absurd rfl h2); all_goals (first | rfl | exact fun _ => rfl))

theorem frame_setKey (f : KeyUnit → KeyUnit) (hk0 : Frame L F z s) (hL : [.key] ⊆ L) : Frame L F z (State.setKey s f) :=
  fset_key hk0 (hL (by decide))

theorem frame_putKeyBuf (d : List Byte) (hk0 : Frame L F z s) (hL : [.cfg] ⊆ L) : Frame L F z (State.putKeyBuf s d) := by
  unfold State.putKeyBuf
  try dsimp only
  repeat' first
    | intro (_ : State) _ _ | intro (_ : State × _) _ _
    | (with_reducible first
      | assumption | apply frame_setCfg | apply frame_foldl1 | apply frame_foldl | apply frame_ite)
    | split
    | exact hL (by decide)
    | exact List.Subset.trans (by decide) hL

theorem frame_keyRefuse (code : Nat) (hk0 : Frame L F z s) (hL : [.evr, .key] ⊆ L) (hF : .stat ∈ L ∨ [(reg wKEY 0, 1)] ⊆ F) : Frame L F z (State.keyRefuse s code) := by
  unfold State.keyRefuse
  try dsimp only
  repeat' first
    | (with_reducible first
      | assumption | apply frame_postBit | apply frame_setKey | apply frame_ite)
    | simp only [frame_mk]
    | split
    | exact hL (by decide)
    | exact List.Subset.trans (by decide) hL
    | exact hF.imp_right (List.Subset.trans (by decide))
    | exact hF.imp_right fun a => a (by decide)

theorem frame_keyStart (j : KeyJob) (hk0 : Frame L F z s) (hL : [.key] ⊆ L) : Frame L F z (State.keyStart s j) := by
  unfold State.keyStart
  try dsimp only
  repeat' first
    | (with_reducible first
      | assumption | apply frame_setKey | apply frame_ite)
    | simp only [frame_mk]
    | split
    | exact hL (by decide)
    | exact List.Subset.trans (by decide) hL

theorem frame_keyTake (slot : Nat) (hk0 : Frame L F z s) (hL : [.key] ⊆ L) : Frame L F z (State.keyTake s slot) := by
  unfold State.keyTake
  try dsimp only
  repeat' first
    | (with_reducible first
      | assumption | apply frame_setKey | apply frame_ite)
    | simp only [frame_mk]
    | split
    | exact hL (by decide)
    | exact List.Subset.trans (by decide) hL

theorem frame_onSlot (n : Nat) (u : Usage) (lenOk : Bool) {k : Slot → State} (hk0 : Frame L F z s) (hk1 : ∀ t, Frame L F z (k t)) (hL : [.evr, .key] ⊆ L) (hF : .stat ∈ L ∨ [(reg wKEY 0, 1)] ⊆ F) : Frame L F z (State.onSlot s n u lenOk k) := by
  unfold State.onSlot
  try dsimp only
  repeat' first
    | (with_reducible first
      | assumption | apply hk1 | apply frame_keyRefuse | apply frame_ite)
    | simp only [frame_mk]
    | split
    | exact hL (by decide)
    | exact List.Subset.trans (by decide) hL
    | exact hF.imp_right (List.Subset.trans (by decide))
    | exact hF.imp_right fun a => a (by decide)

theorem frame_streamCmd (op : Nat) (slot : Nat) (mode : Nat) (fin : List Byte → List Byte) (hk0 : Frame L F z s) (hL : [.evr, .key] ⊆ L) (hF : .stat ∈ L ∨ [(reg wKEY 0, 1)] ⊆ F) : Frame L F z (State.streamCmd s op slot mode fin) := by
  unfold State.streamCmd
  try dsimp only
  repeat' first
    | (with_reducible first
      | assumption | apply frame_setKey | apply frame_keyStart | apply frame_keyRefuse | apply frame_ite)
    | simp only [frame_mk]
    | split
    | exact hL (by decide)
    | exact List.Subset.trans (by decide) hL
    | exact hF.imp_right (List.Subset.trans (by decide))
    | exact hF.imp_right fun a => a (by decide)

theorem frame_cmdNetload (n : Nat) (hk0 : Frame L F z s) (hL : [.evr, .key] ⊆ L) (hF : .stat ∈ L ∨ [(reg wKEY 0, 1)] ⊆ F) : Frame L F z (State.cmdNetload s n) := by
  unfold State.cmdNetload
  try dsimp only
  repeat' first
    | intro (_ : State) _ | intro (_ : Slot)
    | (with_reducible first
      | assumption | apply frame_onSlot | apply frame_keyStart | apply frame_ite)
    | split
    | exact hL (by decide)
    | exact List.Subset.trans (by decide) hL
    | exact hF.imp_right (List.Subset.trans (by decide))
    | exact hF.imp_right fun a => a (by decide)

theorem frame_cmdWrap (n : Nat) (hk0 : Frame L F z s) (hL : [.evr, .key] ⊆ L) (hF : .stat ∈ L ∨ [(reg wKEY 0, 1)] ⊆ F) : Frame L F z (State.cmdWrap s n) := by
  unfold State.cmdWrap
  try dsimp only
  repeat' first
    | intro (_ : State) _ | intro (_ : Slot)
    | (with_reducible first
      | assumption | apply frame_onSlot | apply frame_keyTake | apply frame_keyStart)
    | exact hL (by decide)
    | exact List.Subset.trans (by decide) hL
    | exact hF.imp_right (List.Subset.trans (by decide))
    | exact hF.imp_right fun a => a (by decide)

theorem frame_cmdHash (mode : Nat) (hk0 : Frame L F z s) (hL : [.evr, .key] ⊆ L) (hF : .stat ∈ L ∨ [(reg wKEY 0, 1)] ⊆ F) : Frame L F z (State.cmdHash s mode) := by
  unfold State.cmdHash
  repeat' first
    | (with_reducible first
      | assumption | apply frame_keyRefuse | apply frame_streamCmd | apply frame_ite)
    | split
    | exact hL (by decide)
    | exact List.Subset.trans (by decide) hL
    | exact hF.imp_right (List.Subset.trans (by decide))
    | exact hF.imp_right fun a => a (by decide)

theorem frame_cmdHmac (mode : Nat) (n : Nat) (hk0 : Frame L F z s) (hL : [.evr, .key] ⊆ L) (hF : .stat ∈ L ∨ [(reg wKEY 0, 1)] ⊆ F) : Frame L F z (State.cmdHmac s mode n) := by
  unfold State.cmdHmac
  try dsimp only
  repeat' first
    | intro (_ : State) _ | intro (_ : Slot)
    | (with_reducible first
      | assumption | apply frame_onSlot | apply frame_streamCmd | apply frame_keyTake | apply frame_ite)
    | split
    | exact hL (by decide)
    | exact List.Subset.trans (by decide) hL
    | exact hF.imp_right (List.Subset.trans (by decide))
    | exact hF.imp_right fun a => a (by decide)

theorem frame_cmdVerify (n : Nat) (hk0 : Frame L F z s) (hL : [.evr, .key] ⊆ L) (hF : .stat ∈ L ∨ [(reg wKEY 0, 1)] ⊆ F) : Frame L F z (State.cmdVerify s n) := by
  unfold State.cmdVerify
  try dsimp only
  repeat' first
    | intro (_ : State) _ | intro (_ : Slot)
    | (with_reducible first
      | assumption | apply frame_onSlot | apply frame_keyStart | apply frame_ite)
    | split
    | exact hL (by decide)
    | exact List.Subset.trans (by decide) hL
    | exact hF.imp_right (List.Subset.trans (by decide))
    | exact hF.imp_right fun a => a (by decide)

theorem frame_cmdSign (n : Nat) (hk0 : Frame L F z s) (hL : [.evr, .free, .key] ⊆ L) (hF : .stat ∈ L ∨ [(reg wKEY 0, 1)] ⊆ F) : Frame L F z (State.cmdSign s n) := by
  unfold State.cmdSign
  try dsimp only
  repeat' first
    | intro (_ : State) _ | intro (_ : Slot)
    | (with_reducible first
      | assumption | apply frame_onSlot | apply frame_fresh | apply frame_keyStart)
    | exact hL (by decide)
    | exact List.Subset.trans (by decide) hL
    | exact hF.imp_right (List.Subset.trans (by decide))
    | exact hF.imp_right fun a => a (by decide)

theorem frame_cmdAttest (hk0 : Frame L F z s) (hL : [.evr, .free, .key] ⊆ L) (hF : .stat ∈ L ∨ [(reg wKEY 0, 1)] ⊆ F) : Frame L F z (State.cmdAttest s) := by
  unfold State.cmdAttest
  try dsimp only
  repeat' first
    | (with_reducible first
      | assumption | apply frame_keyRefuse | apply frame_fresh | apply frame_keyStart | apply frame_ite)
    | simp only [frame_mk]
    | split
    | exact hL (by decide)
    | exact List.Subset.trans (by decide) hL
    | exact hF.imp_right (List.Subset.trans (by decide))
    | exact hF.imp_right fun a => a (by decide)

theorem frame_cmdRandom (hk0 : Frame L F z s) (hL : [.evr, .free, .key] ⊆ L) (hF : .stat ∈ L ∨ [(reg wKEY 0, 1)] ⊆ F) : Frame L F z (State.cmdRandom s) := by
  unfold State.cmdRandom
  repeat' first
    | (with_reducible first
      | assumption | apply frame_keyRefuse | apply frame_fresh | apply frame_keyStart | apply frame_ite)
    | split
    | exact hL (by decide)
    | exact List.Subset.trans (by decide) hL
    | exact hF.imp_right (List.Subset.trans (by decide))
    | exact hF.imp_right fun a => a (by decide)

theorem frame_cmdHostwrite (n : Nat) (hk0 : Frame L F z s) (hL : [.evr, .key] ⊆ L) (hF : .stat ∈ L ∨ [(reg wKEY 0, 1)] ⊆ F) : Frame L F z (State.cmdHostwrite s n) := by
  unfold State.cmdHostwrite
  try dsimp only
  repeat' first
    | intro (_ : State) _ | intro (_ : Slot)
    | (with_reducible first
      | assumption | apply frame_onSlot | apply frame_keyStart)
    | simp only [frame_mk]
    | exact hL (by decide)
    | exact List.Subset.trans (by decide) hL
    | exact hF.imp_right (List.Subset.trans (by decide))
    | exact hF.imp_right fun a => a (by decide)

theorem frame_cmdKum (hk0 : Frame L F z s) (hL : [.evr, .key] ⊆ L) (hF : .stat ∈ L ∨ [(reg wKEY 0, 1)] ⊆ F) : Frame L F z (State.cmdKum s) := by
  unfold State.cmdKum
  try dsimp only
  repeat' first
    | (with_reducible first
      | assumption | apply frame_keyRefuse | apply frame_keyStart | apply frame_ite)
    | simp only [frame_mk]
    | split
    | exact hL (by decide)
    | exact List.Subset.trans (by decide) hL
    | exact hF.imp_right (List.Subset.trans (by decide))
    | exact hF.imp_right fun a => a (by decide)

theorem frame_keyCommand (op : Nat) (mode : Nat) (n : Nat) (hk0 : Frame L F z s) (hL : [.evr, .free, .key] ⊆ L) (hF : .stat ∈ L ∨ [(reg wKEY 0, 1)] ⊆ F) : Frame L F z (State.keyCommand s op mode n) := by
  unfold State.keyCommand
  try dsimp only
  repeat' first
    | (with_reducible first
      | assumption | apply frame_keyRefuse | apply frame_setKey | apply frame_cmdKum | apply frame_cmdNetload
      | apply frame_cmdWrap | apply frame_cmdHash | apply frame_cmdHmac | apply frame_cmdVerify
      | apply frame_cmdSign | apply frame_cmdAttest | apply frame_cmdRandom | apply frame_cmdHostwrite
      | apply frame_ite)
    | simp only [frame_mk]
    | split
    | exact hL (by decide)
    | exact List.Subset.trans (by decide) hL
    | exact hF.imp_right (List.Subset.trans (by decide))
    | exact hF.imp_right fun a => a (by decide)

theorem frame_keyCmdWord (v : Word) (hk0 : Frame L F z s) (hL : [.cfg, .evr, .free, .key] ⊆ L) (hF : .stat ∈ L ∨ [(reg wKEY 0, 1)] ⊆ F) : Frame L F z (State.keyCmdWord s v) := by
  unfold State.keyCmdWord
  repeat' first
    | (with_reducible first
      | assumption | apply frame_keyCommand | apply frame_setCfg)
    | exact hL (by decide)
    | exact List.Subset.trans (by decide) hL
    | exact hF.imp_right (List.Subset.trans (by decide))
    | exact hF.imp_right fun a => a (by decide)

theorem frame_clearTamper (hk0 : Frame L F z s) (hL : [.evr, .key] ⊆ L) (hF : .stat ∈ L ∨ [(reg wKEY 0, 6)] ⊆ F) : Frame L F z (State.clearTamper s) := by
  unfold State.clearTamper
  try dsimp only
  repeat' first
    | (with_reducible first
      | assumption | apply frame_setKey | apply frame_postBit | apply frame_ite)
    | simp only [frame_mk]
    | split
    | exact hL (by decide)
    | exact List.Subset.trans (by decide) hL
    | exact hF.imp_right (List.Subset.trans (by decide))
    | exact hF.imp_right fun a => a (by decide)

theorem frame_commitEnd (hk0 : Frame L F z s) (hL : [.stat, .evr, .key, .sys] ⊆ L) : Frame L F z (State.commitEnd s) := by
  unfold State.commitEnd
  try dsimp only
  repeat' first
    | (with_reducible first
      | assumption | apply frame_setKey | apply frame_post | apply frame_clearTamper | apply fset_sys
      | apply fbuilt | apply frame_ite)
    | simp only [frame_mk]
    | split
    | rfl
    | exact hL (by decide)
    | exact List.Subset.trans (by decide) hL
    | exact .inl (hL (by decide))
    | (intro p h1 h2; cases p; (case evr => exact absurd (hL (by decide)) h1); (case key => exact absurd (hL (by decide)) h1); (case sys => exact absurd (hL (by decide)) h1); (case stat => exact absurd rfl h2); all_goals (first | rfl | exact fun _ => rfl))

theorem frame_wkrRest (hk0 : Frame L F z s) (hL : [.key] ⊆ L) : Frame L F z (State.wkrRest s) := by
  unfold State.wkrRest
  try dsimp only
  repeat' first
    | (with_reducible first
      | assumption | apply frame_setKey | apply frame_ite)
    | simp only [frame_mk]
    | split
    | exact hL (by decide)
    | exact List.Subset.trans (by decide) hL

theorem frame_netTake (n : Nat) (hk0 : Frame L F z s) (hL : [.key, .lne] ⊆ L) : Frame L F z (State.netTake s n) := by
  unfold State.netTake
  try dsimp only
  repeat' first
    | (with_reducible first
      | assumption | apply frame_fcOwn | apply frame_setKey | apply frame_ite)
    | simp only [frame_mk]
    | split
    | exact hL (by decide)
    | exact List.Subset.trans (by decide) hL

theorem frame_keyFinish (hk0 : Frame L F z s) (hL : [.cfg, .evr, .key, .lne] ⊆ L) (hF : .stat ∈ L ∨ [(reg wKEY 0, 0)] ⊆ F) : Frame L F z (State.keyFinish s) := by
  unfold State.keyFinish
  try dsimp only
  repeat' first
    | (with_reducible first
      | assumption | apply frame_netTake | apply frame_wkrRest | apply frame_putKeyBuf | apply frame_postBit
      | apply frame_setKey | apply frame_ite)
    | simp only [frame_mk]
    | split
    | exact hL (by decide)
    | exact List.Subset.trans (by decide) hL
    | exact hF.imp_right (List.Subset.trans (by decide))
    | exact hF.imp_right fun a => a (by decide)

theorem frame_zeroRsram (hk0 : Frame L F z s) (hL : [.rtc] ⊆ L) : Frame L F z (State.zeroRsram s) := by
  unfold State.zeroRsram
  try dsimp only
  repeat' first
    | (with_reducible first
      | assumption | apply fset_rtc | apply frame_ite)
    | simp only [frame_mk]
    | split
    | exact hL (by decide)
    | exact List.Subset.trans (by decide) hL

theorem frame_tamperStore (action : Nat) (hk0 : Frame L F z s) (hL : [.evr, .key] ⊆ L) (hF : .stat ∈ L ∨ [(reg wKEY 0, 2)] ⊆ F) : Frame L F z (State.tamperStore s action) := by
  unfold State.tamperStore
  try dsimp only
  repeat' first
    | (with_reducible first
      | assumption | apply frame_setKey | apply frame_postBit | apply frame_ite)
    | simp only [frame_mk]
    | split
    | exact hL (by decide)
    | exact List.Subset.trans (by decide) hL
    | exact hF.imp_right (List.Subset.trans (by decide))
    | exact hF.imp_right fun a => a (by decide)

theorem frame_keyAbort (hk0 : Frame L F z s) (hL : [.cfg, .key] ⊆ L) : Frame L F z (State.keyAbort s) := by
  unfold State.keyAbort
  try dsimp only
  repeat' first
    | (with_reducible first
      | assumption | apply frame_setKey | apply frame_putKeyBuf | apply frame_ite)
    | simp only [frame_mk]
    | split
    | exact hL (by decide)
    | exact List.Subset.trans (by decide) hL

theorem frame_tamperActive (n : Nat) (hk0 : Frame L F z s) (hL : [.cfg, .evr, .key, .rtc] ⊆ L) (hF : .stat ∈ L ∨ [(reg wKEY 0, 2), (reg wKEY 0, 5)] ⊆ F) : Frame L F z (State.tamperActive s n) := by
  unfold State.tamperActive
  try dsimp only
  repeat' first
    | (with_reducible first
      | assumption | apply frame_setKey | apply frame_zeroRsram | apply frame_postEvent
      | apply frame_tamperStore | apply frame_keyAbort | apply frame_ite)
    | simp only [frame_mk]
    | split
    | exact hL (by decide)
    | exact List.Subset.trans (by decide) hL
    | exact hF.imp_right (List.Subset.trans (by decide))
    | exact hF.imp_right fun a => a (by decide)

theorem frame_tpolicyWrite (master : Nat) (addr : Nat) (v : Word) (hk0 : Frame L F z s) (hL : [.evr, .key] ⊆ L) (hF : .stat ∈ L ∨ [(reg wKEY 0, 7)] ⊆ F) : Frame L F z (State.tpolicyWrite s master addr v) := by
  unfold State.tpolicyWrite
  try dsimp only
  repeat' first
    | (with_reducible first
      | assumption | apply frame_postEvent | apply frame_setKey | apply frame_ite)
    | simp only [frame_mk]
    | split
    | exact hL (by decide)
    | exact List.Subset.trans (by decide) hL
    | exact hF.imp_right (List.Subset.trans (by decide))
    | exact hF.imp_right fun a => a (by decide)

theorem frame_eraseDone (hk0 : Frame L F z s) (hL : [.evr, .key] ⊆ L) (hF : .stat ∈ L ∨ [(reg wKEY 0, 4)] ⊆ F) : Frame L F z (State.eraseDone s) := by
  unfold State.eraseDone
  try dsimp only
  repeat' first
    | (with_reducible first
      | assumption | apply frame_postBit | apply frame_setKey | apply frame_ite)
    | simp only [frame_mk]
    | split
    | exact hL (by decide)
    | exact List.Subset.trans (by decide) hL
    | exact hF.imp_right (List.Subset.trans (by decide))
    | exact hF.imp_right fun a => a (by decide)

theorem frame_keyPair (dt : Nat) (master : Nat) (op : Nat) (mode : Nat) (slot : Nat) (hk0 : Frame L F z s) (hL : [.stat, .busErr, .cfg, .cyc, .evr, .free, .key, .pairs, .reply] ⊆ L) : Frame L F z (State.keyPair s dt master op mode slot) := by
  unfold State.keyPair
  try dsimp only
  repeat' first
    | intro (_ : State) _ | intro (_ : Slot)
    | (with_reducible first
      | assumption | apply frame_pairWrite | apply frame_elapse | apply frame_keyCmdWord | apply frame_ite)
    | split
    | exact hL (by decide)
    | exact List.Subset.trans (by decide) hL
    | exact .inl (hL (by decide))

theorem frame_setUpd (f : UpdUnit → UpdUnit) (hk0 : Frame L F z s) (hL : [.upd] ⊆ L) : Frame L F z (State.setUpd s f) :=
  fset_upd hk0 (hL (by decide))

theorem frame_updMirror (hk0 : Frame L F z s) (hL : [.rtc] ⊆ L) : Frame L F z (State.updMirror s) :=
  fset_rtc hk0 (hL (by decide))

theorem frame_closeSession (hk0 : Frame L F z s) (hL : [.str] ⊆ L) : Frame L F z (State.closeSession s) := by
  unfold State.closeSession
  repeat' first
    | (with_reducible first
      | assumption | apply frame_setHandle | apply frame_ite)
    | split
    | exact hL (by decide)
    | exact List.Subset.trans (by decide) hL

theorem frame_discard (hk0 : Frame L F z s) (hL : [.upd] ⊆ L) : Frame L F z (State.discard s) := by
  unfold State.discard
  try dsimp only
  repeat' first
    | (with_reducible first
      | assumption | apply frame_setUpd | apply frame_ite)
    | simp only [frame_mk]
    | split
    | exact hL (by decide)
    | exact List.Subset.trans (by decide) hL

theorem frame_updPost (code : Nat) (hk0 : Frame L F z s) (hL : [.stat, .evr, .upd] ⊆ L) : Frame L F z (State.updPost s code) := by
  unfold State.updPost
  try dsimp only
  repeat' first
    | (with_reducible first
      | assumption | apply frame_postBit | apply frame_setUpd | apply fbuilt | apply frame_ite)
    | simp only [frame_mk]
    | split
    | rfl
    | exact hL (by decide)
    | exact List.Subset.trans (by decide) hL
    | exact .inl (hL (by decide))
    | (intro p h1 h2; cases p; (case evr => exact absurd (hL (by decide)) h1); (case upd => exact absurd (hL (by decide)) h1); (case stat => exact absurd rfl h2); all_goals (first | rfl | exact fun _ => rfl))

theorem frame_manifestTake (m : List Byte) (slot : Nat) (hk0 : Frame L F z s) (hL : [.rtc, .upd] ⊆ L) : Frame L F z (State.manifestTake s m slot) := by
  unfold State.manifestTake
  try dsimp only
  repeat' first
    | (with_reducible first
      | assumption | apply frame_updMirror | apply frame_setUpd | apply frame_discard | apply frame_ite)
    | simp only [frame_mk]
    | split
    | exact hL (by decide)
    | exact List.Subset.trans (by decide) hL

theorem frame_manifestCmd (m : List Byte) (hk0 : Frame L F z s) (hL : [.rtc, .upd] ⊆ L) : Frame L F z (State.manifestCmd s m).1 := by
  unfold State.manifestCmd
  try dsimp only
  repeat' first
    | (with_reducible first
      | assumption | apply frame_manifestTake | apply frame_ite)
    | simp only [frame_mk]
    | split
    | exact hL (by decide)
    | exact List.Subset.trans (by decide) hL

theorem frame_activate (hk0 : Frame L F z s) (hL : [.rtc, .sys, .upd] ⊆ L) : Frame L F z (State.activate s) := by
  unfold State.activate
  try dsimp only
  repeat' first
    | (with_reducible first
      | assumption | apply frame_raiseReset | apply frame_updMirror | apply frame_setUpd | apply frame_ite)
    | simp only [frame_mk]
    | split
    | exact hL (by decide)
    | exact List.Subset.trans (by decide) hL

theorem frame_confirm (hk0 : Frame L F z s) (hL : [.evr, .key, .rtc, .upd] ⊆ L) (hF : .stat ∈ L ∨ [(reg wUPD 0, 5)] ⊆ F) : Frame L F z (State.confirm s) := by
  unfold State.confirm
  try dsimp only
  repeat' first
    | (with_reducible first
      | assumption | apply frame_setUpd | apply frame_setKey | apply frame_postBit | apply frame_updMirror
      | apply frame_discard | apply frame_ite)
    | simp only [frame_mk]
    | split
    | exact hL (by decide)
    | exact List.Subset.trans (by decide) hL
    | exact hF.imp_right (List.Subset.trans (by decide))
    | exact hF.imp_right fun a => a (by decide)

theorem frame_revertSet (hk0 : Frame L F z s) (hL : [.evr, .rtc, .upd] ⊆ L) (hF : .stat ∈ L ∨ [(reg wUPD 0, 6)] ⊆ F) : Frame L F z (State.revertSet s) := by
  unfold State.revertSet
  try dsimp only
  repeat' first
    | (with_reducible first
      | assumption | apply frame_updMirror | apply frame_setUpd | apply frame_postEvent | apply frame_ite)
    | simp only [frame_mk]
    | split
    | exact hL (by decide)
    | exact List.Subset.trans (by decide) hL
    | exact hF.imp_right (List.Subset.trans (by decide))
    | exact hF.imp_right fun a => a (by decide)

theorem frame_updAbort (hk0 : Frame L F z s) (hL : [.rtc, .str, .upd] ⊆ L) : Frame L F z (State.updAbort s) := by
  unfold State.updAbort
  repeat' first
    | (with_reducible first
      | assumption | apply frame_updMirror | apply frame_discard | apply frame_closeSession)
    | exact hL (by decide)
    | exact List.Subset.trans (by decide) hL

theorem frame_netSession {k : State} (hk0 : Frame L F z s) (hk1 : Frame L F z k) (hL : [.stat, .evr, .upd] ⊆ L) : Frame L F z (State.netSession s k) := by
  unfold State.netSession
  repeat' first
    | (with_reducible first
      | assumption | apply frame_updPost | apply frame_ite)
    | split
    | exact hL (by decide)
    | exact List.Subset.trans (by decide) hL
    | exact .inl (hL (by decide))

theorem frame_cmdManifest (hk0 : Frame L F z s) (hL : [.stat, .evr, .rtc, .upd] ⊆ L) : Frame L F z (State.cmdManifest s) := by
  unfold State.cmdManifest
  try dsimp only
  repeat' first
    | (with_reducible first
      | assumption | apply frame_netSession | apply frame_manifestCmd | apply frame_updPost | apply frame_ite)
    | split
    | exact hL (by decide)
    | exact List.Subset.trans (by decide) hL
    | exact .inl (hL (by decide))

theorem frame_cmdChunk (hk0 : Frame L F z s) (hL : [.stat, .evr, .upd] ⊆ L) : Frame L F z (State.cmdChunk s) := by
  unfold State.cmdChunk
  try dsimp only
  repeat' first
    | (with_reducible first
      | assumption | apply frame_netSession | apply frame_updPost | apply frame_setUpd | apply frame_ite)
    | simp only [frame_mk]
    | split
    | exact hL (by decide)
    | exact List.Subset.trans (by decide) hL
    | exact .inl (hL (by decide))

theorem frame_cmdActivate (hk0 : Frame L F z s) (hL : [.stat, .evr, .rtc, .sys, .upd] ⊆ L) : Frame L F z (State.cmdActivate s) := by
  unfold State.cmdActivate
  repeat' first
    | (with_reducible first
      | assumption | apply frame_updPost | apply frame_activate | apply frame_ite)
    | split
    | exact hL (by decide)
    | exact List.Subset.trans (by decide) hL
    | exact .inl (hL (by decide))

theorem frame_cmdConfirm (hk0 : Frame L F z s) (hL : [.stat, .evr, .key, .rtc, .upd] ⊆ L) : Frame L F z (State.cmdConfirm s) := by
  unfold State.cmdConfirm
  repeat' first
    | (with_reducible first
      | assumption | apply frame_updPost | apply frame_confirm | apply frame_ite)
    | split
    | exact hL (by decide)
    | exact List.Subset.trans (by decide) hL
    | exact .inl (hL (by decide))

theorem frame_cmdRevert (hk0 : Frame L F z s) (hL : [.stat, .evr, .rtc, .sys, .upd] ⊆ L) : Frame L F z (State.cmdRevert s) := by
  unfold State.cmdRevert
  repeat' first
    | (with_reducible first
      | assumption | apply frame_raiseReset | apply frame_updPost | apply frame_revertSet | apply frame_ite)
    | split
    | exact hL (by decide)
    | exact List.Subset.trans (by decide) hL
    | exact .inl (hL (by decide))

theorem frame_updCommand (op : Nat) (hk0 : Frame L F z s) (hL : [.stat, .evr, .key, .rtc, .str, .sys, .upd] ⊆ L) : Frame L F z (State.updCommand s op) := by
  unfold State.updCommand
  try dsimp only
  repeat' first
    | (with_reducible first
      | assumption | apply frame_updPost | apply frame_cmdManifest | apply frame_cmdChunk
      | apply frame_cmdActivate | apply frame_cmdConfirm | apply frame_updAbort | apply frame_cmdRevert
      | apply frame_ite)
    | simp only [frame_mk]
    | split
    | exact hL (by decide)
    | exact List.Subset.trans (by decide) hL
    | exact .inl (hL (by decide))

theorem frame_updCmdWord (v : Word) (hk0 : Frame L F z s) (hL : [.stat, .cfg, .evr, .key, .rtc, .str, .sys, .upd] ⊆ L) : Frame L F z (State.updCmdWord s v) := by
  unfold State.updCmdWord
  repeat' first
    | (with_reducible first
      | assumption | apply frame_updCommand | apply frame_setCfg)
    | exact hL (by decide)
    | exact List.Subset.trans (by decide) hL
    | exact .inl (hL (by decide))

theorem frame_updPair (dt : Nat) (master : Nat) (op : Nat) (hk0 : Frame L F z s) (hL : [.stat, .busErr, .cfg, .cyc, .evr, .key, .pairs, .reply, .rtc, .str, .sys, .upd] ⊆ L) : Frame L F z (State.updPair s dt master op) := by
  unfold State.updPair
  try dsimp only
  repeat' first
    | intro (_ : State) _ | intro (_ : Slot)
    | (with_reducible first
      | assumption | apply frame_pairWrite | apply frame_elapse | apply frame_updCmdWord | apply frame_ite)
    | split
    | exact hL (by decide)
    | exact List.Subset.trans (by decide) hL
    | exact .inl (hL (by decide))

theorem frame_svcAnswer (tag : Nat) (code : Nat) (hk0 : Frame L F z s) (hL : [.evr, .usb] ⊆ L) (hF : .stat ∈ L ∨ [(reg wUPD 0, 1), (reg wUSB 0, 2)] ⊆ F) : Frame L F z (State.svcAnswer s tag code) := by
  unfold State.svcAnswer
  try dsimp only
  repeat' first
    | (with_reducible first
      | assumption | apply frame_postBit | apply fset_usb | apply frame_ite)
    | simp only [frame_mk]
    | split
    | exact hL (by decide)
    | exact List.Subset.trans (by decide) hL
    | exact hF.imp_right (List.Subset.trans (by decide))
    | exact hF.imp_right fun a => a (by decide)

theorem frame_svcMessage (dt : Nat) (tag : Nat) {k : State → State} (hk0 : Frame L F z s) (hk1 : ∀ t, Frame L F z t → Frame L F z (k t)) (hL : [.cyc, .evr, .usb] ⊆ L) (hF : .stat ∈ L ∨ [(reg wUPD 0, 1), (reg wUSB 0, 2)] ⊆ F) : Frame L F z (State.svcMessage s dt tag k) := by
  unfold State.svcMessage
  try dsimp only
  repeat' first
    | intro (_ : State) _ | intro (_ : Slot)
    | (with_reducible first
      | assumption | apply hk1 | apply frame_occur | apply frame_svcAnswer | apply frame_ite)
    | split
    | exact hL (by decide)
    | exact List.Subset.trans (by decide) hL
    | exact hF.imp_right (List.Subset.trans (by decide))
    | exact hF.imp_right fun a => a (by decide)

theorem frame_preempt (hk0 : Frame L F z s) (hL : [.stat, .evr, .rtc, .str, .upd] ⊆ L) : Frame L F z (State.preempt s) := by
  unfold State.preempt
  try dsimp only
  repeat' first
    | (with_reducible first
      | assumption | apply frame_updPost | apply frame_postEvent | apply frame_updMirror | apply frame_discard
      | apply frame_closeSession | apply frame_ite)
    | split
    | exact hL (by decide)
    | exact List.Subset.trans (by decide) hL
    | exact .inl (hL (by decide))

theorem frame_svcBegin (tag : Nat) (m : List Byte) (hk0 : Frame L F z s) (hL : [.evr, .rtc, .str, .upd, .usb] ⊆ L) (hF : .stat ∈ L ∨ [(reg wUPD 0, 1), (reg wUSB 0, 2)] ⊆ F) : Frame L F z (State.svcBegin s tag m) := by
  unfold State.svcBegin
  try dsimp only
  repeat' first
    | (with_reducible first
      | assumption | apply frame_setUpd | apply frame_setHandle | apply frame_manifestCmd
      | apply frame_updMirror | apply frame_svcAnswer | apply frame_ite)
    | simp only [frame_mk]
    | split
    | exact hL (by decide)
    | exact List.Subset.trans (by decide) hL
    | exact hF.imp_right (List.Subset.trans (by decide))
    | exact hF.imp_right fun a => a (by decide)

theorem frame_svcOpenMsg (tag : Nat) (m : List Byte) (hk0 : Frame L F z s) (hL : [.stat, .evr, .rtc, .str, .upd, .usb] ⊆ L) : Frame L F z (State.svcOpenMsg s tag m) := by
  unfold State.svcOpenMsg
  repeat' first
    | (with_reducible first
      | assumption | apply frame_svcAnswer | apply frame_svcBegin | apply frame_preempt | apply frame_ite)
    | split
    | exact hL (by decide)
    | exact List.Subset.trans (by decide) hL
    | exact .inl (hL (by decide))

theorem frame_svcChunkMsg (tag : Nat) (off : Nat) (d : List Byte) (hk0 : Frame L F z s) (hL : [.evr, .upd, .usb] ⊆ L) (hF : .stat ∈ L ∨ [(reg wUPD 0, 1), (reg wUSB 0, 2)] ⊆ F) : Frame L F z (State.svcChunkMsg s tag off d) := by
  unfold State.svcChunkMsg
  try dsimp only
  repeat' first
    | (with_reducible first
      | assumption | apply frame_svcAnswer | apply frame_setUpd | apply frame_ite)
    | simp only [frame_mk]
    | split
    | exact hL (by decide)
    | exact List.Subset.trans (by decide) hL
    | exact hF.imp_right (List.Subset.trans (by decide))
    | exact hF.imp_right fun a => a (by decide)

theorem frame_svcCloseMsg (tag : Nat) (hk0 : Frame L F z s) (hL : [.evr, .rtc, .str, .usb] ⊆ L) (hF : .stat ∈ L ∨ [(reg wUPD 0, 1), (reg wUSB 0, 2)] ⊆ F) : Frame L F z (State.svcCloseMsg s tag) := by
  unfold State.svcCloseMsg
  repeat' first
    | (with_reducible first
      | assumption | apply frame_svcAnswer | apply frame_updMirror | apply frame_closeSession | apply frame_ite)
    | split
    | exact hL (by decide)
    | exact List.Subset.trans (by decide) hL
    | exact hF.imp_right (List.Subset.trans (by decide))
    | exact hF.imp_right fun a => a (by decide)

theorem frame_svcActivateMsg (tag : Nat) (hk0 : Frame L F z s) (hL : [.evr, .rtc, .sys, .upd, .usb] ⊆ L) (hF : .stat ∈ L ∨ [(reg wUPD 0, 1), (reg wUSB 0, 2)] ⊆ F) : Frame L F z (State.svcActivateMsg s tag) := by
  unfold State.svcActivateMsg
  try dsimp only
  repeat' first
    | (with_reducible first
      | assumption | apply frame_svcAnswer | apply frame_activate | apply fset_rtc | apply frame_ite)
    | simp only [frame_mk]
    | split
    | exact hL (by decide)
    | exact List.Subset.trans (by decide) hL
    | exact hF.imp_right (List.Subset.trans (by decide))
    | exact hF.imp_right fun a => a (by decide)

theorem frame_svcConfirmMsg (tag : Nat) (hk0 : Frame L F z s) (hL : [.evr, .key, .rtc, .upd, .usb] ⊆ L) (hF : .stat ∈ L ∨ [(reg wUPD 0, 1), (reg wUPD 0, 5), (reg wUSB 0, 2)] ⊆ F) : Frame L F z (State.svcConfirmMsg s tag) := by
  unfold State.svcConfirmMsg
  repeat' first
    | (with_reducible first
      | assumption | apply frame_svcAnswer | apply frame_confirm | apply frame_ite)
    | split
    | exact hL (by decide)
    | exact List.Subset.trans (by decide) hL
    | exact hF.imp_right (List.Subset.trans (by decide))
    | exact hF.imp_right fun a => a (by decide)

theorem frame_svcAbortMsg (tag : Nat) (hk0 : Frame L F z s) (hL : [.stat, .evr, .rtc, .str, .upd, .usb] ⊆ L) : Frame L F z (State.svcAbortMsg s tag) := by
  unfold State.svcAbortMsg
  try dsimp only
  repeat' first
    | (with_reducible first
      | assumption | apply frame_updPost | apply frame_svcAnswer | apply frame_updAbort | apply frame_ite)
    | simp only [frame_mk]
    | split
    | exact hL (by decide)
    | exact List.Subset.trans (by decide) hL
    | exact .inl (hL (by decide))

theorem frame_svcKeyMsg (tag : Nat) (m : List Byte) (hk0 : Frame L F z s) (hL : [.evr, .key, .usb] ⊆ L) (hF : .stat ∈ L ∨ [(reg wKEY 0, 1), (reg wUPD 0, 1), (reg wUSB 0, 2)] ⊆ F) : Frame L F z (State.svcKeyMsg s tag m) := by
  unfold State.svcKeyMsg
  try dsimp only
  repeat' first
    | (with_reducible first
      | assumption | apply frame_svcAnswer | apply frame_keyRefuse | apply frame_setKey | apply frame_keyStart
      | apply frame_ite)
    | simp only [frame_mk]
    | split
    | exact hL (by decide)
    | exact List.Subset.trans (by decide) hL
    | exact hF.imp_right (List.Subset.trans (by decide))
    | exact hF.imp_right fun a => a (by decide)

theorem frame_svcConsoleMsg (tag : Nat) (d : List Byte) (hk0 : Frame L F z s) (hL : [.evr, .usb] ⊆ L) (hF : .stat ∈ L ∨ [(reg wUPD 0, 1), (reg wUSB 0, 2)] ⊆ F) : Frame L F z (State.svcConsoleMsg s tag d) := by
  unfold State.svcConsoleMsg
  try dsimp only
  repeat' first
    | (with_reducible first
      | assumption | apply frame_svcAnswer | apply fset_usb | apply frame_ite)
    | simp only [frame_mk]
    | split
    | exact hL (by decide)
    | exact List.Subset.trans (by decide) hL
    | exact hF.imp_right (List.Subset.trans (by decide))
    | exact hF.imp_right fun a => a (by decide)

theorem frame_consoleSend (d : List Byte) (hk0 : Frame L F z s) (hL : [.free, .usb] ⊆ L) : Frame L F z (State.consoleSend s d) := by
  unfold State.consoleSend
  try dsimp only
  repeat' first
    | (with_reducible first
      | assumption | apply frame_fresh | apply fset_usb | apply frame_ite)
    | simp only [frame_mk]
    | split
    | exact hL (by decide)
    | exact List.Subset.trans (by decide) hL

theorem frame_svcPresence (asserted : Bool) (hk0 : Frame L F z s) (hL : [.evr, .rtc, .upd] ⊆ L) (hF : .stat ∈ L ∨ [(reg wUSB 0, 1)] ⊆ F) : Frame L F z (State.svcPresence s asserted) := by
  unfold State.svcPresence
  try dsimp only
  repeat' first
    | (with_reducible first
      | assumption | apply frame_postBit | apply frame_updMirror | apply frame_setUpd | apply frame_ite)
    | simp only [frame_mk]
    | split
    | exact hL (by decide)
    | exact List.Subset.trans (by decide) hL
    | exact hF.imp_right (List.Subset.trans (by decide))
    | exact hF.imp_right fun a => a (by decide)

theorem frame_vbusState (present : Bool) (configured : Bool) (highSpeed : Bool) (hk0 : Frame L F z s) (hL : [.evr, .rtc, .str, .usb] ⊆ L) (hF : .stat ∈ L ∨ [(reg wUSB 0, 0)] ⊆ F) : Frame L F z (State.vbusState s present configured highSpeed) := by
  unfold State.vbusState
  try dsimp only
  repeat' first
    | (with_reducible first
      | assumption | apply frame_postBit | apply frame_updMirror | apply frame_closeSession | apply fset_usb
      | apply frame_ite)
    | simp only [frame_mk]
    | split
    | exact hL (by decide)
    | exact List.Subset.trans (by decide) hL
    | exact hF.imp_right (List.Subset.trans (by decide))
    | exact hF.imp_right fun a => a (by decide)

theorem frame_beginVerify (hk0 : Frame L F z s) (hL : [.rtc, .upd] ⊆ L) : Frame L F z (State.beginVerify s) := by
  unfold State.beginVerify
  try dsimp only
  repeat' first
    | (with_reducible first
      | assumption | apply frame_updMirror | apply frame_setUpd | apply frame_ite)
    | simp only [frame_mk]
    | split
    | exact hL (by decide)
    | exact List.Subset.trans (by decide) hL

theorem frame_chunkAnswer (tag : Option Nat) (code : Nat) (hk0 : Frame L F z s) (hL : [.stat, .evr, .upd, .usb] ⊆ L) : Frame L F z (State.chunkAnswer s tag code) := by
  unfold State.chunkAnswer
  try dsimp only
  repeat' first
    | (with_reducible first
      | assumption | apply frame_updPost | apply frame_svcAnswer | apply frame_ite)
    | simp only [frame_mk]
    | split
    | exact hL (by decide)
    | exact List.Subset.trans (by decide) hL
    | exact .inl (hL (by decide))

theorem frame_chunkEnd (ok : Bool) (hk0 : Frame L F z s) (hL : [.stat, .evr, .rtc, .upd, .usb] ⊆ L) : Frame L F z (State.chunkEnd s ok) := by
  unfold State.chunkEnd
  try dsimp only
  repeat' first
    | (with_reducible first
      | assumption | apply frame_setUpd | apply frame_chunkAnswer | apply frame_beginVerify | apply frame_ite)
    | simp only [frame_mk]
    | split
    | exact hL (by decide)
    | exact List.Subset.trans (by decide) hL
    | exact .inl (hL (by decide))

theorem frame_verifyEnd (ioOk : Bool) (hk0 : Frame L F z s) (hL : [.evr, .rtc, .upd] ⊆ L) (hF : .stat ∈ L ∨ [(reg wUPD 0, 3), (reg wUPD 0, 4)] ⊆ F) : Frame L F z (State.verifyEnd s ioOk) := by
  unfold State.verifyEnd
  try dsimp only
  repeat' first
    | (with_reducible first
      | assumption | apply frame_postEvent | apply frame_updMirror | apply frame_setUpd | apply frame_discard
      | apply frame_postBit | apply frame_ite)
    | simp only [frame_mk]
    | split
    | exact hL (by decide)
    | exact List.Subset.trans (by decide) hL
    | exact hF.imp_right (List.Subset.trans (by decide))
    | exact hF.imp_right fun a => a (by decide)

theorem frame_copyOne (host : Bool) (ok : Bool) (hk0 : Frame L F z s) (hL : [.upd] ⊆ L) : Frame L F z (State.copyOne s host ok) := by
  unfold State.copyOne
  try dsimp only
  repeat' first
    | (with_reducible first
      | assumption | apply frame_setUpd | apply frame_ite)
    | simp only [frame_mk]
    | split
    | exact hL (by decide)
    | exact List.Subset.trans (by decide) hL

theorem frame_copyEnd (ok : Bool) (hk0 : Frame L F z s) (hL : [.evr, .rtc, .upd] ⊆ L) (hF : .stat ∈ L ∨ [(reg wUPD 0, 7)] ⊆ F) : Frame L F z (State.copyEnd s ok) := by
  unfold State.copyEnd
  try dsimp only
  repeat' first
    | (with_reducible first
      | assumption | apply frame_updMirror | apply frame_setUpd | apply frame_postEvent | apply frame_ite)
    | simp only [frame_mk]
    | split
    | exact hL (by decide)
    | exact List.Subset.trans (by decide) hL
    | exact hF.imp_right (List.Subset.trans (by decide))
    | exact hF.imp_right fun a => a (by decide)

theorem frame_stopAck (typ : Nat) (idx : Nat) (hk0 : Frame L F z s) (hL : [.stat, .evr, .mem, .mst] ⊆ L) : Frame L F z (State.stopAck s typ idx) := by
  unfold State.stopAck
  try dsimp only
  repeat' first
    | (with_reducible first
      | assumption | apply frame_enterState | apply frame_groupAck | apply frame_ite)
    | simp only [frame_mk]
    | split
    | exact hL (by decide)
    | exact List.Subset.trans (by decide) hL
    | exact .inl (hL (by decide))

theorem frame_stopHandle (typ : Nat) (idx : Nat) (hk0 : Frame L F z s) (hL : [.stat, .evr, .ltb, .mem, .mst, .qdm, .scn, .str, .tbs] ⊆ L) : Frame L F z (State.stopHandle s typ idx) := by
  unfold State.stopHandle
  try dsimp only
  repeat' first
    | (with_reducible first
      | assumption | apply frame_setHandle | apply frame_stopAck | apply frame_withdrawUnicast
      | apply frame_withdrawScene | apply frame_setHead | apply frame_setSink | apply frame_queueStop
      | apply frame_msStop | apply frame_ite)
    | simp only [frame_mk]
    | split
    | exact hL (by decide)
    | exact List.Subset.trans (by decide) hL
    | exact .inl (hL (by decide))

theorem frame_startEffect (typ : Nat) (idx : Nat) (hk0 : Frame L F z s) (hL : [.stat, .evr, .mst, .qdm, .scn, .tbs] ⊆ L) : Frame L F z (State.startEffect s typ idx) := by
  unfold State.startEffect
  try dsimp only
  repeat' first
    | (with_reducible first
      | assumption | apply frame_setHead | apply frame_groupStarted | apply frame_unpark | apply frame_msArm
      | apply frame_recSrcStart | apply fset_scn | apply frame_ite)
    | simp only [frame_mk]
    | split
    | exact hL (by decide)
    | exact List.Subset.trans (by decide) hL
    | exact .inl (hL (by decide))

theorem frame_startHandle (c : Nat) (typ : Nat) (idx : Nat) (hk0 : Frame L F z s) (hL : [.stat, .act, .changed, .evr, .mst, .mtr, .qdm, .scn, .str, .sys, .tbs] ⊆ L) : Frame L F z (State.startHandle s c typ idx) := by
  unfold State.startHandle
  try dsimp only
  repeat' first
    | (with_reducible first
      | assumption | apply frame_setHandle | apply frame_takeUpChan | apply frame_copyAll
      | apply frame_startEffect | apply frame_ite)
    | simp only [frame_mk]
    | split
    | exact hL (by decide)
    | exact List.Subset.trans (by decide) hL
    | exact .inl (hL (by decide))

theorem frame_strFinish (c : Nat) (hk0 : Frame L F z s) (hL : [.stat, .act, .changed, .evr, .ltb, .mem, .mst, .mtr, .qdm, .scn, .str, .sys, .tbs] ⊆ L) : Frame L F z (State.strFinish s c) := by
  unfold State.strFinish
  try dsimp only
  repeat' first
    | (with_reducible first
      | assumption | apply frame_strDone | apply frame_startHandle | apply frame_stopHandle | apply frame_ite)
    | simp only [frame_mk]
    | split
    | exact hL (by decide)
    | exact List.Subset.trans (by decide) hL
    | exact .inl (hL (by decide))

theorem frame_strBoundary (c : Nat) (here : Nat → Nat → Bool) (hk0 : Frame L F z s) (hL : [.stat, .act, .changed, .evr, .ltb, .mem, .mst, .mtr, .qdm, .scn, .str, .sys, .tbs] ⊆ L) : Frame L F z (State.strBoundary s c here) := by
  unfold State.strBoundary
  try dsimp only
  repeat' first
    | (with_reducible first
      | assumption | apply frame_strFinish | apply frame_ite)
    | simp only [frame_mk]
    | split
    | exact hL (by decide)
    | exact List.Subset.trans (by decide) hL
    | exact .inl (hL (by decide))

theorem frame_setService (typ : Nat) (idx : Nat) (on : Bool) (hk0 : Frame L F z s) (hL : [.acc] ⊆ L) : Frame L F z (State.setService s typ idx on) := by
  unfold State.setService
  repeat' first
    | (with_reducible first
      | assumption | apply frame_chService | apply frame_fdService | apply frame_ite)
    | split
    | exact hL (by decide)
    | exact List.Subset.trans (by decide) hL

theorem frame_createHandle (typ : Nat) (idx : Nat) (a : Nat) (hk0 : Frame L F z s) (hL : [.acc, .rtc, .str, .upd] ⊆ L) : Frame L F z (State.createHandle s typ idx a) := by
  unfold State.createHandle
  try dsimp only
  repeat' first
    | (with_reducible first
      | assumption | apply frame_setService | apply frame_setHandle | apply frame_updMirror | apply frame_setUpd
      | apply frame_ite)
    | simp only [frame_mk]
    | split
    | exact hL (by decide)
    | exact List.Subset.trans (by decide) hL

theorem frame_destroyHandle (typ : Nat) (idx : Nat) (hk0 : Frame L F z s) (hL : [.acc, .rtc, .str] ⊆ L) : Frame L F z (State.destroyHandle s typ idx) := by
  unfold State.destroyHandle
  try dsimp only
  repeat' first
    | (with_reducible first
      | assumption | apply frame_setService | apply frame_setHandle | apply frame_updMirror | apply frame_ite)
    | split
    | exact hL (by decide)
    | exact List.Subset.trans (by decide) hL

theorem frame_strWriteBack (typ : Nat) (idx : Nat) (hk0 : Frame L F z s) (hL : [.cfg] ⊆ L) : Frame L F z (State.strWriteBack s typ idx) := by
  unfold State.strWriteBack
  repeat' first
    | (with_reducible first
      | assumption | apply frame_setCfg)
    | exact hL (by decide)
    | exact List.Subset.trans (by decide) hL

theorem frame_strMove (start : Bool) (typ : Nat) (idx : Nat) (hk0 : Frame L F z s) (hL : [.stat, .act, .changed, .evr, .ltb, .mem, .mst, .mtr, .qdm, .scn, .str, .sys, .tbs] ⊆ L) : Frame L F z (State.strMove s start typ idx) := by
  unfold State.strMove
  try dsimp only
  repeat' first
    | (with_reducible first
      | assumption | apply frame_calAbort | apply frame_strDone | apply frame_strFinish | apply fset_str
      | apply frame_ite)
    | simp only [frame_mk]
    | split
    | exact hL (by decide)
    | exact List.Subset.trans (by decide) hL
    | exact .inl (hL (by decide))

theorem frame_strRun (op : Nat) (typ : Nat) (idx : Nat) (a : Nat) (hk0 : Frame L F z s) (hL : [.stat, .acc, .act, .cfg, .changed, .evr, .ltb, .mem, .mst, .mtr, .qdm, .rtc, .scn, .str, .sys, .tbs, .upd] ⊆ L) : Frame L F z (State.strRun s op typ idx a) := by
  unfold State.strRun
  try dsimp only
  repeat' first
    | (with_reducible first
      | assumption | apply frame_strDone | apply frame_strWriteBack | apply frame_createHandle
      | apply frame_destroyHandle | apply frame_strMove | apply frame_ite)
    | simp only [frame_mk]
    | split
    | exact hL (by decide)
    | exact List.Subset.trans (by decide) hL
    | exact .inl (hL (by decide))

theorem frame_strCommand (op : Nat) (hk0 : Frame L F z s) (hL : [.stat, .acc, .act, .cfg, .changed, .evr, .ltb, .mem, .mst, .mtr, .qdm, .rtc, .scn, .str, .sys, .tbs, .upd] ⊆ L) : Frame L F z (State.strCommand s op) := by
  unfold State.strCommand
  try dsimp only
  repeat' first
    | (with_reducible first
      | assumption | apply frame_postBit | apply frame_strDone | apply frame_strRun | apply frame_ite)
    | simp only [frame_mk]
    | split
    | exact hL (by decide)
    | exact List.Subset.trans (by decide) hL
    | exact .inl (hL (by decide))

theorem frame_strWrite (dt : Nat) (master : Nat) (op : Nat) (hk0 : Frame L F z s) (hL : [.stat, .acc, .act, .busErr, .cfg, .changed, .cyc, .evr, .ltb, .mem, .mst, .mtr, .pairs, .qdm, .reply, .rtc, .scn, .str, .sys, .tbs, .upd] ⊆ L) : Frame L F z (State.strWrite s dt master op) := by
  unfold State.strWrite
  try dsimp only
  repeat' first
    | intro (_ : State) _ | intro (_ : Slot)
    | (with_reducible first
      | assumption | apply frame_access | apply frame_elapse | apply frame_strCommand | apply frame_ite)
    | split
    | exact hL (by decide)
    | exact List.Subset.trans (by decide) hL
    | exact .inl (hL (by decide))

theorem frame_strRow (dt : Nat) (start : Bool) (hk0 : Frame L F z s) (hL : [.stat, .act, .changed, .cyc, .evr, .ltb, .mem, .mst, .mtr, .qdm, .scn, .str, .sys, .tbs] ⊆ L) : Frame L F z (State.strRow s dt start) := by
  unfold State.strRow
  try dsimp only
  repeat' first
    | intro (_ : State) _ | intro (_ : Slot)
    | (with_reducible first
      | assumption | apply frame_occurIn | apply frame_strFinish | apply frame_ite)
    | simp only [frame_mk]
    | split
    | exact hL (by decide)
    | exact List.Subset.trans (by decide) hL
    | exact .inl (hL (by decide))

theorem frame_rstNote (hk0 : Frame L F z s) (hL : [.rtc] ⊆ L) : Frame L F z (State.rstNote s) :=
  fset_rtc hk0 (hL (by decide))

theorem frame_resetParts (level : Nat) (hk0 : Frame L F z s) (hL : [.stat, .acc, .act, .busErr, .cfg, .changed, .cyc, .eth0, .eth1, .evr, .flt, .key, .latch, .lne, .ltb, .mem, .mst, .mtr, .pairs, .parity, .qdm, .reply, .rtc, .scn, .str, .tbs, .upd, .usb, .wav] ⊆ L) : Frame L F z (s.resetParts level) := by
  refine frame_trans hk0 ⟨fun p h1 _ => ?_, fun h => absurd (hL (by decide)) h⟩
  cases p <;> first | rfl | exact absurd (hL (by decide)) h1

theorem frame_resetSys (p : StartPlan) (hk0 : Frame L F z s) (hL : [.sys] ⊆ L) : Frame L F z (State.resetSys s p) := by
  unfold State.resetSys
  try dsimp only
  repeat' first
    | (with_reducible first
      | assumption | apply fset_sys | apply frame_ite)
    | simp only [frame_mk]
    | split
    | exact hL (by decide)
    | exact List.Subset.trans (by decide) hL

theorem frame_failNote (p : StartPlan) (hk0 : Frame L F z s) (hL : [.rtc] ⊆ L) : Frame L F z (State.failNote s p) := by
  unfold State.failNote
  try dsimp only
  repeat' first
    | (with_reducible first
      | assumption | apply fset_rtc | apply frame_ite)
    | simp only [frame_mk]
    | split
    | exact hL (by decide)
    | exact List.Subset.trans (by decide) hL

theorem frame_startSet (p : StartPlan) (hk0 : Frame L F z s) (hL : [.evr, .rtc, .upd] ⊆ L) (hF : .stat ∈ L ∨ [(reg wUPD 0, 6)] ⊆ F) : Frame L F z (State.startSet s p) := by
  unfold State.startSet
  try dsimp only
  repeat' first
    | (with_reducible first
      | assumption | apply frame_revertSet | apply frame_updMirror | apply frame_setUpd | apply frame_ite)
    | simp only [frame_mk]
    | split
    | exact hL (by decide)
    | exact List.Subset.trans (by decide) hL
    | exact hF.imp_right (List.Subset.trans (by decide))
    | exact hF.imp_right fun a => a (by decide)

theorem frame_restartNote (level : Nat) (hk0 : Frame L F z s) (hL : [.evr] ⊆ L) (hF : .stat ∈ L ∨ [(reg wTBS 0, 5)] ⊆ F) : Frame L F z (State.restartNote s level) := by
  unfold State.restartNote
  repeat' first
    | (with_reducible first
      | assumption | apply frame_postBit | apply frame_ite)
    | split
    | exact hL (by decide)
    | exact List.Subset.trans (by decide) hL
    | exact hF.imp_right (List.Subset.trans (by decide))
    | exact hF.imp_right fun a => a (by decide)

theorem frame_startRow (hk0 : Frame L F z s) (hL : [.evr, .flt] ⊆ L) (hF : .stat ∈ L ∨ [(reg wFLT 0, 3), (reg wFLT 0, 4), (reg wFLT 0, 5)] ⊆ F) : Frame L F z (State.startRow s) := by
  unfold State.startRow
  try dsimp only
  repeat' first
    | (with_reducible first
      | assumption | apply frame_rowSubst | apply fset_flt | apply frame_ite)
    | simp only [frame_mk]
    | split
    | exact hL (by decide)
    | exact List.Subset.trans (by decide) hL
    | exact hF.imp_right (List.Subset.trans (by decide))
    | exact hF.imp_right fun a => a (by decide)

theorem frame_loadPins (b : ImgBody) (hk0 : Frame L F z s) (hL : [.cfg] ⊆ L) : Frame L F z (State.loadPins s b) := by
  unfold State.loadPins
  try dsimp only
  repeat' first
    | intro (_ : State) _ _ | intro (_ : State × _) _ _
    | (with_reducible first
      | assumption | apply frame_setCfg | apply frame_foldl1 | apply frame_foldl | apply frame_ite)
    | split
    | exact hL (by decide)
    | exact List.Subset.trans (by decide) hL

theorem frame_loadTable (b : ImgBody) (hk0 : Frame L F z s) (hL : [.ltb, .mem] ⊆ L) : Frame L F z (State.loadTable s b) := by
  unfold State.loadTable
  try dsimp only
  repeat' first
    | intro (_ : State) _ _ | intro (_ : State × _) _ _
    | (with_reducible first
      | assumption | apply frame_setLt | apply frame_foldl1 | apply frame_foldl | apply fset_ltb | apply fbuilt
      | apply frame_ite)
    | simp only [frame_mk]
    | split
    | rfl
    | exact hL (by decide)
    | exact List.Subset.trans (by decide) hL
    | (intro p h1 h2; cases p; (case ltb => exact absurd (hL (by decide)) h1); (case mem => exact absurd (hL (by decide)) h1); (case stat => exact absurd rfl h2); all_goals (first | rfl | exact fun _ => rfl))

theorem frame_loadFeeders (b : ImgBody) (hk0 : Frame L F z s) (hL : [.mtr] ⊆ L) : Frame L F z (State.loadFeeders s b) := by
  unfold State.loadFeeders
  try dsimp only
  repeat' first
    | (with_reducible first
      | assumption | apply fset_mtr | apply frame_ite)
    | simp only [frame_mk]
    | split
    | exact hL (by decide)
    | exact List.Subset.trans (by decide) hL

theorem frame_loadGroups (hk0 : Frame L F z s) (hL : [.mst] ⊆ L) : Frame L F z (State.loadGroups s) := by
  unfold State.loadGroups
  try dsimp only
  repeat' first
    | (with_reducible first
      | assumption | apply fset_mst | apply frame_ite)
    | simp only [frame_mk]
    | split
    | exact hL (by decide)
    | exact List.Subset.trans (by decide) hL

theorem frame_loadQueues (b : ImgBody) (hk0 : Frame L F z s) (hL : [.cfg, .qdm] ⊆ L) : Frame L F z (State.loadQueues s b) := by
  unfold State.loadQueues
  try dsimp only
  repeat' first
    | intro (_ : State) _ _ | intro (_ : State × _) _ _
    | (with_reducible first
      | assumption | apply frame_setCfg | apply frame_foldl1 | apply frame_foldl | apply fset_qdm)
    | simp only [frame_mk]
    | exact hL (by decide)
    | exact List.Subset.trans (by decide) hL

theorem frame_loadRec (b : ImgBody) (hk0 : Frame L F z s) (hL : [.evr] ⊆ L) : Frame L F z (State.loadRec s b) :=
  fset_evr hk0 (hL (by decide))

theorem frame_loadHandles (x1 : List ImgHandle) (hk0 : Frame L F z s) (hL : [.stat, .acc, .act, .changed, .evr, .mst, .mtr, .qdm, .rtc, .scn, .str, .sys, .tbs, .upd] ⊆ L) : Frame L F z (State.loadHandles s x1) := by
  induction x1 generalizing s
  · exact hk0
  · rename_i ih
    unfold State.loadHandles
    try dsimp only
    repeat' first
      | (with_reducible first
        | assumption | apply ih | apply frame_startHandle | apply frame_createHandle | apply frame_ite)
      | split
      | exact hL (by decide)
      | exact List.Subset.trans (by decide) hL
      | exact .inl (hL (by decide))

theorem frame_loadService (typ : Nat) (idx : Nat) (hk0 : Frame L F z s) (hL : [.acc, .evr, .str] ⊆ L) : Frame L F z (State.loadService s typ idx) := by
  unfold State.loadService
  try dsimp only
  repeat' first
    | (with_reducible first
      | assumption | apply frame_setHandle | apply frame_event | apply frame_setService | apply frame_ite)
    | split
    | exact hL (by decide)
    | exact List.Subset.trans (by decide) hL

theorem frame_loadServices (hk0 : Frame L F z s) (hL : [.acc, .evr, .str] ⊆ L) : Frame L F z (State.loadServices s) := by
  unfold State.loadServices
  try dsimp only
  repeat' first
    | intro (_ : State) _ _ | intro (_ : State × _) _ _
    | (with_reducible first
      | assumption | apply frame_loadService | apply frame_foldl1 | apply frame_foldl | apply frame_ite)
    | split
    | exact hL (by decide)
    | exact List.Subset.trans (by decide) hL

theorem frame_applyImage (g : Image) (hk0 : Frame L F z s) (hL : [.stat, .acc, .act, .cfg, .changed, .evr, .ltb, .mem, .mst, .mtr, .qdm, .rtc, .scn, .str, .sys, .tbs, .upd] ⊆ L) : Frame L F z (State.applyImage s g) := by
  unfold State.applyImage
  try dsimp only
  repeat' first
    | (with_reducible first
      | assumption | apply frame_loadFeeders | apply frame_loadTable | apply frame_loadPins
      | apply frame_loadServices | apply frame_loadHandles | apply frame_loadRec | apply frame_loadQueues
      | apply frame_loadGroups | apply fset_str)
    | simp only [frame_mk]
    | exact hL (by decide)
    | exact List.Subset.trans (by decide) hL
    | exact .inl (hL (by decide))

theorem frame_startPulses (level : Nat) (hk0 : Frame L F z s) (hL : [.acc, .evr] ⊆ L) (hF : .stat ∈ L ∨ [(reg wACC 0, 7), (reg wACC 0, 8)] ⊆ F) : Frame L F z (State.startPulses s level) := by
  unfold State.startPulses
  try dsimp only
  repeat' first
    | intro (_ : State) _ _ | intro (_ : State × _) _ _
    | (with_reducible first
      | assumption | apply frame_postEvent | apply frame_pulseRebase | apply frame_pulseCredit
      | apply frame_foldl1 | apply frame_foldl | apply frame_ite)
    | simp only [frame_mk]
    | split
    | exact hL (by decide)
    | exact List.Subset.trans (by decide) hL
    | exact hF.imp_right (List.Subset.trans (by decide))
    | exact hF.imp_right fun a => a (by decide)

theorem frame_restoredTold (hk0 : Frame L F z s) (hL : [.acc, .evr] ⊆ L) (hF : .stat ∈ L ∨ [(reg wACC 0, 10)] ⊆ F) : Frame L F z (State.restoredTold s) := by
  unfold State.restoredTold
  try dsimp only
  repeat' first
    | (with_reducible first
      | assumption | apply frame_postEvent | apply fset_acc | apply frame_ite)
    | simp only [frame_mk]
    | split
    | exact hL (by decide)
    | exact List.Subset.trans (by decide) hL
    | exact hF.imp_right (List.Subset.trans (by decide))
    | exact hF.imp_right fun a => a (by decide)

theorem frame_startDeliver (hk0 : Frame L F z s) (hL : [.acc, .evr, .mtr] ⊆ L) (hF : .stat ∈ L ∨ [(reg wMTR 0, 4), (reg wMTR 0, 5), (reg wACC 0, 7)] ⊆ F) : Frame L F z (State.startDeliver s) := by
  unfold State.startDeliver
  repeat' first
    | (with_reducible first
      | assumption | apply frame_deliverHeld | apply frame_ite)
    | split
    | exact hL (by decide)
    | exact List.Subset.trans (by decide) hL
    | exact hF.imp_right (List.Subset.trans (by decide))
    | exact hF.imp_right fun a => a (by decide)

theorem frame_startEnd (hk0 : Frame L F z s) (hL : [.rtc, .sys, .upd] ⊆ L) : Frame L F z (State.startEnd s) := by
  unfold State.startEnd
  try dsimp only
  repeat' first
    | (with_reducible first
      | assumption | apply frame_setUpd | apply frame_updMirror | apply frame_rstNote | apply fset_sys
      | apply frame_ite)
    | simp only [frame_mk]
    | split
    | exact hL (by decide)
    | exact List.Subset.trans (by decide) hL

theorem frame_startLoad (hk0 : Frame L F z s) (hL : [.stat, .acc, .act, .cfg, .changed, .evr, .lne, .ltb, .mem, .mst, .mtr, .qdm, .rtc, .scn, .str, .sys, .tbs, .upd] ⊆ L) : Frame L F z (State.startLoad s) := by
  unfold State.startLoad
  try dsimp only
  repeat' first
    | (with_reducible first
      | assumption | apply frame_startEnd | apply frame_recStart | apply frame_applyImage
      | apply frame_restoredTold | apply frame_startDeliver | apply frame_startPulses | apply frame_fcResume
      | apply frame_rstNote | apply fset_sys | apply frame_ite)
    | simp only [frame_mk]
    | split
    | exact hL (by decide)
    | exact List.Subset.trans (by decide) hL
    | exact .inl (hL (by decide))

theorem frame_startCopy (hk0 : Frame L F z s) (hL : [.stat, .acc, .act, .cfg, .changed, .evr, .lne, .ltb, .mem, .mst, .mtr, .qdm, .rtc, .scn, .str, .sys, .tbs, .upd] ⊆ L) : Frame L F z (State.startCopy s) := by
  unfold State.startCopy
  try dsimp only
  repeat' first
    | (with_reducible first
      | assumption | apply frame_updMirror | apply frame_setUpd | apply frame_startLoad | apply fset_sys
      | apply frame_ite)
    | simp only [frame_mk]
    | split
    | exact hL (by decide)
    | exact List.Subset.trans (by decide) hL
    | exact .inl (hL (by decide))

theorem frame_startSecure (hk0 : Frame L F z s) (hL : [.stat, .acc, .act, .cfg, .changed, .evr, .key, .lne, .ltb, .mem, .mst, .mtr, .qdm, .rtc, .scn, .str, .sys, .tbs, .upd] ⊆ L) : Frame L F z (State.startSecure s) := by
  unfold State.startSecure
  try dsimp only
  repeat' first
    | (with_reducible first
      | assumption | apply frame_tamperStore | apply frame_startCopy | apply fset_sys | apply frame_ite)
    | simp only [frame_mk]
    | split
    | exact hL (by decide)
    | exact List.Subset.trans (by decide) hL
    | exact .inl (hL (by decide))

theorem frame_startQuiesce (hk0 : Frame L F z s) (hL : [.evr, .free] ⊆ L) : Frame L F z (State.startQuiesce s) := by
  unfold State.startQuiesce
  repeat' first
    | (with_reducible first
      | assumption | apply frame_recDiscard | apply frame_recTear | apply frame_ite)
    | split
    | exact hL (by decide)
    | exact List.Subset.trans (by decide) hL

theorem frame_startHost (p : StartPlan) (hk0 : Frame L F z s) (hL : [.stat, .acc, .evr, .lne, .rtc, .sys, .upd] ⊆ L) : Frame L F z (State.startHost s p) := by
  unfold State.startHost
  try dsimp only
  repeat' first
    | (with_reducible first
      | assumption | apply frame_startEnd | apply frame_startPulses | apply frame_fcResume
      | apply frame_failNote | apply fset_sys)
    | simp only [frame_mk]
    | exact hL (by decide)
    | exact List.Subset.trans (by decide) hL
    | exact .inl (hL (by decide))

theorem frame_startParts (p : StartPlan) (hk0 : Frame L F z s) (hL : [.stat, .acc, .act, .busErr, .cfg, .changed, .cyc, .eth0, .eth1, .evr, .flt, .free, .key, .latch, .lne, .ltb, .mem, .mst, .mtr, .pairs, .parity, .qdm, .reply, .rtc, .scn, .str, .sys, .tbs, .upd, .usb, .wav] ⊆ L) : Frame L F z (State.startParts s p) := by
  unfold State.startParts
  try dsimp only
  repeat' first
    | (with_reducible first
      | assumption | apply frame_resetSys | apply frame_resetParts | apply frame_startQuiesce
      | apply frame_rstNote | apply frame_startRow | apply frame_restartNote | apply frame_startSet
      | apply frame_failNote | apply fset_sys)
    | simp only [frame_mk]
    | exact hL (by decide)
    | exact List.Subset.trans (by decide) hL
    | exact .inl (hL (by decide))

theorem frame_startRun (hk0 : Frame L F z s) (hL : [.stat, .acc, .act, .busErr, .cfg, .changed, .cyc, .eth0, .eth1, .evr, .flt, .free, .key, .latch, .lne, .ltb, .mem, .mst, .mtr, .pairs, .parity, .qdm, .reply, .rtc, .scn, .str, .sys, .tbs, .upd, .usb, .wav] ⊆ L) : Frame L F z (State.startRun s) := by
  unfold State.startRun
  try dsimp only
  repeat' first
    | (with_reducible first
      | assumption | apply frame_startHost | apply frame_startSecure | apply frame_startParts | apply frame_ite)
    | split
    | exact hL (by decide)
    | exact List.Subset.trans (by decide) hL
    | exact .inl (hL (by decide))

theorem frame_vinNote (hk0 : Frame L F z s) (hL : [.rtc] ⊆ L) : Frame L F z (State.vinNote s) := by
  unfold State.vinNote
  repeat' first
    | (with_reducible first
      | assumption | apply frame_wakeNote)
    | exact hL (by decide)
    | exact List.Subset.trans (by decide) hL

theorem frame_vinStart (hk0 : Frame L F z s) (hL : [.stat, .acc, .act, .busErr, .cfg, .changed, .cyc, .eth0, .eth1, .evr, .flt, .free, .key, .latch, .lne, .ltb, .mem, .mst, .mtr, .pairs, .parity, .qdm, .reply, .rtc, .scn, .str, .sys, .tbs, .upd, .usb, .wav] ⊆ L) : Frame L F z (State.vinStart s) := by
  unfold State.vinStart
  try dsimp only
  repeat' first
    | (with_reducible first
      | assumption | apply frame_vinNote | apply frame_startRun | apply fset_sys | apply frame_ite)
    | simp only [frame_mk]
    | split
    | exact hL (by decide)
    | exact List.Subset.trans (by decide) hL
    | exact .inl (hL (by decide))

theorem frame_clockHalt (n : Nat) (hk0 : Frame L F z s) (hL : [.stat, .acc, .act, .busErr, .cfg, .changed, .cyc, .eth0, .eth1, .evr, .flt, .key, .latch, .lne, .ltb, .mem, .mst, .mtr, .pairs, .parity, .qdm, .reply, .rtc, .scn, .str, .sys, .tbs, .upd, .usb, .wav] ⊆ L) : Frame L F z (State.clockHalt s n) := by
  unfold State.clockHalt
  try dsimp only
  repeat' first
    | (with_reducible first
      | assumption | apply frame_resetParts | apply frame_rstNote | apply fset_sys)
    | simp only [frame_mk]
    | exact hL (by decide)
    | exact List.Subset.trans (by decide) hL
    | exact .inl (hL (by decide))

theorem frame_clockRetry (hk0 : Frame L F z s) (hL : [.stat, .acc, .act, .busErr, .cfg, .changed, .cyc, .eth0, .eth1, .evr, .flt, .free, .key, .latch, .lne, .ltb, .mem, .mst, .mtr, .pairs, .parity, .qdm, .reply, .rtc, .scn, .str, .sys, .tbs, .upd, .usb, .wav] ⊆ L) : Frame L F z (State.clockRetry s) := by
  unfold State.clockRetry
  try dsimp only
  repeat' first
    | (with_reducible first
      | assumption | apply frame_startSecure | apply frame_startParts)
    | exact hL (by decide)
    | exact List.Subset.trans (by decide) hL
    | exact .inl (hL (by decide))

theorem frame_clockRetryDue (good : Bool) (hk0 : Frame L F z s) (hL : [.stat, .acc, .act, .busErr, .cfg, .changed, .cyc, .eth0, .eth1, .evr, .flt, .free, .key, .latch, .lne, .ltb, .mem, .mst, .mtr, .pairs, .parity, .qdm, .reply, .rtc, .scn, .str, .sys, .tbs, .upd, .usb, .wav] ⊆ L) : Frame L F z (State.clockRetryDue s good) := by
  unfold State.clockRetryDue
  try dsimp only
  repeat' first
    | (with_reducible first
      | assumption | apply frame_clockRetry | apply fset_sys | apply frame_ite)
    | simp only [frame_mk]
    | split
    | exact hL (by decide)
    | exact List.Subset.trans (by decide) hL
    | exact .inl (hL (by decide))

theorem frame_keyOpEnd (hk0 : Frame L F z s) (hL : [.stat, .acc, .act, .cfg, .changed, .evr, .key, .lne, .ltb, .mem, .mst, .mtr, .qdm, .rtc, .scn, .str, .sys, .tbs, .upd, .usb] ⊆ L) : Frame L F z (State.keyOpEnd s) := by
  unfold State.keyOpEnd
  try dsimp only
  repeat' first
    | (with_reducible first
      | assumption | apply frame_keyFinish | apply frame_svcAnswer | apply frame_startCopy | apply frame_ite)
    | simp only [frame_mk]
    | split
    | exact hL (by decide)
    | exact List.Subset.trans (by decide) hL
    | exact .inl (hL (by decide))

theorem frame_vinLost (hk0 : Frame L F z s) (hL : [.rtc, .sys] ⊆ L) : Frame L F z (State.vinLost s) := by
  unfold State.vinLost
  try dsimp only
  repeat' first
    | (with_reducible first
      | assumption | apply fset_rtc | apply fset_sys | apply fbuilt | apply frame_ite)
    | simp only [frame_mk]
    | split
    | rfl
    | exact hL (by decide)
    | exact List.Subset.trans (by decide) hL
    | (intro p h1 h2; cases p; (case rtc => exact absurd (hL (by decide)) h1); (case sys => exact absurd (hL (by decide)) h1); (case stat => exact absurd rfl h2); all_goals (first | rfl | exact fun _ => rfl))

theorem frame_bootOk (v : Word) (hk0 : Frame L F z s) (hL : [.cfg, .rtc, .sys] ⊆ L) : Frame L F z (State.bootOk s v) := by
  unfold State.bootOk
  try dsimp only
  repeat' first
    | (with_reducible first
      | assumption | apply frame_setCfg | apply fset_rtc | apply fset_sys | apply fbuilt | apply frame_ite)
    | simp only [frame_mk]
    | split
    | rfl
    | exact hL (by decide)
    | exact List.Subset.trans (by decide) hL
    | (intro p h1 h2; cases p; (case cfg => exact absurd (hL (by decide)) h1); (case rtc => exact absurd (hL (by decide)) h1); (case sys => exact absurd (hL (by decide)) h1); (case stat => exact absurd rfl h2); all_goals (first | rfl | exact fun _ => rfl))

theorem frame_rstCommand (v : Word) (hk0 : Frame L F z s) (hL : [.cfg, .sys] ⊆ L) : Frame L F z (State.rstCommand s v) := by
  unfold State.rstCommand
  try dsimp only
  repeat' first
    | (with_reducible first
      | assumption | apply frame_setCfg | apply frame_raiseReset | apply frame_ite)
    | simp only [frame_mk]
    | split
    | exact hL (by decide)
    | exact List.Subset.trans (by decide) hL

theorem frame_fuseDone (code : Nat) (hk0 : Frame L F z s) (hL : [.evr, .sys] ⊆ L) (hF : .stat ∈ L ∨ [(reg wSYS 0, 6)] ⊆ F) : Frame L F z (State.fuseDone s code) := by
  unfold State.fuseDone
  try dsimp only
  repeat' first
    | (with_reducible first
      | assumption | apply frame_postBit | apply fset_sys)
    | simp only [frame_mk]
    | exact hL (by decide)
    | exact List.Subset.trans (by decide) hL
    | exact hF.imp_right (List.Subset.trans (by decide))
    | exact hF.imp_right fun a => a (by decide)

theorem frame_fuseProgram (v : Word) (ok : Bool) (hk0 : Frame L F z s) (hL : [.cfg, .evr, .sys] ⊆ L) (hF : .stat ∈ L ∨ [(reg wSYS 0, 6)] ⊆ F) : Frame L F z (State.fuseProgram s v ok) := by
  unfold State.fuseProgram
  try dsimp only
  repeat' first
    | (with_reducible first
      | assumption | apply frame_setCfg | apply frame_fuseDone | apply fset_sys | apply frame_ite)
    | simp only [frame_mk]
    | split
    | exact hL (by decide)
    | exact List.Subset.trans (by decide) hL
    | exact hF.imp_right (List.Subset.trans (by decide))
    | exact hF.imp_right fun a => a (by decide)

theorem frame_closeOutput (k : Nat) (hk0 : Frame L F z s) (hL : [.sys] ⊆ L) : Frame L F z (State.closeOutput s k) :=
  fset_sys hk0 (hL (by decide))

theorem frame_openOutputs (hk0 : Frame L F z s) (hL : [.sys] ⊆ L) : Frame L F z (State.openOutputs s) :=
  fset_sys hk0 (hL (by decide))

theorem frame_coilFault (k : Nat) (cause : Nat) (hk0 : Frame L F z s) (hL : [.evr, .sys] ⊆ L) (hF : .stat ∈ L ∨ [(reg wSYS 0, 5)] ⊆ F) : Frame L F z (State.coilFault s k cause) := by
  unfold State.coilFault
  try dsimp only
  repeat' first
    | (with_reducible first
      | assumption | apply frame_postEvent | apply fset_sys | apply frame_ite)
    | simp only [frame_mk]
    | split
    | exact hL (by decide)
    | exact List.Subset.trans (by decide) hL
    | exact hF.imp_right (List.Subset.trans (by decide))
    | exact hF.imp_right fun a => a (by decide)

theorem frame_coilCheck (k : Nat) (ma : Nat) (hk0 : Frame L F z s) (hL : [.evr, .sys] ⊆ L) (hF : .stat ∈ L ∨ [(reg wSYS 0, 5)] ⊆ F) : Frame L F z (State.coilCheck s k ma) := by
  unfold State.coilCheck
  repeat' first
    | (with_reducible first
      | assumption | apply frame_coilFault | apply frame_ite)
    | split
    | exact hL (by decide)
    | exact List.Subset.trans (by decide) hL
    | exact hF.imp_right (List.Subset.trans (by decide))
    | exact hF.imp_right fun a => a (by decide)

theorem frame_coilChecks (coils : List Nat) (hk0 : Frame L F z s) (hL : [.evr, .sys] ⊆ L) (hF : .stat ∈ L ∨ [(reg wSYS 0, 5)] ⊆ F) : Frame L F z (State.coilChecks s coils) := by
  unfold State.coilChecks
  try dsimp only
  repeat' first
    | intro (_ : State) _ _ | intro (_ : State × _) _ _
    | (with_reducible first
      | assumption | apply frame_coilCheck | apply frame_foldl1 | apply frame_foldl | apply frame_ite)
    | split
    | exact hL (by decide)
    | exact List.Subset.trans (by decide) hL
    | exact hF.imp_right (List.Subset.trans (by decide))
    | exact hF.imp_right fun a => a (by decide)

theorem frame_pwrRefuse (code : Nat) (hk0 : Frame L F z s) (hL : [.evr, .sys] ⊆ L) (hF : .stat ∈ L ∨ [(reg wSYS 0, 3)] ⊆ F) : Frame L F z (State.pwrRefuse s code) := by
  unfold State.pwrRefuse
  try dsimp only
  repeat' first
    | (with_reducible first
      | assumption | apply frame_postBit | apply fset_sys)
    | simp only [frame_mk]
    | exact hL (by decide)
    | exact List.Subset.trans (by decide) hL
    | exact hF.imp_right (List.Subset.trans (by decide))
    | exact hF.imp_right fun a => a (by decide)

theorem frame_transBegin (target : Pwr) (fade : Nat) (todo : List (Nat × Nat)) (fromLit : Bool) (hk0 : Frame L F z s) (hL : [.rtc, .sys] ⊆ L) : Frame L F z (State.transBegin s target fade todo fromLit) :=
  fbuilt hk0 rfl (by intro p h1 h2; cases p; (case rtc => exact absurd (hL (by decide)) h1); (case sys => exact absurd (hL (by decide)) h1); (case stat => exact absurd rfl h2); all_goals (first | rfl | exact fun _ => rfl))

theorem frame_leaveHeldAll (hk0 : Frame L F z s) (hL : [.mst] ⊆ L) : Frame L F z (State.leaveHeldAll s) := by
  unfold State.leaveHeldAll
  try dsimp only
  repeat' first
    | intro (_ : State) _ _ | intro (_ : State × _) _ _
    | (with_reducible first
      | assumption | apply frame_leaveHeld | apply frame_foldl1 | apply frame_foldl | apply frame_ite)
    | split
    | exact hL (by decide)
    | exact List.Subset.trans (by decide) hL

theorem frame_fadeHeads (fade : Nat) (hk0 : Frame L F z s) (hL : [.mst] ⊆ L) : Frame L F z (State.fadeHeads s fade) := by
  unfold State.fadeHeads
  try dsimp only
  repeat' first
    | intro (_ : State) _ _ | intro (_ : State × _) _ _
    | (with_reducible first
      | assumption | apply frame_fadeOut | apply frame_foldl1 | apply frame_foldl | apply frame_ite)
    | split
    | exact hL (by decide)
    | exact List.Subset.trans (by decide) hL

theorem frame_enterLit (hk0 : Frame L F z s) (hL : [.rtc, .sys] ⊆ L) : Frame L F z (State.enterLit s) := by
  unfold State.enterLit
  repeat' first
    | (with_reducible first
      | assumption | apply frame_transBegin)
    | exact hL (by decide)
    | exact List.Subset.trans (by decide) hL

theorem frame_enterFading (target : Pwr) (fade : Nat) (hk0 : Frame L F z s) (hL : [.mst, .rtc, .sys] ⊆ L) : Frame L F z (State.enterFading s target fade) := by
  unfold State.enterFading
  repeat' first
    | (with_reducible first
      | assumption | apply frame_fadeHeads | apply frame_leaveHeldAll | apply frame_transBegin)
    | exact hL (by decide)
    | exact List.Subset.trans (by decide) hL

theorem frame_enterOff (hk0 : Frame L F z s) (hL : [.mst, .rtc, .sys] ⊆ L) : Frame L F z (State.enterOff s) := by
  unfold State.enterOff
  try dsimp only
  repeat' first
    | (with_reducible first
      | assumption | apply frame_leaveHeldAll | apply frame_openOutputs | apply frame_transBegin
      | apply fset_sys | apply frame_ite)
    | simp only [frame_mk]
    | split
    | exact hL (by decide)
    | exact List.Subset.trans (by decide) hL

theorem frame_pwrAccept (target : Pwr) (fade : Nat) (hk0 : Frame L F z s) (hL : [.mst, .rtc, .sys] ⊆ L) : Frame L F z (State.pwrAccept s target fade) := by
  unfold State.pwrAccept
  try dsimp only
  repeat' first
    | (with_reducible first
      | assumption | apply frame_enterLit | apply frame_enterFading | apply frame_enterOff | apply fset_sys
      | apply frame_ite)
    | simp only [frame_mk]
    | split
    | exact hL (by decide)
    | exact List.Subset.trans (by decide) hL

theorem frame_pwrCommand (v : Word) (hk0 : Frame L F z s) (hL : [.cfg, .evr, .mst, .rtc, .sys] ⊆ L) (hF : .stat ∈ L ∨ [(reg wSYS 0, 3)] ⊆ F) : Frame L F z (State.pwrCommand s v) := by
  unfold State.pwrCommand
  try dsimp only
  repeat' first
    | (with_reducible first
      | assumption | apply frame_setCfg | apply frame_pwrRefuse | apply frame_pwrAccept | apply frame_ite)
    | split
    | exact hL (by decide)
    | exact List.Subset.trans (by decide) hL
    | exact hF.imp_right (List.Subset.trans (by decide))
    | exact hF.imp_right fun a => a (by decide)

theorem frame_pwrRow (dt : Nat) (master : Nat) (state : Nat) (fade : Nat) (hk0 : Frame L F z s) (hL : [.stat, .busErr, .cfg, .cyc, .evr, .mst, .pairs, .reply, .rtc, .sys] ⊆ L) : Frame L F z (State.pwrRow s dt master state fade) := by
  unfold State.pwrRow
  try dsimp only
  repeat' first
    | intro (_ : State) _ | intro (_ : Slot)
    | (with_reducible first
      | assumption | apply frame_pairWrite | apply frame_elapse | apply frame_pwrCommand | apply frame_ite)
    | split
    | exact hL (by decide)
    | exact List.Subset.trans (by decide) hL
    | exact .inl (hL (by decide))

theorem frame_litEngines (hk0 : Frame L F z s) (hL : [.mst, .sys] ⊆ L) : Frame L F z (State.litEngines s) := by
  unfold State.litEngines
  try dsimp only
  repeat' first
    | (with_reducible first
      | assumption | apply frame_headsDark | apply frame_leaveHeldAll | apply fset_sys | apply frame_ite)
    | simp only [frame_mk]
    | split
    | exact hL (by decide)
    | exact List.Subset.trans (by decide) hL

theorem frame_transEnd (p : Pwr) (hk0 : Frame L F z s) (hL : [.evr, .sys] ⊆ L) (hF : .stat ∈ L ∨ [(reg wSYS 0, 2)] ⊆ F) : Frame L F z (State.transEnd s p) := by
  unfold State.transEnd
  try dsimp only
  repeat' first
    | (with_reducible first
      | assumption | apply frame_postBit | apply fset_sys)
    | simp only [frame_mk]
    | exact hL (by decide)
    | exact List.Subset.trans (by decide) hL
    | exact hF.imp_right (List.Subset.trans (by decide))
    | exact hF.imp_right fun a => a (by decide)

theorem frame_closeNext (k : Nat) (hk0 : Frame L F z s) (hL : [.sys] ⊆ L) : Frame L F z (State.closeNext s k) := by
  unfold State.closeNext
  try dsimp only
  repeat' first
    | (with_reducible first
      | assumption | apply frame_closeOutput | apply fset_sys | apply frame_ite)
    | simp only [frame_mk]
    | split
    | exact hL (by decide)
    | exact List.Subset.trans (by decide) hL

theorem frame_litDone (coils : List Nat) (hk0 : Frame L F z s) (hL : [.evr, .sys] ⊆ L) (hF : .stat ∈ L ∨ [(reg wSYS 0, 2), (reg wSYS 0, 5)] ⊆ F) : Frame L F z (State.litDone s coils) := by
  unfold State.litDone
  try dsimp only
  repeat' first
    | (with_reducible first
      | assumption | apply frame_transEnd | apply frame_coilChecks | apply frame_ite)
    | simp only [frame_mk]
    | split
    | exact hL (by decide)
    | exact List.Subset.trans (by decide) hL
    | exact hF.imp_right (List.Subset.trans (by decide))
    | exact hF.imp_right fun a => a (by decide)

theorem frame_openDue (hk0 : Frame L F z s) (hL : [.sys] ⊆ L) : Frame L F z (State.openDue s) := by
  unfold State.openDue
  try dsimp only
  repeat' first
    | (with_reducible first
      | assumption | apply frame_openOutputs | apply fset_sys | apply frame_ite)
    | simp only [frame_mk]
    | split
    | exact hL (by decide)
    | exact List.Subset.trans (by decide) hL

theorem frame_vigilDone (hk0 : Frame L F z s) (hL : [.evr, .sys] ⊆ L) (hF : .stat ∈ L ∨ [(reg wSYS 0, 2)] ⊆ F) : Frame L F z (State.vigilDone s) := by
  unfold State.vigilDone
  try dsimp only
  repeat' first
    | (with_reducible first
      | assumption | apply frame_transEnd | apply frame_ite)
    | simp only [frame_mk]
    | split
    | exact hL (by decide)
    | exact List.Subset.trans (by decide) hL
    | exact hF.imp_right (List.Subset.trans (by decide))
    | exact hF.imp_right fun a => a (by decide)

theorem frame_powerDown (hk0 : Frame L F z s) (hL : [.evr, .free, .rtc, .sys] ⊆ L) : Frame L F z (State.powerDown s) := by
  unfold State.powerDown
  try dsimp only
  repeat' first
    | (with_reducible first
      | assumption | apply frame_recDiscard | apply frame_recTear | apply fset_rtc | apply fset_sys
      | apply fbuilt)
    | simp only [frame_mk]
    | rfl
    | exact hL (by decide)
    | exact List.Subset.trans (by decide) hL
    | (intro p h1 h2; cases p; (case evr => exact absurd (hL (by decide)) h1); (case free => exact absurd (hL (by decide)) h1); (case rtc => exact absurd (hL (by decide)) h1); (case sys => exact absurd (hL (by decide)) h1); (case stat => exact absurd rfl h2); all_goals (first | rfl | exact fun _ => rfl))

theorem frame_offDone (hk0 : Frame L F z s) (hL : [.evr, .free, .rtc, .sys] ⊆ L) : Frame L F z (State.offDone s) := by
  unfold State.offDone
  try dsimp only
  repeat' first
    | (with_reducible first
      | assumption | apply frame_wakeUp | apply frame_powerDown | apply frame_ite)
    | simp only [frame_mk]
    | split
    | exact hL (by decide)
    | exact List.Subset.trans (by decide) hL

theorem frame_photocell (dark : Bool) (hk0 : Frame L F z s) (hL : [.sys] ⊆ L) : Frame L F z (State.photocell s dark) := by
  unfold State.photocell
  try dsimp only
  repeat' first
    | (with_reducible first
      | assumption | apply frame_openOutputs | apply fset_sys | apply frame_ite)
    | simp only [frame_mk]
    | split
    | exact hL (by decide)
    | exact List.Subset.trans (by decide) hL

theorem frame_tickAim (hk0 : Frame L F z s) (hL : [.tbs] ⊆ L) : Frame L F z (State.tickAim s) :=
  fset_tbs hk0 (hL (by decide))

theorem frame_tickCopies (hk0 : Frame L F z s) (hL : [.stat, .act, .changed, .evr, .ltb, .mem, .mst, .mtr, .qdm, .scn, .str, .sys, .tbs] ⊆ L) : Frame L F z (State.tickCopies s) := by
  unfold State.tickCopies
  try dsimp only
  repeat' first
    | (with_reducible first
      | assumption | apply frame_peersTaken | apply frame_rulesTaken | apply frame_curvesTaken
      | apply frame_copyDomain | apply frame_strBoundary | apply frame_ite)
    | split
    | exact hL (by decide)
    | exact List.Subset.trans (by decide) hL
    | exact .inl (hL (by decide))

theorem frame_tickEdits (hk0 : Frame L F z s) (hL : [.stat, .evr, .ltb, .mem, .scn] ⊆ L) : Frame L F z (State.tickEdits s) := by
  unfold State.tickEdits
  repeat' first
    | (with_reducible first
      | assumption | apply frame_editAll | apply frame_ite)
    | split
    | exact hL (by decide)
    | exact List.Subset.trans (by decide) hL
    | exact .inl (hL (by decide))

theorem frame_tickScene (solveUs : Nat) (hk0 : Frame L F z s) (hL : [.stat, .cfg, .evr, .ltb, .mem, .mst, .qdm, .scn] ⊆ L) : Frame L F z (State.tickScene s solveUs) := by
  unfold State.tickScene
  repeat' first
    | (with_reducible first
      | assumption | apply frame_scnTick | apply frame_ite)
    | split
    | exact hL (by decide)
    | exact List.Subset.trans (by decide) hL
    | exact .inl (hL (by decide))

theorem frame_tickWork (solveUs : Nat) (hk0 : Frame L F z s) (hL : [.stat, .act, .cfg, .changed, .evr, .ltb, .mem, .mst, .mtr, .qdm, .scn, .str, .sys, .tbs] ⊆ L) : Frame L F z (State.tickWork s solveUs) := by
  unfold State.tickWork
  repeat' first
    | (with_reducible first
      | assumption | apply frame_tickScene | apply frame_litEngines | apply frame_tickEdits
      | apply frame_tickCopies | apply frame_tickAim)
    | exact hL (by decide)
    | exact List.Subset.trans (by decide) hL
    | exact .inl (hL (by decide))

theorem frame_periodBegin (g : Nat) (meas : List SinkMeas) (hk0 : Frame L F z s) (hL : [.stat, .act, .changed, .evr, .flt, .ltb, .mem, .mst, .mtr, .qdm, .scn, .str, .sys, .tbs] ⊆ L) : Frame L F z (State.periodBegin s g meas) := by
  unfold State.periodBegin
  try dsimp only
  repeat' first
    | (with_reducible first
      | assumption | apply frame_periodFaults | apply frame_copyDomain | apply frame_periodWork
      | apply frame_strBoundary | apply frame_ite)
    | split
    | exact hL (by decide)
    | exact List.Subset.trans (by decide) hL
    | exact .inl (hL (by decide))

theorem frame_cycleBegin (f : Nat) (tc : Nat) (img : ImgFeeder) (syn : Bool) (hk0 : Frame L F z s) (hL : [.stat, .acc, .act, .changed, .evr, .flt, .ltb, .mem, .mst, .mtr, .qdm, .scn, .str, .sys, .tbs] ⊆ L) : Frame L F z (State.cycleBegin s f tc img syn) := by
  unfold State.cycleBegin
  try dsimp only
  repeat' first
    | (with_reducible first
      | assumption | apply frame_lineBoundary | apply frame_copyDomain | apply frame_takeUpFeeder
      | apply frame_strBoundary | apply frame_ite)
    | split
    | exact hL (by decide)
    | exact List.Subset.trans (by decide) hL
    | exact .inl (hL (by decide))

theorem frame_statClear (a : Nat) (v : Word) (hk0 : Frame L F z s) (hL : [.stat] ⊆ L) : Frame L F z (State.statClear s a v) := by
  unfold State.statClear
  try dsimp only
  repeat' first
    | (with_reducible first
      | assumption | apply frame_setStat)
    | exact hL (by decide)
    | exact List.Subset.trans (by decide) hL
    | exact .inl (hL (by decide))

theorem frame_mstCommand (v : Word) (hk0 : Frame L F z s) (hL : [.evr, .mst] ⊆ L) (hF : .stat ∈ L ∨ [(reg wMST 0, 13)] ⊆ F) : Frame L F z (State.mstCommand s v) := by
  unfold State.mstCommand
  try dsimp only
  repeat' first
    | (with_reducible first
      | assumption | apply frame_calStart | apply frame_mstAckSink | apply frame_ite)
    | simp only [frame_mk]
    | split
    | exact hL (by decide)
    | exact List.Subset.trans (by decide) hL
    | exact hF.imp_right (List.Subset.trans (by decide))
    | exact hF.imp_right fun a => a (by decide)

theorem frame_qdmCommand (v : Word) (hk0 : Frame L F z s) (hL : [.stat, .evr, .ltb, .mem, .qdm] ⊆ L) : Frame L F z (State.qdmCommand s v) := by
  unfold State.qdmCommand
  try dsimp only
  repeat' first
    | (with_reducible first
      | assumption | apply frame_qResume | apply frame_qFlush | apply frame_ite)
    | simp only [frame_mk]
    | split
    | exact hL (by decide)
    | exact List.Subset.trans (by decide) hL
    | exact .inl (hL (by decide))

theorem frame_recCommand (v : Word) (hk0 : Frame L F z s) (hL : [.evr] ⊆ L) (hF : .stat ∈ L ∨ [(reg wREC 0, 1)] ⊆ F) : Frame L F z (State.recCommand s v) := by
  unfold State.recCommand
  try dsimp only
  repeat' first
    | (with_reducible first
      | assumption | apply frame_recDumpCmd | apply frame_recSoftCmd | apply frame_ite)
    | simp only [frame_mk]
    | split
    | exact hL (by decide)
    | exact List.Subset.trans (by decide) hL
    | exact hF.imp_right (List.Subset.trans (by decide))
    | exact hF.imp_right fun a => a (by decide)

theorem frame_islCommand (v : Word) (hk0 : Frame L F z s) (hL : [.cfg, .evr, .flt, .mtr] ⊆ L) (hF : .stat ∈ L ∨ [(reg wMTR 0, 9), (reg wMTR 0, 12), (reg wFLT 0, 3)] ⊆ F) : Frame L F z (State.islCommand s v) := by
  unfold State.islCommand
  try dsimp only
  repeat' first
    | (with_reducible first
      | assumption | apply frame_setCfg | apply frame_islSealrst | apply frame_islSubst | apply frame_islRelease
      | apply frame_islCheck | apply frame_ite)
    | simp only [frame_mk]
    | split
    | exact hL (by decide)
    | exact List.Subset.trans (by decide) hL
    | exact hF.imp_right (List.Subset.trans (by decide))
    | exact hF.imp_right fun a => a (by decide)

theorem frame_vergeCommand (v : Word) (hk0 : Frame L F z s) (hL : [.cfg, .evr, .flt, .free, .mst] ⊆ L) (hF : .stat ∈ L ∨ [(reg wFLT 0, 3), (reg wFLT 0, 6)] ⊆ F) : Frame L F z (State.vergeCommand s v) := by
  unfold State.vergeCommand
  try dsimp only
  repeat' first
    | (with_reducible first
      | assumption | apply frame_setCfg | apply frame_vergeTest | apply frame_fresh | apply frame_vergeFree
      | apply frame_ite)
    | simp only [frame_mk]
    | split
    | exact hL (by decide)
    | exact List.Subset.trans (by decide) hL
    | exact hF.imp_right (List.Subset.trans (by decide))
    | exact hF.imp_right fun a => a (by decide)

theorem frame_wgTake (master : Nat) (w : Nat) (off : Nat) (addr : Nat) (v : Word) (hk0 : Frame L F z s) (hL : [.stat, .acc, .cfg, .evr, .flt, .free, .key, .mst, .mtr, .parity, .rtc, .scn, .str, .sys, .tbs, .upd] ⊆ L) : Frame L F z (State.wgTake s master w off addr v) := by
  unfold State.wgTake
  try dsimp only
  repeat' first
    | (with_reducible first
      | assumption | apply frame_pwrCommand | apply frame_rstCommand | apply frame_bootOk
      | apply frame_fuseProgram | apply frame_fresh | apply frame_islCommand | apply frame_accCfgSet
      | apply frame_accPulseSet | apply frame_tbsAdjWord | apply frame_rtcCommand | apply frame_keyCmdWord
      | apply frame_updCmdWord | apply frame_wdtKick | apply frame_vergeCommand | apply frame_partestArm
      | apply frame_setCfg | apply frame_ite)
    | simp only [frame_mk]
    | split
    | exact hL (by decide)
    | exact List.Subset.trans (by decide) hL
    | exact .inl (hL (by decide))

theorem frame_takenNow (a : Nat) (d : Dom) (l : List Nat) (hk0 : Frame L F z s) (hL : [.stat, .evr, .lne] ⊆ L) : Frame L F z (State.takenNow s a d l) := by
  unfold State.takenNow
  try dsimp only
  repeat' first
    | (with_reducible first
      | assumption | apply frame_slotTaken | apply frame_fcOwn | apply frame_ite)
    | simp only [frame_mk]
    | split
    | exact hL (by decide)
    | exact List.Subset.trans (by decide) hL
    | exact .inl (hL (by decide))

theorem frame_rwsStore (a : Nat) (i : RegInfo) (v : Word) (hk0 : Frame L F z s) (hL : [.stat, .act, .cfg, .changed, .evr, .lne] ⊆ L) : Frame L F z (State.rwsStore s a i v) := by
  unfold State.rwsStore
  try dsimp only
  repeat' first
    | (with_reducible first
      | assumption | apply frame_shadowWrite | apply frame_takenNow | apply frame_takeUpAll | apply frame_ite)
    | split
    | exact hL (by decide)
    | exact List.Subset.trans (by decide) hL
    | exact .inl (hL (by decide))

theorem frame_rwsWrite (master : Nat) (addr : Nat) (a : Nat) (i : RegInfo) (v : Word) (hk0 : Frame L F z s) (hL : [.stat, .act, .cfg, .changed, .evr, .lne] ⊆ L) : Frame L F z (State.rwsWrite s master addr a i v) := by
  unfold State.rwsWrite
  try dsimp only
  repeat' first
    | (with_reducible first
      | assumption | apply frame_lockedWrite | apply frame_rwsStore | apply frame_ite)
    | simp only [frame_mk]
    | split
    | exact hL (by decide)
    | exact List.Subset.trans (by decide) hL
    | exact .inl (hL (by decide))

theorem frame_chanStore (a : Nat) (n : Nat) (v : Word) (hk0 : Frame L F z s) (hL : [.act, .cfg, .changed, .evr, .mtr, .sys] ⊆ L) : Frame L F z (State.chanStore s a n v) := by
  unfold State.chanStore
  try dsimp only
  repeat' first
    | (with_reducible first
      | assumption | apply frame_markChanged | apply frame_setCfg | apply frame_takeUpChan | apply frame_ite)
    | split
    | exact hL (by decide)
    | exact List.Subset.trans (by decide) hL

theorem frame_chanWrite (master : Nat) (addr : Nat) (a : Nat) (n : Nat) (i : RegInfo) (v : Word) (hk0 : Frame L F z s) (hL : [.stat, .act, .cfg, .changed, .evr, .mtr, .sys] ⊆ L) : Frame L F z (State.chanWrite s master addr a n i v) := by
  unfold State.chanWrite
  try dsimp only
  repeat' first
    | (with_reducible first
      | assumption | apply frame_lockedWrite | apply frame_chanStore | apply frame_ite)
    | split
    | exact hL (by decide)
    | exact List.Subset.trans (by decide) hL
    | exact .inl (hL (by decide))

theorem frame_wlWrite (master : Nat) (addr : Nat) (a : Nat) (i : RegInfo) (v : Word) (hk0 : Frame L F z s) (hL : [.stat, .act, .cfg, .changed, .evr, .mtr, .sys] ⊆ L) : Frame L F z (State.wlWrite s master addr a i v) := by
  unfold State.wlWrite
  try dsimp only
  repeat' first
    | (with_reducible first
      | assumption | apply frame_chanWrite | apply frame_lockedWrite | apply frame_setCfg | apply frame_ite)
    | simp only [frame_mk]
    | split
    | exact hL (by decide)
    | exact List.Subset.trans (by decide) hL
    | exact .inl (hL (by decide))

theorem frame_strStore (a : Nat) (v : Word) (hk0 : Frame L F z s) (hL : [.cfg] ⊆ L) : Frame L F z (State.strStore s a v) := by
  unfold State.strStore
  repeat' first
    | (with_reducible first
      | assumption | apply frame_setCfg | apply frame_ite)
    | split
    | exact hL (by decide)
    | exact List.Subset.trans (by decide) hL

theorem frame_msStore (master : Nat) (addr : Nat) (a : Nat) (m : Nat) (v : Word) (hk0 : Frame L F z s) (hL : [.stat, .cfg, .evr] ⊆ L) : Frame L F z (State.msStore s master addr a m v) := by
  unfold State.msStore
  repeat' first
    | (with_reducible first
      | assumption | apply frame_setCfg | apply frame_lockedWrite | apply frame_ite)
    | split
    | exact hL (by decide)
    | exact List.Subset.trans (by decide) hL
    | exact .inl (hL (by decide))

theorem frame_ringStore (master : Nat) (addr : Nat) (a : Nat) (q : Nat) (v : Word) (hk0 : Frame L F z s) (hL : [.stat, .cfg, .evr] ⊆ L) : Frame L F z (State.ringStore s master addr a q v) := by
  unfold State.ringStore
  repeat' first
    | (with_reducible first
      | assumption | apply frame_lockedWrite | apply frame_setCfg | apply frame_ite)
    | split
    | exact hL (by decide)
    | exact List.Subset.trans (by decide) hL
    | exact .inl (hL (by decide))

theorem frame_winStore (master : Nat) (addr : Nat) (a : Nat) (w : Nat) (v : Word) (hk0 : Frame L F z s) (hL : [.stat, .cfg, .evr] ⊆ L) : Frame L F z (State.winStore s master addr a w v) := by
  unfold State.winStore
  repeat' first
    | (with_reducible first
      | assumption | apply frame_lockedWrite | apply frame_setCfg | apply frame_ite)
    | split
    | exact hL (by decide)
    | exact List.Subset.trans (by decide) hL
    | exact .inl (hL (by decide))

theorem frame_qdmStore (master : Nat) (addr : Nat) (a : Nat) (o : Nat) (v : Word) (hk0 : Frame L F z s) (hL : [.stat, .cfg, .evr, .qdm] ⊆ L) : Frame L F z (State.qdmStore s master addr a o v) := by
  unfold State.qdmStore
  try dsimp only
  repeat' first
    | (with_reducible first
      | assumption | apply frame_tailWrite | apply frame_ringStore | apply frame_winWrite | apply frame_winStore
      | apply frame_ite)
    | split
    | exact hL (by decide)
    | exact List.Subset.trans (by decide) hL
    | exact .inl (hL (by decide))

theorem frame_usbCtrlWrite (v : Word) (hk0 : Frame L F z s) (hL : [.cfg, .usb] ⊆ L) : Frame L F z (State.usbCtrlWrite s v) := by
  unfold State.usbCtrlWrite
  try dsimp only
  repeat' first
    | (with_reducible first
      | assumption | apply frame_setCfg | apply fset_usb | apply frame_ite)
    | simp only [frame_mk]
    | split
    | exact hL (by decide)
    | exact List.Subset.trans (by decide) hL

theorem frame_rwStore (master : Nat) (addr : Nat) (a : Nat) (v : Word) (hk0 : Frame L F z s) (hL : [.stat, .cfg, .evr, .ltb, .qdm, .rtc, .sys, .tbs, .usb] ⊆ L) : Frame L F z (State.rwStore s master addr a v) := by
  unfold State.rwStore
  try dsimp only
  repeat' first
    | (with_reducible first
      | assumption | apply frame_strStore | apply frame_euiHiWrite | apply frame_setCfg | apply frame_qdmStore
      | apply frame_ppsCfgWrite | apply frame_msStore | apply frame_almWrite | apply frame_wakeperStore
      | apply frame_recTsel | apply frame_recEdgeWrite | apply frame_usbCtrlWrite | apply frame_ite)
    | simp only [frame_mk]
    | split
    | exact hL (by decide)
    | exact List.Subset.trans (by decide) hL
    | exact .inl (hL (by decide))

theorem frame_cmdWrite (a : Nat) (v : Word) (hk0 : Frame L F z s) (hL : [.stat, .acc, .act, .cfg, .changed, .evr, .lne, .ltb, .mem, .mst, .mtr, .qdm, .rtc, .scn, .str, .sys, .tbs, .upd] ⊆ L) : Frame L F z (State.cmdWrite s a v) := by
  unfold State.cmdWrite
  try dsimp only
  repeat' first
    | (with_reducible first
      | assumption | apply frame_strCommand | apply frame_rwsStore | apply frame_editCommand
      | apply frame_mstCommand | apply frame_lneCommand | apply frame_qdmCommand | apply frame_recCommand
      | apply frame_ite)
    | simp only [frame_mk]
    | split
    | exact hL (by decide)
    | exact List.Subset.trans (by decide) hL
    | exact .inl (hL (by decide))

theorem frame_regStore (master : Nat) (addr : Nat) (a : Nat) (v : Word) (hk0 : Frame L F z s) (hL : [.stat, .acc, .act, .cfg, .changed, .evr, .key, .lne, .ltb, .mem, .mst, .mtr, .qdm, .rtc, .scn, .str, .sys, .tbs, .upd, .usb] ⊆ L) : Frame L F z (State.regStore s master addr a v) := by
  unfold State.regStore
  try dsimp only
  repeat' first
    | (with_reducible first
      | assumption | apply frame_statClear | apply frame_cmdWrite | apply frame_rwStore | apply frame_rwsWrite
      | apply frame_wlWrite | apply frame_tpolicyWrite | apply frame_ite)
    | simp only [frame_mk]
    | split
    | exact hL (by decide)
    | exact List.Subset.trans (by decide) hL
    | exact .inl (hL (by decide))

theorem frame_upperWrite (w : Nat) (master : Nat) (addr : Nat) (v : Word) (hk0 : Frame L F z s) (hL : [.stat, .acc, .cfg, .evr, .flt, .free, .key, .mst, .mtr, .pairs, .parity, .rtc, .scn, .str, .sys, .tbs, .upd] ⊆ L) : Frame L F z (State.upperWrite s w master addr v) := by
  unfold State.upperWrite
  try dsimp only
  repeat' first
    | (with_reducible first
      | assumption | apply frame_expirePair | apply frame_guardFail | apply frame_failPair | apply frame_wgTake
      | apply frame_dropPair | apply frame_ite)
    | simp only [frame_mk]
    | split
    | exact hL (by decide)
    | exact List.Subset.trans (by decide) hL
    | exact .inl (hL (by decide))

theorem frame_lowerWrite (w : Nat) (master : Nat) (addr : Nat) (v : Word) (hk0 : Frame L F z s) (hL : [.stat, .acc, .act, .cfg, .changed, .evr, .key, .lne, .ltb, .mem, .mst, .mtr, .pairs, .qdm, .rtc, .scn, .str, .sys, .tbs, .upd, .usb] ⊆ L) : Frame L F z (State.lowerWrite s w master addr v) := by
  unfold State.lowerWrite
  try dsimp only
  repeat' first
    | (with_reducible first
      | assumption | apply frame_intervene | apply frame_openPairAt | apply frame_regStore | apply frame_ite)
    | split
    | exact hL (by decide)
    | exact List.Subset.trans (by decide) hL
    | exact .inl (hL (by decide))

theorem frame_regWrite (master : Nat) (addr : Nat) (size : Nat) (v : Word) (hk0 : Frame L F z s) (hL : [.stat, .acc, .act, .busErr, .cfg, .changed, .evr, .flt, .free, .key, .lne, .ltb, .mem, .mst, .mtr, .pairs, .parity, .qdm, .reply, .rtc, .scn, .str, .sys, .tbs, .upd, .usb] ⊆ L) : Frame L F z (State.regWrite s master addr size v) := by
  unfold State.regWrite
  try dsimp only
  repeat' first
    | (with_reducible first
      | assumption | apply frame_busError | apply frame_answer | apply frame_regStore | apply frame_upperWrite
      | apply frame_lowerWrite | apply frame_ite)
    | split
    | exact hL (by decide)
    | exact List.Subset.trans (by decide) hL
    | exact .inl (hL (by decide))

theorem frame_plainRead (a : Nat) (hk0 : Frame L F z s) (hL : [.latch, .reply] ⊆ L) : Frame L F z (State.plainRead s a) := by
  unfold State.plainRead
  try dsimp only
  repeat' first
    | (with_reducible first
      | assumption | apply frame_answer | apply frame_setLatch | apply frame_ite)
    | simp only [frame_mk]
    | split
    | exact hL (by decide)
    | exact List.Subset.trans (by decide) hL

theorem frame_regLoad (a : Nat) (hk0 : Frame L F z s) (hL : [.acc, .free, .latch, .reply, .rtc, .tbs] ⊆ L) : Frame L F z (s.regLoad a) := by
  unfold State.regLoad
  split <;> repeat' first
    | (with_reducible first
      | assumption | apply frame_ite | apply frame_plainRead | apply frame_slotRead | apply frame_slotCountRead
      | apply frame_nowRead | apply frame_tsqRead | apply frame_fresh | apply frame_dateRead | apply frame_timeRead
      | apply frame_subRead)
    | exact List.Subset.trans (by decide) hL

theorem frame_regRead (master : Nat) (addr : Nat) (size : Nat) (hk0 : Frame L F z s) (hL : [.stat, .acc, .busErr, .evr, .free, .latch, .pairs, .reply, .rtc, .tbs] ⊆ L) : Frame L F z (State.regRead s master addr size) := by
  unfold State.regRead
  try dsimp only
  repeat' first
    | (with_reducible first
      | assumption | apply frame_busError | apply frame_intervene | apply frame_answer | apply frame_regLoad
      | apply frame_ite)
    | split
    | exact hL (by decide)
    | exact List.Subset.trans (by decide) hL
    | exact .inl (hL (by decide))

theorem frame_busWrite (master : Nat) (addr : Nat) (size : Nat) (v : Nat) (hk0 : Frame L F z s) (hL : [.stat, .acc, .act, .busErr, .cfg, .changed, .evr, .flt, .free, .key, .lne, .ltb, .mem, .mst, .mtr, .pairs, .parity, .qdm, .reply, .rtc, .scn, .str, .sys, .tbs, .upd, .usb] ⊆ L) : Frame L F z (State.busWrite s master addr size v) := by
  unfold State.busWrite
  repeat' first
    | (with_reducible first
      | assumption | apply frame_regWrite | apply frame_answer | apply frame_hostRsWrite
      | apply frame_masterWrite | apply frame_ite)
    | split
    | exact hL (by decide)
    | exact List.Subset.trans (by decide) hL
    | exact .inl (hL (by decide))

theorem frame_joinReads (lo : BusReply) (hk0 : Frame L F z s) (hL : [.reply] ⊆ L) : Frame L F z (State.joinReads s lo) := by
  unfold State.joinReads
  repeat' first
    | (with_reducible first
      | assumption | apply frame_answerHi | apply frame_answer)
    | exact hL (by decide)
    | exact List.Subset.trans (by decide) hL

theorem frame_busRead (master : Nat) (addr : Nat) (size : Nat) (hk0 : Frame L F z s) (hL : [.stat, .acc, .busErr, .evr, .free, .latch, .pairs, .reply, .rtc, .tbs] ⊆ L) : Frame L F z (State.busRead s master addr size) := by
  unfold State.busRead
  try dsimp only
  repeat' first
    | (with_reducible first
      | assumption | apply frame_regRead | apply frame_joinReads | apply frame_rsRead | apply frame_answer
      | apply frame_answerHi | apply frame_ite)
    | split
    | exact hL (by decide)
    | exact List.Subset.trans (by decide) hL
    | exact .inl (hL (by decide))

end Sys2Proof.Laws
end

