-- ==== Sys2Proof/Laws/Updates.lean ====
section
/-! SUPPORT. The named updates of one unit: what each leaves as it was. -/

namespace Sys2Proof.Laws
open Sys2Proof Sys2Proof.Machine
set_option linter.all false

@[simp] theorem fresh_rest (s : State) :
    (s.fresh).cyc = s.cyc ∧ (s.fresh).str = s.str ∧ (s.fresh).ltb = s.ltb ∧ (s.fresh).scn = s.scn ∧
    (s.fresh).wav = s.wav ∧ (s.fresh).mst = s.mst ∧ (s.fresh).mtr = s.mtr ∧ (s.fresh).acc = s.acc ∧
    (s.fresh).lne = s.lne ∧ (s.fresh).qdm = s.qdm ∧ (s.fresh).tbs = s.tbs ∧ (s.fresh).eth0 = s.eth0 ∧
    (s.fresh).eth1 = s.eth1 ∧ (s.fresh).rtc = s.rtc ∧ (s.fresh).evr = s.evr ∧ (s.fresh).key = s.key ∧
    (s.fresh).upd = s.upd ∧ (s.fresh).usb = s.usb ∧ (s.fresh).sys = s.sys ∧ (s.fresh).flt = s.flt ∧
    (s.fresh).pin = s.pin ∧ (s.fresh).mem = s.mem ∧ (s.fresh).pending = s.pending ∧ (s.fresh).regs = s.regs := by
  refine ⟨?_, ?_, ?_, ?_, ?_, ?_, ?_, ?_, ?_, ?_, ?_, ?_, ?_, ?_, ?_, ?_, ?_, ?_, ?_, ?_, ?_, ?_, ?_, ?_⟩ <;> rfl

@[simp] theorem putAct_rest (s : State) (a : Nat) (w : PWord) :
    (s.putAct a w).cyc = s.cyc ∧ (s.putAct a w).freeCtr = s.freeCtr ∧ (s.putAct a w).str = s.str ∧
    (s.putAct a w).ltb = s.ltb ∧ (s.putAct a w).scn = s.scn ∧ (s.putAct a w).wav = s.wav ∧
    (s.putAct a w).mst = s.mst ∧ (s.putAct a w).mtr = s.mtr ∧ (s.putAct a w).acc = s.acc ∧
    (s.putAct a w).lne = s.lne ∧ (s.putAct a w).qdm = s.qdm ∧ (s.putAct a w).tbs = s.tbs ∧
    (s.putAct a w).eth0 = s.eth0 ∧ (s.putAct a w).eth1 = s.eth1 ∧ (s.putAct a w).rtc = s.rtc ∧
    (s.putAct a w).evr = s.evr ∧ (s.putAct a w).key = s.key ∧ (s.putAct a w).upd = s.upd ∧
    (s.putAct a w).usb = s.usb ∧ (s.putAct a w).sys = s.sys ∧ (s.putAct a w).flt = s.flt ∧
    (s.putAct a w).pin = s.pin ∧ (s.putAct a w).mem = s.mem ∧ (s.putAct a w).pending = s.pending ∧
    (s.putAct a w).regs.cfg = s.regs.cfg ∧ (s.putAct a w).regs.changed = s.regs.changed ∧
    (s.putAct a w).regs.stat = s.regs.stat ∧ (s.putAct a w).regs.pairs = s.regs.pairs ∧
    (s.putAct a w).regs.latch = s.regs.latch ∧ (s.putAct a w).regs.busErr = s.regs.busErr ∧
    (s.putAct a w).regs.reply = s.regs.reply ∧ (s.putAct a w).regs.partestSeen = s.regs.partestSeen := by
  refine ⟨?_, ?_, ?_, ?_, ?_, ?_, ?_, ?_, ?_, ?_, ?_, ?_, ?_, ?_, ?_, ?_, ?_, ?_, ?_, ?_, ?_, ?_, ?_, ?_, ?_, ?_, ?_, ?_, ?_, ?_, ?_, ?_⟩ <;> rfl

@[simp] theorem markChanged_rest (s : State) (a : Nat) :
    (s.markChanged a).cyc = s.cyc ∧ (s.markChanged a).freeCtr = s.freeCtr ∧ (s.markChanged a).str = s.str ∧
    (s.markChanged a).ltb = s.ltb ∧ (s.markChanged a).scn = s.scn ∧ (s.markChanged a).wav = s.wav ∧
    (s.markChanged a).mst = s.mst ∧ (s.markChanged a).mtr = s.mtr ∧ (s.markChanged a).acc = s.acc ∧
    (s.markChanged a).lne = s.lne ∧ (s.markChanged a).qdm = s.qdm ∧ (s.markChanged a).tbs = s.tbs ∧
    (s.markChanged a).eth0 = s.eth0 ∧ (s.markChanged a).eth1 = s.eth1 ∧ (s.markChanged a).rtc = s.rtc ∧
    (s.markChanged a).evr = s.evr ∧ (s.markChanged a).key = s.key ∧ (s.markChanged a).upd = s.upd ∧
    (s.markChanged a).usb = s.usb ∧ (s.markChanged a).sys = s.sys ∧ (s.markChanged a).flt = s.flt ∧
    (s.markChanged a).pin = s.pin ∧ (s.markChanged a).mem = s.mem ∧ (s.markChanged a).pending = s.pending ∧
    (s.markChanged a).regs.cfg = s.regs.cfg ∧ (s.markChanged a).regs.act = s.regs.act ∧
    (s.markChanged a).regs.stat = s.regs.stat ∧ (s.markChanged a).regs.pairs = s.regs.pairs ∧
    (s.markChanged a).regs.latch = s.regs.latch ∧ (s.markChanged a).regs.busErr = s.regs.busErr ∧
    (s.markChanged a).regs.reply = s.regs.reply ∧ (s.markChanged a).regs.partestSeen = s.regs.partestSeen := by
  refine ⟨?_, ?_, ?_, ?_, ?_, ?_, ?_, ?_, ?_, ?_, ?_, ?_, ?_, ?_, ?_, ?_, ?_, ?_, ?_, ?_, ?_, ?_, ?_, ?_, ?_, ?_, ?_, ?_, ?_, ?_, ?_, ?_⟩ <;> rfl

@[simp] theorem setLatch_rest (s : State) (a : Nat) (v : Word) :
    (s.setLatch a v).cyc = s.cyc ∧ (s.setLatch a v).freeCtr = s.freeCtr ∧ (s.setLatch a v).str = s.str ∧
    (s.setLatch a v).ltb = s.ltb ∧ (s.setLatch a v).scn = s.scn ∧ (s.setLatch a v).wav = s.wav ∧
    (s.setLatch a v).mst = s.mst ∧ (s.setLatch a v).mtr = s.mtr ∧ (s.setLatch a v).acc = s.acc ∧
    (s.setLatch a v).lne = s.lne ∧ (s.setLatch a v).qdm = s.qdm ∧ (s.setLatch a v).tbs = s.tbs ∧
    (s.setLatch a v).eth0 = s.eth0 ∧ (s.setLatch a v).eth1 = s.eth1 ∧ (s.setLatch a v).rtc = s.rtc ∧
    (s.setLatch a v).evr = s.evr ∧ (s.setLatch a v).key = s.key ∧ (s.setLatch a v).upd = s.upd ∧
    (s.setLatch a v).usb = s.usb ∧ (s.setLatch a v).sys = s.sys ∧ (s.setLatch a v).flt = s.flt ∧
    (s.setLatch a v).pin = s.pin ∧ (s.setLatch a v).mem = s.mem ∧ (s.setLatch a v).pending = s.pending ∧
    (s.setLatch a v).regs.cfg = s.regs.cfg ∧ (s.setLatch a v).regs.act = s.regs.act ∧
    (s.setLatch a v).regs.changed = s.regs.changed ∧ (s.setLatch a v).regs.stat = s.regs.stat ∧
    (s.setLatch a v).regs.pairs = s.regs.pairs ∧ (s.setLatch a v).regs.busErr = s.regs.busErr ∧
    (s.setLatch a v).regs.reply = s.regs.reply ∧ (s.setLatch a v).regs.partestSeen = s.regs.partestSeen := by
  refine ⟨?_, ?_, ?_, ?_, ?_, ?_, ?_, ?_, ?_, ?_, ?_, ?_, ?_, ?_, ?_, ?_, ?_, ?_, ?_, ?_, ?_, ?_, ?_, ?_, ?_, ?_, ?_, ?_, ?_, ?_, ?_, ?_⟩ <;> rfl

@[simp] theorem answer_rest (s : State) (v : Word) (err : Bool) :
    (s.answer v err).cyc = s.cyc ∧ (s.answer v err).freeCtr = s.freeCtr ∧ (s.answer v err).str = s.str ∧
    (s.answer v err).ltb = s.ltb ∧ (s.answer v err).scn = s.scn ∧ (s.answer v err).wav = s.wav ∧
    (s.answer v err).mst = s.mst ∧ (s.answer v err).mtr = s.mtr ∧ (s.answer v err).acc = s.acc ∧
    (s.answer v err).lne = s.lne ∧ (s.answer v err).qdm = s.qdm ∧ (s.answer v err).tbs = s.tbs ∧
    (s.answer v err).eth0 = s.eth0 ∧ (s.answer v err).eth1 = s.eth1 ∧ (s.answer v err).rtc = s.rtc ∧
    (s.answer v err).evr = s.evr ∧ (s.answer v err).key = s.key ∧ (s.answer v err).upd = s.upd ∧
    (s.answer v err).usb = s.usb ∧ (s.answer v err).sys = s.sys ∧ (s.answer v err).flt = s.flt ∧
    (s.answer v err).pin = s.pin ∧ (s.answer v err).mem = s.mem ∧ (s.answer v err).pending = s.pending ∧
    (s.answer v err).regs.cfg = s.regs.cfg ∧ (s.answer v err).regs.act = s.regs.act ∧
    (s.answer v err).regs.changed = s.regs.changed ∧ (s.answer v err).regs.stat = s.regs.stat ∧
    (s.answer v err).regs.pairs = s.regs.pairs ∧ (s.answer v err).regs.latch = s.regs.latch ∧
    (s.answer v err).regs.busErr = s.regs.busErr ∧ (s.answer v err).regs.partestSeen = s.regs.partestSeen := by
  refine ⟨?_, ?_, ?_, ?_, ?_, ?_, ?_, ?_, ?_, ?_, ?_, ?_, ?_, ?_, ?_, ?_, ?_, ?_, ?_, ?_, ?_, ?_, ?_, ?_, ?_, ?_, ?_, ?_, ?_, ?_, ?_, ?_⟩ <;> rfl

@[simp] theorem answerHi_rest (s : State) (v : Word) :
    (s.answerHi v).cyc = s.cyc ∧ (s.answerHi v).freeCtr = s.freeCtr ∧ (s.answerHi v).str = s.str ∧
    (s.answerHi v).ltb = s.ltb ∧ (s.answerHi v).scn = s.scn ∧ (s.answerHi v).wav = s.wav ∧
    (s.answerHi v).mst = s.mst ∧ (s.answerHi v).mtr = s.mtr ∧ (s.answerHi v).acc = s.acc ∧
    (s.answerHi v).lne = s.lne ∧ (s.answerHi v).qdm = s.qdm ∧ (s.answerHi v).tbs = s.tbs ∧
    (s.answerHi v).eth0 = s.eth0 ∧ (s.answerHi v).eth1 = s.eth1 ∧ (s.answerHi v).rtc = s.rtc ∧
    (s.answerHi v).evr = s.evr ∧ (s.answerHi v).key = s.key ∧ (s.answerHi v).upd = s.upd ∧
    (s.answerHi v).usb = s.usb ∧ (s.answerHi v).sys = s.sys ∧ (s.answerHi v).flt = s.flt ∧
    (s.answerHi v).pin = s.pin ∧ (s.answerHi v).mem = s.mem ∧ (s.answerHi v).pending = s.pending ∧
    (s.answerHi v).regs.cfg = s.regs.cfg ∧ (s.answerHi v).regs.act = s.regs.act ∧
    (s.answerHi v).regs.changed = s.regs.changed ∧ (s.answerHi v).regs.stat = s.regs.stat ∧
    (s.answerHi v).regs.pairs = s.regs.pairs ∧ (s.answerHi v).regs.latch = s.regs.latch ∧
    (s.answerHi v).regs.busErr = s.regs.busErr ∧ (s.answerHi v).regs.partestSeen = s.regs.partestSeen := by
  refine ⟨?_, ?_, ?_, ?_, ?_, ?_, ?_, ?_, ?_, ?_, ?_, ?_, ?_, ?_, ?_, ?_, ?_, ?_, ?_, ?_, ?_, ?_, ?_, ?_, ?_, ?_, ?_, ?_, ?_, ?_, ?_, ?_⟩ <;> rfl

@[simp] theorem raiseReset_rest (s : State) (n : Nat) :
    (s.raiseReset n).cyc = s.cyc ∧ (s.raiseReset n).freeCtr = s.freeCtr ∧ (s.raiseReset n).str = s.str ∧
    (s.raiseReset n).ltb = s.ltb ∧ (s.raiseReset n).scn = s.scn ∧ (s.raiseReset n).wav = s.wav ∧
    (s.raiseReset n).mst = s.mst ∧ (s.raiseReset n).mtr = s.mtr ∧ (s.raiseReset n).acc = s.acc ∧
    (s.raiseReset n).lne = s.lne ∧ (s.raiseReset n).qdm = s.qdm ∧ (s.raiseReset n).tbs = s.tbs ∧
    (s.raiseReset n).eth0 = s.eth0 ∧ (s.raiseReset n).eth1 = s.eth1 ∧ (s.raiseReset n).rtc = s.rtc ∧
    (s.raiseReset n).evr = s.evr ∧ (s.raiseReset n).key = s.key ∧ (s.raiseReset n).upd = s.upd ∧
    (s.raiseReset n).usb = s.usb ∧ (s.raiseReset n).flt = s.flt ∧ (s.raiseReset n).pin = s.pin ∧
    (s.raiseReset n).mem = s.mem ∧ (s.raiseReset n).pending = s.pending ∧ (s.raiseReset n).regs = s.regs := by
  refine ⟨?_, ?_, ?_, ?_, ?_, ?_, ?_, ?_, ?_, ?_, ?_, ?_, ?_, ?_, ?_, ?_, ?_, ?_, ?_, ?_, ?_, ?_, ?_, ?_⟩ <;> rfl

@[simp] theorem setHandle_rest (s : State) (typ : Nat) (idx : Nat) (h0 : Handle) :
    (s.setHandle typ idx h0).cyc = s.cyc ∧ (s.setHandle typ idx h0).freeCtr = s.freeCtr ∧
    (s.setHandle typ idx h0).ltb = s.ltb ∧ (s.setHandle typ idx h0).scn = s.scn ∧
    (s.setHandle typ idx h0).wav = s.wav ∧ (s.setHandle typ idx h0).mst = s.mst ∧
    (s.setHandle typ idx h0).mtr = s.mtr ∧ (s.setHandle typ idx h0).acc = s.acc ∧
    (s.setHandle typ idx h0).lne = s.lne ∧ (s.setHandle typ idx h0).qdm = s.qdm ∧
    (s.setHandle typ idx h0).tbs = s.tbs ∧ (s.setHandle typ idx h0).eth0 = s.eth0 ∧
    (s.setHandle typ idx h0).eth1 = s.eth1 ∧ (s.setHandle typ idx h0).rtc = s.rtc ∧
    (s.setHandle typ idx h0).evr = s.evr ∧ (s.setHandle typ idx h0).key = s.key ∧
    (s.setHandle typ idx h0).upd = s.upd ∧ (s.setHandle typ idx h0).usb = s.usb ∧
    (s.setHandle typ idx h0).sys = s.sys ∧ (s.setHandle typ idx h0).flt = s.flt ∧
    (s.setHandle typ idx h0).pin = s.pin ∧ (s.setHandle typ idx h0).mem = s.mem ∧
    (s.setHandle typ idx h0).pending = s.pending ∧ (s.setHandle typ idx h0).regs = s.regs := by
  refine ⟨?_, ?_, ?_, ?_, ?_, ?_, ?_, ?_, ?_, ?_, ?_, ?_, ?_, ?_, ?_, ?_, ?_, ?_, ?_, ?_, ?_, ?_, ?_, ?_⟩ <;> rfl

@[simp] theorem setLane_rest (s : State) (n : Nat) (f : Lane → Lane) :
    (s.setLane n f).cyc = s.cyc ∧ (s.setLane n f).freeCtr = s.freeCtr ∧ (s.setLane n f).str = s.str ∧
    (s.setLane n f).ltb = s.ltb ∧ (s.setLane n f).scn = s.scn ∧ (s.setLane n f).wav = s.wav ∧
    (s.setLane n f).mst = s.mst ∧ (s.setLane n f).mtr = s.mtr ∧ (s.setLane n f).acc = s.acc ∧
    (s.setLane n f).qdm = s.qdm ∧ (s.setLane n f).tbs = s.tbs ∧ (s.setLane n f).eth0 = s.eth0 ∧
    (s.setLane n f).eth1 = s.eth1 ∧ (s.setLane n f).rtc = s.rtc ∧ (s.setLane n f).evr = s.evr ∧
    (s.setLane n f).key = s.key ∧ (s.setLane n f).upd = s.upd ∧ (s.setLane n f).usb = s.usb ∧
    (s.setLane n f).sys = s.sys ∧ (s.setLane n f).flt = s.flt ∧ (s.setLane n f).pin = s.pin ∧
    (s.setLane n f).mem = s.mem ∧ (s.setLane n f).pending = s.pending ∧ (s.setLane n f).regs = s.regs := by
  refine ⟨?_, ?_, ?_, ?_, ?_, ?_, ?_, ?_, ?_, ?_, ?_, ?_, ?_, ?_, ?_, ?_, ?_, ?_, ?_, ?_, ?_, ?_, ?_, ?_⟩ <;> rfl

@[simp] theorem recStore_rest (s : State) (e : RecEntry) :
    (s.recStore e).cyc = s.cyc ∧ (s.recStore e).freeCtr = s.freeCtr ∧ (s.recStore e).str = s.str ∧
    (s.recStore e).ltb = s.ltb ∧ (s.recStore e).scn = s.scn ∧ (s.recStore e).wav = s.wav ∧
    (s.recStore e).mst = s.mst ∧ (s.recStore e).mtr = s.mtr ∧ (s.recStore e).acc = s.acc ∧
    (s.recStore e).lne = s.lne ∧ (s.recStore e).qdm = s.qdm ∧ (s.recStore e).tbs = s.tbs ∧
    (s.recStore e).eth0 = s.eth0 ∧ (s.recStore e).eth1 = s.eth1 ∧ (s.recStore e).rtc = s.rtc ∧
    (s.recStore e).key = s.key ∧ (s.recStore e).upd = s.upd ∧ (s.recStore e).usb = s.usb ∧
    (s.recStore e).sys = s.sys ∧ (s.recStore e).flt = s.flt ∧ (s.recStore e).pin = s.pin ∧
    (s.recStore e).mem = s.mem ∧ (s.recStore e).pending = s.pending ∧ (s.recStore e).regs = s.regs := by
  refine ⟨?_, ?_, ?_, ?_, ?_, ?_, ?_, ?_, ?_, ?_, ?_, ?_, ?_, ?_, ?_, ?_, ?_, ?_, ?_, ?_, ?_, ?_, ?_, ?_⟩ <;> rfl

@[simp] theorem setMile_rest (s : State) (m : Nat) (f : Milestone → Milestone) :
    (s.setMile m f).cyc = s.cyc ∧ (s.setMile m f).freeCtr = s.freeCtr ∧ (s.setMile m f).str = s.str ∧
    (s.setMile m f).ltb = s.ltb ∧ (s.setMile m f).scn = s.scn ∧ (s.setMile m f).wav = s.wav ∧
    (s.setMile m f).mst = s.mst ∧ (s.setMile m f).mtr = s.mtr ∧ (s.setMile m f).acc = s.acc ∧
    (s.setMile m f).lne = s.lne ∧ (s.setMile m f).qdm = s.qdm ∧ (s.setMile m f).eth0 = s.eth0 ∧
    (s.setMile m f).eth1 = s.eth1 ∧ (s.setMile m f).rtc = s.rtc ∧ (s.setMile m f).evr = s.evr ∧
    (s.setMile m f).key = s.key ∧ (s.setMile m f).upd = s.upd ∧ (s.setMile m f).usb = s.usb ∧
    (s.setMile m f).sys = s.sys ∧ (s.setMile m f).flt = s.flt ∧ (s.setMile m f).pin = s.pin ∧
    (s.setMile m f).mem = s.mem ∧ (s.setMile m f).pending = s.pending ∧ (s.setMile m f).regs = s.regs := by
  refine ⟨?_, ?_, ?_, ?_, ?_, ?_, ?_, ?_, ?_, ?_, ?_, ?_, ?_, ?_, ?_, ?_, ?_, ?_, ?_, ?_, ?_, ?_, ?_, ?_⟩ <;> rfl

@[simp] theorem setTsq_rest (s : State) (k : Nat) (f : Tsq → Tsq) :
    (s.setTsq k f).cyc = s.cyc ∧ (s.setTsq k f).freeCtr = s.freeCtr ∧ (s.setTsq k f).str = s.str ∧
    (s.setTsq k f).ltb = s.ltb ∧ (s.setTsq k f).scn = s.scn ∧ (s.setTsq k f).wav = s.wav ∧
    (s.setTsq k f).mst = s.mst ∧ (s.setTsq k f).mtr = s.mtr ∧ (s.setTsq k f).acc = s.acc ∧
    (s.setTsq k f).lne = s.lne ∧ (s.setTsq k f).qdm = s.qdm ∧ (s.setTsq k f).eth0 = s.eth0 ∧
    (s.setTsq k f).eth1 = s.eth1 ∧ (s.setTsq k f).rtc = s.rtc ∧ (s.setTsq k f).evr = s.evr ∧
    (s.setTsq k f).key = s.key ∧ (s.setTsq k f).upd = s.upd ∧ (s.setTsq k f).usb = s.usb ∧
    (s.setTsq k f).sys = s.sys ∧ (s.setTsq k f).flt = s.flt ∧ (s.setTsq k f).pin = s.pin ∧
    (s.setTsq k f).mem = s.mem ∧ (s.setTsq k f).pending = s.pending ∧ (s.setTsq k f).regs = s.regs := by
  refine ⟨?_, ?_, ?_, ?_, ?_, ?_, ?_, ?_, ?_, ?_, ?_, ?_, ?_, ?_, ?_, ?_, ?_, ?_, ?_, ?_, ?_, ?_, ?_, ?_⟩ <;> rfl

@[simp] theorem setScnEntry_rest (s : State) (n : Nat) (f : ScnEntry → ScnEntry) :
    (s.setScnEntry n f).cyc = s.cyc ∧ (s.setScnEntry n f).freeCtr = s.freeCtr ∧ (s.setScnEntry n f).str = s.str ∧
    (s.setScnEntry n f).ltb = s.ltb ∧ (s.setScnEntry n f).wav = s.wav ∧ (s.setScnEntry n f).mst = s.mst ∧
    (s.setScnEntry n f).mtr = s.mtr ∧ (s.setScnEntry n f).acc = s.acc ∧ (s.setScnEntry n f).lne = s.lne ∧
    (s.setScnEntry n f).qdm = s.qdm ∧ (s.setScnEntry n f).tbs = s.tbs ∧ (s.setScnEntry n f).eth0 = s.eth0 ∧
    (s.setScnEntry n f).eth1 = s.eth1 ∧ (s.setScnEntry n f).rtc = s.rtc ∧ (s.setScnEntry n f).evr = s.evr ∧
    (s.setScnEntry n f).key = s.key ∧ (s.setScnEntry n f).upd = s.upd ∧ (s.setScnEntry n f).usb = s.usb ∧
    (s.setScnEntry n f).sys = s.sys ∧ (s.setScnEntry n f).flt = s.flt ∧ (s.setScnEntry n f).pin = s.pin ∧
    (s.setScnEntry n f).mem = s.mem ∧ (s.setScnEntry n f).pending = s.pending ∧ (s.setScnEntry n f).regs = s.regs := by
  refine ⟨?_, ?_, ?_, ?_, ?_, ?_, ?_, ?_, ?_, ?_, ?_, ?_, ?_, ?_, ?_, ?_, ?_, ?_, ?_, ?_, ?_, ?_, ?_, ?_⟩ <;> rfl

@[simp] theorem accAdd_rest (s : State) (f : Nat) (e : Nat) (k : Nat) (n : Nat) :
    (s.accAdd f e k n).cyc = s.cyc ∧ (s.accAdd f e k n).freeCtr = s.freeCtr ∧ (s.accAdd f e k n).str = s.str ∧
    (s.accAdd f e k n).ltb = s.ltb ∧ (s.accAdd f e k n).scn = s.scn ∧ (s.accAdd f e k n).wav = s.wav ∧
    (s.accAdd f e k n).mst = s.mst ∧ (s.accAdd f e k n).mtr = s.mtr ∧ (s.accAdd f e k n).lne = s.lne ∧
    (s.accAdd f e k n).qdm = s.qdm ∧ (s.accAdd f e k n).tbs = s.tbs ∧ (s.accAdd f e k n).eth0 = s.eth0 ∧
    (s.accAdd f e k n).eth1 = s.eth1 ∧ (s.accAdd f e k n).rtc = s.rtc ∧ (s.accAdd f e k n).evr = s.evr ∧
    (s.accAdd f e k n).key = s.key ∧ (s.accAdd f e k n).upd = s.upd ∧ (s.accAdd f e k n).usb = s.usb ∧
    (s.accAdd f e k n).sys = s.sys ∧ (s.accAdd f e k n).flt = s.flt ∧ (s.accAdd f e k n).pin = s.pin ∧
    (s.accAdd f e k n).mem = s.mem ∧ (s.accAdd f e k n).pending = s.pending ∧ (s.accAdd f e k n).regs = s.regs := by
  refine ⟨?_, ?_, ?_, ?_, ?_, ?_, ?_, ?_, ?_, ?_, ?_, ?_, ?_, ?_, ?_, ?_, ?_, ?_, ?_, ?_, ?_, ?_, ?_, ?_⟩ <;> rfl

@[simp] theorem setIv_rest (s : State) (f : Nat) (g : FeedIv → FeedIv) :
    (s.setIv f g).cyc = s.cyc ∧ (s.setIv f g).freeCtr = s.freeCtr ∧ (s.setIv f g).str = s.str ∧
    (s.setIv f g).ltb = s.ltb ∧ (s.setIv f g).scn = s.scn ∧ (s.setIv f g).wav = s.wav ∧ (s.setIv f g).mst = s.mst ∧
    (s.setIv f g).mtr = s.mtr ∧ (s.setIv f g).lne = s.lne ∧ (s.setIv f g).qdm = s.qdm ∧ (s.setIv f g).tbs = s.tbs ∧
    (s.setIv f g).eth0 = s.eth0 ∧ (s.setIv f g).eth1 = s.eth1 ∧ (s.setIv f g).rtc = s.rtc ∧
    (s.setIv f g).evr = s.evr ∧ (s.setIv f g).key = s.key ∧ (s.setIv f g).upd = s.upd ∧ (s.setIv f g).usb = s.usb ∧
    (s.setIv f g).sys = s.sys ∧ (s.setIv f g).flt = s.flt ∧ (s.setIv f g).pin = s.pin ∧ (s.setIv f g).mem = s.mem ∧
    (s.setIv f g).pending = s.pending ∧ (s.setIv f g).regs = s.regs := by
  refine ⟨?_, ?_, ?_, ?_, ?_, ?_, ?_, ?_, ?_, ?_, ?_, ?_, ?_, ?_, ?_, ?_, ?_, ?_, ?_, ?_, ?_, ?_, ?_, ?_⟩ <;> rfl

@[simp] theorem setPulse_rest (s : State) (n : Nat) (g : PulseOut → PulseOut) :
    (s.setPulse n g).cyc = s.cyc ∧ (s.setPulse n g).freeCtr = s.freeCtr ∧ (s.setPulse n g).str = s.str ∧
    (s.setPulse n g).ltb = s.ltb ∧ (s.setPulse n g).scn = s.scn ∧ (s.setPulse n g).wav = s.wav ∧
    (s.setPulse n g).mst = s.mst ∧ (s.setPulse n g).mtr = s.mtr ∧ (s.setPulse n g).lne = s.lne ∧
    (s.setPulse n g).qdm = s.qdm ∧ (s.setPulse n g).tbs = s.tbs ∧ (s.setPulse n g).eth0 = s.eth0 ∧
    (s.setPulse n g).eth1 = s.eth1 ∧ (s.setPulse n g).rtc = s.rtc ∧ (s.setPulse n g).evr = s.evr ∧
    (s.setPulse n g).key = s.key ∧ (s.setPulse n g).upd = s.upd ∧ (s.setPulse n g).usb = s.usb ∧
    (s.setPulse n g).sys = s.sys ∧ (s.setPulse n g).flt = s.flt ∧ (s.setPulse n g).pin = s.pin ∧
    (s.setPulse n g).mem = s.mem ∧ (s.setPulse n g).pending = s.pending ∧ (s.setPulse n g).regs = s.regs := by
  refine ⟨?_, ?_, ?_, ?_, ?_, ?_, ?_, ?_, ?_, ?_, ?_, ?_, ?_, ?_, ?_, ?_, ?_, ?_, ?_, ?_, ?_, ?_, ?_, ?_⟩ <;> rfl

@[simp] theorem setChan_rest (s : State) (n : Nat) (f : Chan → Chan) :
    (s.setChan n f).cyc = s.cyc ∧ (s.setChan n f).freeCtr = s.freeCtr ∧ (s.setChan n f).str = s.str ∧
    (s.setChan n f).ltb = s.ltb ∧ (s.setChan n f).scn = s.scn ∧ (s.setChan n f).wav = s.wav ∧
    (s.setChan n f).mst = s.mst ∧ (s.setChan n f).acc = s.acc ∧ (s.setChan n f).lne = s.lne ∧
    (s.setChan n f).qdm = s.qdm ∧ (s.setChan n f).tbs = s.tbs ∧ (s.setChan n f).eth0 = s.eth0 ∧
    (s.setChan n f).eth1 = s.eth1 ∧ (s.setChan n f).rtc = s.rtc ∧ (s.setChan n f).evr = s.evr ∧
    (s.setChan n f).key = s.key ∧ (s.setChan n f).upd = s.upd ∧ (s.setChan n f).usb = s.usb ∧
    (s.setChan n f).sys = s.sys ∧ (s.setChan n f).flt = s.flt ∧ (s.setChan n f).pin = s.pin ∧
    (s.setChan n f).mem = s.mem ∧ (s.setChan n f).pending = s.pending ∧ (s.setChan n f).regs = s.regs := by
  refine ⟨?_, ?_, ?_, ?_, ?_, ?_, ?_, ?_, ?_, ?_, ?_, ?_, ?_, ?_, ?_, ?_, ?_, ?_, ?_, ?_, ?_, ?_, ?_, ?_⟩ <;> rfl

@[simp] theorem setFeed_rest (s : State) (f : Nat) (g : FeedCyc → FeedCyc) :
    (s.setFeed f g).cyc = s.cyc ∧ (s.setFeed f g).freeCtr = s.freeCtr ∧ (s.setFeed f g).str = s.str ∧
    (s.setFeed f g).ltb = s.ltb ∧ (s.setFeed f g).scn = s.scn ∧ (s.setFeed f g).wav = s.wav ∧
    (s.setFeed f g).mst = s.mst ∧ (s.setFeed f g).acc = s.acc ∧ (s.setFeed f g).lne = s.lne ∧
    (s.setFeed f g).qdm = s.qdm ∧ (s.setFeed f g).tbs = s.tbs ∧ (s.setFeed f g).eth0 = s.eth0 ∧
    (s.setFeed f g).eth1 = s.eth1 ∧ (s.setFeed f g).rtc = s.rtc ∧ (s.setFeed f g).evr = s.evr ∧
    (s.setFeed f g).key = s.key ∧ (s.setFeed f g).upd = s.upd ∧ (s.setFeed f g).usb = s.usb ∧
    (s.setFeed f g).sys = s.sys ∧ (s.setFeed f g).flt = s.flt ∧ (s.setFeed f g).pin = s.pin ∧
    (s.setFeed f g).mem = s.mem ∧ (s.setFeed f g).pending = s.pending ∧ (s.setFeed f g).regs = s.regs := by
  refine ⟨?_, ?_, ?_, ?_, ?_, ?_, ?_, ?_, ?_, ?_, ?_, ?_, ?_, ?_, ?_, ?_, ?_, ?_, ?_, ?_, ?_, ?_, ?_, ?_⟩ <;> rfl

@[simp] theorem writerStart_rest (s : State) (e : RecEntry) :
    (s.writerStart e).cyc = s.cyc ∧ (s.writerStart e).freeCtr = s.freeCtr ∧ (s.writerStart e).str = s.str ∧
    (s.writerStart e).ltb = s.ltb ∧ (s.writerStart e).scn = s.scn ∧ (s.writerStart e).wav = s.wav ∧
    (s.writerStart e).mst = s.mst ∧ (s.writerStart e).mtr = s.mtr ∧ (s.writerStart e).acc = s.acc ∧
    (s.writerStart e).lne = s.lne ∧ (s.writerStart e).qdm = s.qdm ∧ (s.writerStart e).tbs = s.tbs ∧
    (s.writerStart e).eth0 = s.eth0 ∧ (s.writerStart e).eth1 = s.eth1 ∧ (s.writerStart e).rtc = s.rtc ∧
    (s.writerStart e).key = s.key ∧ (s.writerStart e).upd = s.upd ∧ (s.writerStart e).usb = s.usb ∧
    (s.writerStart e).sys = s.sys ∧ (s.writerStart e).flt = s.flt ∧ (s.writerStart e).pin = s.pin ∧
    (s.writerStart e).mem = s.mem ∧ (s.writerStart e).pending = s.pending ∧ (s.writerStart e).regs = s.regs := by
  refine ⟨?_, ?_, ?_, ?_, ?_, ?_, ?_, ?_, ?_, ?_, ?_, ?_, ?_, ?_, ?_, ?_, ?_, ?_, ?_, ?_, ?_, ?_, ?_, ?_⟩ <;> rfl

@[simp] theorem recDiscard_rest (s : State) :
    (s.recDiscard).cyc = s.cyc ∧ (s.recDiscard).freeCtr = s.freeCtr ∧ (s.recDiscard).str = s.str ∧
    (s.recDiscard).ltb = s.ltb ∧ (s.recDiscard).scn = s.scn ∧ (s.recDiscard).wav = s.wav ∧
    (s.recDiscard).mst = s.mst ∧ (s.recDiscard).mtr = s.mtr ∧ (s.recDiscard).acc = s.acc ∧
    (s.recDiscard).lne = s.lne ∧ (s.recDiscard).qdm = s.qdm ∧ (s.recDiscard).tbs = s.tbs ∧
    (s.recDiscard).eth0 = s.eth0 ∧ (s.recDiscard).eth1 = s.eth1 ∧ (s.recDiscard).rtc = s.rtc ∧
    (s.recDiscard).key = s.key ∧ (s.recDiscard).upd = s.upd ∧ (s.recDiscard).usb = s.usb ∧
    (s.recDiscard).sys = s.sys ∧ (s.recDiscard).flt = s.flt ∧ (s.recDiscard).pin = s.pin ∧
    (s.recDiscard).mem = s.mem ∧ (s.recDiscard).pending = s.pending ∧ (s.recDiscard).regs = s.regs := by
  refine ⟨?_, ?_, ?_, ?_, ?_, ?_, ?_, ?_, ?_, ?_, ?_, ?_, ?_, ?_, ?_, ?_, ?_, ?_, ?_, ?_, ?_, ?_, ?_, ?_⟩ <;> rfl

@[simp] theorem recClear_rest (s : State) :
    (s.recClear).cyc = s.cyc ∧ (s.recClear).freeCtr = s.freeCtr ∧ (s.recClear).str = s.str ∧
    (s.recClear).ltb = s.ltb ∧ (s.recClear).scn = s.scn ∧ (s.recClear).wav = s.wav ∧ (s.recClear).mst = s.mst ∧
    (s.recClear).mtr = s.mtr ∧ (s.recClear).acc = s.acc ∧ (s.recClear).lne = s.lne ∧ (s.recClear).qdm = s.qdm ∧
    (s.recClear).tbs = s.tbs ∧ (s.recClear).eth0 = s.eth0 ∧ (s.recClear).eth1 = s.eth1 ∧ (s.recClear).rtc = s.rtc ∧
    (s.recClear).key = s.key ∧ (s.recClear).upd = s.upd ∧ (s.recClear).usb = s.usb ∧ (s.recClear).sys = s.sys ∧
    (s.recClear).flt = s.flt ∧ (s.recClear).pin = s.pin ∧ (s.recClear).mem = s.mem ∧
    (s.recClear).pending = s.pending ∧ (s.recClear).regs = s.regs := by
  refine ⟨?_, ?_, ?_, ?_, ?_, ?_, ?_, ?_, ?_, ?_, ?_, ?_, ?_, ?_, ?_, ?_, ?_, ?_, ?_, ?_, ?_, ?_, ?_, ?_⟩ <;> rfl

@[simp] theorem wakeNote_rest (s : State) (src : Nat) (d : Word) (t : Word) :
    (s.wakeNote src d t).cyc = s.cyc ∧ (s.wakeNote src d t).freeCtr = s.freeCtr ∧ (s.wakeNote src d t).str = s.str ∧
    (s.wakeNote src d t).ltb = s.ltb ∧ (s.wakeNote src d t).scn = s.scn ∧ (s.wakeNote src d t).wav = s.wav ∧
    (s.wakeNote src d t).mst = s.mst ∧ (s.wakeNote src d t).mtr = s.mtr ∧ (s.wakeNote src d t).acc = s.acc ∧
    (s.wakeNote src d t).lne = s.lne ∧ (s.wakeNote src d t).qdm = s.qdm ∧ (s.wakeNote src d t).tbs = s.tbs ∧
    (s.wakeNote src d t).eth0 = s.eth0 ∧ (s.wakeNote src d t).eth1 = s.eth1 ∧ (s.wakeNote src d t).evr = s.evr ∧
    (s.wakeNote src d t).key = s.key ∧ (s.wakeNote src d t).upd = s.upd ∧ (s.wakeNote src d t).usb = s.usb ∧
    (s.wakeNote src d t).sys = s.sys ∧ (s.wakeNote src d t).flt = s.flt ∧ (s.wakeNote src d t).pin = s.pin ∧
    (s.wakeNote src d t).mem = s.mem ∧ (s.wakeNote src d t).pending = s.pending ∧ (s.wakeNote src d t).regs = s.regs := by
  refine ⟨?_, ?_, ?_, ?_, ?_, ?_, ?_, ?_, ?_, ?_, ?_, ?_, ?_, ?_, ?_, ?_, ?_, ?_, ?_, ?_, ?_, ?_, ?_, ?_⟩ <;> rfl

@[simp] theorem setRsByte_rest (s : State) (off : Nat) (b : Byte) :
    (s.setRsByte off b).cyc = s.cyc ∧ (s.setRsByte off b).freeCtr = s.freeCtr ∧ (s.setRsByte off b).str = s.str ∧
    (s.setRsByte off b).ltb = s.ltb ∧ (s.setRsByte off b).scn = s.scn ∧ (s.setRsByte off b).wav = s.wav ∧
    (s.setRsByte off b).mst = s.mst ∧ (s.setRsByte off b).mtr = s.mtr ∧ (s.setRsByte off b).acc = s.acc ∧
    (s.setRsByte off b).lne = s.lne ∧ (s.setRsByte off b).qdm = s.qdm ∧ (s.setRsByte off b).tbs = s.tbs ∧
    (s.setRsByte off b).eth0 = s.eth0 ∧ (s.setRsByte off b).eth1 = s.eth1 ∧ (s.setRsByte off b).evr = s.evr ∧
    (s.setRsByte off b).key = s.key ∧ (s.setRsByte off b).upd = s.upd ∧ (s.setRsByte off b).usb = s.usb ∧
    (s.setRsByte off b).sys = s.sys ∧ (s.setRsByte off b).flt = s.flt ∧ (s.setRsByte off b).pin = s.pin ∧
    (s.setRsByte off b).mem = s.mem ∧ (s.setRsByte off b).pending = s.pending ∧ (s.setRsByte off b).regs = s.regs := by
  refine ⟨?_, ?_, ?_, ?_, ?_, ?_, ?_, ?_, ?_, ?_, ?_, ?_, ?_, ?_, ?_, ?_, ?_, ?_, ?_, ?_, ?_, ?_, ?_, ?_⟩ <;> rfl

@[simp] theorem setSink_rest (s : State) (c : Nat) (f : Sink → Sink) :
    (s.setSink c f).cyc = s.cyc ∧ (s.setSink c f).freeCtr = s.freeCtr ∧ (s.setSink c f).str = s.str ∧
    (s.setSink c f).ltb = s.ltb ∧ (s.setSink c f).scn = s.scn ∧ (s.setSink c f).wav = s.wav ∧
    (s.setSink c f).mtr = s.mtr ∧ (s.setSink c f).acc = s.acc ∧ (s.setSink c f).lne = s.lne ∧
    (s.setSink c f).qdm = s.qdm ∧ (s.setSink c f).tbs = s.tbs ∧ (s.setSink c f).eth0 = s.eth0 ∧
    (s.setSink c f).eth1 = s.eth1 ∧ (s.setSink c f).rtc = s.rtc ∧ (s.setSink c f).evr = s.evr ∧
    (s.setSink c f).key = s.key ∧ (s.setSink c f).upd = s.upd ∧ (s.setSink c f).usb = s.usb ∧
    (s.setSink c f).sys = s.sys ∧ (s.setSink c f).flt = s.flt ∧ (s.setSink c f).pin = s.pin ∧
    (s.setSink c f).mem = s.mem ∧ (s.setSink c f).pending = s.pending ∧ (s.setSink c f).regs = s.regs := by
  refine ⟨?_, ?_, ?_, ?_, ?_, ?_, ?_, ?_, ?_, ?_, ?_, ?_, ?_, ?_, ?_, ?_, ?_, ?_, ?_, ?_, ?_, ?_, ?_, ?_⟩ <;> rfl

@[simp] theorem setGroup_rest (s : State) (g : Nat) (f : Group → Group) :
    (s.setGroup g f).cyc = s.cyc ∧ (s.setGroup g f).freeCtr = s.freeCtr ∧ (s.setGroup g f).str = s.str ∧
    (s.setGroup g f).ltb = s.ltb ∧ (s.setGroup g f).scn = s.scn ∧ (s.setGroup g f).wav = s.wav ∧
    (s.setGroup g f).mtr = s.mtr ∧ (s.setGroup g f).acc = s.acc ∧ (s.setGroup g f).lne = s.lne ∧
    (s.setGroup g f).qdm = s.qdm ∧ (s.setGroup g f).tbs = s.tbs ∧ (s.setGroup g f).eth0 = s.eth0 ∧
    (s.setGroup g f).eth1 = s.eth1 ∧ (s.setGroup g f).rtc = s.rtc ∧ (s.setGroup g f).evr = s.evr ∧
    (s.setGroup g f).key = s.key ∧ (s.setGroup g f).upd = s.upd ∧ (s.setGroup g f).usb = s.usb ∧
    (s.setGroup g f).sys = s.sys ∧ (s.setGroup g f).flt = s.flt ∧ (s.setGroup g f).pin = s.pin ∧
    (s.setGroup g f).mem = s.mem ∧ (s.setGroup g f).pending = s.pending ∧ (s.setGroup g f).regs = s.regs := by
  refine ⟨?_, ?_, ?_, ?_, ?_, ?_, ?_, ?_, ?_, ?_, ?_, ?_, ?_, ?_, ?_, ?_, ?_, ?_, ?_, ?_, ?_, ?_, ?_, ?_⟩ <;> rfl

@[simp] theorem setHead_rest (s : State) (h0 : Nat) (f : Head → Head) :
    (s.setHead h0 f).cyc = s.cyc ∧ (s.setHead h0 f).freeCtr = s.freeCtr ∧ (s.setHead h0 f).str = s.str ∧
    (s.setHead h0 f).ltb = s.ltb ∧ (s.setHead h0 f).scn = s.scn ∧ (s.setHead h0 f).wav = s.wav ∧
    (s.setHead h0 f).mtr = s.mtr ∧ (s.setHead h0 f).acc = s.acc ∧ (s.setHead h0 f).lne = s.lne ∧
    (s.setHead h0 f).qdm = s.qdm ∧ (s.setHead h0 f).tbs = s.tbs ∧ (s.setHead h0 f).eth0 = s.eth0 ∧
    (s.setHead h0 f).eth1 = s.eth1 ∧ (s.setHead h0 f).rtc = s.rtc ∧ (s.setHead h0 f).evr = s.evr ∧
    (s.setHead h0 f).key = s.key ∧ (s.setHead h0 f).upd = s.upd ∧ (s.setHead h0 f).usb = s.usb ∧
    (s.setHead h0 f).sys = s.sys ∧ (s.setHead h0 f).flt = s.flt ∧ (s.setHead h0 f).pin = s.pin ∧
    (s.setHead h0 f).mem = s.mem ∧ (s.setHead h0 f).pending = s.pending ∧ (s.setHead h0 f).regs = s.regs := by
  refine ⟨?_, ?_, ?_, ?_, ?_, ?_, ?_, ?_, ?_, ?_, ?_, ?_, ?_, ?_, ?_, ?_, ?_, ?_, ?_, ?_, ?_, ?_, ?_, ?_⟩ <;> rfl

@[simp] theorem spareBad_rest (s : State) :
    (s.spareBad).cyc = s.cyc ∧ (s.spareBad).freeCtr = s.freeCtr ∧ (s.spareBad).str = s.str ∧
    (s.spareBad).ltb = s.ltb ∧ (s.spareBad).scn = s.scn ∧ (s.spareBad).wav = s.wav ∧ (s.spareBad).mst = s.mst ∧
    (s.spareBad).acc = s.acc ∧ (s.spareBad).lne = s.lne ∧ (s.spareBad).qdm = s.qdm ∧ (s.spareBad).tbs = s.tbs ∧
    (s.spareBad).eth0 = s.eth0 ∧ (s.spareBad).eth1 = s.eth1 ∧ (s.spareBad).rtc = s.rtc ∧ (s.spareBad).evr = s.evr ∧
    (s.spareBad).key = s.key ∧ (s.spareBad).upd = s.upd ∧ (s.spareBad).usb = s.usb ∧ (s.spareBad).sys = s.sys ∧
    (s.spareBad).flt = s.flt ∧ (s.spareBad).pin = s.pin ∧ (s.spareBad).mem = s.mem ∧
    (s.spareBad).pending = s.pending ∧ (s.spareBad).regs = s.regs := by
  refine ⟨?_, ?_, ?_, ?_, ?_, ?_, ?_, ?_, ?_, ?_, ?_, ?_, ?_, ?_, ?_, ?_, ?_, ?_, ?_, ?_, ?_, ?_, ?_, ?_⟩ <;> rfl

@[simp] theorem refBegin_rest (s : State) :
    (s.refBegin).cyc = s.cyc ∧ (s.refBegin).freeCtr = s.freeCtr ∧ (s.refBegin).str = s.str ∧
    (s.refBegin).ltb = s.ltb ∧ (s.refBegin).scn = s.scn ∧ (s.refBegin).wav = s.wav ∧ (s.refBegin).mst = s.mst ∧
    (s.refBegin).acc = s.acc ∧ (s.refBegin).lne = s.lne ∧ (s.refBegin).qdm = s.qdm ∧ (s.refBegin).tbs = s.tbs ∧
    (s.refBegin).eth0 = s.eth0 ∧ (s.refBegin).eth1 = s.eth1 ∧ (s.refBegin).rtc = s.rtc ∧ (s.refBegin).evr = s.evr ∧
    (s.refBegin).key = s.key ∧ (s.refBegin).upd = s.upd ∧ (s.refBegin).usb = s.usb ∧ (s.refBegin).sys = s.sys ∧
    (s.refBegin).flt = s.flt ∧ (s.refBegin).pin = s.pin ∧ (s.refBegin).mem = s.mem ∧
    (s.refBegin).pending = s.pending ∧ (s.refBegin).regs = s.regs := by
  refine ⟨?_, ?_, ?_, ?_, ?_, ?_, ?_, ?_, ?_, ?_, ?_, ?_, ?_, ?_, ?_, ?_, ?_, ?_, ?_, ?_, ?_, ?_, ?_, ?_⟩ <;> rfl

@[simp] theorem setQueue_rest (s : State) (q : Nat) (f : Queue → Queue) :
    (s.setQueue q f).cyc = s.cyc ∧ (s.setQueue q f).freeCtr = s.freeCtr ∧ (s.setQueue q f).str = s.str ∧
    (s.setQueue q f).ltb = s.ltb ∧ (s.setQueue q f).scn = s.scn ∧ (s.setQueue q f).wav = s.wav ∧
    (s.setQueue q f).mst = s.mst ∧ (s.setQueue q f).mtr = s.mtr ∧ (s.setQueue q f).acc = s.acc ∧
    (s.setQueue q f).lne = s.lne ∧ (s.setQueue q f).tbs = s.tbs ∧ (s.setQueue q f).eth0 = s.eth0 ∧
    (s.setQueue q f).eth1 = s.eth1 ∧ (s.setQueue q f).rtc = s.rtc ∧ (s.setQueue q f).evr = s.evr ∧
    (s.setQueue q f).key = s.key ∧ (s.setQueue q f).upd = s.upd ∧ (s.setQueue q f).usb = s.usb ∧
    (s.setQueue q f).sys = s.sys ∧ (s.setQueue q f).flt = s.flt ∧ (s.setQueue q f).pin = s.pin ∧
    (s.setQueue q f).mem = s.mem ∧ (s.setQueue q f).pending = s.pending ∧ (s.setQueue q f).regs = s.regs := by
  refine ⟨?_, ?_, ?_, ?_, ?_, ?_, ?_, ?_, ?_, ?_, ?_, ?_, ?_, ?_, ?_, ?_, ?_, ?_, ?_, ?_, ?_, ?_, ?_, ?_⟩ <;> rfl

@[simp] theorem setProg_rest (s : State) (p : Nat) (f : ScnProg → ScnProg) :
    (s.setProg p f).cyc = s.cyc ∧ (s.setProg p f).freeCtr = s.freeCtr ∧ (s.setProg p f).str = s.str ∧
    (s.setProg p f).ltb = s.ltb ∧ (s.setProg p f).wav = s.wav ∧ (s.setProg p f).mst = s.mst ∧
    (s.setProg p f).mtr = s.mtr ∧ (s.setProg p f).acc = s.acc ∧ (s.setProg p f).lne = s.lne ∧
    (s.setProg p f).qdm = s.qdm ∧ (s.setProg p f).tbs = s.tbs ∧ (s.setProg p f).eth0 = s.eth0 ∧
    (s.setProg p f).eth1 = s.eth1 ∧ (s.setProg p f).rtc = s.rtc ∧ (s.setProg p f).evr = s.evr ∧
    (s.setProg p f).key = s.key ∧ (s.setProg p f).upd = s.upd ∧ (s.setProg p f).usb = s.usb ∧
    (s.setProg p f).sys = s.sys ∧ (s.setProg p f).flt = s.flt ∧ (s.setProg p f).pin = s.pin ∧
    (s.setProg p f).mem = s.mem ∧ (s.setProg p f).pending = s.pending ∧ (s.setProg p f).regs = s.regs := by
  refine ⟨?_, ?_, ?_, ?_, ?_, ?_, ?_, ?_, ?_, ?_, ?_, ?_, ?_, ?_, ?_, ?_, ?_, ?_, ?_, ?_, ?_, ?_, ?_, ?_⟩ <;> rfl

@[simp] theorem setWav_rest (s : State) (f : WavUnit → WavUnit) :
    (s.setWav f).cyc = s.cyc ∧ (s.setWav f).freeCtr = s.freeCtr ∧ (s.setWav f).str = s.str ∧
    (s.setWav f).ltb = s.ltb ∧ (s.setWav f).scn = s.scn ∧ (s.setWav f).mst = s.mst ∧ (s.setWav f).mtr = s.mtr ∧
    (s.setWav f).acc = s.acc ∧ (s.setWav f).lne = s.lne ∧ (s.setWav f).qdm = s.qdm ∧ (s.setWav f).tbs = s.tbs ∧
    (s.setWav f).eth0 = s.eth0 ∧ (s.setWav f).eth1 = s.eth1 ∧ (s.setWav f).rtc = s.rtc ∧ (s.setWav f).evr = s.evr ∧
    (s.setWav f).key = s.key ∧ (s.setWav f).upd = s.upd ∧ (s.setWav f).usb = s.usb ∧ (s.setWav f).sys = s.sys ∧
    (s.setWav f).flt = s.flt ∧ (s.setWav f).pin = s.pin ∧ (s.setWav f).mem = s.mem ∧
    (s.setWav f).pending = s.pending ∧ (s.setWav f).regs = s.regs := by
  refine ⟨?_, ?_, ?_, ?_, ?_, ?_, ?_, ?_, ?_, ?_, ?_, ?_, ?_, ?_, ?_, ?_, ?_, ?_, ?_, ?_, ?_, ?_, ?_, ?_⟩ <;> rfl

@[simp] theorem takeoverBegin_rest (s : State) (n : Nat) :
    (s.takeoverBegin n).cyc = s.cyc ∧ (s.takeoverBegin n).freeCtr = s.freeCtr ∧ (s.takeoverBegin n).str = s.str ∧
    (s.takeoverBegin n).ltb = s.ltb ∧ (s.takeoverBegin n).scn = s.scn ∧ (s.takeoverBegin n).wav = s.wav ∧
    (s.takeoverBegin n).mst = s.mst ∧ (s.takeoverBegin n).mtr = s.mtr ∧ (s.takeoverBegin n).acc = s.acc ∧
    (s.takeoverBegin n).qdm = s.qdm ∧ (s.takeoverBegin n).tbs = s.tbs ∧ (s.takeoverBegin n).eth0 = s.eth0 ∧
    (s.takeoverBegin n).eth1 = s.eth1 ∧ (s.takeoverBegin n).rtc = s.rtc ∧ (s.takeoverBegin n).evr = s.evr ∧
    (s.takeoverBegin n).key = s.key ∧ (s.takeoverBegin n).upd = s.upd ∧ (s.takeoverBegin n).usb = s.usb ∧
    (s.takeoverBegin n).sys = s.sys ∧ (s.takeoverBegin n).flt = s.flt ∧ (s.takeoverBegin n).pin = s.pin ∧
    (s.takeoverBegin n).mem = s.mem ∧ (s.takeoverBegin n).pending = s.pending ∧ (s.takeoverBegin n).regs = s.regs := by
  refine ⟨?_, ?_, ?_, ?_, ?_, ?_, ?_, ?_, ?_, ?_, ?_, ?_, ?_, ?_, ?_, ?_, ?_, ?_, ?_, ?_, ?_, ?_, ?_, ?_⟩ <;> rfl

@[simp] theorem idleDrop_rest (s : State) :
    (s.idleDrop).cyc = s.cyc ∧ (s.idleDrop).freeCtr = s.freeCtr ∧ (s.idleDrop).str = s.str ∧
    (s.idleDrop).scn = s.scn ∧ (s.idleDrop).wav = s.wav ∧ (s.idleDrop).mst = s.mst ∧ (s.idleDrop).mtr = s.mtr ∧
    (s.idleDrop).acc = s.acc ∧ (s.idleDrop).lne = s.lne ∧ (s.idleDrop).qdm = s.qdm ∧ (s.idleDrop).tbs = s.tbs ∧
    (s.idleDrop).eth0 = s.eth0 ∧ (s.idleDrop).eth1 = s.eth1 ∧ (s.idleDrop).rtc = s.rtc ∧ (s.idleDrop).evr = s.evr ∧
    (s.idleDrop).key = s.key ∧ (s.idleDrop).upd = s.upd ∧ (s.idleDrop).usb = s.usb ∧ (s.idleDrop).sys = s.sys ∧
    (s.idleDrop).flt = s.flt ∧ (s.idleDrop).pin = s.pin ∧ (s.idleDrop).mem = s.mem ∧
    (s.idleDrop).pending = s.pending ∧ (s.idleDrop).regs = s.regs := by
  refine ⟨?_, ?_, ?_, ?_, ?_, ?_, ?_, ?_, ?_, ?_, ?_, ?_, ?_, ?_, ?_, ?_, ?_, ?_, ?_, ?_, ?_, ?_, ?_, ?_⟩ <;> rfl

@[simp] theorem setKey_rest (s : State) (f : KeyUnit → KeyUnit) :
    (s.setKey f).cyc = s.cyc ∧ (s.setKey f).freeCtr = s.freeCtr ∧ (s.setKey f).str = s.str ∧
    (s.setKey f).ltb = s.ltb ∧ (s.setKey f).scn = s.scn ∧ (s.setKey f).wav = s.wav ∧ (s.setKey f).mst = s.mst ∧
    (s.setKey f).mtr = s.mtr ∧ (s.setKey f).acc = s.acc ∧ (s.setKey f).lne = s.lne ∧ (s.setKey f).qdm = s.qdm ∧
    (s.setKey f).tbs = s.tbs ∧ (s.setKey f).eth0 = s.eth0 ∧ (s.setKey f).eth1 = s.eth1 ∧ (s.setKey f).rtc = s.rtc ∧
    (s.setKey f).evr = s.evr ∧ (s.setKey f).upd = s.upd ∧ (s.setKey f).usb = s.usb ∧ (s.setKey f).sys = s.sys ∧
    (s.setKey f).flt = s.flt ∧ (s.setKey f).pin = s.pin ∧ (s.setKey f).mem = s.mem ∧
    (s.setKey f).pending = s.pending ∧ (s.setKey f).regs = s.regs := by
  refine ⟨?_, ?_, ?_, ?_, ?_, ?_, ?_, ?_, ?_, ?_, ?_, ?_, ?_, ?_, ?_, ?_, ?_, ?_, ?_, ?_, ?_, ?_, ?_, ?_⟩ <;> rfl

@[simp] theorem setUpd_rest (s : State) (f : UpdUnit → UpdUnit) :
    (s.setUpd f).cyc = s.cyc ∧ (s.setUpd f).freeCtr = s.freeCtr ∧ (s.setUpd f).str = s.str ∧
    (s.setUpd f).ltb = s.ltb ∧ (s.setUpd f).scn = s.scn ∧ (s.setUpd f).wav = s.wav ∧ (s.setUpd f).mst = s.mst ∧
    (s.setUpd f).mtr = s.mtr ∧ (s.setUpd f).acc = s.acc ∧ (s.setUpd f).lne = s.lne ∧ (s.setUpd f).qdm = s.qdm ∧
    (s.setUpd f).tbs = s.tbs ∧ (s.setUpd f).eth0 = s.eth0 ∧ (s.setUpd f).eth1 = s.eth1 ∧ (s.setUpd f).rtc = s.rtc ∧
    (s.setUpd f).evr = s.evr ∧ (s.setUpd f).key = s.key ∧ (s.setUpd f).usb = s.usb ∧ (s.setUpd f).sys = s.sys ∧
    (s.setUpd f).flt = s.flt ∧ (s.setUpd f).pin = s.pin ∧ (s.setUpd f).mem = s.mem ∧
    (s.setUpd f).pending = s.pending ∧ (s.setUpd f).regs = s.regs := by
  refine ⟨?_, ?_, ?_, ?_, ?_, ?_, ?_, ?_, ?_, ?_, ?_, ?_, ?_, ?_, ?_, ?_, ?_, ?_, ?_, ?_, ?_, ?_, ?_, ?_⟩ <;> rfl

/-- An update of the backup domain alone. -/
theorem rtc_rest (s : State) (x : RtcUnit) :
    ({ s with rtc := x } : State).cyc = s.cyc ∧ ({ s with rtc := x } : State).freeCtr = s.freeCtr ∧
    ({ s with rtc := x } : State).str = s.str ∧
    ({ s with rtc := x } : State).ltb = s.ltb ∧ ({ s with rtc := x } : State).scn = s.scn ∧
    ({ s with rtc := x } : State).wav = s.wav ∧ ({ s with rtc := x } : State).mst = s.mst ∧
    ({ s with rtc := x } : State).mtr = s.mtr ∧ ({ s with rtc := x } : State).acc = s.acc ∧
    ({ s with rtc := x } : State).lne = s.lne ∧ ({ s with rtc := x } : State).qdm = s.qdm ∧
    ({ s with rtc := x } : State).tbs = s.tbs ∧ ({ s with rtc := x } : State).eth0 = s.eth0 ∧
    ({ s with rtc := x } : State).eth1 = s.eth1 ∧
    ({ s with rtc := x } : State).evr = s.evr ∧ ({ s with rtc := x } : State).key = s.key ∧
    ({ s with rtc := x } : State).upd = s.upd ∧ ({ s with rtc := x } : State).usb = s.usb ∧
    ({ s with rtc := x } : State).sys = s.sys ∧ ({ s with rtc := x } : State).flt = s.flt ∧
    ({ s with rtc := x } : State).pin = s.pin ∧ ({ s with rtc := x } : State).mem = s.mem ∧
    ({ s with rtc := x } : State).pending = s.pending ∧ ({ s with rtc := x } : State).regs = s.regs := by
  refine ⟨?_, ?_, ?_, ?_, ?_, ?_, ?_, ?_, ?_, ?_, ?_, ?_, ?_, ?_, ?_, ?_, ?_, ?_, ?_, ?_, ?_, ?_, ?_, ?_⟩ <;> rfl

@[simp] theorem updMirror_rest (s : State) :
    (s.updMirror).cyc = s.cyc ∧ (s.updMirror).freeCtr = s.freeCtr ∧ (s.updMirror).str = s.str ∧
    (s.updMirror).ltb = s.ltb ∧ (s.updMirror).scn = s.scn ∧ (s.updMirror).wav = s.wav ∧ (s.updMirror).mst = s.mst ∧
    (s.updMirror).mtr = s.mtr ∧ (s.updMirror).acc = s.acc ∧ (s.updMirror).lne = s.lne ∧ (s.updMirror).qdm = s.qdm ∧
    (s.updMirror).tbs = s.tbs ∧ (s.updMirror).eth0 = s.eth0 ∧ (s.updMirror).eth1 = s.eth1 ∧
    (s.updMirror).evr = s.evr ∧ (s.updMirror).key = s.key ∧ (s.updMirror).upd = s.upd ∧ (s.updMirror).usb = s.usb ∧
    (s.updMirror).sys = s.sys ∧ (s.updMirror).flt = s.flt ∧ (s.updMirror).pin = s.pin ∧ (s.updMirror).mem = s.mem ∧
    (s.updMirror).pending = s.pending ∧ (s.updMirror).regs = s.regs := by
  unfold State.updMirror
  exact rtc_rest s _

@[simp] theorem rstNote_rest (s : State) :
    (s.rstNote).cyc = s.cyc ∧ (s.rstNote).freeCtr = s.freeCtr ∧ (s.rstNote).str = s.str ∧ (s.rstNote).ltb = s.ltb ∧
    (s.rstNote).scn = s.scn ∧ (s.rstNote).wav = s.wav ∧ (s.rstNote).mst = s.mst ∧ (s.rstNote).mtr = s.mtr ∧
    (s.rstNote).acc = s.acc ∧ (s.rstNote).lne = s.lne ∧ (s.rstNote).qdm = s.qdm ∧ (s.rstNote).tbs = s.tbs ∧
    (s.rstNote).eth0 = s.eth0 ∧ (s.rstNote).eth1 = s.eth1 ∧ (s.rstNote).evr = s.evr ∧ (s.rstNote).key = s.key ∧
    (s.rstNote).upd = s.upd ∧ (s.rstNote).usb = s.usb ∧ (s.rstNote).sys = s.sys ∧ (s.rstNote).flt = s.flt ∧
    (s.rstNote).pin = s.pin ∧ (s.rstNote).mem = s.mem ∧ (s.rstNote).pending = s.pending ∧
    (s.rstNote).regs = s.regs := by
  unfold State.rstNote
  exact rtc_rest s _

@[simp] theorem loadRec_rest (s : State) (b : ImgBody) :
    (s.loadRec b).cyc = s.cyc ∧ (s.loadRec b).freeCtr = s.freeCtr ∧ (s.loadRec b).str = s.str ∧
    (s.loadRec b).ltb = s.ltb ∧ (s.loadRec b).scn = s.scn ∧ (s.loadRec b).wav = s.wav ∧ (s.loadRec b).mst = s.mst ∧
    (s.loadRec b).mtr = s.mtr ∧ (s.loadRec b).acc = s.acc ∧ (s.loadRec b).lne = s.lne ∧ (s.loadRec b).qdm = s.qdm ∧
    (s.loadRec b).tbs = s.tbs ∧ (s.loadRec b).eth0 = s.eth0 ∧ (s.loadRec b).eth1 = s.eth1 ∧
    (s.loadRec b).rtc = s.rtc ∧ (s.loadRec b).key = s.key ∧ (s.loadRec b).upd = s.upd ∧ (s.loadRec b).usb = s.usb ∧
    (s.loadRec b).sys = s.sys ∧ (s.loadRec b).flt = s.flt ∧ (s.loadRec b).pin = s.pin ∧ (s.loadRec b).mem = s.mem ∧
    (s.loadRec b).pending = s.pending ∧ (s.loadRec b).regs = s.regs := by
  refine ⟨?_, ?_, ?_, ?_, ?_, ?_, ?_, ?_, ?_, ?_, ?_, ?_, ?_, ?_, ?_, ?_, ?_, ?_, ?_, ?_, ?_, ?_, ?_, ?_⟩ <;> rfl

@[simp] theorem closeOutput_rest (s : State) (k : Nat) :
    (s.closeOutput k).cyc = s.cyc ∧ (s.closeOutput k).freeCtr = s.freeCtr ∧ (s.closeOutput k).str = s.str ∧
    (s.closeOutput k).ltb = s.ltb ∧ (s.closeOutput k).scn = s.scn ∧ (s.closeOutput k).wav = s.wav ∧
    (s.closeOutput k).mst = s.mst ∧ (s.closeOutput k).mtr = s.mtr ∧ (s.closeOutput k).acc = s.acc ∧
    (s.closeOutput k).lne = s.lne ∧ (s.closeOutput k).qdm = s.qdm ∧ (s.closeOutput k).tbs = s.tbs ∧
    (s.closeOutput k).eth0 = s.eth0 ∧ (s.closeOutput k).eth1 = s.eth1 ∧ (s.closeOutput k).rtc = s.rtc ∧
    (s.closeOutput k).evr = s.evr ∧ (s.closeOutput k).key = s.key ∧ (s.closeOutput k).upd = s.upd ∧
    (s.closeOutput k).usb = s.usb ∧ (s.closeOutput k).flt = s.flt ∧ (s.closeOutput k).pin = s.pin ∧
    (s.closeOutput k).mem = s.mem ∧ (s.closeOutput k).pending = s.pending ∧ (s.closeOutput k).regs = s.regs := by
  refine ⟨?_, ?_, ?_, ?_, ?_, ?_, ?_, ?_, ?_, ?_, ?_, ?_, ?_, ?_, ?_, ?_, ?_, ?_, ?_, ?_, ?_, ?_, ?_, ?_⟩ <;> rfl

@[simp] theorem openOutputs_rest (s : State) :
    (s.openOutputs).cyc = s.cyc ∧ (s.openOutputs).freeCtr = s.freeCtr ∧ (s.openOutputs).str = s.str ∧
    (s.openOutputs).ltb = s.ltb ∧ (s.openOutputs).scn = s.scn ∧ (s.openOutputs).wav = s.wav ∧
    (s.openOutputs).mst = s.mst ∧ (s.openOutputs).mtr = s.mtr ∧ (s.openOutputs).acc = s.acc ∧
    (s.openOutputs).lne = s.lne ∧ (s.openOutputs).qdm = s.qdm ∧ (s.openOutputs).tbs = s.tbs ∧
    (s.openOutputs).eth0 = s.eth0 ∧ (s.openOutputs).eth1 = s.eth1 ∧ (s.openOutputs).rtc = s.rtc ∧
    (s.openOutputs).evr = s.evr ∧ (s.openOutputs).key = s.key ∧ (s.openOutputs).upd = s.upd ∧
    (s.openOutputs).usb = s.usb ∧ (s.openOutputs).flt = s.flt ∧ (s.openOutputs).pin = s.pin ∧
    (s.openOutputs).mem = s.mem ∧ (s.openOutputs).pending = s.pending ∧ (s.openOutputs).regs = s.regs := by
  refine ⟨?_, ?_, ?_, ?_, ?_, ?_, ?_, ?_, ?_, ?_, ?_, ?_, ?_, ?_, ?_, ?_, ?_, ?_, ?_, ?_, ?_, ?_, ?_, ?_⟩ <;> rfl

@[simp] theorem tickAim_rest (s : State) :
    (s.tickAim).cyc = s.cyc ∧ (s.tickAim).freeCtr = s.freeCtr ∧ (s.tickAim).str = s.str ∧ (s.tickAim).ltb = s.ltb ∧
    (s.tickAim).scn = s.scn ∧ (s.tickAim).wav = s.wav ∧ (s.tickAim).mst = s.mst ∧ (s.tickAim).mtr = s.mtr ∧
    (s.tickAim).acc = s.acc ∧ (s.tickAim).lne = s.lne ∧ (s.tickAim).qdm = s.qdm ∧ (s.tickAim).eth0 = s.eth0 ∧
    (s.tickAim).eth1 = s.eth1 ∧ (s.tickAim).rtc = s.rtc ∧ (s.tickAim).evr = s.evr ∧ (s.tickAim).key = s.key ∧
    (s.tickAim).upd = s.upd ∧ (s.tickAim).usb = s.usb ∧ (s.tickAim).sys = s.sys ∧ (s.tickAim).flt = s.flt ∧
    (s.tickAim).pin = s.pin ∧ (s.tickAim).mem = s.mem ∧ (s.tickAim).pending = s.pending ∧ (s.tickAim).regs = s.regs := by
  refine ⟨?_, ?_, ?_, ?_, ?_, ?_, ?_, ?_, ?_, ?_, ?_, ?_, ?_, ?_, ?_, ?_, ?_, ?_, ?_, ?_, ?_, ?_, ?_, ?_⟩ <;> rfl

@[simp] theorem setStat_rest (s : State) (a : Nat) (r : StatReg) :
    (s.setStat a r).cyc = s.cyc ∧ (s.setStat a r).freeCtr = s.freeCtr ∧ (s.setStat a r).str = s.str ∧
    (s.setStat a r).ltb = s.ltb ∧ (s.setStat a r).scn = s.scn ∧ (s.setStat a r).wav = s.wav ∧
    (s.setStat a r).mst = s.mst ∧ (s.setStat a r).mtr = s.mtr ∧ (s.setStat a r).acc = s.acc ∧
    (s.setStat a r).lne = s.lne ∧ (s.setStat a r).qdm = s.qdm ∧ (s.setStat a r).tbs = s.tbs ∧
    (s.setStat a r).eth0 = s.eth0 ∧ (s.setStat a r).eth1 = s.eth1 ∧ (s.setStat a r).rtc = s.rtc ∧
    (s.setStat a r).evr = s.evr ∧ (s.setStat a r).key = s.key ∧ (s.setStat a r).upd = s.upd ∧
    (s.setStat a r).usb = s.usb ∧ (s.setStat a r).sys = s.sys ∧ (s.setStat a r).flt = s.flt ∧
    (s.setStat a r).pin = s.pin ∧ (s.setStat a r).mem = s.mem ∧ (s.setStat a r).pending = s.pending ∧
    (s.setStat a r).regs.cfg = s.regs.cfg ∧ (s.setStat a r).regs.act = s.regs.act ∧
    (s.setStat a r).regs.changed = s.regs.changed ∧ (s.setStat a r).regs.pairs = s.regs.pairs ∧
    (s.setStat a r).regs.latch = s.regs.latch ∧ (s.setStat a r).regs.busErr = s.regs.busErr ∧
    (s.setStat a r).regs.reply = s.regs.reply ∧ (s.setStat a r).regs.partestSeen = s.regs.partestSeen := by
  refine ⟨?_, ?_, ?_, ?_, ?_, ?_, ?_, ?_, ?_, ?_, ?_, ?_, ?_, ?_, ?_, ?_, ?_, ?_, ?_, ?_, ?_, ?_, ?_, ?_, ?_, ?_, ?_, ?_, ?_, ?_, ?_, ?_⟩ <;> rfl

@[simp] theorem putCfg_rest (s : State) (a : Nat) (w : PWord) :
    (s.putCfg a w).cyc = s.cyc ∧ (s.putCfg a w).freeCtr = s.freeCtr ∧ (s.putCfg a w).str = s.str ∧
    (s.putCfg a w).ltb = s.ltb ∧ (s.putCfg a w).scn = s.scn ∧ (s.putCfg a w).wav = s.wav ∧
    (s.putCfg a w).mst = s.mst ∧ (s.putCfg a w).mtr = s.mtr ∧ (s.putCfg a w).acc = s.acc ∧
    (s.putCfg a w).lne = s.lne ∧ (s.putCfg a w).qdm = s.qdm ∧ (s.putCfg a w).tbs = s.tbs ∧
    (s.putCfg a w).eth0 = s.eth0 ∧ (s.putCfg a w).eth1 = s.eth1 ∧ (s.putCfg a w).rtc = s.rtc ∧
    (s.putCfg a w).evr = s.evr ∧ (s.putCfg a w).key = s.key ∧ (s.putCfg a w).upd = s.upd ∧
    (s.putCfg a w).usb = s.usb ∧ (s.putCfg a w).sys = s.sys ∧ (s.putCfg a w).flt = s.flt ∧
    (s.putCfg a w).pin = s.pin ∧ (s.putCfg a w).mem = s.mem ∧ (s.putCfg a w).pending = s.pending ∧
    (s.putCfg a w).regs.act = s.regs.act ∧ (s.putCfg a w).regs.changed = s.regs.changed ∧
    (s.putCfg a w).regs.stat = s.regs.stat ∧ (s.putCfg a w).regs.pairs = s.regs.pairs ∧
    (s.putCfg a w).regs.latch = s.regs.latch ∧ (s.putCfg a w).regs.busErr = s.regs.busErr ∧
    (s.putCfg a w).regs.reply = s.regs.reply ∧ (s.putCfg a w).regs.partestSeen = s.regs.partestSeen := by
  refine ⟨?_, ?_, ?_, ?_, ?_, ?_, ?_, ?_, ?_, ?_, ?_, ?_, ?_, ?_, ?_, ?_, ?_, ?_, ?_, ?_, ?_, ?_, ?_, ?_, ?_, ?_, ?_, ?_, ?_, ?_, ?_, ?_⟩ <;> rfl

@[simp] theorem setCfg_rest (s : State) (a : Nat) (v : Word) :
    (s.setCfg a v).cyc = s.cyc ∧ (s.setCfg a v).freeCtr = s.freeCtr ∧ (s.setCfg a v).str = s.str ∧
    (s.setCfg a v).ltb = s.ltb ∧ (s.setCfg a v).scn = s.scn ∧ (s.setCfg a v).wav = s.wav ∧
    (s.setCfg a v).mst = s.mst ∧ (s.setCfg a v).mtr = s.mtr ∧ (s.setCfg a v).acc = s.acc ∧
    (s.setCfg a v).lne = s.lne ∧ (s.setCfg a v).qdm = s.qdm ∧ (s.setCfg a v).tbs = s.tbs ∧
    (s.setCfg a v).eth0 = s.eth0 ∧ (s.setCfg a v).eth1 = s.eth1 ∧ (s.setCfg a v).rtc = s.rtc ∧
    (s.setCfg a v).evr = s.evr ∧ (s.setCfg a v).key = s.key ∧ (s.setCfg a v).upd = s.upd ∧
    (s.setCfg a v).usb = s.usb ∧ (s.setCfg a v).sys = s.sys ∧ (s.setCfg a v).flt = s.flt ∧
    (s.setCfg a v).pin = s.pin ∧ (s.setCfg a v).mem = s.mem ∧ (s.setCfg a v).pending = s.pending ∧
    (s.setCfg a v).regs.act = s.regs.act ∧ (s.setCfg a v).regs.changed = s.regs.changed ∧
    (s.setCfg a v).regs.stat = s.regs.stat ∧ (s.setCfg a v).regs.pairs = s.regs.pairs ∧
    (s.setCfg a v).regs.latch = s.regs.latch ∧ (s.setCfg a v).regs.busErr = s.regs.busErr ∧
    (s.setCfg a v).regs.reply = s.regs.reply ∧ (s.setCfg a v).regs.partestSeen = s.regs.partestSeen := by
  refine ⟨?_, ?_, ?_, ?_, ?_, ?_, ?_, ?_, ?_, ?_, ?_, ?_, ?_, ?_, ?_, ?_, ?_, ?_, ?_, ?_, ?_, ?_, ?_, ?_, ?_, ?_, ?_, ?_, ?_, ?_, ?_, ?_⟩ <;> rfl

@[simp] theorem setAct_rest (s : State) (a : Nat) (v : Word) :
    (s.setAct a v).cyc = s.cyc ∧ (s.setAct a v).freeCtr = s.freeCtr ∧ (s.setAct a v).str = s.str ∧
    (s.setAct a v).ltb = s.ltb ∧ (s.setAct a v).scn = s.scn ∧ (s.setAct a v).wav = s.wav ∧
    (s.setAct a v).mst = s.mst ∧ (s.setAct a v).mtr = s.mtr ∧ (s.setAct a v).acc = s.acc ∧
    (s.setAct a v).lne = s.lne ∧ (s.setAct a v).qdm = s.qdm ∧ (s.setAct a v).tbs = s.tbs ∧
    (s.setAct a v).eth0 = s.eth0 ∧ (s.setAct a v).eth1 = s.eth1 ∧ (s.setAct a v).rtc = s.rtc ∧
    (s.setAct a v).evr = s.evr ∧ (s.setAct a v).key = s.key ∧ (s.setAct a v).upd = s.upd ∧
    (s.setAct a v).usb = s.usb ∧ (s.setAct a v).sys = s.sys ∧ (s.setAct a v).flt = s.flt ∧
    (s.setAct a v).pin = s.pin ∧ (s.setAct a v).mem = s.mem ∧ (s.setAct a v).pending = s.pending ∧
    (s.setAct a v).regs.cfg = s.regs.cfg ∧ (s.setAct a v).regs.changed = s.regs.changed ∧
    (s.setAct a v).regs.stat = s.regs.stat ∧ (s.setAct a v).regs.pairs = s.regs.pairs ∧
    (s.setAct a v).regs.latch = s.regs.latch ∧ (s.setAct a v).regs.busErr = s.regs.busErr ∧
    (s.setAct a v).regs.reply = s.regs.reply ∧ (s.setAct a v).regs.partestSeen = s.regs.partestSeen := by
  refine ⟨?_, ?_, ?_, ?_, ?_, ?_, ?_, ?_, ?_, ?_, ?_, ?_, ?_, ?_, ?_, ?_, ?_, ?_, ?_, ?_, ?_, ?_, ?_, ?_, ?_, ?_, ?_, ?_, ?_, ?_, ?_, ?_⟩ <;> rfl

/-! ## Software's copy of a register -/

theorem stores_of {s t u : State} {a : Nat} {v : Word} (h : s.stores t a v) (hc : u.regs.cfg = t.regs.cfg)
    (hf : u.sys.fuses = t.sys.fuses) : s.stores u a v := by
  intro b
  rw [← h b]
  simp only [State.cfg, State.cfgWord, hc, hf]

/-- What a row of a register stores, after its answer is cleared. -/
theorem stores_setCfg {s t : State} (a : Nat) (v : Word) (hc : t.regs.cfg = s.regs.cfg)
    (hf : t.sys.fuses = s.sys.fuses) : s.stores (t.setCfg a v) a v := by
  intro b
  rw [cfg_setCfg]
  simp only [State.cfg, State.cfgWord, hc, hf]

end Sys2Proof.Laws
end

