-- ==== Sys2Proof/Laws/Posts.lean ====
section
/-! SUPPORT. Setting event bits and writing recorder events: what stays, and that the bit is set. -/

namespace Sys2Proof.Laws
open Sys2Proof Sys2Proof.Machine
set_option linter.all false

/-! ## What stays -/

theorem post_frame (s : State) (a b : Nat) : Frame [.evr, .stat] [] s (s.post a b) :=
  frame_post (frame_refl _) (by decide) (.inl (by decide))

@[simp] theorem post_cyc (s : State) (a b : Nat) : (s.post a b).cyc = s.cyc :=
  (post_frame s a b).parts .cyc (by decide) (by decide)
@[simp] theorem post_freeCtr (s : State) (a b : Nat) : (s.post a b).freeCtr = s.freeCtr :=
  (post_frame s a b).parts .free (by decide) (by decide)
@[simp] theorem post_str (s : State) (a b : Nat) : (s.post a b).str = s.str :=
  (post_frame s a b).parts .str (by decide) (by decide)
@[simp] theorem post_ltb (s : State) (a b : Nat) : (s.post a b).ltb = s.ltb :=
  (post_frame s a b).parts .ltb (by decide) (by decide)
@[simp] theorem post_scn (s : State) (a b : Nat) : (s.post a b).scn = s.scn :=
  (post_frame s a b).parts .scn (by decide) (by decide)
@[simp] theorem post_wav (s : State) (a b : Nat) : (s.post a b).wav = s.wav :=
  (post_frame s a b).parts .wav (by decide) (by decide)
@[simp] theorem post_mst (s : State) (a b : Nat) : (s.post a b).mst = s.mst :=
  (post_frame s a b).parts .mst (by decide) (by decide)
@[simp] theorem post_mtr (s : State) (a b : Nat) : (s.post a b).mtr = s.mtr :=
  (post_frame s a b).parts .mtr (by decide) (by decide)
@[simp] theorem post_acc (s : State) (a b : Nat) : (s.post a b).acc = s.acc :=
  (post_frame s a b).parts .acc (by decide) (by decide)
@[simp] theorem post_lne (s : State) (a b : Nat) : (s.post a b).lne = s.lne :=
  (post_frame s a b).parts .lne (by decide) (by decide)
@[simp] theorem post_qdm (s : State) (a b : Nat) : (s.post a b).qdm = s.qdm :=
  (post_frame s a b).parts .qdm (by decide) (by decide)
@[simp] theorem post_tbs (s : State) (a b : Nat) : (s.post a b).tbs = s.tbs :=
  (post_frame s a b).parts .tbs (by decide) (by decide)
@[simp] theorem post_eth0 (s : State) (a b : Nat) : (s.post a b).eth0 = s.eth0 :=
  (post_frame s a b).parts .eth0 (by decide) (by decide)
@[simp] theorem post_eth1 (s : State) (a b : Nat) : (s.post a b).eth1 = s.eth1 :=
  (post_frame s a b).parts .eth1 (by decide) (by decide)
@[simp] theorem post_rtc (s : State) (a b : Nat) : (s.post a b).rtc = s.rtc :=
  (post_frame s a b).parts .rtc (by decide) (by decide)
@[simp] theorem post_key (s : State) (a b : Nat) : (s.post a b).key = s.key :=
  (post_frame s a b).parts .key (by decide) (by decide)
@[simp] theorem post_upd (s : State) (a b : Nat) : (s.post a b).upd = s.upd :=
  (post_frame s a b).parts .upd (by decide) (by decide)
@[simp] theorem post_usb (s : State) (a b : Nat) : (s.post a b).usb = s.usb :=
  (post_frame s a b).parts .usb (by decide) (by decide)
@[simp] theorem post_sys (s : State) (a b : Nat) : (s.post a b).sys = s.sys :=
  (post_frame s a b).parts .sys (by decide) (by decide)
@[simp] theorem post_flt (s : State) (a b : Nat) : (s.post a b).flt = s.flt :=
  (post_frame s a b).parts .flt (by decide) (by decide)
@[simp] theorem post_pin (s : State) (a b : Nat) : (s.post a b).pin = s.pin :=
  (post_frame s a b).parts .pin (by decide) (by decide)
@[simp] theorem post_pending (s : State) (a b : Nat) : (s.post a b).pending = s.pending :=
  (post_frame s a b).parts .pending (by decide) (by decide)
@[simp] theorem post_regs_cfg (s : State) (a b : Nat) : (s.post a b).regs.cfg = s.regs.cfg :=
  (post_frame s a b).parts .cfg (by decide) (by decide)
@[simp] theorem post_regs_act (s : State) (a b : Nat) : (s.post a b).regs.act = s.regs.act :=
  (post_frame s a b).parts .act (by decide) (by decide)
@[simp] theorem post_regs_changed (s : State) (a b : Nat) : (s.post a b).regs.changed = s.regs.changed :=
  (post_frame s a b).parts .changed (by decide) (by decide)
@[simp] theorem post_regs_pairs (s : State) (a b : Nat) : (s.post a b).regs.pairs = s.regs.pairs :=
  (post_frame s a b).parts .pairs (by decide) (by decide)
@[simp] theorem post_regs_latch (s : State) (a b : Nat) : (s.post a b).regs.latch = s.regs.latch :=
  (post_frame s a b).parts .latch (by decide) (by decide)
@[simp] theorem post_regs_busErr (s : State) (a b : Nat) : (s.post a b).regs.busErr = s.regs.busErr :=
  (post_frame s a b).parts .busErr (by decide) (by decide)
@[simp] theorem post_regs_reply (s : State) (a b : Nat) : (s.post a b).regs.reply = s.regs.reply :=
  (post_frame s a b).parts .reply (by decide) (by decide)
@[simp] theorem post_regs_partestSeen (s : State) (a b : Nat) : (s.post a b).regs.partestSeen = s.regs.partestSeen :=
  (post_frame s a b).parts .parity (by decide) (by decide)
@[simp] theorem post_byte (s : State) (a b : Nat) (x : Nat) : (s.post a b).byte x = s.byte x :=
  (post_frame s a b).parts .mem (by decide) (by decide) x

theorem postBit_frame (s : State) (w i : Nat) : Frame [.evr, .stat] [] s (s.postBit w i) :=
  frame_postBit _ _ (frame_refl _) (by decide) (.inl (by decide))

@[simp] theorem postBit_cyc (s : State) (w i : Nat) : (s.postBit w i).cyc = s.cyc :=
  (postBit_frame s w i).parts .cyc (by decide) (by decide)
@[simp] theorem postBit_freeCtr (s : State) (w i : Nat) : (s.postBit w i).freeCtr = s.freeCtr :=
  (postBit_frame s w i).parts .free (by decide) (by decide)
@[simp] theorem postBit_str (s : State) (w i : Nat) : (s.postBit w i).str = s.str :=
  (postBit_frame s w i).parts .str (by decide) (by decide)
@[simp] theorem postBit_ltb (s : State) (w i : Nat) : (s.postBit w i).ltb = s.ltb :=
  (postBit_frame s w i).parts .ltb (by decide) (by decide)
@[simp] theorem postBit_scn (s : State) (w i : Nat) : (s.postBit w i).scn = s.scn :=
  (postBit_frame s w i).parts .scn (by decide) (by decide)
@[simp] theorem postBit_wav (s : State) (w i : Nat) : (s.postBit w i).wav = s.wav :=
  (postBit_frame s w i).parts .wav (by decide) (by decide)
@[simp] theorem postBit_mst (s : State) (w i : Nat) : (s.postBit w i).mst = s.mst :=
  (postBit_frame s w i).parts .mst (by decide) (by decide)
@[simp] theorem postBit_mtr (s : State) (w i : Nat) : (s.postBit w i).mtr = s.mtr :=
  (postBit_frame s w i).parts .mtr (by decide) (by decide)
@[simp] theorem postBit_acc (s : State) (w i : Nat) : (s.postBit w i).acc = s.acc :=
  (postBit_frame s w i).parts .acc (by decide) (by decide)
@[simp] theorem postBit_lne (s : State) (w i : Nat) : (s.postBit w i).lne = s.lne :=
  (postBit_frame s w i).parts .lne (by decide) (by decide)
@[simp] theorem postBit_qdm (s : State) (w i : Nat) : (s.postBit w i).qdm = s.qdm :=
  (postBit_frame s w i).parts .qdm (by decide) (by decide)
@[simp] theorem postBit_tbs (s : State) (w i : Nat) : (s.postBit w i).tbs = s.tbs :=
  (postBit_frame s w i).parts .tbs (by decide) (by decide)
@[simp] theorem postBit_eth0 (s : State) (w i : Nat) : (s.postBit w i).eth0 = s.eth0 :=
  (postBit_frame s w i).parts .eth0 (by decide) (by decide)
@[simp] theorem postBit_eth1 (s : State) (w i : Nat) : (s.postBit w i).eth1 = s.eth1 :=
  (postBit_frame s w i).parts .eth1 (by decide) (by decide)
@[simp] theorem postBit_rtc (s : State) (w i : Nat) : (s.postBit w i).rtc = s.rtc :=
  (postBit_frame s w i).parts .rtc (by decide) (by decide)
@[simp] theorem postBit_key (s : State) (w i : Nat) : (s.postBit w i).key = s.key :=
  (postBit_frame s w i).parts .key (by decide) (by decide)
@[simp] theorem postBit_upd (s : State) (w i : Nat) : (s.postBit w i).upd = s.upd :=
  (postBit_frame s w i).parts .upd (by decide) (by decide)
@[simp] theorem postBit_usb (s : State) (w i : Nat) : (s.postBit w i).usb = s.usb :=
  (postBit_frame s w i).parts .usb (by decide) (by decide)
@[simp] theorem postBit_sys (s : State) (w i : Nat) : (s.postBit w i).sys = s.sys :=
  (postBit_frame s w i).parts .sys (by decide) (by decide)
@[simp] theorem postBit_flt (s : State) (w i : Nat) : (s.postBit w i).flt = s.flt :=
  (postBit_frame s w i).parts .flt (by decide) (by decide)
@[simp] theorem postBit_pin (s : State) (w i : Nat) : (s.postBit w i).pin = s.pin :=
  (postBit_frame s w i).parts .pin (by decide) (by decide)
@[simp] theorem postBit_pending (s : State) (w i : Nat) : (s.postBit w i).pending = s.pending :=
  (postBit_frame s w i).parts .pending (by decide) (by decide)
@[simp] theorem postBit_regs_cfg (s : State) (w i : Nat) : (s.postBit w i).regs.cfg = s.regs.cfg :=
  (postBit_frame s w i).parts .cfg (by decide) (by decide)
@[simp] theorem postBit_regs_act (s : State) (w i : Nat) : (s.postBit w i).regs.act = s.regs.act :=
  (postBit_frame s w i).parts .act (by decide) (by decide)
@[simp] theorem postBit_regs_changed (s : State) (w i : Nat) : (s.postBit w i).regs.changed = s.regs.changed :=
  (postBit_frame s w i).parts .changed (by decide) (by decide)
@[simp] theorem postBit_regs_pairs (s : State) (w i : Nat) : (s.postBit w i).regs.pairs = s.regs.pairs :=
  (postBit_frame s w i).parts .pairs (by decide) (by decide)
@[simp] theorem postBit_regs_latch (s : State) (w i : Nat) : (s.postBit w i).regs.latch = s.regs.latch :=
  (postBit_frame s w i).parts .latch (by decide) (by decide)
@[simp] theorem postBit_regs_busErr (s : State) (w i : Nat) : (s.postBit w i).regs.busErr = s.regs.busErr :=
  (postBit_frame s w i).parts .busErr (by decide) (by decide)
@[simp] theorem postBit_regs_reply (s : State) (w i : Nat) : (s.postBit w i).regs.reply = s.regs.reply :=
  (postBit_frame s w i).parts .reply (by decide) (by decide)
@[simp] theorem postBit_regs_partestSeen (s : State) (w i : Nat) : (s.postBit w i).regs.partestSeen = s.regs.partestSeen :=
  (postBit_frame s w i).parts .parity (by decide) (by decide)
@[simp] theorem postBit_byte (s : State) (w i : Nat) (x : Nat) : (s.postBit w i).byte x = s.byte x :=
  (postBit_frame s w i).parts .mem (by decide) (by decide) x

theorem event_frame (s : State) (w : Nat) (b : Option Nat) (l : List (List Byte)) : Frame [.evr, .stat] [] s (s.event w b l) :=
  frame_event _ _ _ (frame_refl _) (by decide)

@[simp] theorem event_cyc (s : State) (w : Nat) (b : Option Nat) (l : List (List Byte)) : (s.event w b l).cyc = s.cyc :=
  (event_frame s w b l).parts .cyc (by decide) (by decide)
@[simp] theorem event_freeCtr (s : State) (w : Nat) (b : Option Nat) (l : List (List Byte)) : (s.event w b l).freeCtr = s.freeCtr :=
  (event_frame s w b l).parts .free (by decide) (by decide)
@[simp] theorem event_str (s : State) (w : Nat) (b : Option Nat) (l : List (List Byte)) : (s.event w b l).str = s.str :=
  (event_frame s w b l).parts .str (by decide) (by decide)
@[simp] theorem event_ltb (s : State) (w : Nat) (b : Option Nat) (l : List (List Byte)) : (s.event w b l).ltb = s.ltb :=
  (event_frame s w b l).parts .ltb (by decide) (by decide)
@[simp] theorem event_scn (s : State) (w : Nat) (b : Option Nat) (l : List (List Byte)) : (s.event w b l).scn = s.scn :=
  (event_frame s w b l).parts .scn (by decide) (by decide)
@[simp] theorem event_wav (s : State) (w : Nat) (b : Option Nat) (l : List (List Byte)) : (s.event w b l).wav = s.wav :=
  (event_frame s w b l).parts .wav (by decide) (by decide)
@[simp] theorem event_mst (s : State) (w : Nat) (b : Option Nat) (l : List (List Byte)) : (s.event w b l).mst = s.mst :=
  (event_frame s w b l).parts .mst (by decide) (by decide)
@[simp] theorem event_mtr (s : State) (w : Nat) (b : Option Nat) (l : List (List Byte)) : (s.event w b l).mtr = s.mtr :=
  (event_frame s w b l).parts .mtr (by decide) (by decide)
@[simp] theorem event_acc (s : State) (w : Nat) (b : Option Nat) (l : List (List Byte)) : (s.event w b l).acc = s.acc :=
  (event_frame s w b l).parts .acc (by decide) (by decide)
@[simp] theorem event_lne (s : State) (w : Nat) (b : Option Nat) (l : List (List Byte)) : (s.event w b l).lne = s.lne :=
  (event_frame s w b l).parts .lne (by decide) (by decide)
@[simp] theorem event_qdm (s : State) (w : Nat) (b : Option Nat) (l : List (List Byte)) : (s.event w b l).qdm = s.qdm :=
  (event_frame s w b l).parts .qdm (by decide) (by decide)
@[simp] theorem event_tbs (s : State) (w : Nat) (b : Option Nat) (l : List (List Byte)) : (s.event w b l).tbs = s.tbs :=
  (event_frame s w b l).parts .tbs (by decide) (by decide)
@[simp] theorem event_eth0 (s : State) (w : Nat) (b : Option Nat) (l : List (List Byte)) : (s.event w b l).eth0 = s.eth0 :=
  (event_frame s w b l).parts .eth0 (by decide) (by decide)
@[simp] theorem event_eth1 (s : State) (w : Nat) (b : Option Nat) (l : List (List Byte)) : (s.event w b l).eth1 = s.eth1 :=
  (event_frame s w b l).parts .eth1 (by decide) (by decide)
@[simp] theorem event_rtc (s : State) (w : Nat) (b : Option Nat) (l : List (List Byte)) : (s.event w b l).rtc = s.rtc :=
  (event_frame s w b l).parts .rtc (by decide) (by decide)
@[simp] theorem event_key (s : State) (w : Nat) (b : Option Nat) (l : List (List Byte)) : (s.event w b l).key = s.key :=
  (event_frame s w b l).parts .key (by decide) (by decide)
@[simp] theorem event_upd (s : State) (w : Nat) (b : Option Nat) (l : List (List Byte)) : (s.event w b l).upd = s.upd :=
  (event_frame s w b l).parts .upd (by decide) (by decide)
@[simp] theorem event_usb (s : State) (w : Nat) (b : Option Nat) (l : List (List Byte)) : (s.event w b l).usb = s.usb :=
  (event_frame s w b l).parts .usb (by decide) (by decide)
@[simp] theorem event_sys (s : State) (w : Nat) (b : Option Nat) (l : List (List Byte)) : (s.event w b l).sys = s.sys :=
  (event_frame s w b l).parts .sys (by decide) (by decide)
@[simp] theorem event_flt (s : State) (w : Nat) (b : Option Nat) (l : List (List Byte)) : (s.event w b l).flt = s.flt :=
  (event_frame s w b l).parts .flt (by decide) (by decide)
@[simp] theorem event_pin (s : State) (w : Nat) (b : Option Nat) (l : List (List Byte)) : (s.event w b l).pin = s.pin :=
  (event_frame s w b l).parts .pin (by decide) (by decide)
@[simp] theorem event_pending (s : State) (w : Nat) (b : Option Nat) (l : List (List Byte)) : (s.event w b l).pending = s.pending :=
  (event_frame s w b l).parts .pending (by decide) (by decide)
@[simp] theorem event_regs_cfg (s : State) (w : Nat) (b : Option Nat) (l : List (List Byte)) : (s.event w b l).regs.cfg = s.regs.cfg :=
  (event_frame s w b l).parts .cfg (by decide) (by decide)
@[simp] theorem event_regs_act (s : State) (w : Nat) (b : Option Nat) (l : List (List Byte)) : (s.event w b l).regs.act = s.regs.act :=
  (event_frame s w b l).parts .act (by decide) (by decide)
@[simp] theorem event_regs_changed (s : State) (w : Nat) (b : Option Nat) (l : List (List Byte)) : (s.event w b l).regs.changed = s.regs.changed :=
  (event_frame s w b l).parts .changed (by decide) (by decide)
@[simp] theorem event_regs_pairs (s : State) (w : Nat) (b : Option Nat) (l : List (List Byte)) : (s.event w b l).regs.pairs = s.regs.pairs :=
  (event_frame s w b l).parts .pairs (by decide) (by decide)
@[simp] theorem event_regs_latch (s : State) (w : Nat) (b : Option Nat) (l : List (List Byte)) : (s.event w b l).regs.latch = s.regs.latch :=
  (event_frame s w b l).parts .latch (by decide) (by decide)
@[simp] theorem event_regs_busErr (s : State) (w : Nat) (b : Option Nat) (l : List (List Byte)) : (s.event w b l).regs.busErr = s.regs.busErr :=
  (event_frame s w b l).parts .busErr (by decide) (by decide)
@[simp] theorem event_regs_reply (s : State) (w : Nat) (b : Option Nat) (l : List (List Byte)) : (s.event w b l).regs.reply = s.regs.reply :=
  (event_frame s w b l).parts .reply (by decide) (by decide)
@[simp] theorem event_regs_partestSeen (s : State) (w : Nat) (b : Option Nat) (l : List (List Byte)) : (s.event w b l).regs.partestSeen = s.regs.partestSeen :=
  (event_frame s w b l).parts .parity (by decide) (by decide)
@[simp] theorem event_byte (s : State) (w : Nat) (b : Option Nat) (l : List (List Byte)) (x : Nat) : (s.event w b l).byte x = s.byte x :=
  (event_frame s w b l).parts .mem (by decide) (by decide) x

theorem postEvent_frame (s : State) (w i : Nat) (l : List (List Byte)) : Frame [.evr, .stat] [] s (s.postEvent w i l) :=
  frame_postEvent _ _ _ (frame_refl _) (by decide) (.inl (by decide))

@[simp] theorem postEvent_cyc (s : State) (w i : Nat) (l : List (List Byte)) : (s.postEvent w i l).cyc = s.cyc :=
  (postEvent_frame s w i l).parts .cyc (by decide) (by decide)
@[simp] theorem postEvent_freeCtr (s : State) (w i : Nat) (l : List (List Byte)) : (s.postEvent w i l).freeCtr = s.freeCtr :=
  (postEvent_frame s w i l).parts .free (by decide) (by decide)
@[simp] theorem postEvent_str (s : State) (w i : Nat) (l : List (List Byte)) : (s.postEvent w i l).str = s.str :=
  (postEvent_frame s w i l).parts .str (by decide) (by decide)
@[simp] theorem postEvent_ltb (s : State) (w i : Nat) (l : List (List Byte)) : (s.postEvent w i l).ltb = s.ltb :=
  (postEvent_frame s w i l).parts .ltb (by decide) (by decide)
@[simp] theorem postEvent_scn (s : State) (w i : Nat) (l : List (List Byte)) : (s.postEvent w i l).scn = s.scn :=
  (postEvent_frame s w i l).parts .scn (by decide) (by decide)
@[simp] theorem postEvent_wav (s : State) (w i : Nat) (l : List (List Byte)) : (s.postEvent w i l).wav = s.wav :=
  (postEvent_frame s w i l).parts .wav (by decide) (by decide)
@[simp] theorem postEvent_mst (s : State) (w i : Nat) (l : List (List Byte)) : (s.postEvent w i l).mst = s.mst :=
  (postEvent_frame s w i l).parts .mst (by decide) (by decide)
@[simp] theorem postEvent_mtr (s : State) (w i : Nat) (l : List (List Byte)) : (s.postEvent w i l).mtr = s.mtr :=
  (postEvent_frame s w i l).parts .mtr (by decide) (by decide)
@[simp] theorem postEvent_acc (s : State) (w i : Nat) (l : List (List Byte)) : (s.postEvent w i l).acc = s.acc :=
  (postEvent_frame s w i l).parts .acc (by decide) (by decide)
@[simp] theorem postEvent_lne (s : State) (w i : Nat) (l : List (List Byte)) : (s.postEvent w i l).lne = s.lne :=
  (postEvent_frame s w i l).parts .lne (by decide) (by decide)
@[simp] theorem postEvent_qdm (s : State) (w i : Nat) (l : List (List Byte)) : (s.postEvent w i l).qdm = s.qdm :=
  (postEvent_frame s w i l).parts .qdm (by decide) (by decide)
@[simp] theorem postEvent_tbs (s : State) (w i : Nat) (l : List (List Byte)) : (s.postEvent w i l).tbs = s.tbs :=
  (postEvent_frame s w i l).parts .tbs (by decide) (by decide)
@[simp] theorem postEvent_eth0 (s : State) (w i : Nat) (l : List (List Byte)) : (s.postEvent w i l).eth0 = s.eth0 :=
  (postEvent_frame s w i l).parts .eth0 (by decide) (by decide)
@[simp] theorem postEvent_eth1 (s : State) (w i : Nat) (l : List (List Byte)) : (s.postEvent w i l).eth1 = s.eth1 :=
  (postEvent_frame s w i l).parts .eth1 (by decide) (by decide)
@[simp] theorem postEvent_rtc (s : State) (w i : Nat) (l : List (List Byte)) : (s.postEvent w i l).rtc = s.rtc :=
  (postEvent_frame s w i l).parts .rtc (by decide) (by decide)
@[simp] theorem postEvent_key (s : State) (w i : Nat) (l : List (List Byte)) : (s.postEvent w i l).key = s.key :=
  (postEvent_frame s w i l).parts .key (by decide) (by decide)
@[simp] theorem postEvent_upd (s : State) (w i : Nat) (l : List (List Byte)) : (s.postEvent w i l).upd = s.upd :=
  (postEvent_frame s w i l).parts .upd (by decide) (by decide)
@[simp] theorem postEvent_usb (s : State) (w i : Nat) (l : List (List Byte)) : (s.postEvent w i l).usb = s.usb :=
  (postEvent_frame s w i l).parts .usb (by decide) (by decide)
@[simp] theorem postEvent_sys (s : State) (w i : Nat) (l : List (List Byte)) : (s.postEvent w i l).sys = s.sys :=
  (postEvent_frame s w i l).parts .sys (by decide) (by decide)
@[simp] theorem postEvent_flt (s : State) (w i : Nat) (l : List (List Byte)) : (s.postEvent w i l).flt = s.flt :=
  (postEvent_frame s w i l).parts .flt (by decide) (by decide)
@[simp] theorem postEvent_pin (s : State) (w i : Nat) (l : List (List Byte)) : (s.postEvent w i l).pin = s.pin :=
  (postEvent_frame s w i l).parts .pin (by decide) (by decide)
@[simp] theorem postEvent_pending (s : State) (w i : Nat) (l : List (List Byte)) : (s.postEvent w i l).pending = s.pending :=
  (postEvent_frame s w i l).parts .pending (by decide) (by decide)
@[simp] theorem postEvent_regs_cfg (s : State) (w i : Nat) (l : List (List Byte)) : (s.postEvent w i l).regs.cfg = s.regs.cfg :=
  (postEvent_frame s w i l).parts .cfg (by decide) (by decide)
@[simp] theorem postEvent_regs_act (s : State) (w i : Nat) (l : List (List Byte)) : (s.postEvent w i l).regs.act = s.regs.act :=
  (postEvent_frame s w i l).parts .act (by decide) (by decide)
@[simp] theorem postEvent_regs_changed (s : State) (w i : Nat) (l : List (List Byte)) : (s.postEvent w i l).regs.changed = s.regs.changed :=
  (postEvent_frame s w i l).parts .changed (by decide) (by decide)
@[simp] theorem postEvent_regs_pairs (s : State) (w i : Nat) (l : List (List Byte)) : (s.postEvent w i l).regs.pairs = s.regs.pairs :=
  (postEvent_frame s w i l).parts .pairs (by decide) (by decide)
@[simp] theorem postEvent_regs_latch (s : State) (w i : Nat) (l : List (List Byte)) : (s.postEvent w i l).regs.latch = s.regs.latch :=
  (postEvent_frame s w i l).parts .latch (by decide) (by decide)
@[simp] theorem postEvent_regs_busErr (s : State) (w i : Nat) (l : List (List Byte)) : (s.postEvent w i l).regs.busErr = s.regs.busErr :=
  (postEvent_frame s w i l).parts .busErr (by decide) (by decide)
@[simp] theorem postEvent_regs_reply (s : State) (w i : Nat) (l : List (List Byte)) : (s.postEvent w i l).regs.reply = s.regs.reply :=
  (postEvent_frame s w i l).parts .reply (by decide) (by decide)
@[simp] theorem postEvent_regs_partestSeen (s : State) (w i : Nat) (l : List (List Byte)) : (s.postEvent w i l).regs.partestSeen = s.regs.partestSeen :=
  (postEvent_frame s w i l).parts .parity (by decide) (by decide)
@[simp] theorem postEvent_byte (s : State) (w i : Nat) (l : List (List Byte)) (x : Nat) : (s.postEvent w i l).byte x = s.byte x :=
  (postEvent_frame s w i l).parts .mem (by decide) (by decide) x

/-! ## The bit is set (R94, R95) -/

/-- Whether an event bit is set depends on the status registers alone. -/
theorem raised_of_stat {s t : State} (h : t.regs.stat = s.regs.stat) (a i : Nat) : t.raised a i ↔ s.raised a i := by
  simp only [State.raised, State.statOf, h]

theorem raised_setBits {s : State} {a b i : Nat} (h : b.testBit i = true) : (s.setBits a b).raised a i := by
  left
  simp only [State.setBits, statOf_setStat, if_true, Nat.testBit_or, h, Bool.or_true]

theorem raised_joinBits {s : State} {a b i : Nat} (h : b.testBit i = true) : (s.joinBits a b).raised a i := by
  left
  simp only [State.joinBits, statOf_setStat, if_true, Nat.testBit_or, h, Bool.or_true]

theorem raised_holdBits {s : State} {a b i : Nat} (h : b.testBit i = true) : (s.holdBits a b).raised a i := by
  right
  unfold State.holdBits
  dsimp only
  split
  · rename_i x _
    split
    · refine ⟨{ x with bits := x.bits ||| b }, ?_, by simp [Nat.testBit_or, h]⟩
      rw [statOf_setStat, if_pos rfl]
      exact List.mem_append_right _ (List.mem_singleton_self _)
    · refine ⟨{ bits := b, cyc := s.cyc }, ?_, h⟩
      rw [statOf_setStat, if_pos rfl]
      exact List.mem_append_right _ (List.mem_singleton_self _)
  · refine ⟨{ bits := b, cyc := s.cyc }, ?_, h⟩
    rw [statOf_setStat, if_pos rfl]
    exact List.mem_singleton_self _

/-- Holding event bits loses none. -/
theorem raised_holdBits_of {s : State} {a b c i : Nat} (h : s.raised c i) : (s.holdBits a b).raised c i := by
  unfold State.holdBits
  dsimp only
  cases hl : (s.statOf a).held.getLast? with
  | none =>
    have e : (s.statOf a).held = [] := by simpa using hl
    simp only [State.raised, statOf_setStat] at *
    split
    · rename_i hc; subst hc; exact .inl (h.resolve_right (by simp [e]))
    · exact h
  | some x =>
    obtain ⟨ys, hy⟩ := List.getLast?_eq_some_iff.1 hl
    dsimp only
    split <;> simp only [State.raised, statOf_setStat] at * <;> split
    · rename_i hc; subst hc
      simp only [hy, List.dropLast_concat, List.mem_append, List.mem_singleton] at *
      refine h.imp_right fun ⟨y, hy1, hy2⟩ => ?_
      rcases hy1 with hy1 | rfl
      · exact ⟨y, .inl hy1, hy2⟩
      · exact ⟨_, .inr rfl, by simp [Nat.testBit_or, hy2]⟩
    · exact h
    · rename_i hc; subst hc
      exact h.imp_right fun ⟨y, h1, h2⟩ => ⟨y, List.mem_append_left _ h1, h2⟩
    · exact h

theorem raised_setBits_of {s : State} {a b c i : Nat} (h : s.raised c i) : (s.setBits a b).raised c i := by
  simp only [State.raised, State.setBits, statOf_setStat] at *
  split
  · rename_i e; subst e; exact h.imp_left fun h => by simp [Nat.testBit_or, h]
  · exact h

theorem raised_joinBits_of {s : State} {a b c i : Nat} (h : s.raised c i) : (s.joinBits a b).raised c i := by
  simp only [State.raised, State.joinBits, statOf_setStat] at *
  split
  · rename_i e; subst e; exact h.imp_left fun h => by simp [Nat.testBit_or, h]
  · exact h

/-! What the recorder does clears no event bit, given that what it sets its own bits with does not. -/

theorem raised_weirAdmitBy {set : State → Nat → State} {s : State} {x : RecEntry} {c i : Nat} (h : s.raised c i)
    (hset : ∀ t j, t.raised c i → (set t j).raised c i) : (State.weirAdmitBy set s x).raised c i := by
  unfold State.weirAdmitBy
  split
  · exact h
  · exact hset _ _ h

theorem raised_triggerBy {set : State → Nat → State} {s : State} {n c i : Nat} (h : s.raised c i)
    (hset : ∀ t j, t.raised c i → (set t j).raised c i) : (State.triggerBy set s n).raised c i := by
  unfold State.triggerBy
  dsimp only
  repeat' first
    | exact h
    | (with_reducible first | apply hset | refine raised_weirAdmitBy ?_ hset)
    | split

theorem raised_triggerAllBy {set : State → Nat → State} {c i : Nat} (l : List Nat) {s : State} (h : s.raised c i)
    (hset : ∀ t j, t.raised c i → (set t j).raised c i) : (State.triggerAllBy set s l).raised c i := by
  induction l generalizing s with
  | nil => exact h
  | cons n r ih => exact ih (raised_triggerBy h hset)

theorem raised_recBitN {c i : Nat} (n j : Nat) {s : State} (h : s.raised c i) :
    (State.recBitN n s j).raised c i := by
  induction n generalizing s j with
  | zero => exact raised_holdBits_of h
  | succ n ih =>
    unfold State.recBitN
    dsimp only
    split
    · exact raised_holdBits_of h
    split
    · split
      · exact h
      · exact raised_triggerAllBy _ (raised_joinBits_of h) fun _ _ g => ih _ g
    split
    · exact raised_holdBits_of h
    · exact raised_triggerAllBy _ (raised_setBits_of h) fun _ _ g => ih _ g

theorem raised_weirAdmit {s : State} {x : RecEntry} {c i : Nat} (h : s.raised c i) : (s.weirAdmit x).raised c i :=
  raised_weirAdmitBy h fun _ j g => raised_recBitN 4 j g

theorem raised_event {s : State} {w : Nat} {b : Option Nat} {l : List (List Byte)} {c i : Nat} (h : s.raised c i) :
    (s.event w b l).raised c i := raised_weirAdmit h

theorem raised_trigger {s : State} {n c i : Nat} (h : s.raised c i) : (s.trigger n).raised c i :=
  raised_triggerBy h fun _ j g => raised_recBitN 4 j g

theorem raised_triggerAll {c i : Nat} (l : List Nat) {s : State} (h : s.raised c i) : (s.triggerAll l).raised c i :=
  raised_triggerAllBy l h fun _ j g => raised_recBitN 4 j g

/-- An event bit that a block sets is set, or held for a later 1 µs step. -/
theorem raised_post {s : State} {a b i : Nat} (h : (b % 2 ^ 24 &&& statMask a).testBit i = true) :
    (s.post a b).raised a i := by
  unfold State.post
  dsimp only
  split
  · rename_i e; rw [e] at h; simp at h
  · split
    · exact raised_triggerAll _ (raised_joinBits h)
    · split
      · exact raised_holdBits h
      · exact raised_triggerAll _ (raised_setBits h)

theorem raised_postBit {s : State} {w i : Nat} (h : (2 ^ i % 2 ^ 24 &&& statMask (reg w 0)).testBit i = true) :
    (s.postBit w i).raised (reg w 0) i := raised_post h

theorem raised_postEvent {s : State} {w i : Nat} {l : List (List Byte)}
    (h : (2 ^ i % 2 ^ 24 &&& statMask (reg w 0)).testBit i = true) : (s.postEvent w i l).raised (reg w 0) i :=
  raised_event (raised_postBit h)

end Sys2Proof.Laws
end

