-- ==== Sys2Proof/Laws/Completes.lean ====
section
/-! SUPPORT. How a command completes: one lemma for each way a row acts (an access to a register, an occurrence, an
occurrence in a block, time alone), and what keeps event bits. -/

namespace Sys2Proof.Laws
open Sys2Proof Sys2Proof.Machine

variable {c : Nat → Instr} {L : List Piece} {F : List (Nat × Nat)} {pre : State → Prop} {post : State → State → Prop}

/-- A row that accesses one register completes where the register answers and its effect does. -/
theorem comp_access {m a : Nat} {w : Bool} {k : State → State}
    (he : ∀ dt s, exec (c dt) s = .next ((s.elapse dt).access m a w k))
    (hl : ∀ s, pre s → s.lets m a)
    (h : ∀ s, s.powered = true → pre s → post s (k (s.answer 0 false)) ∧ Frame L F s (k (s.answer 0 false))) :
    Completes c L F pre post := by
  intro dt s hp hq
  refine ⟨_, he dt s, ?_⟩
  rw [elapse_after hp, access_lets (hl _ hq)]
  exact h _ hp hq

/-- An occurrence completes where its effect does. -/
theorem comp_occur {k : State → State}
    (he : ∀ dt s, exec (c dt) s = .next (s.occur dt k))
    (h : ∀ s, s.powered = true → pre s → post s (k s) ∧ Frame L F s (k s)) :
    Completes c L F pre post := by
  intro dt s hp hq
  refine ⟨_, he dt s, ?_⟩
  rw [occur_powered hp]
  exact h _ hp hq

/-- An occurrence in a block completes where the block works and its effect does. -/
theorem comp_occurIn {k : State → State} {w : Nat}
    (he : ∀ dt s, exec (c dt) s = .next (s.occurIn dt w k))
    (hw : ∀ s, pre s → s.works w)
    (h : ∀ s, s.powered = true → pre s → post s (k s) ∧ Frame L F s (k s)) :
    Completes c L F pre post := by
  intro dt s hp hq
  refine ⟨_, he dt s, ?_⟩
  rw [occurIn_works (hw _ hq)]
  exact h _ hp hq

/-- A row that acts whatever the supply completes where its effect does. -/
theorem comp_elapse {k : State → State}
    (he : ∀ dt s, exec (c dt) s = .next (k (s.elapse dt)))
    (h : ∀ s, s.powered = true → pre s → post s (k s) ∧ Frame L F s (k s)) :
    Completes c L F pre post := by
  intro dt s hp hq
  refine ⟨_, he dt s, ?_⟩
  rw [elapse_after hp]
  exact h _ hp hq

/-- A frame from its parts alone, where no status register changes. -/
theorem frame_stat {s t : State} (hs : t.regs.stat = s.regs.stat)
    (hp : ∀ p, p ∉ L → p ≠ .stat → p.same s t) : Frame L F s t :=
  ⟨hp, fun _ a i _ _ => raised_of_stat hs a i⟩

/-- The register answers, where the fabric gives no cause for an error response and no pair is open. -/
theorem lets_of {s : State} {m a : Nat} (hp : s.powered = true) (he : s.errCause m a 4 = 0) (ho : s.regs.pairs = []) :
    s.lets m a := ⟨hp, he, fun w _ => by simp [State.openPair, ho]⟩

/-- Setting event bits clears none. -/
theorem raised_post_of {s : State} {a b c i : Nat} (h : s.raised c i) : (s.post a b).raised c i := by
  unfold State.post
  dsimp only
  split
  · exact h
  · split
    · exact raised_triggerAll _ (raised_joinBits_of h)
    · split
      · exact raised_holdBits_of h
      · exact raised_triggerAll _ (raised_setBits_of h)

theorem raised_postBit_of {s : State} {w j c i : Nat} (h : s.raised c i) : (s.postBit w j).raised c i := raised_post_of h

theorem raised_postEvent_of {s : State} {w j c i : Nat} {l : List (List Byte)} (h : s.raised c i) :
    (s.postEvent w j l).raised c i := raised_event (raised_postBit_of h)

end Sys2Proof.Laws
end

