-- ==== Sys2Proof/Laws/Kept.lean ====
section
/-! SUPPORT. What every operation of the module keeps: the fuses of R20, the queue of commands, the security
version, the canonical form of memory, the bounds of the Weir, of the wave engine's FIFO and of the
transmit-timestamp queues. One lemma `kept_<operation>` for each operation. -/

namespace Sys2Proof.Laws
open Sys2Proof Sys2Proof.Machine
set_option linter.all false

theorem weirInsert_filter_length (p : RecEntry → Bool) (x : RecEntry) (l : List RecEntry) :
    ((State.weirInsert x l).filter p).length = (l.filter p).length + (if p x then 1 else 0) := by
  induction l with
  | nil => simp [State.weirInsert, List.filter_cons]; split <;> rfl
  | cons y r ih =>
    unfold State.weirInsert
    split <;> simp only [List.filter_cons] <;> (repeat' split) <;> simp_all <;> omega

theorem filter_split (p : RecEntry → Bool) (l : List RecEntry) :
    (l.filter p).length + (l.filter (fun e => !p e)).length = l.length := by
  induction l with
  | nil => rfl
  | cons y r ih => simp only [List.filter_cons]; cases p y <;> simp <;> omega

theorem modAt_all {α : Type} {P : α → Prop} {f : α → α} (hf : ∀ x, P x → P (f x)) :
    ∀ {l : List α} {k : Nat}, (∀ x ∈ l, P x) → ∀ x ∈ modAt l k f, P x
  | [], _, h => by simp [modAt]
  | y :: r, 0, h => by
    intro x hx
    simp only [modAt, List.mem_cons] at hx
    rcases hx with rfl | hx
    · exact hf _ (h _ (List.mem_cons_self ..))
    · exact h _ (List.mem_cons_of_mem _ hx)
  | y :: r, k + 1, h => by
    intro x hx
    simp only [modAt, List.mem_cons] at hx
    rcases hx with rfl | hx
    · exact h _ (List.mem_cons_self ..)
    · exact modAt_all hf (fun z hz => h z (List.mem_cons_of_mem _ hz)) x hx

theorem modAt_at {α : Type} {P : α → Prop} {f : α → α} {d : α} :
    ∀ {l : List α} {k : Nat}, (∀ x ∈ l, P x) → P (f ((l[k]?).getD d)) → ∀ x ∈ modAt l k f, P x
  | [], _, h, _ => by simp [modAt]
  | y :: r, 0, h, hf => by
    intro x hx
    simp only [modAt, List.mem_cons] at hx
    rcases hx with rfl | hx
    · simpa using hf
    · exact h _ (List.mem_cons_of_mem _ hx)
  | y :: r, k + 1, h, hf => by
    intro x hx
    simp only [modAt, List.mem_cons] at hx
    rcases hx with rfl | hx
    · exact h _ (List.mem_cons_self ..)
    · exact modAt_at (k := k) (d := d) (fun z hz => h z (List.mem_cons_of_mem _ hz)) (by simpa using hf) x hx

/-- `tabRising` as a fact about every key: each is above the bound and below those behind it. -/
theorem tabRising_some {α : Type} (b : Nat) (l : List (Nat × α)) :
    tabRising (some b) l = true → ∀ c ∈ l, b < c.1 := by
  induction l generalizing b with
  | nil => simp
  | cons c r ih =>
    obtain ⟨k, v⟩ := c
    simp only [tabRising, Bool.and_eq_true, decide_eq_true_eq, List.mem_cons]
    rintro ⟨h1, h2⟩ c (rfl | hc)
    · exact h1
    · exact Nat.lt_trans h1 (ih k h2 c hc)

/-- A lower bound may take the place of a higher one. -/
theorem tabRising_weaken {α : Type} {b b' : Nat} (hb : b' ≤ b) {l : List (Nat × α)}
    (h : tabRising (some b) l = true) : tabRising (some b') l = true := by
  cases l with
  | nil => rfl
  | cons c r =>
    obtain ⟨k, v⟩ := c
    simp only [tabRising, Bool.and_eq_true, decide_eq_true_eq] at h ⊢
    exact ⟨Nat.lt_of_le_of_lt hb h.1, h.2⟩

theorem tabRising_none {α : Type} {b : Nat} {l : List (Nat × α)}
    (h : tabRising (some b) l = true) : tabRising none l = true := by
  cases l with
  | nil => rfl
  | cons c r => obtain ⟨k, v⟩ := c; simp only [tabRising, Bool.and_eq_true] at h ⊢; exact h.2

theorem tabSet_rising_some {α : Type} {b k : Nat} {v : α} (hk : b < k) :
    ∀ {l : List (Nat × α)}, tabRising (some b) l = true → tabRising (some b) (tabSet l k v) = true
  | [], _ => by simp [tabSet, tabRising, hk]
  | (k', v') :: r, h => by
    simp only [tabRising, Bool.and_eq_true, decide_eq_true_eq] at h
    unfold tabSet
    split
    · rename_i h1; simp [tabRising, hk, h1, h.2]
    · split
      · rename_i h1 h2; subst h2; simp [tabRising, hk, h.2]
      · rename_i h1 h2
        simp only [tabRising, Bool.and_eq_true, decide_eq_true_eq]
        exact ⟨h.1, tabSet_rising_some (by omega) h.2⟩

/-- Listing a key keeps the keys rising. -/
theorem tabSet_rising {α : Type} {k : Nat} {v : α} {l : List (Nat × α)} (h : tabRising none l = true) :
    tabRising none (tabSet l k v) = true := by
  cases l with
  | nil => rfl
  | cons c r =>
    obtain ⟨k', v'⟩ := c
    simp only [tabRising] at h
    unfold tabSet
    split
    · rename_i h1; simp [tabRising, h1, h]
    · split
      · rename_i h1 h2; subst h2; simpa [tabRising] using h
      · rename_i h1 h2; simp only [tabRising]; exact tabSet_rising_some (by omega) h

theorem filter_rising_some {α : Type} {p : Nat × α → Bool} :
    ∀ {b : Nat} {l : List (Nat × α)}, tabRising (some b) l = true → tabRising (some b) (l.filter p) = true
  | _, [], _ => rfl
  | b, (k, v) :: r, h => by
    simp only [tabRising, Bool.and_eq_true, decide_eq_true_eq] at h
    simp only [List.filter_cons]
    split
    · simp only [tabRising, Bool.and_eq_true, decide_eq_true_eq]; exact ⟨h.1, filter_rising_some h.2⟩
    · exact tabRising_weaken (Nat.le_of_lt h.1) (filter_rising_some h.2)

/-- What is left of a table after dropping entries has its keys rising. -/
theorem filter_rising {α : Type} {p : Nat × α → Bool} {l : List (Nat × α)} (h : tabRising none l = true) :
    tabRising none (l.filter p) = true := by
  cases l with
  | nil => rfl
  | cons c r =>
    obtain ⟨k, v⟩ := c
    simp only [tabRising] at h
    simp only [List.filter_cons]
    split
    · simp only [tabRising]; exact filter_rising_some h
    · exact tabRising_none (filter_rising_some h)

theorem tabSet_mem {α : Type} {k : Nat} {v : α} {c : Nat × α} :
    ∀ {l : List (Nat × α)}, c ∈ tabSet l k v → c = (k, v) ∨ c ∈ l
  | [], h => by simpa [tabSet] using h
  | (k', v') :: r, h => by
    unfold tabSet at h
    split at h
    · simpa using h
    · split at h
      · rcases List.mem_cons.1 h with h | h
        · exact .inl h
        · exact .inr (List.mem_cons_of_mem _ h)
      · rcases List.mem_cons.1 h with h | h
        · exact .inr (h ▸ List.mem_cons_self ..)
        · exact (tabSet_mem h).imp_right (List.mem_cons_of_mem _)

/-- Dropping a key keeps the keys rising. -/
theorem tabDel_rising {α : Type} {k : Nat} {l : List (Nat × α)} (h : tabRising none l = true) :
    tabRising none (tabDel l k) = true := filter_rising h

theorem tabDel_mem {α : Type} {k : Nat} {c : Nat × α} {l : List (Nat × α)} (h : c ∈ tabDel l k) : c ∈ l :=
  (List.mem_filter.1 h).1

/-- Writing a byte of memory keeps the canonical form. -/
theorem tabPut_wf {a : Nat} {b : Byte} {m : List Host.Cell} (ha : State.isMem a = true) (h : Memory.wf m) :
    Memory.wf (tabPut 0 m a b) := by
  obtain ⟨h1, h2⟩ := h
  rw [List.all_eq_true] at h2
  unfold tabPut
  split
  · exact ⟨tabDel_rising h1, List.all_eq_true.2 fun c hc => h2 c (tabDel_mem hc)⟩
  · rename_i hb
    refine ⟨tabSet_rising h1, List.all_eq_true.2 fun c hc => ?_⟩
    rcases tabSet_mem hc with rfl | hc
    · simpa [ha] using hb
    · exact h2 c hc

/-- Dropping bytes of memory keeps the canonical form. -/
theorem filter_wf {p : Host.Cell → Bool} {m : List Host.Cell} (h : Memory.wf m) : Memory.wf (m.filter p) :=
  ⟨filter_rising h.1, List.all_eq_true.2 fun c hc => List.all_eq_true.1 h.2 c (List.mem_filter.1 hc).1⟩

/-- What no operation of the module changes or breaks, from one state to a later one. -/
structure Kept (s t : State) : Prop where
  fixed : (t.sys.fuses.variantU, t.sys.fuses.eui, t.sys.fuses.mac0, t.sys.fuses.mac1)
    = (s.sys.fuses.variantU, s.sys.fuses.eui, s.sys.fuses.mac0, s.sys.fuses.mac1)
  queue : t.pending = s.pending
  secver : s.upd.secver ≤ t.upd.secver
  mem : Memory.wf s.mem → Memory.wf t.mem
  weir : weirOk s.evr.weir → weirOk t.evr.weir
  fifo : s.wav.fifo.length ≤ 48 → t.wav.fifo.length ≤ 48
  tsq : (∀ q ∈ s.tbs.tsqs, q.entries.length ≤ 16) → ∀ q ∈ t.tbs.tsqs, q.entries.length ≤ 16

theorem Kept.refl (s : State) : Kept s s :=
  ⟨rfl, rfl, Nat.le_refl _, id, id, id, id⟩

theorem Kept.trans {r s t : State} (a : Kept r s) (b : Kept s t) : Kept r t :=
  ⟨b.fixed.trans a.fixed, b.queue.trans a.queue, Nat.le_trans a.secver b.secver, fun h => b.mem (a.mem h),
    fun h => b.weir (a.weir h), fun h => b.fifo (a.fifo h), fun h => b.tsq (a.tsq h)⟩

/-- `Kept`, of a state built field by field. -/
def Built (z t : State) : Prop := Kept z t

theorem kept_mk {z : State} {cyc freeCtr regs str ltb scn wav mst mtr acc lne qdm tbs eth0 eth1 rtc evr key
    upd usb sys flt pin mem pending} :
    Kept z (State.mk cyc freeCtr regs str ltb scn wav mst mtr acc lne qdm tbs eth0 eth1 rtc evr key upd usb
      sys flt pin mem pending)
    = Built z (State.mk cyc freeCtr regs str ltb scn wav mst mtr acc lne qdm tbs eth0 eth1 rtc evr key upd usb
      sys flt pin mem pending) := rfl

/-- An update of units that leaves the fields of `Kept` as they are. -/
theorem built {z s : State} {cyc freeCtr regs str ltb scn wav mst mtr acc lne qdm tbs eth0 eth1 rtc evr key
    upd usb sys flt pin} (h : Kept z s)
    (hs : (sys.fuses.variantU, sys.fuses.eui, sys.fuses.mac0, sys.fuses.mac1)
      = (s.sys.fuses.variantU, s.sys.fuses.eui, s.sys.fuses.mac0, s.sys.fuses.mac1))
    (hu : upd.secver = s.upd.secver) (hw : evr.weir = s.evr.weir) (hf : wav.fifo = s.wav.fifo)
    (ht : tbs.tsqs = s.tbs.tsqs) :
    Built z (State.mk cyc freeCtr regs str ltb scn wav mst mtr acc lne qdm tbs eth0 eth1 rtc evr key upd usb
      sys flt pin s.mem s.pending) :=
  h.trans ⟨hs, rfl, Nat.le_of_eq hu.symm, id, fun a => hw ▸ a, fun a => hf ▸ a, fun a => ht ▸ a⟩

theorem kept_foldl {α : Type} {z : State} {f : State → α → State} {l : List α} {s : State}
    (h : Kept z s) (hf : ∀ t x, Kept z t → Kept z (f t x)) : Kept z (l.foldl f s) := by
  induction l generalizing s with
  | nil => exact h
  | cons x r ih => exact ih (hf s x h)

theorem kept_ite {z a b : State} {c : Prop} [Decidable c] (ha : Kept z a) (hb : Kept z b) :
    Kept z (if c then a else b) := by split <;> assumption

theorem kept_foldl1 {α β : Type} {z : State} {f : State × β → α → State × β} {l : List α} {s : State × β}
    (h : Kept z s.1) (hf : ∀ t x, Kept z t.1 → Kept z (f t x).1) : Kept z (l.foldl f s).1 := by
  induction l generalizing s with
  | nil => exact h
  | cons x r ih => exact ih (hf s x h)

theorem kept_ite1 {β : Type} {z : State} {a b : State × β} {c : Prop} [Decidable c] (ha : Kept z a.1) (hb : Kept z b.1) :
    Kept z (if c then a else b).1 := by split <;> assumption

variable {z s : State}

theorem kept_elapse (dt : Nat) (hk0 : Kept z s) : Kept z (State.elapse s dt) := by
  unfold State.elapse
  try dsimp only
  repeat' first
    | (with_reducible first
      | assumption | apply built | apply kept_ite)
    | simp only [kept_mk] | split | exact Eq.refl _

theorem kept_fresh (hk0 : Kept z s) : Kept z (State.fresh s) :=
  built hk0 rfl rfl rfl rfl rfl

theorem kept_setByte (a : Nat) (b : Byte) (hk0 : Kept z s) : Kept z (s.setByte a b) := by
  unfold State.setByte
  split
  · rename_i h
    refine hk0.trans ⟨rfl, rfl, Nat.le_refl _, fun w => ?_, id, id, id⟩
    exact tabPut_wf h w
  · exact hk0

theorem kept_setBytes (a : Nat) (x2 : List Byte) (hk0 : Kept z s) : Kept z (State.setBytes s a x2) := by
  induction x2 generalizing s a
  · exact hk0
  · rename_i ih
    unfold State.setBytes
    try dsimp only
    repeat' first
      | (with_reducible first
        | assumption | apply ih | apply kept_setByte | apply kept_ite)
      | split

theorem kept_setMemLE (a : Nat) (n : Nat) (v : Nat) (hk0 : Kept z s) : Kept z (State.setMemLE s a n v) := by
  unfold State.setMemLE
  repeat' first
    | (with_reducible first
      | assumption | apply kept_setBytes)

theorem kept_putCfg (a : Nat) (w : PWord) (hk0 : Kept z s) : Kept z (State.putCfg s a w) := by
  unfold State.putCfg
  try dsimp only
  repeat' first
    | (with_reducible first
      | assumption | apply built | apply kept_ite)
    | simp only [kept_mk] | split | exact Eq.refl _

theorem kept_setCfg (a : Nat) (v : Word) (hk0 : Kept z s) : Kept z (State.setCfg s a v) := by
  unfold State.setCfg
  repeat' first
    | (with_reducible first
      | assumption | apply kept_putCfg)

theorem kept_refreshCfg (a : Nat) (hk0 : Kept z s) : Kept z (State.refreshCfg s a) := by
  unfold State.refreshCfg
  repeat' first
    | (with_reducible first
      | assumption | apply kept_setCfg | apply kept_ite)
    | split

theorem kept_putAct (a : Nat) (w : PWord) (hk0 : Kept z s) : Kept z (State.putAct s a w) :=
  built hk0 rfl rfl rfl rfl rfl

theorem kept_setAct (a : Nat) (v : Word) (hk0 : Kept z s) : Kept z (State.setAct s a v) := by
  unfold State.setAct
  repeat' first
    | (with_reducible first
      | assumption | apply kept_putAct)

theorem kept_markChanged (a : Nat) (hk0 : Kept z s) : Kept z (State.markChanged s a) :=
  built hk0 rfl rfl rfl rfl rfl

theorem kept_takeUp (c : Nat) (a : Nat) (hk0 : Kept z s) : Kept z (State.takeUp s c a) := by
  unfold State.takeUp
  try dsimp only
  repeat' first
    | (with_reducible first
      | assumption | apply kept_setAct | apply built | apply kept_ite)
    | simp only [kept_mk] | split | exact Eq.refl _

theorem kept_setStat (a : Nat) (r : StatReg) (hk0 : Kept z s) : Kept z (State.setStat s a r) :=
  built hk0 rfl rfl rfl rfl rfl

theorem kept_setLatch (a : Nat) (v : Word) (hk0 : Kept z s) : Kept z (State.setLatch s a v) :=
  built hk0 rfl rfl rfl rfl rfl

theorem kept_answer (v : Word) (err : Bool) (hk0 : Kept z s) : Kept z (State.answer s v err) :=
  built hk0 rfl rfl rfl rfl rfl

theorem kept_answerHi (v : Word) (hk0 : Kept z s) : Kept z (State.answerHi s v) :=
  built hk0 rfl rfl rfl rfl rfl

theorem kept_raiseReset (n : Nat) (hk0 : Kept z s) : Kept z (State.raiseReset s n) :=
  built hk0 rfl rfl rfl rfl rfl

theorem kept_setHandle (typ : Nat) (idx : Nat) (h0 : Handle) (hk0 : Kept z s) : Kept z (State.setHandle s typ idx
    h0) :=
  built hk0 rfl rfl rfl rfl rfl

theorem kept_setLane (n : Nat) (f : Lane → Lane) (hk0 : Kept z s) : Kept z (State.setLane s n f) :=
  built hk0 rfl rfl rfl rfl rfl

theorem kept_recStore (e : RecEntry) (hk0 : Kept z s) : Kept z (State.recStore s e) :=
  built hk0 rfl rfl rfl rfl rfl

theorem kept_recBypass (kind : Nat) (source : Nat) (code : Nat) (payload : List Byte) (hk0 : Kept z s) : Kept z
    (State.recBypass s kind source code payload) := by
  unfold State.recBypass
  repeat' first
    | (with_reducible first
      | assumption | apply kept_recStore)

theorem kept_setBits (a : Nat) (bits : Nat) (hk0 : Kept z s) : Kept z (State.setBits s a bits) := by
  unfold State.setBits
  try dsimp only
  repeat' first
    | intro _
    | (with_reducible first
      | assumption | apply kept_setStat | apply kept_foldl1 | apply kept_foldl | apply built | apply kept_ite)
    | simp only [kept_mk] | split | exact Eq.refl _

theorem kept_joinBits (a : Nat) (bits : Nat) (hk0 : Kept z s) : Kept z (State.joinBits s a bits) := by
  unfold State.joinBits
  try dsimp only
  repeat' first
    | intro _
    | (with_reducible first
      | assumption | apply kept_setStat | apply kept_foldl1 | apply kept_foldl | apply built | apply kept_ite)
    | simp only [kept_mk] | split | exact Eq.refl _

theorem kept_holdBits (a : Nat) (bits : Nat) (hk0 : Kept z s) : Kept z (State.holdBits s a bits) := by
  unfold State.holdBits
  try dsimp only
  repeat' first
    | (with_reducible first
      | assumption | apply kept_setStat | apply built | apply kept_ite)
    | simp only [kept_mk] | split | exact Eq.refl _

theorem kept_recLoseBy (set : State → Nat → State) (n : Nat) (st : Stamp) (hk0 : Kept z s)
    (hset : ∀ t i, Kept z t → Kept z (set t i)) : Kept z (State.recLoseBy set s n st) :=
  hset _ _ (built hk0 rfl rfl rfl rfl rfl)

theorem kept_weirAdmitBy (set : State → Nat → State) (x : RecEntry) (hk0 : Kept z s)
    (hset : ∀ t i, Kept z t → Kept z (set t i)) : Kept z (State.weirAdmitBy set s x) := by
  unfold State.weirAdmitBy
  split
  · rename_i rv hr
    refine hk0.trans ⟨rfl, rfl, Nat.le_refl _, id, fun h => ?_, id, id⟩
    have e := filter_split (fun e => e.resv) s.evr.weir
    unfold State.weirRoom at hr
    dsimp only at hr
    simp only [weirOk] at h
    split at hr
    · cases hr; simp only [weirOk, weirInsert_filter_length]; simp; omega
    · split at hr
      · cases hr; simp only [weirOk, weirInsert_filter_length]; simp; omega
      · cases hr
  · exact kept_recLoseBy _ _ _ hk0 hset

theorem kept_triggerBy (set : State → Nat → State) (n : Nat) (hk0 : Kept z s)
    (hset : ∀ t i, Kept z t → Kept z (set t i)) : Kept z (State.triggerBy set s n) := by
  unfold State.triggerBy
  dsimp only
  repeat' first
    | (with_reducible first
      | assumption | apply hset | apply kept_weirAdmitBy | apply built | apply kept_ite)
    | simp only [kept_mk] | split | exact Eq.refl _

theorem kept_triggerAllBy (set : State → Nat → State) (l : List Nat) (hk0 : Kept z s)
    (hset : ∀ t i, Kept z t → Kept z (set t i)) : Kept z (State.triggerAllBy set s l) := by
  induction l generalizing s with
  | nil => exact hk0
  | cons n r ih => exact ih (kept_triggerBy set n hk0 hset)

theorem kept_recBitN (n i : Nat) (hk0 : Kept z s) : Kept z (State.recBitN n s i) := by
  induction n generalizing s i with
  | zero => exact kept_holdBits _ _ hk0
  | succ n ih =>
    unfold State.recBitN
    dsimp only
    repeat' first
      | (with_reducible first
        | assumption | apply kept_holdBits | apply kept_triggerAllBy | apply kept_joinBits | apply kept_setBits)
      | exact fun _ _ h => ih _ h | split

theorem kept_recBit (i : Nat) (hk0 : Kept z s) : Kept z (State.recBit s i) := by
  unfold State.recBit
  repeat' first
    | (with_reducible first
      | assumption | apply kept_recBitN)

theorem kept_weirAdmit (x : RecEntry) (hk0 : Kept z s) : Kept z (s.weirAdmit x) :=
  kept_weirAdmitBy _ _ hk0 fun _ i h => kept_recBit i h

theorem kept_trigger (n : Nat) (hk0 : Kept z s) : Kept z (s.trigger n) :=
  kept_triggerBy _ _ hk0 fun _ i h => kept_recBit i h

theorem kept_triggerAll (l : List Nat) (hk0 : Kept z s) : Kept z (s.triggerAll l) :=
  kept_triggerAllBy _ _ hk0 fun _ i h => kept_recBit i h

theorem kept_event (w : Nat) (bitNo : Option Nat) (items : List (List Byte)) (hk0 : Kept z s) : Kept z (State.event
    s w bitNo items) := by
  unfold State.event
  try dsimp only
  repeat' first
    | (with_reducible first
      | assumption | apply kept_weirAdmit)

theorem kept_postNow (a : Nat) (bits : Nat) (hk0 : Kept z s) : Kept z (State.postNow s a bits) := by
  unfold State.postNow
  repeat' first
    | (with_reducible first
      | assumption | apply kept_triggerAll | apply kept_setBits)

theorem kept_post (a : Nat) (bits : Nat) (hk0 : Kept z s) : Kept z (State.post s a bits) := by
  unfold State.post
  try dsimp only
  repeat' first
    | (with_reducible first
      | assumption | apply kept_triggerAll | apply kept_joinBits | apply kept_holdBits | apply kept_postNow
      | apply kept_ite)
    | split

theorem kept_postBit (w : Nat) (i : Nat) (hk0 : Kept z s) : Kept z (State.postBit s w i) := by
  unfold State.postBit
  repeat' first
    | (with_reducible first
      | assumption | apply kept_post)

theorem kept_postLane (n : Nat) (i : Nat) (hk0 : Kept z s) : Kept z (State.postLane s n i) := by
  unfold State.postLane
  repeat' first
    | (with_reducible first
      | assumption | apply kept_post)

theorem kept_postEvent (w : Nat) (i : Nat) (items : List (List Byte)) (hk0 : Kept z s) : Kept z (State.postEvent s
    w i items) := by
  unfold State.postEvent
  repeat' first
    | (with_reducible first
      | assumption | apply kept_event | apply kept_postBit)

theorem kept_postHeld (a : Nat) (hk0 : Kept z s) : Kept z (State.postHeld s a) := by
  unfold State.postHeld
  try dsimp only
  repeat' first
    | (with_reducible first
      | assumption | apply kept_postNow | apply kept_setStat | apply built | apply kept_ite)
    | simp only [kept_mk] | split | exact Eq.refl _

theorem kept_busError (master : Nat) (addr : Nat) (write : Bool) (cause : Nat) (hk0 : Kept z s) : Kept z
    (State.busError s master addr write cause) := by
  unfold State.busError
  try dsimp only
  repeat' first
    | (with_reducible first
      | assumption | apply kept_postBit | apply kept_answer | apply built | apply kept_ite)
    | simp only [kept_mk] | split | exact Eq.refl _

theorem kept_dropPair (w : Nat) (hk0 : Kept z s) : Kept z (State.dropPair s w) := by
  unfold State.dropPair
  try dsimp only
  repeat' first
    | (with_reducible first
      | assumption | apply built | apply kept_ite)
    | simp only [kept_mk] | split | exact Eq.refl _

theorem kept_guardFail (w : Nat) (off : Nat) (first : Nat) (second : Nat) (cause : Nat) (master : Nat) (hk0 : Kept
    z s) : Kept z (State.guardFail s w off first second cause master) := by
  unfold State.guardFail
  repeat' first
    | (with_reducible first
      | assumption | apply kept_postEvent)

theorem kept_failPair (p : GuardPair) (cause : Nat) (second : Nat) (hk0 : Kept z s) : Kept z (State.failPair s p
    cause second) := by
  unfold State.failPair
  repeat' first
    | (with_reducible first
      | assumption | apply kept_guardFail | apply kept_dropPair)

theorem kept_expirePair (w : Nat) (hk0 : Kept z s) : Kept z (State.expirePair s w) := by
  unfold State.expirePair
  try dsimp only
  repeat' first
    | (with_reducible first
      | assumption | apply kept_failPair | apply built | apply kept_ite)
    | simp only [kept_mk] | split | exact Eq.refl _

theorem kept_intervene (w : Nat) (second : Nat) (hk0 : Kept z s) : Kept z (State.intervene s w second) := by
  unfold State.intervene
  try dsimp only
  repeat' first
    | (with_reducible first
      | assumption | apply kept_expirePair | apply kept_failPair | apply built | apply kept_ite)
    | simp only [kept_mk] | split | exact Eq.refl _

theorem kept_openPairAt (w : Nat) (off : Nat) (addr : Nat) (master : Nat) (v : Word) (hk0 : Kept z s) : Kept z
    (State.openPairAt s w off addr master v) := by
  unfold State.openPairAt
  try dsimp only
  repeat' first
    | (with_reducible first
      | assumption | apply built | apply kept_ite)
    | simp only [kept_mk] | split | exact Eq.refl _

theorem kept_access (master : Nat) (addr : Nat) (write : Bool) {k : State → State} (hk0 : Kept z s) (hk1 : ∀ t,
    Kept z t → Kept z (k t)) : Kept z (State.access s master addr write k) := by
  unfold State.access
  try dsimp only
  repeat' first
    | (with_reducible first
      | assumption | apply hk1 | apply kept_busError | apply kept_answer | apply kept_intervene | apply kept_ite)
    | split

theorem kept_pairWrite (master : Nat) (addr : Nat) {k : State → State} (hk0 : Kept z s) (hk1 : ∀ t, Kept z t → Kept
    z (k t)) : Kept z (State.pairWrite s master addr k) := by
  unfold State.pairWrite
  repeat' first
    | intro _
    | (with_reducible first
      | assumption | apply hk1 | apply kept_access)

theorem kept_occur (dt : Nat) {k : State → State} (hk0 : Kept z s) (hk1 : ∀ t, Kept z t → Kept z (k t)) : Kept z
    (State.occur s dt k) := by
  unfold State.occur
  try dsimp only
  repeat' first
    | (with_reducible first
      | assumption | apply hk1 | apply kept_elapse | apply kept_ite)
    | split

theorem kept_occurIn (dt : Nat) (w : Nat) {k : State → State} (hk0 : Kept z s) (hk1 : ∀ t, Kept z t → Kept z (k t))
    : Kept z (State.occurIn s dt w k) := by
  unfold State.occurIn
  try dsimp only
  repeat' first
    | intro _
    | (with_reducible first
      | assumption | apply hk1 | apply kept_occur | apply kept_ite)
    | split

theorem kept_lockedWrite (master : Nat) (addr : Nat) (v : Word) (stoppedOnly : Bool) (hk0 : Kept z s) : Kept z
    (State.lockedWrite s master addr v stoppedOnly) := by
  unfold State.lockedWrite
  try dsimp only
  repeat' first
    | (with_reducible first
      | assumption | apply kept_refreshCfg | apply kept_event | apply kept_post | apply kept_postBit
      | apply kept_ite)
    | split

theorem kept_shadowWrite (a : Nat) (mask : Word) (v : Word) (hk0 : Kept z s) : Kept z (State.shadowWrite s a mask
    v) := by
  unfold State.shadowWrite
  try dsimp only
  repeat' first
    | (with_reducible first
      | assumption | apply kept_setCfg | apply kept_markChanged | apply kept_ite)
    | split

theorem kept_takeUpAll (c : Nat) (x2 : List Nat) (hk0 : Kept z s) : Kept z (State.takeUpAll s c x2) := by
  induction x2 generalizing s c
  · exact hk0
  · rename_i ih
    unfold State.takeUpAll
    try dsimp only
    repeat' first
      | (with_reducible first
        | assumption | apply ih | apply kept_takeUp | apply kept_ite)
      | split

theorem kept_parityFault (addr : Nat) (w : PWord) (hk0 : Kept z s) : Kept z (State.parityFault s addr w) := by
  unfold State.parityFault
  repeat' first
    | (with_reducible first
      | assumption | apply kept_raiseReset | apply kept_recBypass)

theorem kept_copyAll (c : Nat) (l : List Nat) (hk0 : Kept z s) : Kept z (State.copyAll s c l) := by
  unfold State.copyAll
  try dsimp only
  repeat' first
    | intro _
    | (with_reducible first
      | assumption | apply kept_takeUpAll | apply kept_parityFault | apply kept_foldl1 | apply kept_foldl
      | apply kept_ite)
    | split

theorem kept_copyDomain (c : Nat) (d : Dom) (hk0 : Kept z s) : Kept z (State.copyDomain s c d) := by
  unfold State.copyDomain
  try dsimp only
  repeat' first
    | (with_reducible first
      | assumption | apply kept_copyAll | apply kept_ite)
    | split

theorem kept_setMile (m : Nat) (f : Milestone → Milestone) (hk0 : Kept z s) : Kept z (State.setMile s m f) :=
  built hk0 rfl rfl rfl rfl rfl

theorem kept_msPin (m : Nat) (r : Nat) (hk0 : Kept z s) : Kept z (State.msPin s m r) := by
  unfold State.msPin
  try dsimp only
  repeat' first
    | (with_reducible first
      | assumption | apply kept_setMile | apply built | apply kept_ite)
    | simp only [kept_mk] | split | exact Eq.refl _

theorem kept_msAct (m : Nat) (r : Nat) (late : Bool) (hk0 : Kept z s) : Kept z (State.msAct s m r late) := by
  unfold State.msAct
  try dsimp only
  repeat' first
    | (with_reducible first
      | assumption | apply kept_setMile | apply kept_msPin | apply kept_post | apply kept_triggerAll
      | apply built | apply kept_ite)
    | simp only [kept_mk] | split | exact Eq.refl _

theorem kept_msAim (m : Nat) (target : Int) (hk0 : Kept z s) : Kept z (State.msAim s m target) := by
  unfold State.msAim
  try dsimp only
  repeat' first
    | (with_reducible first
      | assumption | apply kept_setMile | apply built | apply kept_ite)
    | simp only [kept_mk] | split | exact Eq.refl _

theorem kept_msFire (m : Nat) (r : Nat) (late : Bool) (hk0 : Kept z s) : Kept z (State.msFire s m r late) := by
  unfold State.msFire
  try dsimp only
  repeat' first
    | (with_reducible first
      | assumption | apply kept_msAct | apply kept_setMile | apply kept_msAim | apply built | apply kept_ite)
    | simp only [kept_mk] | split | exact Eq.refl _

theorem kept_msArm (m : Nat) (hk0 : Kept z s) : Kept z (State.msArm s m) := by
  unfold State.msArm
  try dsimp only
  repeat' first
    | (with_reducible first
      | assumption | apply kept_msAim | apply kept_setMile | apply kept_msFire | apply built | apply kept_ite)
    | simp only [kept_mk] | split | exact Eq.refl _

theorem kept_msStop (m : Nat) (hk0 : Kept z s) : Kept z (State.msStop s m) := by
  unfold State.msStop
  try dsimp only
  repeat' first
    | (with_reducible first
      | assumption | apply kept_setMile | apply built | apply kept_ite)
    | simp only [kept_mk] | split | exact Eq.refl _

theorem kept_msReconvert (m : Nat) (r : Nat) (hk0 : Kept z s) : Kept z (State.msReconvert s m r) := by
  unfold State.msReconvert
  try dsimp only
  repeat' first
    | (with_reducible first
      | assumption | apply kept_msAim | apply kept_msFire | apply kept_ite)
    | split

theorem kept_msReconvertAll (r : Nat) (x2 : List Nat) (hk0 : Kept z s) : Kept z (State.msReconvertAll s r x2) := by
  induction x2 generalizing s r
  · exact hk0
  · rename_i ih
    unfold State.msReconvertAll
    try dsimp only
    repeat' first
      | (with_reducible first
        | assumption | apply ih | apply kept_msReconvert | apply kept_ite)
      | split

theorem kept_reconvert (r : Nat) (hk0 : Kept z s) : Kept z (State.reconvert s r) := by
  unfold State.reconvert
  try dsimp only
  repeat' first
    | (with_reducible first
      | assumption | apply kept_msReconvertAll | apply built | apply kept_ite)
    | simp only [kept_mk] | split | exact Eq.refl _

theorem kept_adjRefuse (code : Nat) (hk0 : Kept z s) : Kept z (State.adjRefuse s code) := by
  unfold State.adjRefuse
  try dsimp only
  repeat' first
    | (with_reducible first
      | assumption | apply kept_postBit | apply built)
    | simp only [kept_mk] | exact Eq.refl _

theorem kept_adjTake (r : Nat) (u : TbsUnit) (bits : Nat) (hk0 : Kept z s)
    (hu : u.tsqs = s.tbs.tsqs) : Kept z (s.adjTake r u bits) :=
  kept_post _ _ (kept_reconvert _ (hk0.trans ⟨rfl, rfl, Nat.le_refl _, id, id, id, fun h => hu ▸ h⟩))

theorem kept_closeOpenIvs (r : Nat) (flag : Nat) (hk0 : Kept z s) : Kept z (State.closeOpenIvs s r flag) := by
  unfold State.closeOpenIvs
  try dsimp only
  repeat' first
    | (with_reducible first
      | assumption | apply built | apply kept_ite)
    | simp only [kept_mk] | split | exact Eq.refl _

theorem dropSlew_tsqs (u : TbsUnit) (r : Nat) : (u.dropSlew r).tsqs = u.tsqs := by
  unfold TbsUnit.dropSlew; split <;> rfl

theorem kept_adjDoStep (r : Nat) (hk0 : Kept z s) : Kept z (s.adjDoStep r) := by
  unfold State.adjDoStep
  dsimp only
  repeat' (first | with_reducible assumption | with_reducible apply kept_adjRefuse | with_reducible apply kept_closeOpenIvs | with_reducible apply kept_adjTake | split | exact dropSlew_tsqs _ _)

theorem kept_adjDoRate (r : Nat) (hk0 : Kept z s) : Kept z (s.adjDoRate r) := by
  unfold State.adjDoRate
  dsimp only
  repeat' (first | with_reducible assumption | with_reducible apply kept_adjRefuse | with_reducible apply kept_adjTake | split | exact Eq.refl _)

theorem kept_adjDoSlew (r rate : Nat) (hk0 : Kept z s) : Kept z (s.adjDoSlew r rate) := by
  unfold State.adjDoSlew
  dsimp only
  repeat' (first | with_reducible assumption | with_reducible apply kept_adjRefuse | with_reducible apply kept_adjTake | with_reducible apply kept_ite | exact dropSlew_tsqs _ _)

theorem kept_adjDoSlewstop (r : Nat) (hk0 : Kept z s) : Kept z (s.adjDoSlewstop r) := by
  unfold State.adjDoSlewstop
  repeat' (first | with_reducible assumption | with_reducible apply kept_adjRefuse | with_reducible apply kept_adjTake | with_reducible apply kept_ite | exact dropSlew_tsqs _ _)

theorem kept_tbsAdj (op : Nat) (rate : Nat) (hk0 : Kept z s) : Kept z (State.tbsAdj s op rate) := by
  unfold State.tbsAdj
  try dsimp only
  repeat' first
    | (with_reducible first
      | assumption | apply kept_adjRefuse | apply kept_adjDoStep | apply kept_adjDoRate | apply kept_adjDoSlew
      | apply kept_adjDoSlewstop | apply built | apply kept_ite)
    | simp only [kept_mk] | split | exact Eq.refl _

theorem kept_tbsAdjWord (v : Word) (hk0 : Kept z s) : Kept z (State.tbsAdjWord s v) := by
  unfold State.tbsAdjWord
  repeat' first
    | (with_reducible first
      | assumption | apply kept_tbsAdj | apply kept_setCfg)

theorem kept_slewFinish (hk0 : Kept z s) : Kept z (State.slewFinish s) := by
  unfold State.slewFinish
  try dsimp only
  repeat' first
    | (with_reducible first
      | assumption | apply kept_postBit | apply kept_reconvert | apply built | apply kept_ite)
    | simp only [kept_mk] | split | exact Eq.refl _

theorem kept_ppsTake (edge : Nat) (heldUs : Nat) (hk0 : Kept z s) : Kept z (State.ppsTake s edge heldUs) := by
  unfold State.ppsTake
  try dsimp only
  repeat' first
    | (with_reducible first
      | assumption | apply kept_postBit | apply kept_post | apply built | apply kept_ite)
    | simp only [kept_mk] | split | exact Eq.refl _

theorem kept_ppsLose (hk0 : Kept z s) : Kept z (State.ppsLose s) := by
  unfold State.ppsLose
  try dsimp only
  repeat' first
    | (with_reducible first
      | assumption | apply kept_postBit | apply built | apply kept_ite)
    | simp only [kept_mk] | split | exact Eq.refl _

theorem kept_ppsCfgWrite (v : Word) (hk0 : Kept z s) : Kept z (State.ppsCfgWrite s v) := by
  unfold State.ppsCfgWrite
  try dsimp only
  repeat' first
    | (with_reducible first
      | assumption | apply kept_setCfg | apply built | apply kept_ite)
    | simp only [kept_mk] | split | exact Eq.refl _

theorem kept_setTsq (k : Nat) (f : Tsq → Tsq) (hk0 : Kept z s)
    (hf : ∀ x, x.entries.length ≤ 16 → (f x).entries.length ≤ 16) : Kept z (s.setTsq k f) := by
  refine hk0.trans ⟨rfl, rfl, Nat.le_refl _, id, id, id, fun h => ?_⟩
  exact modAt_all hf h

theorem kept_tsqAdd (k tag queue attempt : Nat) (st : Stamp) (hk0 : Kept z s) :
    Kept z (s.tsqAdd k tag queue attempt st) := by
  unfold State.tsqAdd
  dsimp only
  split
  · rename_i hl
    refine hk0.trans ⟨rfl, rfl, Nat.le_refl _, id, id, id, fun h x hx => ?_⟩
    simp only [State.setTsq] at hx
    exact modAt_at (P := fun q => q.entries.length ≤ 16) (d := Tsq.reset) h
      (by simp only [State.tsq, nth] at hl ⊢; simp only [List.length_append, List.length_singleton]; omega) x hx
  · exact kept_postBit _ _ (kept_setTsq _ _ hk0 fun x h => h)

theorem kept_tsqRead (k : Nat) (hk0 : Kept z s) : Kept z (s.tsqRead k) := by
  unfold State.tsqRead
  exact kept_answer _ _ (kept_setTsq _ _ hk0 fun x h => by simp only [List.length_drop]; omega)

theorem kept_nowRead (hk0 : Kept z s) : Kept z (State.nowRead s) := by
  unfold State.nowRead
  try dsimp only
  repeat' first
    | (with_reducible first
      | assumption | apply kept_answer | apply built)
    | simp only [kept_mk] | exact Eq.refl _

theorem kept_setLt (n : Nat) (off : Nat) (size : Nat) (v : Nat) (hk0 : Kept z s) : Kept z (State.setLt s n off size
    v) := by
  unfold State.setLt
  repeat' first
    | (with_reducible first
      | assumption | apply kept_setMemLE | apply kept_ite)
    | split

theorem kept_enterState (n : Nat) (v : Nat) (hk0 : Kept z s) : Kept z (State.enterState s n v) := by
  unfold State.enterState
  try dsimp only
  repeat' first
    | (with_reducible first
      | assumption | apply kept_setLt | apply kept_postBit | apply built | apply kept_ite)
    | simp only [kept_mk] | split | exact Eq.refl _

theorem kept_enterJoined (n : Nat) (hk0 : Kept z s) : Kept z (State.enterJoined s n) := by
  unfold State.enterJoined
  repeat' first
    | (with_reducible first
      | assumption | apply kept_enterState | apply kept_ite)
    | split

theorem kept_strDone (result : Nat) (detail : Nat) (st : HState) (hk0 : Kept z s) : Kept z (State.strDone s result
    detail st) := by
  unfold State.strDone
  try dsimp only
  repeat' first
    | (with_reducible first
      | assumption | apply kept_postBit | apply built | apply kept_ite)
    | simp only [kept_mk] | split | exact Eq.refl _

theorem kept_strFaulted (typ : Nat) (idx : Nat) (hk0 : Kept z s) : Kept z (State.strFaulted s typ idx) := by
  unfold State.strFaulted
  try dsimp only
  repeat' first
    | (with_reducible first
      | assumption | apply kept_strDone | apply built | apply kept_ite)
    | simp only [kept_mk] | split | exact Eq.refl _

theorem kept_faultHandle (typ : Nat) (idx : Nat) (hk0 : Kept z s) : Kept z (State.faultHandle s typ idx) := by
  unfold State.faultHandle
  try dsimp only
  repeat' first
    | (with_reducible first
      | assumption | apply kept_postBit | apply kept_setHandle | apply kept_enterState | apply kept_strFaulted
      | apply built | apply kept_ite)
    | simp only [kept_mk] | split | exact Eq.refl _

theorem kept_enterMismatch (n : Nat) (hk0 : Kept z s) : Kept z (State.enterMismatch s n) := by
  unfold State.enterMismatch
  repeat' first
    | (with_reducible first
      | assumption | apply kept_faultHandle | apply kept_enterState)

theorem kept_setScnEntry (n : Nat) (f : ScnEntry → ScnEntry) (hk0 : Kept z s) : Kept z (State.setScnEntry s n f) :=
  built hk0 rfl rfl rfl rfl rfl

theorem kept_commitApply (c : EditCmd) (hk0 : Kept z s) : Kept z (State.commitApply s c) := by
  unfold State.commitApply
  try dsimp only
  repeat' first
    | (with_reducible first
      | assumption | apply kept_setBytes | apply kept_setLt | apply kept_enterState | apply kept_setScnEntry
      | apply built | apply kept_ite)
    | simp only [kept_mk] | split | exact Eq.refl _

theorem kept_clearApply (n : Nat) (hk0 : Kept z s) : Kept z (State.clearApply s n) := by
  unfold State.clearApply
  try dsimp only
  repeat' first
    | (with_reducible first
      | assumption | apply kept_setBytes | apply built)
    | simp only [kept_mk] | exact Eq.refl _

theorem kept_editEnd (c : EditCmd) (r : Nat × Nat) (hk0 : Kept z s) : Kept z (State.editEnd s c r) := by
  unfold State.editEnd
  try dsimp only
  repeat' first
    | (with_reducible first
      | assumption | apply kept_postBit | apply kept_event | apply kept_post | apply built | apply kept_ite)
    | simp only [kept_mk] | split | exact Eq.refl _

theorem kept_editHead (hk0 : Kept z s) : Kept z (State.editHead s) := by
  unfold State.editHead
  try dsimp only
  repeat' first
    | (with_reducible first
      | assumption | apply kept_clearApply | apply kept_commitApply | apply kept_editEnd | apply built
      | apply kept_ite)
    | simp only [kept_mk] | split | exact Eq.refl _

theorem kept_editAll (x1 : Nat) (hk0 : Kept z s) : Kept z (State.editAll s x1) := by
  induction x1 generalizing s
  · exact hk0
  · rename_i ih
    unfold State.editAll
    try dsimp only
    repeat' first
      | (with_reducible first
        | assumption | apply ih | apply kept_editHead | apply kept_ite)
      | split

theorem kept_editCommand (op : Nat) (hk0 : Kept z s) : Kept z (State.editCommand s op) := by
  unfold State.editCommand
  try dsimp only
  repeat' first
    | (with_reducible first
      | assumption | apply kept_postBit | apply built | apply kept_ite)
    | simp only [kept_mk] | split | exact Eq.refl _

theorem kept_euiHiWrite (v : Word) (hk0 : Kept z s) : Kept z (State.euiHiWrite s v) := by
  unfold State.euiHiWrite
  try dsimp only
  repeat' first
    | (with_reducible first
      | assumption | apply kept_setCfg | apply built)
    | simp only [kept_mk] | exact Eq.refl _

theorem kept_ltbDiscard (a : Nat) (hk0 : Kept z s) : Kept z (State.ltbDiscard s a) := by
  unfold State.ltbDiscard
  try dsimp only
  repeat' first
    | (with_reducible first
      | assumption | apply kept_postBit | apply built | apply kept_ite)
    | simp only [kept_mk] | split | exact Eq.refl _

theorem kept_masterBytes (a : Nat) (x2 : List Byte) (hk0 : Kept z s) : Kept z (State.masterBytes s a x2) := by
  induction x2 generalizing s a
  · exact hk0
  · rename_i ih
    unfold State.masterBytes
    try dsimp only
    repeat' first
      | (with_reducible first
        | assumption | apply ih | apply kept_setByte | apply kept_ite)
      | split

theorem kept_masterWrite (a : Nat) (d : List Byte) (hk0 : Kept z s) : Kept z (State.masterWrite s a d) := by
  unfold State.masterWrite
  try dsimp only
  repeat' first
    | (with_reducible first
      | assumption | apply kept_masterBytes | apply kept_ltbDiscard | apply built | apply kept_ite)
    | simp only [kept_mk] | split | exact Eq.refl _

theorem kept_accAdd (f : Nat) (e : Nat) (k : Nat) (n : Nat) (hk0 : Kept z s) : Kept z (State.accAdd s f e k n) :=
  built hk0 rfl rfl rfl rfl rfl

theorem kept_accElement (f : Nat) (e : Nat) (p : Rat) (q : Rat) (hk0 : Kept z s) : Kept z (State.accElement s f e p
    q) := by
  unfold State.accElement
  repeat' first
    | (with_reducible first
      | assumption | apply kept_accAdd | apply kept_ite)
    | split

theorem kept_accPhases (f : Nat) (x2 : List (Nat × PhaseCyc)) (hk0 : Kept z s) : Kept z (State.accPhases s f x2) :=
    by
  induction x2 generalizing s f
  · exact hk0
  · rename_i ih
    unfold State.accPhases
    try dsimp only
    repeat' first
      | (with_reducible first
        | assumption | apply ih | apply kept_accElement | apply kept_ite)
      | split

theorem kept_accCycle (r : CycRes) (hk0 : Kept z s) : Kept z (State.accCycle s r) := by
  unfold State.accCycle
  try dsimp only
  repeat' first
    | (with_reducible first
      | assumption | apply kept_accElement | apply kept_accPhases | apply kept_accAdd | apply kept_ite)
    | split

theorem kept_setIv (f : Nat) (g : FeedIv → FeedIv) (hk0 : Kept z s) : Kept z (State.setIv s f g) :=
  built hk0 rfl rfl rfl rfl rfl

theorem kept_ivOpen (f : Nat) (b : Nat) (flags : Nat) (hk0 : Kept z s) : Kept z (State.ivOpen s f b flags) := by
  unfold State.ivOpen
  try dsimp only
  repeat' first
    | (with_reducible first
      | assumption | apply kept_setIv | apply built | apply kept_ite)
    | simp only [kept_mk] | split | exact Eq.refl _

theorem kept_ivLatch (f : Nat) (b : Nat) (flags : Nat) (hk0 : Kept z s) : Kept z (State.ivLatch s f b flags) := by
  unfold State.ivLatch
  try dsimp only
  repeat' first
    | (with_reducible first
      | assumption | apply kept_setIv | apply built | apply kept_ite)
    | simp only [kept_mk] | split | exact Eq.refl _

theorem kept_ivExtend (f : Nat) (b : Nat) (hk0 : Kept z s) : Kept z (State.ivExtend s f b) := by
  unfold State.ivExtend
  try dsimp only
  repeat' first
    | (with_reducible first
      | assumption | apply kept_setIv | apply built | apply kept_ite)
    | simp only [kept_mk] | split | exact Eq.refl _

theorem kept_ivBoundary (f : Nat) (b : Nat) (r : Option CycRes) (hk0 : Kept z s) : Kept z (State.ivBoundary s f b
    r) := by
  unfold State.ivBoundary
  try dsimp only
  repeat' first
    | (with_reducible first
      | assumption | apply kept_setIv | apply kept_ivLatch | apply kept_ivOpen | apply kept_ivExtend
      | apply built | apply kept_ite)
    | simp only [kept_mk] | split | exact Eq.refl _

theorem kept_setPulse (n : Nat) (g : PulseOut → PulseOut) (hk0 : Kept z s) : Kept z (State.setPulse s n g) :=
  built hk0 rfl rfl rfl rfl rfl

theorem kept_pulseCredit (n : Nat) (hk0 : Kept z s) : Kept z (State.pulseCredit s n) := by
  unfold State.pulseCredit
  try dsimp only
  repeat' first
    | (with_reducible first
      | assumption | apply kept_setPulse | apply kept_postBit | apply built | apply kept_ite)
    | simp only [kept_mk] | split | exact Eq.refl _

theorem kept_pulseMark (n : Nat) (hk0 : Kept z s) : Kept z (State.pulseMark s n) := by
  unfold State.pulseMark
  try dsimp only
  repeat' first
    | (with_reducible first
      | assumption | apply kept_setPulse | apply built | apply kept_ite)
    | simp only [kept_mk] | split | exact Eq.refl _

theorem kept_pulseRebase (n : Nat) (hk0 : Kept z s) : Kept z (State.pulseRebase s n) := by
  unfold State.pulseRebase
  try dsimp only
  repeat' first
    | (with_reducible first
      | assumption | apply kept_setPulse | apply kept_pulseMark | apply built | apply kept_ite)
    | simp only [kept_mk] | split | exact Eq.refl _

theorem kept_visUpdate (f : Nat) (hk0 : Kept z s) : Kept z (State.visUpdate s f) := by
  unfold State.visUpdate
  try dsimp only
  repeat' first
    | intro _
    | (with_reducible first
      | assumption | apply kept_foldl1 | apply kept_foldl | apply built | apply kept_ite)
    | simp only [kept_mk] | split | exact Eq.refl _

theorem kept_powerNote (r : CycRes) (hk0 : Kept z s) : Kept z (State.powerNote s r) := by
  unfold State.powerNote
  try dsimp only
  repeat' first
    | (with_reducible first
      | assumption | apply built | apply kept_ite)
    | simp only [kept_mk] | split | exact Eq.refl _

theorem kept_pulseCycle (r : CycRes) (n : Nat) (hk0 : Kept z s) : Kept z (State.pulseCycle s r n) := by
  unfold State.pulseCycle
  repeat' first
    | (with_reducible first
      | assumption | apply kept_pulseCredit | apply kept_ite)
    | split

theorem kept_pulseCycles (r : CycRes) (x2 : List Nat) (hk0 : Kept z s) : Kept z (State.pulseCycles s r x2) := by
  induction x2 generalizing s r
  · exact hk0
  · rename_i ih
    unfold State.pulseCycles
    try dsimp only
    repeat' first
      | (with_reducible first
        | assumption | apply ih | apply kept_pulseCycle | apply kept_ite)
      | split

theorem kept_accDeliver (r : CycRes) (hk0 : Kept z s) : Kept z (State.accDeliver s r) := by
  unfold State.accDeliver
  repeat' first
    | (with_reducible first
      | assumption | apply kept_pulseCycles | apply kept_powerNote | apply kept_visUpdate)

theorem kept_chService (ch : Nat) (on : Bool) (hk0 : Kept z s) : Kept z (State.chService s ch on) := by
  unfold State.chService
  try dsimp only
  repeat' first
    | (with_reducible first
      | assumption | apply built | apply kept_ite)
    | simp only [kept_mk] | split | exact Eq.refl _

theorem kept_fdService (f : Nat) (on : Bool) (hk0 : Kept z s) : Kept z (State.fdService s f on) := by
  unfold State.fdService
  try dsimp only
  repeat' first
    | intro _
    | (with_reducible first
      | assumption | apply kept_setIv | apply kept_pulseMark | apply kept_foldl1 | apply kept_foldl
      | apply built | apply kept_ite)
    | simp only [kept_mk] | split | exact Eq.refl _

theorem kept_pulseStart (n : Nat) (hk0 : Kept z s) : Kept z (State.pulseStart s n) := by
  unfold State.pulseStart
  try dsimp only
  repeat' first
    | (with_reducible first
      | assumption | apply kept_setPulse | apply built | apply kept_ite)
    | simp only [kept_mk] | split | exact Eq.refl _

theorem kept_basisNote (n : Nat) (b : Nat × Bool) (hk0 : Kept z s) : Kept z (State.basisNote s n b) := by
  unfold State.basisNote
  try dsimp only
  repeat' first
    | (with_reducible first
      | assumption | apply kept_setLt | apply built | apply kept_ite)
    | simp only [kept_mk] | split | exact Eq.refl _

theorem kept_basisNotes (x1 : List (Nat × Nat × Bool)) (hk0 : Kept z s) : Kept z (State.basisNotes s x1) := by
  induction x1 generalizing s
  · exact hk0
  · rename_i ih
    unfold State.basisNotes
    try dsimp only
    repeat' first
      | (with_reducible first
        | assumption | apply ih | apply kept_basisNote | apply kept_ite)
      | split

theorem kept_allocWrite (x1 : List (Nat × Nat × Nat)) (hk0 : Kept z s) : Kept z (State.allocWrite s x1) := by
  induction x1 generalizing s
  · exact hk0
  · rename_i ih
    unfold State.allocWrite
    try dsimp only
    repeat' first
      | (with_reducible first
        | assumption | apply ih | apply kept_setBytes | apply kept_ite)
      | split

theorem kept_totalsAdd (l : List (Nat × Nat)) (hk0 : Kept z s) : Kept z (State.totalsAdd s l) := by
  unfold State.totalsAdd
  try dsimp only
  repeat' first
    | intro _
    | (with_reducible first
      | assumption | apply kept_foldl1 | apply kept_foldl | apply built | apply kept_ite)
    | simp only [kept_mk] | split | exact Eq.refl _

theorem kept_totalsCopy (f : Nat) (recno : Nat) (ids : List Nat) (hk0 : Kept z s) : Kept z (State.totalsCopy s f
    recno ids) := by
  unfold State.totalsCopy
  try dsimp only
  repeat' first
    | (with_reducible first
      | assumption | apply built | apply kept_ite)
    | simp only [kept_mk] | split | exact Eq.refl _

theorem kept_resJudge (f : Nat) (recno : Nat) (residual : Int) (bound : Rat) (count : Nat) (hk0 : Kept z s) : Kept
    z (State.resJudge s f recno residual bound count).1 := by
  unfold State.resJudge
  try dsimp only
  repeat' first
    | (with_reducible first
      | assumption | apply kept_setIv | apply kept_postEvent | apply built | apply kept_ite)
    | simp only [kept_mk] | split | exact Eq.refl _

theorem kept_ivWrite (f : Nat) (c : IvClose) (hk0 : Kept z s) : Kept z (State.ivWrite s f c) := by
  unfold State.ivWrite
  try dsimp only
  repeat' first
    | intro _
    | (with_reducible first
      | assumption | apply kept_basisNotes | apply kept_setIv | apply kept_resJudge | apply kept_postEvent
      | apply kept_postBit | apply kept_totalsCopy | apply kept_totalsAdd | apply kept_allocWrite
      | apply kept_fresh | apply kept_foldl1 | apply kept_foldl | apply built | apply kept_ite)
    | simp only [kept_mk] | split | exact Eq.refl _

theorem kept_ivClose (f : Nat) (hk0 : Kept z s) : Kept z (State.ivClose s f) := by
  unfold State.ivClose
  try dsimp only
  repeat' first
    | (with_reducible first
      | assumption | apply kept_ivWrite | apply built | apply kept_ite)
    | simp only [kept_mk] | split | exact Eq.refl _

theorem kept_accCfgSet (master : Nat) (addr : Nat) (v : Word) (hk0 : Kept z s) : Kept z (State.accCfgSet s master
    addr v) := by
  unfold State.accCfgSet
  try dsimp only
  repeat' first
    | (with_reducible first
      | assumption | apply kept_lockedWrite | apply kept_setCfg | apply kept_postBit | apply built
      | apply kept_ite)
    | simp only [kept_mk] | split | exact Eq.refl _

theorem kept_accPulseSet (master : Nat) (addr : Nat) (n : Nat) (v : Word) (hk0 : Kept z s) : Kept z
    (State.accPulseSet s master addr n v) := by
  unfold State.accPulseSet
  try dsimp only
  repeat' first
    | (with_reducible first
      | assumption | apply kept_lockedWrite | apply kept_setCfg | apply kept_pulseRebase | apply kept_ite)
    | split

theorem kept_slotRead (f : Nat) (e : Nat) (k : Nat) (hk0 : Kept z s) : Kept z (State.slotRead s f e k) := by
  unfold State.slotRead
  try dsimp only
  repeat' first
    | (with_reducible first
      | assumption | apply kept_answer | apply built | apply kept_ite)
    | simp only [kept_mk] | split | exact Eq.refl _

theorem kept_slotCountRead (f : Nat) (e : Nat) (k : Nat) (hk0 : Kept z s) : Kept z (State.slotCountRead s f e k) :=
    by
  unfold State.slotCountRead
  try dsimp only
  repeat' first
    | (with_reducible first
      | assumption | apply kept_answer | apply built | apply kept_ite)
    | simp only [kept_mk] | split | exact Eq.refl _

theorem kept_setChan (n : Nat) (f : Chan → Chan) (hk0 : Kept z s) : Kept z (State.setChan s n f) :=
  built hk0 rfl rfl rfl rfl rfl

theorem kept_setFeed (f : Nat) (g : FeedCyc → FeedCyc) (hk0 : Kept z s) : Kept z (State.setFeed s f g) :=
  built hk0 rfl rfl rfl rfl rfl

theorem kept_recal (a : Nat) (n : Nat) {k : State → State} (hk0 : Kept z s) (hk1 : ∀ t, Kept z t → Kept z (k t)) :
    Kept z (State.recal s a n k) := by
  unfold State.recal
  try dsimp only
  repeat' first
    | (with_reducible first
      | assumption | apply hk1 | apply kept_setChan | apply built | apply kept_ite)
    | simp only [kept_mk] | split | exact Eq.refl _

theorem kept_feedSample (f : Nat) (img : ImgFeeder) (x : TakenSample) (hk0 : Kept z s) : Kept z (State.feedSample s
    f img x) := by
  unfold State.feedSample
  try dsimp only
  repeat' first
    | (with_reducible first
      | assumption | apply kept_setFeed | apply built)
    | simp only [kept_mk] | exact Eq.refl _

theorem kept_takeSample (codes : List Int) (hk0 : Kept z s) : Kept z (State.takeSample s codes) := by
  unfold State.takeSample
  try dsimp only
  repeat' first
    | intro _
    | (with_reducible first
      | assumption | apply kept_feedSample | apply kept_foldl1 | apply kept_foldl | apply built | apply kept_ite)
    | simp only [kept_mk] | split | exact Eq.refl _

theorem kept_takeSamples (l : List (List Int)) (hk0 : Kept z s) : Kept z (s.takeSamples l) := by
  induction l generalizing s with
  | nil => exact hk0
  | cons c r ih =>
    unfold State.takeSamples
    exact kept_ite (ih (kept_takeSample c hk0)) hk0

theorem kept_cycTaken (f : Nat) (t1 : Nat) (m : State.CycMeas) (hk0 : Kept z s) : Kept z (State.cycTaken s f t1 m)
    := by
  unfold State.cycTaken
  try dsimp only
  repeat' first
    | (with_reducible first
      | assumption | apply kept_setFeed | apply built | apply kept_ite)
    | simp only [kept_mk] | split | exact Eq.refl _

theorem kept_writerStart (e : RecEntry) (hk0 : Kept z s) : Kept z (State.writerStart s e) :=
  built hk0 rfl rfl rfl rfl rfl

theorem kept_writerTake (hk0 : Kept z s) : Kept z s.writerTake := by
  unfold State.writerTake
  split
  · rename_i e r hw
    split
    · refine hk0.trans ⟨rfl, rfl, Nat.le_refl _, id, fun h => ?_, id, id⟩
      simp only [weirOk, hw, List.filter_cons] at h
      simp only [weirOk]
      cases hv : e.resv <;> simp only [hv] at h <;> simp at h <;> omega
    · exact hk0
  · exact hk0

theorem kept_writerCommit (hk0 : Kept z s) : Kept z (State.writerCommit s) := by
  unfold State.writerCommit
  try dsimp only
  repeat' first
    | (with_reducible first
      | assumption | apply kept_recStore | apply built | apply kept_ite)
    | simp only [kept_mk] | split | exact Eq.refl _

theorem kept_writerGap (hk0 : Kept z s) : Kept z (State.writerGap s) := by
  unfold State.writerGap
  try dsimp only
  repeat' first
    | (with_reducible first
      | assumption | apply kept_writerStart | apply built | apply kept_ite)
    | simp only [kept_mk] | split | exact Eq.refl _

theorem kept_recCmdEnd (code : Nat) (hk0 : Kept z s) : Kept z (State.recCmdEnd s code) := by
  unfold State.recCmdEnd
  try dsimp only
  repeat' first
    | (with_reducible first
      | assumption | apply kept_postBit | apply built)
    | simp only [kept_mk] | exact Eq.refl _

theorem kept_recDumpCmd (n : Nat) (hk0 : Kept z s) : Kept z (State.recDumpCmd s n) := by
  unfold State.recDumpCmd
  try dsimp only
  repeat' first
    | (with_reducible first
      | assumption | apply kept_recCmdEnd | apply kept_weirAdmit | apply kept_ite)
    | split

theorem kept_recSoftCmd (n : Nat) (hk0 : Kept z s) : Kept z (State.recSoftCmd s n) := by
  unfold State.recSoftCmd
  try dsimp only
  repeat' first
    | (with_reducible first
      | assumption | apply kept_recCmdEnd | apply kept_trigger | apply built | apply kept_ite)
    | simp only [kept_mk] | split | exact Eq.refl _

theorem kept_recTsel (v : Word) (hk0 : Kept z s) : Kept z (State.recTsel s v) := by
  unfold State.recTsel
  try dsimp only
  repeat' first
    | (with_reducible first
      | assumption | apply kept_setCfg | apply built | apply kept_ite)
    | simp only [kept_mk] | split | exact Eq.refl _

theorem kept_recEdgeWrite (master : Nat) (addr : Nat) (a : Nat) (v : Word) (hk0 : Kept z s) : Kept z
    (State.recEdgeWrite s master addr a v) := by
  unfold State.recEdgeWrite
  try dsimp only
  repeat' first
    | (with_reducible first
      | assumption | apply kept_setCfg | apply kept_lockedWrite | apply built | apply kept_ite)
    | simp only [kept_mk] | split | exact Eq.refl _

theorem kept_recSrcStart (n : Nat) (hk0 : Kept z s) : Kept z (State.recSrcStart s n) := by
  unfold State.recSrcStart
  try dsimp only
  repeat' first
    | (with_reducible first
      | assumption | apply built | apply kept_ite)
    | simp only [kept_mk] | split | exact Eq.refl _

theorem kept_recTear (hk0 : Kept z s) : Kept z (State.recTear s) := by
  unfold State.recTear
  try dsimp only
  repeat' first
    | (with_reducible first
      | assumption | apply kept_fresh | apply built | apply kept_ite)
    | simp only [kept_mk] | split | exact Eq.refl _

theorem kept_recDiscard (hk0 : Kept z s) : Kept z s.recDiscard :=
  hk0.trans ⟨rfl, rfl, Nat.le_refl _, id, fun _ => ⟨Nat.zero_le _, Nat.zero_le _⟩, id, id⟩

theorem kept_recClear (hk0 : Kept z s) : Kept z (State.recClear s) :=
  built hk0 rfl rfl rfl rfl rfl

theorem kept_recStart (level : Nat) (hk0 : Kept z s) : Kept z (State.recStart s level) := by
  unfold State.recStart
  try dsimp only
  repeat' first
    | (with_reducible first
      | assumption | apply kept_recStore | apply kept_postBit | apply built | apply kept_ite)
    | simp only [kept_mk] | split | exact Eq.refl _

theorem kept_rtcPost (bits : Nat) (hk0 : Kept z s) : Kept z (State.rtcPost s bits) := by
  unfold State.rtcPost
  repeat' first
    | (with_reducible first
      | assumption | apply kept_post | apply kept_setBits | apply kept_ite)
    | split

theorem kept_clearStatBit (a : Nat) (i : Nat) (hk0 : Kept z s) : Kept z (State.clearStatBit s a i) := by
  unfold State.clearStatBit
  try dsimp only
  repeat' first
    | (with_reducible first
      | assumption | apply kept_setStat | apply built | apply kept_ite)
    | simp only [kept_mk] | split | exact Eq.refl _

theorem kept_wakeNote (src : Nat) (d : Word) (t : Word) (hk0 : Kept z s) : Kept z (State.wakeNote s src d t) :=
  built hk0 rfl rfl rfl rfl rfl

theorem kept_wakeUp (src : Nat) (d : Word) (t : Word) (hk0 : Kept z s) : Kept z (State.wakeUp s src d t) := by
  unfold State.wakeUp
  try dsimp only
  repeat' first
    | (with_reducible first
      | assumption | apply kept_wakeNote | apply built)
    | simp only [kept_mk] | exact Eq.refl _

theorem kept_wakeEvent (src : Nat) (hk0 : Kept z s) : Kept z (State.wakeEvent s src) := by
  unfold State.wakeEvent
  try dsimp only
  repeat' first
    | (with_reducible first
      | assumption | apply kept_wakeUp | apply built | apply kept_ite)
    | simp only [kept_mk] | split | exact Eq.refl _

theorem kept_almFire (a : Nat) (late : Bool) (hk0 : Kept z s) : Kept z (State.almFire s a late) := by
  unfold State.almFire
  try dsimp only
  repeat' first
    | (with_reducible first
      | assumption | apply kept_setCfg | apply kept_rtcPost | apply kept_wakeEvent | apply built
      | apply kept_ite)
    | simp only [kept_mk] | split | exact Eq.refl _

theorem kept_almCheck (old : Nat) (command : Bool) (a : Nat) (hk0 : Kept z s) : Kept z (State.almCheck s old
    command a) := by
  unfold State.almCheck
  try dsimp only
  repeat' first
    | (with_reducible first
      | assumption | apply kept_almFire | apply kept_ite)
    | split

theorem kept_almChecks (old : Nat) (command : Bool) (hk0 : Kept z s) : Kept z (State.almChecks s old command) := by
  unfold State.almChecks
  repeat' first
    | (with_reducible first
      | assumption | apply kept_almCheck)

theorem kept_almWrite (a : Nat) (v : Word) (hk0 : Kept z s) : Kept z (State.almWrite s a v) := by
  unfold State.almWrite
  try dsimp only
  repeat' first
    | (with_reducible first
      | assumption | apply kept_setCfg | apply kept_almFire | apply built | apply kept_ite)
    | simp only [kept_mk] | split | exact Eq.refl _

theorem kept_rtcRefuse (code : Nat) (hk0 : Kept z s) : Kept z (State.rtcRefuse s code) := by
  unfold State.rtcRefuse
  try dsimp only
  repeat' first
    | (with_reducible first
      | assumption | apply kept_rtcPost | apply built)
    | simp only [kept_mk] | exact Eq.refl _

theorem kept_rtcDoSet (mask : Nat) (hk0 : Kept z s) : Kept z (State.rtcDoSet s mask) := by
  unfold State.rtcDoSet
  try dsimp only
  repeat' first
    | (with_reducible first
      | assumption | apply kept_rtcRefuse | apply kept_almChecks | apply kept_rtcPost | apply kept_clearStatBit
      | apply built | apply kept_ite)
    | simp only [kept_mk] | split | exact Eq.refl _

theorem kept_rtcDst (fwd : Bool) (hk0 : Kept z s) : Kept z (State.rtcDst s fwd) := by
  unfold State.rtcDst
  try dsimp only
  repeat' first
    | (with_reducible first
      | assumption | apply kept_rtcRefuse | apply built | apply kept_ite)
    | simp only [kept_mk] | split | exact Eq.refl _

theorem kept_wakeperStore (v : Word) (hk0 : Kept z s) : Kept z (State.wakeperStore s v) := by
  unfold State.wakeperStore
  try dsimp only
  repeat' first
    | (with_reducible first
      | assumption | apply kept_setCfg | apply built)
    | simp only [kept_mk] | exact Eq.refl _

theorem kept_rtcCommand (v : Word) (hk0 : Kept z s) : Kept z (State.rtcCommand s v) := by
  unfold State.rtcCommand
  try dsimp only
  repeat' first
    | (with_reducible first
      | assumption | apply kept_setCfg | apply kept_rtcRefuse | apply kept_rtcDoSet | apply kept_rtcDst
      | apply built | apply kept_ite)
    | simp only [kept_mk] | split | exact Eq.refl _

theorem kept_trimStep (hk0 : Kept z s) : Kept z (State.trimStep s) := by
  unfold State.trimStep
  try dsimp only
  repeat' first
    | (with_reducible first
      | assumption | apply built | apply kept_ite)
    | simp only [kept_mk] | split | exact Eq.refl _

theorem kept_rtcTick (hk0 : Kept z s) : Kept z (State.rtcTick s) := by
  unfold State.rtcTick
  try dsimp only
  repeat' first
    | (with_reducible first
      | assumption | apply kept_trimStep | apply kept_almChecks | apply kept_rtcPost | apply built
      | apply kept_ite)
    | simp only [kept_mk] | split | exact Eq.refl _

theorem kept_dateRead (sub : Nat) (hk0 : Kept z s) : Kept z (State.dateRead s sub) := by
  unfold State.dateRead
  try dsimp only
  repeat' first
    | (with_reducible first
      | assumption | apply kept_answer | apply built)
    | simp only [kept_mk] | exact Eq.refl _

theorem kept_timeRead (hk0 : Kept z s) : Kept z (State.timeRead s) := by
  unfold State.timeRead
  try dsimp only
  repeat' first
    | (with_reducible first
      | assumption | apply kept_answer | apply built)
    | simp only [kept_mk] | exact Eq.refl _

theorem kept_subRead (hk0 : Kept z s) : Kept z (State.subRead s) := by
  unfold State.subRead
  try dsimp only
  repeat' first
    | (with_reducible first
      | assumption | apply kept_fresh | apply kept_answer | apply built)
    | simp only [kept_mk] | exact Eq.refl _

theorem kept_setRsByte (off : Nat) (b : Byte) (hk0 : Kept z s) : Kept z (State.setRsByte s off b) :=
  built hk0 rfl rfl rfl rfl rfl

theorem kept_hostRsWrite (off : Nat) (x2 : List Byte) (hk0 : Kept z s) : Kept z (State.hostRsWrite s off x2) := by
  induction x2 generalizing s off
  · exact hk0
  · rename_i ih
    unfold State.hostRsWrite
    try dsimp only
    repeat' first
      | (with_reducible first
        | assumption | apply ih | apply kept_setRsByte | apply kept_ite)
      | split

theorem kept_rsRead (off : Nat) (size : Nat) (corrupt : Option Byte) (hk0 : Kept z s) : Kept z (State.rsRead s off
    size corrupt) := by
  unfold State.rsRead
  try dsimp only
  repeat' first
    | (with_reducible first
      | assumption | apply kept_rtcPost | apply kept_answer | apply built | apply kept_ite)
    | simp only [kept_mk] | split | exact Eq.refl _

theorem kept_integrityRecord (w : Nat) (addr : Option Nat) (cause : Nat) (hk0 : Kept z s) : Kept z
    (State.integrityRecord s w addr cause) := by
  unfold State.integrityRecord
  try dsimp only
  repeat' first
    | (with_reducible first
      | assumption | apply kept_recBypass | apply built | apply kept_ite)
    | simp only [kept_mk] | split | exact Eq.refl _

theorem kept_vergeEvent (subst : Bool) (pool : Nat) (elem : Nat) (spare : Nat) (cause : Nat) (hk0 : Kept z s) :
    Kept z (State.vergeEvent s subst pool elem spare cause) := by
  unfold State.vergeEvent
  try dsimp only
  repeat' first
    | (with_reducible first
      | assumption | apply kept_postEvent | apply kept_event | apply kept_ite)
    | split

theorem kept_poolEmpty (hk0 : Kept z s) : Kept z (State.poolEmpty s) := by
  unfold State.poolEmpty
  repeat' first
    | (with_reducible first
      | assumption | apply kept_postBit)

theorem kept_poolLow (hk0 : Kept z s) : Kept z (State.poolLow s) := by
  unfold State.poolLow
  try dsimp only
  repeat' first
    | (with_reducible first
      | assumption | apply kept_postEvent | apply built | apply kept_ite)
    | simp only [kept_mk] | split | exact Eq.refl _

theorem kept_rowSubst (row : Nat) (cause : Nat) (hk0 : Kept z s) : Kept z (State.rowSubst s row cause) := by
  unfold State.rowSubst
  try dsimp only
  repeat' first
    | (with_reducible first
      | assumption | apply kept_poolEmpty | apply kept_poolLow | apply kept_vergeEvent | apply built
      | apply kept_ite)
    | simp only [kept_mk] | split | exact Eq.refl _

theorem kept_sectorCopy (sec : Nat) (hk0 : Kept z s) : Kept z (State.sectorCopy s sec) := by
  unfold State.sectorCopy
  try dsimp only
  repeat' first
    | (with_reducible first
      | assumption | apply kept_poolEmpty | apply built | apply kept_ite)
    | simp only [kept_mk] | split | exact Eq.refl _

theorem kept_sectorCommit (hk0 : Kept z s) : Kept z (State.sectorCommit s) := by
  unfold State.sectorCommit
  try dsimp only
  repeat' first
    | (with_reducible first
      | assumption | apply kept_poolLow | apply kept_vergeEvent | apply built | apply kept_ite)
    | simp only [kept_mk] | split | exact Eq.refl _

theorem kept_eccNote (mram : Bool) (ue : Bool) (scrub : Bool) (addr : Nat) (hk0 : Kept z s) : Kept z (State.eccNote
    s mram ue scrub addr) := by
  unfold State.eccNote
  try dsimp only
  repeat' first
    | (with_reducible first
      | assumption | apply built | apply kept_ite)
    | simp only [kept_mk] | split | exact Eq.refl _

theorem kept_corrected (mram : Bool) (addr : Nat) (hk0 : Kept z s) : Kept z (State.corrected s mram addr) := by
  unfold State.corrected
  try dsimp only
  repeat' first
    | (with_reducible first
      | assumption | apply kept_postBit | apply kept_eccNote | apply kept_sectorCopy | apply kept_rowSubst
      | apply built | apply kept_ite)
    | simp only [kept_mk] | split | exact Eq.refl _

theorem kept_vergeDone (code : Nat) (hk0 : Kept z s) : Kept z (State.vergeDone s code) := by
  unfold State.vergeDone
  try dsimp only
  repeat' first
    | (with_reducible first
      | assumption | apply kept_postBit | apply built)
    | simp only [kept_mk] | exact Eq.refl _

theorem kept_vergeTest (kind : Nat) (index : Nat) (pass : Bool) (hk0 : Kept z s) : Kept z (State.vergeTest s kind
    index pass) := by
  unfold State.vergeTest
  try dsimp only
  repeat' first
    | (with_reducible first
      | assumption | apply kept_vergeDone | apply kept_vergeEvent | apply built | apply kept_ite)
    | simp only [kept_mk] | split | exact Eq.refl _

theorem kept_vergeFree (kind : Nat) (index : Nat) (hk0 : Kept z s) : Kept z (State.vergeFree s kind index) := by
  unfold State.vergeFree
  try dsimp only
  repeat' first
    | (with_reducible first
      | assumption | apply kept_vergeDone | apply built | apply kept_ite)
    | simp only [kept_mk] | split | exact Eq.refl _

theorem kept_corruptWord (c : Corrupt) (hk0 : Kept z s) : Kept z (State.corruptWord s c) := by
  unfold State.corruptWord
  try dsimp only
  repeat' first
    | (with_reducible first
      | assumption | apply kept_putAct | apply kept_putCfg | apply built | apply kept_ite)
    | simp only [kept_mk] | split | exact Eq.refl _

theorem kept_testEnd (hk0 : Kept z s) : Kept z (State.testEnd s) := by
  unfold State.testEnd
  try dsimp only
  repeat' first
    | (with_reducible first
      | assumption | apply kept_setCfg | apply built | apply kept_ite)
    | simp only [kept_mk] | split | exact Eq.refl _

theorem kept_parityScan (hk0 : Kept z s) : Kept z (State.parityScan s) := by
  unfold State.parityScan
  try dsimp only
  repeat' first
    | intro _
    | (with_reducible first
      | assumption | apply kept_parityFault | apply kept_testEnd | apply kept_foldl1 | apply kept_foldl
      | apply kept_ite)
    | split

theorem kept_clockLost (w : Nat) (hk0 : Kept z s) : Kept z (State.clockLost s w) := by
  unfold State.clockLost
  try dsimp only
  repeat' first
    | (with_reducible first
      | assumption | apply kept_postEvent | apply built | apply kept_ite)
    | simp only [kept_mk] | split | exact Eq.refl _

theorem kept_wdtKick (v : Word) (hk0 : Kept z s) : Kept z (State.wdtKick s v) := by
  unfold State.wdtKick
  try dsimp only
  repeat' first
    | (with_reducible first
      | assumption | apply kept_setCfg | apply built | apply kept_ite)
    | simp only [kept_mk] | split | exact Eq.refl _

theorem kept_partestArm (v : Word) (hk0 : Kept z s) : Kept z (State.partestArm s v) := by
  unfold State.partestArm
  try dsimp only
  repeat' first
    | (with_reducible first
      | assumption | apply kept_setCfg | apply built)
    | simp only [kept_mk] | exact Eq.refl _

theorem kept_setSink (c : Nat) (f : Sink → Sink) (hk0 : Kept z s) : Kept z (State.setSink s c f) :=
  built hk0 rfl rfl rfl rfl rfl

theorem kept_setGroup (g : Nat) (f : Group → Group) (hk0 : Kept z s) : Kept z (State.setGroup s g f) :=
  built hk0 rfl rfl rfl rfl rfl

theorem kept_setHead (h0 : Nat) (f : Head → Head) (hk0 : Kept z s) : Kept z (State.setHead s h0 f) :=
  built hk0 rfl rfl rfl rfl rfl

theorem kept_calApply (g : Nat) (hk0 : Kept z s) : Kept z (State.calApply s g) := by
  unfold State.calApply
  try dsimp only
  repeat' first
    | (with_reducible first
      | assumption | apply kept_setSink | apply built | apply kept_ite)
    | simp only [kept_mk] | split | exact Eq.refl _

theorem kept_driveGroup (g : Nat) (hk0 : Kept z s) : Kept z (State.driveGroup s g) := by
  unfold State.driveGroup
  try dsimp only
  repeat' first
    | intro _
    | (with_reducible first
      | assumption | apply kept_setSink | apply kept_foldl1 | apply kept_foldl | apply kept_ite)
    | split

theorem kept_leaveDark (g : Nat) (hk0 : Kept z s) : Kept z (State.leaveDark s g) := by
  unfold State.leaveDark
  try dsimp only
  repeat' first
    | (with_reducible first
      | assumption | apply kept_setGroup | apply built | apply kept_ite)
    | simp only [kept_mk] | split | exact Eq.refl _

theorem kept_hrBegin (g : Nat) (hk0 : Kept z s) : Kept z (State.hrBegin s g) := by
  unfold State.hrBegin
  try dsimp only
  repeat' first
    | intro _
    | (with_reducible first
      | assumption | apply kept_setGroup | apply kept_setSink | apply kept_foldl1 | apply kept_foldl
      | apply built | apply kept_ite)
    | simp only [kept_mk] | split | exact Eq.refl _

theorem kept_enterPhase (g : Nat) (p : Phase) (hk0 : Kept z s) : Kept z (State.enterPhase s g p) := by
  unfold State.enterPhase
  try dsimp only
  repeat' first
    | (with_reducible first
      | assumption | apply kept_leaveDark | apply kept_setGroup | apply kept_hrBegin | apply built
      | apply kept_ite)
    | simp only [kept_mk] | split | exact Eq.refl _

theorem kept_tripGroup (g : Nat) (therm : Bool) (items : List (List Byte)) (hk0 : Kept z s) : Kept z
    (State.tripGroup s g therm items) := by
  unfold State.tripGroup
  try dsimp only
  repeat' first
    | intro _
    | (with_reducible first
      | assumption | apply kept_setGroup | apply kept_enterPhase | apply kept_faultHandle | apply kept_postEvent
      | apply kept_foldl1 | apply kept_foldl | apply built | apply kept_ite)
    | simp only [kept_mk] | split | exact Eq.refl _

theorem kept_react (c : Nat) (hk0 : Kept z s) : Kept z (State.react s c) := by
  unfold State.react
  try dsimp only
  repeat' first
    | (with_reducible first
      | assumption | apply kept_tripGroup | apply kept_setSink | apply kept_faultHandle | apply built
      | apply kept_ite)
    | simp only [kept_mk] | split | exact Eq.refl _

theorem kept_enterFault (c : Nat) (cause : Nat) (i : Nat) (vds : Nat) (hk0 : Kept z s) : Kept z (State.enterFault s
    c cause i vds) := by
  unfold State.enterFault
  try dsimp only
  repeat' first
    | (with_reducible first
      | assumption | apply kept_setSink | apply kept_postEvent | apply kept_event | apply built | apply kept_ite)
    | simp only [kept_mk] | split | exact Eq.refl _

theorem kept_ctrlFault (c : Nat) (hk0 : Kept z s) : Kept z (State.ctrlFault s c) := by
  unfold State.ctrlFault
  try dsimp only
  repeat' first
    | (with_reducible first
      | assumption | apply kept_setSink | apply kept_setGroup | apply kept_react | apply kept_poolEmpty
      | apply built | apply kept_ite)
    | simp only [kept_mk] | split | exact Eq.refl _

theorem kept_sinkFaulted (c : Nat) (cause : Nat) (i : Nat) (vds : Nat) (hk0 : Kept z s) : Kept z (State.sinkFaulted
    s c cause i vds) := by
  unfold State.sinkFaulted
  try dsimp only
  repeat' first
    | (with_reducible first
      | assumption | apply kept_enterFault | apply kept_react | apply kept_ctrlFault | apply kept_setGroup
      | apply built | apply kept_ite)
    | simp only [kept_mk] | split | exact Eq.refl _

theorem kept_ackSink (c : Nat) (hk0 : Kept z s) : Kept z (State.ackSink s c) := by
  unfold State.ackSink
  try dsimp only
  repeat' first
    | (with_reducible first
      | assumption | apply kept_setSink | apply built | apply kept_ite)
    | simp only [kept_mk] | split | exact Eq.refl _

theorem kept_groupAck (g : Nat) (hk0 : Kept z s) : Kept z (State.groupAck s g) := by
  unfold State.groupAck
  try dsimp only
  repeat' first
    | intro _
    | (with_reducible first
      | assumption | apply kept_ackSink | apply kept_setGroup | apply kept_enterPhase | apply kept_foldl1
      | apply kept_foldl | apply built | apply kept_ite)
    | simp only [kept_mk] | split | exact Eq.refl _

theorem kept_groupStarted (g : Nat) (hk0 : Kept z s) : Kept z (State.groupStarted s g) := by
  unfold State.groupStarted
  try dsimp only
  repeat' first
    | (with_reducible first
      | assumption | apply kept_setGroup | apply kept_enterPhase | apply built | apply kept_ite)
    | simp only [kept_mk] | split | exact Eq.refl _

theorem kept_headStart (h0 : Nat) (c : HeadCmd) (hk0 : Kept z s) : Kept z (State.headStart s h0 c) := by
  unfold State.headStart
  try dsimp only
  repeat' first
    | (with_reducible first
      | assumption | apply kept_setHead | apply built | apply kept_ite)
    | simp only [kept_mk] | split | exact Eq.refl _

theorem kept_headDueN (h0 : Nat) (x2 : Nat) (hk0 : Kept z s) : Kept z (State.headDueN s h0 x2) := by
  induction x2 generalizing s h0
  · exact hk0
  · rename_i ih
    unfold State.headDueN
    try dsimp only
    repeat' first
      | (with_reducible first
        | assumption | apply ih | apply kept_setHead | apply kept_headStart | apply built | apply kept_ite)
      | simp only [kept_mk] | split | exact Eq.refl _

theorem kept_headDue (h0 : Nat) (hk0 : Kept z s) : Kept z (State.headDue s h0) := by
  unfold State.headDue
  repeat' first
    | (with_reducible first
      | assumption | apply kept_headDueN)

theorem kept_headWaves (h0 : Nat) (hk0 : Kept z s) : Kept z (State.headWaves s h0) := by
  unfold State.headWaves
  try dsimp only
  repeat' first
    | (with_reducible first
      | assumption | apply kept_setHead | apply built | apply kept_ite)
    | simp only [kept_mk] | split | exact Eq.refl _

theorem kept_measure (g : Nat) (m : SinkMeas) (hk0 : Kept z s) : Kept z (State.measure s g m) := by
  unfold State.measure
  try dsimp only
  repeat' first
    | (with_reducible first
      | assumption | apply kept_setSink | apply kept_setHead | apply built | apply kept_ite)
    | simp only [kept_mk] | split | exact Eq.refl _

theorem kept_calMeasure (g : Nat) (meas : List SinkMeas) (hk0 : Kept z s) : Kept z (State.calMeasure s g meas) := by
  unfold State.calMeasure
  try dsimp only
  repeat' first
    | (with_reducible first
      | assumption | apply built | apply kept_ite)
    | simp only [kept_mk] | split | exact Eq.refl _

theorem kept_testTaken (g : Nat) (hk0 : Kept z s) : Kept z (State.testTaken s g) := by
  unfold State.testTaken
  try dsimp only
  repeat' first
    | (with_reducible first
      | assumption | apply kept_enterPhase | apply built | apply kept_ite)
    | simp only [kept_mk] | split | exact Eq.refl _

theorem kept_spareReleased (g : Nat) (hk0 : Kept z s) : Kept z (State.spareReleased s g) := by
  unfold State.spareReleased
  try dsimp only
  repeat' first
    | (with_reducible first
      | assumption | apply kept_setGroup | apply kept_setSink | apply kept_vergeDone | apply kept_vergeEvent
      | apply built | apply kept_ite)
    | simp only [kept_mk] | split | exact Eq.refl _

theorem kept_extraHr (g : Nat) (hk0 : Kept z s) : Kept z (State.extraHr s g) := by
  unfold State.extraHr
  try dsimp only
  repeat' first
    | (with_reducible first
      | assumption | apply kept_setGroup | apply built | apply kept_ite)
    | simp only [kept_mk] | split | exact Eq.refl _

theorem kept_phaseMoves (g : Nat) (hk0 : Kept z s) : Kept z (State.phaseMoves s g) := by
  unfold State.phaseMoves
  try dsimp only
  repeat' first
    | (with_reducible first
      | assumption | apply kept_setGroup | apply kept_enterPhase | apply built | apply kept_ite)
    | simp only [kept_mk] | split | exact Eq.refl _

theorem kept_periodFaults (g : Nat) (meas : List SinkMeas) (hk0 : Kept z s) : Kept z (State.periodFaults s g meas)
    := by
  unfold State.periodFaults
  try dsimp only
  repeat' first
    | intro _
    | (with_reducible first
      | assumption | apply kept_calMeasure | apply kept_measure | apply kept_tripGroup | apply kept_foldl1
      | apply kept_foldl | apply kept_ite)
    | split

theorem kept_periodWork (g : Nat) (test : Bool) (hk0 : Kept z s) : Kept z (State.periodWork s g test) := by
  unfold State.periodWork
  try dsimp only
  repeat' first
    | (with_reducible first
      | assumption | apply kept_spareReleased | apply kept_testTaken | apply kept_headWaves | apply kept_headDue
      | apply kept_phaseMoves | apply kept_extraHr | apply kept_calApply | apply kept_driveGroup | apply built
      | apply kept_ite)
    | simp only [kept_mk] | split | exact Eq.refl _

theorem kept_stringWindow (c : Nat) (lo : Nat) (hi : Nat) (ntc : Option Rat) (hk0 : Kept z s) : Kept z
    (State.stringWindow s c lo hi ntc).1 := by
  unfold State.stringWindow
  try dsimp only
  repeat' first
    | (with_reducible first
      | assumption | apply kept_setSink | apply kept_enterFault | apply kept_postBit | apply built
      | apply kept_ite)
    | simp only [kept_mk] | split | exact Eq.refl _

theorem kept_stringsWindow (g : Nat) (lo : Nat) (hi : Nat) (ntc : Option Rat) (hk0 : Kept z s) : Kept z
    (State.stringsWindow s g lo hi ntc).1 := by
  unfold State.stringsWindow
  try dsimp only
  repeat' first
    | intro _
    | (with_reducible first
      | assumption | apply kept_stringWindow | apply kept_foldl1 | apply kept_foldl | apply built
      | apply kept_ite)
    | simp only [kept_mk] | split | exact Eq.refl _

theorem kept_ntcWindow (g : Nat) (ntc : Option Rat) (hk0 : Kept z s) : Kept z (State.ntcWindow s g ntc) := by
  unfold State.ntcWindow
  try dsimp only
  repeat' first
    | (with_reducible first
      | assumption | apply kept_setGroup | apply kept_postEvent | apply built | apply kept_ite)
    | simp only [kept_mk] | split | exact Eq.refl _

theorem kept_writeHeadEntry (g : Nat) (e : Nat) (t : Rat) (d : Nat) (hk0 : Kept z s) : Kept z (State.writeHeadEntry
    s g e t d) := by
  unfold State.writeHeadEntry
  try dsimp only
  repeat' first
    | intro _
    | (with_reducible first
      | assumption | apply kept_setLt | apply kept_foldl1 | apply kept_foldl | apply kept_ite)
    | split

theorem kept_satWindow (g : Nat) (hk0 : Kept z s) : Kept z (State.satWindow s g) := by
  unfold State.satWindow
  try dsimp only
  repeat' first
    | intro _
    | (with_reducible first
      | assumption | apply kept_setSink | apply kept_foldl1 | apply kept_foldl | apply built | apply kept_ite)
    | simp only [kept_mk] | split | exact Eq.refl _

theorem kept_takeEstimate (g : Nat) (e : Rat × TSource × Option (Rat × Nat)) (d : Nat) (hk0 : Kept z s) : Kept z
    (State.takeEstimate s g e d) := by
  unfold State.takeEstimate
  try dsimp only
  repeat' first
    | (with_reducible first
      | assumption | apply kept_setGroup | apply kept_postBit | apply built | apply kept_ite)
    | simp only [kept_mk] | split | exact Eq.refl _

theorem kept_tripDue (g : Nat) (hk0 : Kept z s) : Kept z (State.tripDue s g) := by
  unfold State.tripDue
  try dsimp only
  repeat' first
    | (with_reducible first
      | assumption | apply kept_setGroup | apply built | apply kept_ite)
    | simp only [kept_mk] | split | exact Eq.refl _

theorem kept_sampleNow (g : Nat) (m : SinkMeas) (hk0 : Kept z s) : Kept z (State.sampleNow s g m) := by
  unfold State.sampleNow
  try dsimp only
  repeat' first
    | (with_reducible first
      | assumption | apply kept_setSink | apply kept_ite)
    | split

theorem kept_tjWindow {s0 : State} (g : Nat) (last : List SinkMeas) (ohms : List Rat) (hk0 : Kept z s0) : Kept z
    (State.tjWindow s0 g last ohms) := by
  unfold State.tjWindow
  try dsimp only
  repeat' first
    | intro _
    | (with_reducible first
      | assumption | apply kept_sampleNow | apply kept_ntcWindow | apply kept_stringsWindow
      | apply kept_satWindow | apply kept_takeEstimate | apply kept_writeHeadEntry | apply kept_tripDue
      | apply kept_foldl1 | apply kept_foldl | apply built | apply kept_ite)
    | simp only [kept_mk] | split | exact Eq.refl _

theorem kept_mstDone (code : Nat) (hk0 : Kept z s) : Kept z (State.mstDone s code) := by
  unfold State.mstDone
  try dsimp only
  repeat' first
    | (with_reducible first
      | assumption | apply kept_postBit | apply built)
    | simp only [kept_mk] | exact Eq.refl _

theorem kept_calStart (g : Nat) (hk0 : Kept z s) : Kept z (State.calStart s g) := by
  unfold State.calStart
  try dsimp only
  repeat' first
    | (with_reducible first
      | assumption | apply kept_mstDone | apply built | apply kept_ite)
    | simp only [kept_mk] | split | exact Eq.refl _

theorem kept_calEnd (code : Nat) (hk0 : Kept z s) : Kept z (State.calEnd s code) := by
  unfold State.calEnd
  try dsimp only
  repeat' first
    | (with_reducible first
      | assumption | apply kept_mstDone | apply built)
    | simp only [kept_mk] | exact Eq.refl _

theorem kept_calAbort (typ : Nat) (idx : Nat) (hk0 : Kept z s) : Kept z (State.calAbort s typ idx) := by
  unfold State.calAbort
  try dsimp only
  repeat' first
    | (with_reducible first
      | assumption | apply kept_calEnd | apply built | apply kept_ite)
    | simp only [kept_mk] | split | exact Eq.refl _

theorem kept_calWrite (c : Nat) (tRef : Rat) (full : Rat × Rat) (quarter : Rat × Rat) (hk0 : Kept z s) : Kept z
    (State.calWrite s c tRef full quarter) := by
  unfold State.calWrite
  try dsimp only
  repeat' first
    | (with_reducible first
      | assumption | apply kept_shadowWrite | apply kept_fresh | apply kept_ite)
    | split

theorem kept_calFinish (hk0 : Kept z s) : Kept z (State.calFinish s) := by
  unfold State.calFinish
  try dsimp only
  repeat' first
    | intro _
    | (with_reducible first
      | assumption | apply kept_calEnd | apply kept_calWrite | apply kept_foldl1 | apply kept_foldl
      | apply built | apply kept_ite)
    | simp only [kept_mk] | split | exact Eq.refl _

theorem kept_mstAckSink (c : Nat) (hk0 : Kept z s) : Kept z (State.mstAckSink s c) := by
  unfold State.mstAckSink
  try dsimp only
  repeat' first
    | (with_reducible first
      | assumption | apply kept_mstDone | apply kept_ackSink | apply kept_enterPhase | apply kept_ite)
    | split

theorem kept_adjPair (c : Nat) (ic : Nat) (d : Nat) (id : Nat) (hk0 : Kept z s) : Kept z (State.adjPair s c ic d
    id) := by
  unfold State.adjPair
  try dsimp only
  repeat' first
    | (with_reducible first
      | assumption | apply kept_enterFault | apply kept_react | apply kept_ite)
    | split

theorem kept_blankChecks (c : Nat) (i : Nat) (adj : List (Nat × Nat)) (hk0 : Kept z s) : Kept z (State.blankChecks
    s c i adj) := by
  unfold State.blankChecks
  try dsimp only
  repeat' first
    | intro _
    | (with_reducible first
      | assumption | apply kept_sinkFaulted | apply kept_adjPair | apply kept_foldl1 | apply kept_foldl
      | apply kept_ite)
    | split

theorem kept_blankSink (c : Nat) (hk0 : Kept z s) : Kept z (State.blankSink s c) := by
  unfold State.blankSink
  try dsimp only
  repeat' first
    | (with_reducible first
      | assumption | apply kept_setSink | apply built | apply kept_ite)
    | simp only [kept_mk] | split | exact Eq.refl _

theorem kept_leaveHeld (g : Nat) (hk0 : Kept z s) : Kept z (State.leaveHeld s g) := by
  unfold State.leaveHeld
  try dsimp only
  repeat' first
    | (with_reducible first
      | assumption | apply kept_setHead | apply kept_driveGroup | apply kept_setGroup | apply kept_enterPhase
      | apply built | apply kept_ite)
    | simp only [kept_mk] | split | exact Eq.refl _

theorem kept_fadeOut (h0 : Nat) (fade : Nat) (hk0 : Kept z s) : Kept z (State.fadeOut s h0 fade) := by
  unfold State.fadeOut
  try dsimp only
  repeat' first
    | (with_reducible first
      | assumption | apply kept_setHead | apply built | apply kept_ite)
    | simp only [kept_mk] | split | exact Eq.refl _

theorem kept_headsDark (hk0 : Kept z s) : Kept z (State.headsDark s) := by
  unfold State.headsDark
  try dsimp only
  repeat' first
    | (with_reducible first
      | assumption | apply built | apply kept_ite)
    | simp only [kept_mk] | split | exact Eq.refl _

theorem kept_onDie {k : State → State} (hk0 : Kept z s) (hk1 : ∀ t, Kept z t → Kept z (k t)) : Kept z (State.onDie
    s k) := by
  unfold State.onDie
  repeat' first
    | (with_reducible first
      | assumption | apply hk1 | apply kept_ite)
    | split

theorem kept_takeUpChan (c : Nat) (a : Nat) (n : Nat) (hk0 : Kept z s) : Kept z (State.takeUpChan s c a n) := by
  unfold State.takeUpChan
  try dsimp only
  repeat' first
    | intro _
    | (with_reducible first
      | assumption | apply kept_recal | apply kept_copyDomain | apply kept_setChan | apply built
      | apply kept_ite)
    | simp only [kept_mk] | split | exact Eq.refl _

theorem kept_takeUpFeeder (f : Nat) (c : Nat) (a : Nat) (hk0 : Kept z s) : Kept z (State.takeUpFeeder s f c a) := by
  unfold State.takeUpFeeder
  try dsimp only
  repeat' first
    | intro _
    | (with_reducible first
      | assumption | apply kept_takeUpChan | apply kept_foldl1 | apply kept_foldl | apply kept_ite)
    | split

theorem kept_setCorr (a : Nat) (l : List Nat) (hk0 : Kept z s) : Kept z (State.setCorr s a l) := by
  unfold State.setCorr
  try dsimp only
  repeat' first
    | intro _
    | (with_reducible first
      | assumption | apply kept_recal | apply kept_setChan | apply kept_foldl1 | apply kept_foldl | apply built
      | apply kept_ite)
    | simp only [kept_mk] | split | exact Eq.refl _

theorem kept_tempAverage (t : Option Rat) (hk0 : Kept z s) : Kept z (State.tempAverage s t) := by
  unfold State.tempAverage
  try dsimp only
  repeat' first
    | intro _
    | (with_reducible first
      | assumption | apply kept_setCorr | apply kept_onDie | apply kept_postEvent | apply built | apply kept_ite)
    | simp only [kept_mk] | split | exact Eq.refl _

theorem kept_islDone (code : Nat) (hk0 : Kept z s) : Kept z (State.islDone s code) := by
  unfold State.islDone
  try dsimp only
  repeat' first
    | (with_reducible first
      | assumption | apply kept_postBit | apply built)
    | simp only [kept_mk] | exact Eq.refl _

theorem kept_islBusy (hk0 : Kept z s) : Kept z (State.islBusy s) := by
  unfold State.islBusy
  try dsimp only
  repeat' first
    | (with_reducible first
      | assumption | apply kept_postBit | apply built)
    | simp only [kept_mk] | exact Eq.refl _

theorem kept_islPendDone (hk0 : Kept z s) : Kept z (State.islPendDone s) := by
  unfold State.islPendDone
  repeat' first
    | (with_reducible first
      | assumption | apply kept_islDone | apply kept_ite)
    | split

theorem kept_substitute (n : Nat) (cause : Nat) (hk0 : Kept z s) : Kept z (State.substitute s n cause) := by
  unfold State.substitute
  try dsimp only
  repeat' first
    | intro _
    | (with_reducible first
      | assumption | apply kept_setChan | apply kept_islPendDone | apply kept_vergeEvent | apply kept_onDie
      | apply kept_postEvent | apply built | apply kept_ite)
    | simp only [kept_mk] | split | exact Eq.refl _

theorem kept_substBegin (n : Nat) (stuck : Bool) (hk0 : Kept z s) : Kept z (State.substBegin s n stuck) := by
  unfold State.substBegin
  try dsimp only
  repeat' first
    | (with_reducible first
      | assumption | apply kept_setFeed | apply kept_substitute | apply built | apply kept_ite)
    | simp only [kept_mk] | split | exact Eq.refl _

theorem kept_chanFails (n : Nat) (hk0 : Kept z s) : Kept z (State.chanFails s n) := by
  unfold State.chanFails
  try dsimp only
  repeat' first
    | (with_reducible first
      | assumption | apply kept_poolEmpty | apply kept_setChan | apply kept_faultHandle | apply built
      | apply kept_ite)
    | simp only [kept_mk] | split | exact Eq.refl _

theorem kept_roundNext (hk0 : Kept z s) : Kept z (State.roundNext s) := by
  unfold State.roundNext
  try dsimp only
  repeat' first
    | (with_reducible first
      | assumption | apply built | apply kept_ite)
    | simp only [kept_mk] | split | exact Eq.refl _

theorem kept_spareBad (hk0 : Kept z s) : Kept z (State.spareBad s) :=
  built hk0 rfl rfl rfl rfl rfl

theorem kept_refBegin (hk0 : Kept z s) : Kept z (State.refBegin s) :=
  built hk0 rfl rfl rfl rfl rfl

theorem kept_refChecked (dev : Rat) (hk0 : Kept z s) : Kept z (State.refChecked s dev) := by
  unfold State.refChecked
  try dsimp only
  repeat' first
    | intro _
    | (with_reducible first
      | assumption | apply kept_setChan | apply kept_onDie | apply kept_spareBad | apply kept_postBit
      | apply kept_roundNext | apply built | apply kept_ite)
    | simp only [kept_mk] | split | exact Eq.refl _

theorem kept_devConfirmed (n : Nat) (gain : Int) (phase : Int) (hk0 : Kept z s) : Kept z (State.devConfirmed s n
    gain phase) := by
  unfold State.devConfirmed
  try dsimp only
  repeat' first
    | intro _
    | (with_reducible first
      | assumption | apply kept_onDie | apply kept_setChan | apply kept_postEvent | apply kept_spareBad
      | apply kept_postBit | apply kept_substBegin | apply kept_roundNext | apply kept_chanFails | apply built
      | apply kept_ite)
    | simp only [kept_mk] | split | exact Eq.refl _

theorem kept_chanChecked (counted : Nat) (gain : Int) (phase : Int) (hk0 : Kept z s) : Kept z (State.chanChecked s
    counted gain phase) := by
  unfold State.chanChecked
  try dsimp only
  repeat' first
    | (with_reducible first
      | assumption | apply kept_roundNext | apply kept_setChan | apply kept_devConfirmed | apply built
      | apply kept_ite)
    | simp only [kept_mk] | split | exact Eq.refl _

theorem kept_substRelease (n : Nat) (hk0 : Kept z s) : Kept z (State.substRelease s n) := by
  unfold State.substRelease
  try dsimp only
  repeat' first
    | (with_reducible first
      | assumption | apply kept_setChan | apply kept_roundNext | apply kept_islPendDone | apply kept_vergeEvent
      | apply built | apply kept_ite)
    | simp only [kept_mk] | split | exact Eq.refl _

theorem kept_noteChans (r : CycRes) (hk0 : Kept z s) : Kept z (State.noteChans s r) := by
  unfold State.noteChans
  try dsimp only
  repeat' first
    | intro _
    | (with_reducible first
      | assumption | apply kept_setChan | apply kept_setFeed | apply kept_foldl1 | apply kept_foldl
      | apply built | apply kept_ite)
    | simp only [kept_mk] | split | exact Eq.refl _

theorem kept_dieCycle {s0 : State} (r : CycRes) (hk0 : Kept z s0) : Kept z (State.dieCycle s0 r) := by
  unfold State.dieCycle
  try dsimp only
  repeat' first
    | intro _
    | (with_reducible first
      | assumption | apply kept_noteChans | apply kept_postBit | apply kept_postEvent | apply kept_accDeliver
      | apply kept_foldl1 | apply kept_foldl | apply kept_ite)
    | split

theorem kept_sendCycle (r : CycRes) (hk0 : Kept z s) : Kept z (State.sendCycle s r) := by
  unfold State.sendCycle
  try dsimp only
  repeat' first
    | (with_reducible first
      | assumption | apply kept_dieCycle | apply built | apply kept_ite)
    | simp only [kept_mk] | split | exact Eq.refl _

theorem kept_deliverHeld (hk0 : Kept z s) : Kept z (State.deliverHeld s) := by
  unfold State.deliverHeld
  try dsimp only
  repeat' first
    | intro _
    | (with_reducible first
      | assumption | apply kept_dieCycle | apply kept_foldl1 | apply kept_foldl | apply built | apply kept_ite)
    | simp only [kept_mk] | split | exact Eq.refl _

theorem kept_substServe (f : Nat) (hk0 : Kept z s) : Kept z (State.substServe s f) := by
  unfold State.substServe
  try dsimp only
  repeat' first
    | (with_reducible first
      | assumption | apply kept_substitute | apply built | apply kept_ite)
    | simp only [kept_mk] | split | exact Eq.refl _

theorem kept_boundaryMoves (f : Nat) (a : Nat) (hk0 : Kept z s) : Kept z (State.boundaryMoves s f a) := by
  unfold State.boundaryMoves
  try dsimp only
  repeat' first
    | (with_reducible first
      | assumption | apply kept_setFeed | apply kept_substRelease | apply kept_setCorr | apply built
      | apply kept_ite)
    | simp only [kept_mk] | split | exact Eq.refl _

theorem kept_countEst (f : Nat) (hk0 : Kept z s) : Kept z (State.countEst s f) := by
  unfold State.countEst
  try dsimp only
  repeat' first
    | (with_reducible first
      | assumption | apply kept_setChan | apply built | apply kept_ite)
    | simp only [kept_mk] | split | exact Eq.refl _

theorem kept_lineBoundary {s0 : State} (f : Nat) (t1 : Nat) (img : ImgFeeder) (syn : Bool) (hk0 : Kept z s0) : Kept
    z (State.lineBoundary s0 f t1 img syn) := by
  unfold State.lineBoundary
  try dsimp only
  repeat' first
    | intro _
    | (with_reducible first
      | assumption | apply kept_substServe | apply kept_accCycle | apply kept_setFeed | apply kept_countEst
      | apply kept_sendCycle | apply kept_ivBoundary | apply kept_onDie | apply kept_postEvent
      | apply kept_boundaryMoves | apply kept_cycTaken | apply built | apply kept_ite)
    | simp only [kept_mk] | split | exact Eq.refl _

theorem kept_markHold (hk0 : Kept z s) : Kept z (State.markHold s) := by
  unfold State.markHold
  try dsimp only
  repeat' first
    | (with_reducible first
      | assumption | apply built | apply kept_ite)
    | simp only [kept_mk] | split | exact Eq.refl _

theorem kept_stepStamps (hk0 : Kept z s) : Kept z (State.stepStamps s) := by
  unfold State.stepStamps
  try dsimp only
  repeat' first
    | intro _
    | (with_reducible first
      | assumption | apply kept_onDie | apply kept_postBit | apply built | apply kept_ite)
    | simp only [kept_mk] | split | exact Eq.refl _

theorem kept_syncStep (present : Bool) (msg : Bool) (err : Int) (hk0 : Kept z s) : Kept z (State.syncStep s present
    msg err) := by
  unfold State.syncStep
  try dsimp only
  repeat' first
    | intro _
    | (with_reducible first
      | assumption | apply kept_stepStamps | apply kept_onDie | apply kept_markHold | apply kept_postEvent
      | apply built | apply kept_ite)
    | simp only [kept_mk] | split | exact Eq.refl _

theorem kept_restoreFeeder (f : Nat) (hk0 : Kept z s) : Kept z (State.restoreFeeder s f) := by
  unfold State.restoreFeeder
  try dsimp only
  repeat' first
    | intro _
    | (with_reducible first
      | assumption | apply kept_setIv | apply kept_foldl1 | apply kept_foldl | apply built | apply kept_ite)
    | simp only [kept_mk] | split | exact Eq.refl _

theorem kept_restoreAll (hk0 : Kept z s) : Kept z (State.restoreAll s) := by
  unfold State.restoreAll
  try dsimp only
  repeat' first
    | intro _
    | (with_reducible first
      | assumption | apply kept_fresh | apply kept_restoreFeeder | apply kept_postEvent | apply kept_foldl1
      | apply kept_foldl | apply built | apply kept_ite)
    | simp only [kept_mk] | split | exact Eq.refl _

theorem kept_islandUp (retained : Bool) (hk0 : Kept z s) : Kept z (State.islandUp s retained) := by
  unfold State.islandUp
  try dsimp only
  repeat' first
    | (with_reducible first
      | assumption | apply kept_restoreAll | apply built | apply kept_ite)
    | simp only [kept_mk] | split | exact Eq.refl _

theorem kept_stuckFound {t : State} (ch : Nat) (hk0 : Kept z t) : Kept z (State.stuckFound t ch) := by
  unfold State.stuckFound
  try dsimp only
  repeat' first
    | intro _
    | (with_reducible first
      | assumption | apply kept_onDie | apply kept_setChan | apply kept_postEvent | apply kept_spareBad
      | apply kept_chanFails | apply kept_substBegin | apply built | apply kept_ite)
    | simp only [kept_mk] | split | exact Eq.refl _

theorem kept_islSealrst (hk0 : Kept z s) : Kept z (State.islSealrst s) := by
  unfold State.islSealrst
  try dsimp only
  repeat' first
    | (with_reducible first
      | assumption | apply kept_islBusy | apply kept_islDone | apply kept_setCfg | apply kept_event
      | apply kept_ite)
    | split

theorem kept_islSubst (ch : Nat) (hk0 : Kept z s) : Kept z (State.islSubst s ch) := by
  unfold State.islSubst
  try dsimp only
  repeat' first
    | (with_reducible first
      | assumption | apply kept_islBusy | apply kept_islDone | apply kept_substBegin | apply built
      | apply kept_ite)
    | simp only [kept_mk] | split | exact Eq.refl _

theorem kept_islRelease (ch : Nat) (hk0 : Kept z s) : Kept z (State.islRelease s ch) := by
  unfold State.islRelease
  try dsimp only
  repeat' first
    | (with_reducible first
      | assumption | apply kept_islBusy | apply kept_islDone | apply kept_setFeed | apply kept_substRelease
      | apply built | apply kept_ite)
    | simp only [kept_mk] | split | exact Eq.refl _

theorem kept_islCheck (hk0 : Kept z s) : Kept z (State.islCheck s) := by
  unfold State.islCheck
  repeat' first
    | (with_reducible first
      | assumption | apply kept_islBusy | apply kept_islDone | apply kept_refBegin | apply kept_ite)
    | split

theorem kept_setQueue (q : Nat) (f : Queue → Queue) (hk0 : Kept z s) : Kept z (State.setQueue s q f) :=
  built hk0 rfl rfl rfl rfl rfl

theorem kept_setTailAt (q : Nat) (v : Nat) (r : Nat) (hk0 : Kept z s) : Kept z (State.setTailAt s q v r) := by
  unfold State.setTailAt
  try dsimp only
  repeat' first
    | (with_reducible first
      | assumption | apply kept_setCfg | apply kept_setQueue | apply built | apply kept_ite)
    | simp only [kept_mk] | split | exact Eq.refl _

theorem kept_setTail (q : Nat) (v : Nat) (hk0 : Kept z s) : Kept z (State.setTail s q v) := by
  unfold State.setTail
  repeat' first
    | (with_reducible first
      | assumption | apply kept_setTailAt)

theorem kept_tailWrite (master : Nat) (addr : Nat) (q : Nat) (v : Nat) (w : Word) (hk0 : Kept z s) : Kept z
    (State.tailWrite s master addr q v w) := by
  unfold State.tailWrite
  try dsimp only
  repeat' first
    | (with_reducible first
      | assumption | apply kept_lockedWrite | apply kept_setTail | apply kept_post | apply kept_ite)
    | split

theorem kept_enqueueAt (q : Nat) (p : EPay) (flags : Nat) (launch : Nat) (deadline : Nat) (dest : Nat) (r : Nat)
    (hk0 : Kept z s) : Kept z (State.enqueueAt s q p flags launch deadline dest r) := by
  unfold State.enqueueAt
  try dsimp only
  repeat' first
    | (with_reducible first
      | assumption | apply kept_masterWrite | apply kept_setTailAt | apply built)
    | simp only [kept_mk] | exact Eq.refl _

theorem kept_enqueue (q : Nat) (p : EPay) (flags : Nat) (launch : Nat) (deadline : Nat) (dest : Nat) (hk0 : Kept z
    s) : Kept z (State.enqueue s q p flags launch deadline dest) := by
  unfold State.enqueue
  repeat' first
    | (with_reducible first
      | assumption | apply kept_enqueueAt)

theorem kept_enqueueEth (q : Nat) (p : EPay) (hk0 : Kept z s) : Kept z (State.enqueueEth s q p) := by
  unfold State.enqueueEth
  repeat' first
    | (with_reducible first
      | assumption | apply kept_enqueue)

theorem kept_complete (q : Nat) (status : Nat) (len : Nat) (cflags : Nat) (hk0 : Kept z s) : Kept z (State.complete
    s q status len cflags) := by
  unfold State.complete
  try dsimp only
  repeat' first
    | (with_reducible first
      | assumption | apply kept_masterWrite | apply kept_setQueue | apply kept_post | apply built
      | apply kept_ite)
    | simp only [kept_mk] | split | exact Eq.refl _

theorem kept_settle (q : Nat) (hk0 : Kept z s) : Kept z (State.settle s q) := by
  unfold State.settle
  try dsimp only
  repeat' first
    | (with_reducible first
      | assumption | apply kept_complete | apply built | apply kept_ite)
    | simp only [kept_mk] | split | exact Eq.refl _

theorem kept_flushN (q : Nat) (x2 : Nat) (hk0 : Kept z s) : Kept z (State.flushN s q x2) := by
  induction x2 generalizing s q
  · exact hk0
  · rename_i ih
    unfold State.flushN
    try dsimp only
    repeat' first
      | (with_reducible first
        | assumption | apply ih | apply kept_complete | apply kept_ite)
      | split

theorem kept_flush (q : Nat) (hk0 : Kept z s) : Kept z (State.flush s q) := by
  unfold State.flush
  try dsimp only
  repeat' first
    | (with_reducible first
      | assumption | apply kept_settle | apply kept_flushN)

theorem kept_sweepN (q : Nat) (x2 : Nat) (hk0 : Kept z s) : Kept z (State.sweepN s q x2) := by
  induction x2 generalizing s q
  · exact hk0
  · rename_i ih
    unfold State.sweepN
    try dsimp only
    repeat' first
      | (with_reducible first
        | assumption | apply ih | apply kept_complete | apply kept_ite)
      | split

theorem kept_sweep (q : Nat) (hk0 : Kept z s) : Kept z (State.sweep s q) := by
  unfold State.sweep
  repeat' first
    | (with_reducible first
      | assumption | apply kept_sweepN)

theorem kept_withdrawDesc (q : Nat) (i : Nat) (hk0 : Kept z s) : Kept z (State.withdrawDesc s q i) := by
  unfold State.withdrawDesc
  try dsimp only
  repeat' first
    | (with_reducible first
      | assumption | apply kept_sweep | apply built | apply kept_ite)
    | simp only [kept_mk] | split | exact Eq.refl _

theorem kept_withdrawUnicast (n : Nat) (hk0 : Kept z s) : Kept z (State.withdrawUnicast s n) := by
  unfold State.withdrawUnicast
  try dsimp only
  repeat' first
    | intro _
    | (with_reducible first
      | assumption | apply kept_withdrawDesc | apply kept_foldl1 | apply kept_foldl | apply built
      | apply kept_ite)
    | simp only [kept_mk] | split | exact Eq.refl _

theorem kept_writePieces (x1 : List (Nat × Nat)) (x2 : List Byte) (hk0 : Kept z s) : Kept z (State.writePieces s x1
    x2) := by
  induction x1 generalizing s x2
  · exact hk0
  · rename_i ih
    unfold State.writePieces
    try dsimp only
    repeat' first
      | (with_reducible first
        | assumption | apply ih | apply kept_masterWrite | apply kept_ite)
      | split

theorem kept_winWrite (master : Nat) (addr : Nat) (w : Nat) (v : Word) (hk0 : Kept z s) : Kept z (State.winWrite s
    master addr w v) := by
  unfold State.winWrite
  try dsimp only
  repeat' first
    | (with_reducible first
      | assumption | apply kept_lockedWrite | apply kept_setCfg | apply kept_postBit | apply kept_ite)
    | split

theorem kept_park (q : Nat) (c : DmaCause) (addr : Nat) (off : Nat) (hk0 : Kept z s) : Kept z (State.park s q c
    addr off) := by
  unfold State.park
  try dsimp only
  repeat' first
    | (with_reducible first
      | assumption | apply kept_setQueue | apply kept_postEvent | apply kept_post | apply kept_faultHandle
      | apply built | apply kept_ite)
    | simp only [kept_mk] | split | exact Eq.refl _

theorem kept_unpark (q : Nat) (hk0 : Kept z s) : Kept z (State.unpark s q) := by
  unfold State.unpark
  try dsimp only
  repeat' first
    | (with_reducible first
      | assumption | apply kept_setQueue | apply built | apply kept_ite)
    | simp only [kept_mk] | split | exact Eq.refl _

theorem kept_qdmDone (code : Nat) (hk0 : Kept z s) : Kept z (State.qdmDone s code) := by
  unfold State.qdmDone
  try dsimp only
  repeat' first
    | (with_reducible first
      | assumption | apply kept_postBit | apply built)
    | simp only [kept_mk] | exact Eq.refl _

theorem kept_qResume (q : Nat) (hk0 : Kept z s) : Kept z (State.qResume s q) := by
  unfold State.qResume
  repeat' first
    | (with_reducible first
      | assumption | apply kept_qdmDone | apply kept_unpark | apply kept_ite)
    | split

theorem kept_qFlush (q : Nat) (hk0 : Kept z s) : Kept z (State.qFlush s q) := by
  unfold State.qFlush
  repeat' first
    | (with_reducible first
      | assumption | apply kept_qdmDone | apply kept_flush | apply kept_ite)
    | split

theorem kept_queueStop (q : Nat) (hk0 : Kept z s) : Kept z (State.queueStop s q) := by
  unfold State.queueStop
  try dsimp only
  repeat' first
    | (with_reducible first
      | assumption | apply kept_setQueue | apply built | apply kept_ite)
    | simp only [kept_mk] | split | exact Eq.refl _

theorem kept_noBuf (q : Nat) (hk0 : Kept z s) : Kept z (State.noBuf s q) := by
  unfold State.noBuf
  try dsimp only
  repeat' first
    | (with_reducible first
      | assumption | apply kept_post | apply kept_setQueue | apply built | apply kept_ite)
    | simp only [kept_mk] | split | exact Eq.refl _

theorem kept_rxPost (q : Nat) (j : RxJob) (hk0 : Kept z s) : Kept z (State.rxPost s q j) := by
  unfold State.rxPost
  try dsimp only
  repeat' first
    | (with_reducible first
      | assumption | apply kept_setQueue | apply kept_noBuf | apply built | apply kept_ite)
    | simp only [kept_mk] | split | exact Eq.refl _

theorem kept_burstTx (q : Nat) (memError : Bool) (hk0 : Kept z s) : Kept z (State.burstTx s q memError) := by
  unfold State.burstTx
  try dsimp only
  repeat' first
    | (with_reducible first
      | assumption | apply kept_park | apply kept_setQueue | apply built | apply kept_ite)
    | simp only [kept_mk] | split | exact Eq.refl _

theorem kept_burstCopy (q : Nat) (memError : Bool) (hk0 : Kept z s) : Kept z (State.burstCopy s q memError) := by
  unfold State.burstCopy
  try dsimp only
  repeat' first
    | (with_reducible first
      | assumption | apply kept_park | apply kept_writePieces | apply kept_setQueue | apply built
      | apply kept_ite)
    | simp only [kept_mk] | split | exact Eq.refl _

theorem kept_burstRx (q : Nat) (memError : Bool) (hk0 : Kept z s) : Kept z (State.burstRx s q memError) := by
  unfold State.burstRx
  try dsimp only
  repeat' first
    | (with_reducible first
      | assumption | apply kept_setQueue | apply kept_complete | apply kept_park | apply kept_writePieces
      | apply kept_post | apply built | apply kept_ite)
    | simp only [kept_mk] | split | exact Eq.refl _

theorem kept_ringFault (q : Nat) (hk0 : Kept z s) : Kept z (State.ringFault s q) := by
  unfold State.ringFault
  try dsimp only
  repeat' first
    | (with_reducible first
      | assumption | apply kept_park | apply kept_complete | apply kept_setQueue | apply built | apply kept_ite)
    | simp only [kept_mk] | split | exact Eq.refl _

theorem kept_burst (q : Nat) (memError : Bool) (ringError : Bool) (hk0 : Kept z s) : Kept z (State.burst s q
    memError ringError) := by
  unfold State.burst
  try dsimp only
  repeat' first
    | (with_reducible first
      | assumption | apply kept_ringFault | apply kept_complete | apply kept_burstRx | apply kept_burstCopy
      | apply kept_burstTx | apply built | apply kept_ite)
    | simp only [kept_mk] | split | exact Eq.refl _

theorem kept_fetchRest (q : Nat) (x2 : Nat) (hk0 : Kept z s) : Kept z (State.fetchRest s q x2) := by
  induction x2 generalizing s q
  · exact hk0
  · rename_i ih
    unfold State.fetchRest
    try dsimp only
    repeat' first
      | (with_reducible first
        | assumption | apply ih | apply kept_burstTx | apply kept_ite)
      | split

theorem kept_setProg (p : Nat) (f : ScnProg → ScnProg) (hk0 : Kept z s) : Kept z (State.setProg s p f) :=
  built hk0 rfl rfl rfl rfl rfl

theorem kept_dayTick (hk0 : Kept z s) : Kept z (State.dayTick s).1 := by
  unfold State.dayTick
  try dsimp only
  repeat' first
    | (with_reducible first
      | assumption | apply built | apply kept_ite)
    | simp only [kept_mk] | split | exact Eq.refl _

theorem kept_astroTick (hk0 : Kept z s) : Kept z (State.astroTick s) := by
  unfold State.astroTick
  try dsimp only
  repeat' first
    | (with_reducible first
      | assumption | apply kept_postBit | apply built | apply kept_ite)
    | simp only [kept_mk] | split | exact Eq.refl _

theorem kept_derateEntry (n : Nat) (hk0 : Kept z s) : Kept z (State.derateEntry s n) := by
  unfold State.derateEntry
  try dsimp only
  repeat' first
    | intro _
    | (with_reducible first
      | assumption | apply kept_setLt | apply kept_foldl1 | apply kept_foldl | apply kept_ite)
    | split

theorem kept_recordLevel (n : Nat) (l : List LevelCmd) (hk0 : Kept z s) : Kept z (State.recordLevel s n l) := by
  unfold State.recordLevel
  try dsimp only
  repeat' first
    | (with_reducible first
      | assumption | apply kept_setScnEntry | apply built | apply kept_ite)
    | simp only [kept_mk] | split | exact Eq.refl _

theorem kept_noteMoved (n : Nat) (hk0 : Kept z s) : Kept z (State.noteMoved s n) := by
  unfold State.noteMoved
  try dsimp only
  repeat' first
    | (with_reducible first
      | assumption | apply kept_setScnEntry | apply built | apply kept_ite)
    | simp only [kept_mk] | split | exact Eq.refl _

theorem kept_withdrawCopy (n : Nat) (b : EngBuf) (hk0 : Kept z s) : Kept z (State.withdrawCopy n s b) := by
  unfold State.withdrawCopy
  try dsimp only
  repeat' first
    | (with_reducible first
      | assumption | apply kept_masterWrite | apply kept_withdrawDesc | apply built | apply kept_ite)
    | simp only [kept_mk] | split | exact Eq.refl _

theorem kept_withdrawScene (n : Nat) (hk0 : Kept z s) : Kept z (State.withdrawScene s n) := by
  unfold State.withdrawScene
  try dsimp only
  repeat' first
    | intro _
    | (with_reducible first
      | assumption | apply kept_withdrawCopy | apply kept_setScnEntry | apply kept_foldl1 | apply kept_foldl
      | apply built | apply kept_ite)
    | simp only [kept_mk] | split | exact Eq.refl _

theorem kept_queueFrame (lane : Nat) (asn : Nat) (p : EPay) (r : Nat) (hk0 : Kept z s) : Kept z (State.queueFrame s
    lane asn p r) := by
  unfold State.queueFrame
  try dsimp only
  repeat' first
    | (with_reducible first
      | assumption | apply kept_postBit | apply kept_enqueueAt | apply built | apply kept_ite)
    | simp only [kept_mk] | split | exact Eq.refl _

theorem kept_queueHeld (hk0 : Kept z s) : Kept z (State.queueHeld s) := by
  unfold State.queueHeld
  try dsimp only
  repeat' first
    | (with_reducible first
      | assumption | apply kept_enqueueAt | apply built | apply kept_ite)
    | simp only [kept_mk] | split | exact Eq.refl _

theorem kept_addCmd (n : Nat) (c : ScnCmd) (hk0 : Kept z s) : Kept z (State.addCmd s n c) := by
  unfold State.addCmd
  try dsimp only
  repeat' first
    | (with_reducible first
      | assumption | apply kept_setScnEntry | apply built | apply kept_ite)
    | simp only [kept_mk] | split | exact Eq.refl _

theorem kept_levelCmds {before : State} (levels : List LevelCmd) (can : List Nat) (reff : Nat) (copies : Nat) (n :
    Nat) (hk0 : Kept z s) : Kept z (State.levelCmds before levels can reff copies s n) := by
  unfold State.levelCmds
  try dsimp only
  repeat' first
    | (with_reducible first
      | assumption | apply kept_addCmd | apply built | apply kept_ite)
    | simp only [kept_mk] | split | exact Eq.refl _

theorem kept_queueRounds (lane : Nat) (asn : Nat) (r : Nat) (round : List EPay) (x5 : Nat) (hk0 : Kept z s) : Kept
    z (State.queueRounds s lane asn r round x5) := by
  induction x5 generalizing s lane asn r round
  · exact hk0
  · rename_i ih
    unfold State.queueRounds
    try dsimp only
    repeat' first
      | intro _
      | (with_reducible first
        | assumption | apply ih | apply kept_queueFrame | apply kept_foldl1 | apply kept_foldl | apply kept_ite)
      | split

theorem kept_passHead (reff : Nat) (j : ScnJob) (hk0 : Kept z s) : Kept z (State.passHead reff s j) := by
  unfold State.passHead
  try dsimp only
  repeat' first
    | (with_reducible first
      | assumption | apply kept_addCmd | apply kept_setHead | apply built | apply kept_ite)
    | simp only [kept_mk] | split | exact Eq.refl _

theorem kept_noteScene (lane : Nat) (reff : Nat) (copies : Nat) (j : ScnJob) (hk0 : Kept z s) : Kept z
    (State.noteScene lane reff copies s j) := by
  unfold State.noteScene
  repeat' first
    | (with_reducible first
      | assumption | apply kept_addCmd)

theorem kept_queueLane (levels : List LevelCmd) (jobs : List ScnJob) (can : List Nat) (reff : Nat) (copies : Nat)
    (n : Nat) (hk0 : Kept z s) : Kept z (State.queueLane levels jobs can reff copies s n) := by
  unfold State.queueLane
  try dsimp only
  repeat' first
    | intro _
    | (with_reducible first
      | assumption | apply kept_noteScene | apply kept_queueRounds | apply kept_foldl1 | apply kept_foldl
      | apply kept_ite)
    | split

theorem kept_queueTick {before : State} (levels : List LevelCmd) (jobs : List ScnJob) (hk0 : Kept z s) : Kept z
    (State.queueTick before s levels jobs) := by
  unfold State.queueTick
  try dsimp only
  repeat' first
    | intro _
    | (with_reducible first
      | assumption | apply kept_withdrawScene | apply kept_levelCmds | apply kept_queueLane
      | apply kept_passHead | apply kept_foldl1 | apply kept_foldl | apply built | apply kept_ite)
    | simp only [kept_mk] | split | exact Eq.refl _

theorem kept_writeCmd (n : Nat) (c : ScnCmd) (hk0 : Kept z s) : Kept z (State.writeCmd n s c) := by
  unfold State.writeCmd
  try dsimp only
  repeat' first
    | intro _
    | (with_reducible first
      | assumption | apply kept_setLt | apply kept_foldl1 | apply kept_foldl | apply kept_ite)
    | split

theorem kept_effectEntry (n : Nat) (hk0 : Kept z s) : Kept z (State.effectEntry s n) := by
  unfold State.effectEntry
  try dsimp only
  repeat' first
    | intro _
    | (with_reducible first
      | assumption | apply kept_setScnEntry | apply kept_writeCmd | apply kept_foldl1 | apply kept_foldl
      | apply built | apply kept_ite)
    | simp only [kept_mk] | split | exact Eq.refl _

theorem kept_effectAll (hk0 : Kept z s) : Kept z (State.effectAll s) := by
  unfold State.effectAll
  repeat' first
    | intro _
    | (with_reducible first
      | assumption | apply kept_effectEntry | apply kept_foldl1 | apply kept_foldl)

theorem kept_ruleTick (d : Date) (o : State × List Nat) (p : Nat) (h : Kept z o.1) :
    Kept z (State.ruleTick d o p).1 := by
  unfold State.ruleTick
  dsimp only
  refine kept_ite1 (kept_setProg _ _ h) ?_
  dsimp only
  exact kept_postBit _ _ (kept_setProg _ _ h)

theorem kept_rulesTick (began : Bool) (hk0 : Kept z s) : Kept z (s.rulesTick began).1 := by
  unfold State.rulesTick
  repeat' (first | with_reducible assumption | with_reducible apply kept_foldl1 | intro _ | with_reducible apply kept_ruleTick | simp only [kept_mk] | with_reducible apply built | split | exact Eq.refl _)

theorem kept_progTick (o : State.StepOut) (p : Nat) (h : Kept z o.st) :
    Kept z (State.progTick o p).st := by
  unfold State.progTick
  dsimp only
  split
  · exact h
  · exact kept_ite (kept_postBit _ _ (kept_setProg _ _ h)) (kept_setProg _ _ h)

theorem kept_progTicks (l : List Nat) (o : State.StepOut) (h : Kept z o.st) :
    Kept z (l.foldl State.progTick o).st := by
  induction l generalizing o with
  | nil => exact h
  | cons x r ih => exact ih _ (kept_progTick o x h)

theorem kept_entryTick (levels : List LevelCmd) (steps : List Nat) (all : Bool) (can : List Nat)
    (o : State × List ScnJob) (n : Nat) (h : Kept z o.1) : Kept z (State.entryTick levels steps all can o n).1 := by
  unfold State.entryTick
  dsimp only
  repeat' (first | with_reducible assumption | with_reducible apply kept_postBit | with_reducible apply kept_setLt | with_reducible apply kept_setScnEntry | with_reducible apply kept_noteMoved | with_reducible apply kept_recordLevel | with_reducible apply kept_derateEntry | with_reducible apply kept_ite | split | dsimp only)

theorem kept_scnWork (solveUs : Nat) (hk0 : Kept z s) : Kept z (s.scnWork solveUs) := by
  unfold State.scnWork
  have hd : Kept z { s with scn := { s.scn with wasEnabled := true } }.dayTick.1 :=
    kept_dayTick (built hk0 rfl rfl rfl rfl rfl)
  generalize { s with scn := { s.scn with wasEnabled := true } }.dayTick = d at hd
  dsimp only
  have hr : Kept z (d.1.astroTick.rulesTick d.2).1 := kept_rulesTick _ (kept_astroTick hd)
  generalize d.1.astroTick.rulesTick d.2 = r at hr
  have ho : Kept z ((List.range 16).foldl State.progTick ({ st := r.1, levels := [], effect := [] } : State.StepOut)).st :=
    kept_progTicks _ _ hr
  generalize (List.range 16).foldl State.progTick ({ st := r.1, levels := [], effect := [] } : State.StepOut) = o at ho
  refine kept_postBit _ _ ?_
  with_reducible apply kept_queueTick
  refine kept_postBit _ _ (built ?_ rfl rfl rfl rfl rfl)
  exact kept_foldl1 ho fun t x ht => kept_entryTick _ _ _ _ _ _ ht

theorem kept_scnTick (solveUs : Nat) (hk0 : Kept z s) : Kept z (State.scnTick s solveUs) := by
  unfold State.scnTick
  try dsimp only
  repeat' first
    | (with_reducible first
      | assumption | apply kept_effectAll | apply kept_scnWork | apply built | apply kept_ite)
    | simp only [kept_mk] | split | exact Eq.refl _

theorem kept_curvesTaken (l : List Nat) (hk0 : Kept z s) : Kept z (State.curvesTaken s l) := by
  unfold State.curvesTaken
  try dsimp only
  repeat' first
    | intro _
    | (with_reducible first
      | assumption | apply kept_postBit | apply kept_foldl1 | apply kept_foldl | apply built | apply kept_ite)
    | simp only [kept_mk] | split | exact Eq.refl _

theorem kept_rulesTaken (l : List Nat) (hk0 : Kept z s) : Kept z (State.rulesTaken s l) := by
  unfold State.rulesTaken
  try dsimp only
  repeat' first
    | (with_reducible first
      | assumption | apply built | apply kept_ite)
    | simp only [kept_mk] | split | exact Eq.refl _

theorem kept_setWav (f : WavUnit → WavUnit) (hk0 : Kept z s)
    (hf : (f s.wav).fifo = s.wav.fifo) : Kept z (s.setWav f) :=
  hk0.trans ⟨rfl, rfl, Nat.le_refl _, id, id, fun h => hf ▸ h, id⟩

/-- The FIFO of the wave engine after an input has left it. -/
theorem kept_fifoDrop {x : WavIn} {r : List WavIn} (h : s.wav.fifo = x :: r) (hk0 : Kept z s) :
    Kept z (s.setWav (fun w => { w with fifo := r })) :=
  hk0.trans ⟨rfl, rfl, Nat.le_refl _, id, id, fun b => by
    rw [h] at b; exact Nat.le_of_succ_le b, id⟩

theorem kept_fifoAdd {x : WavIn} {m : Nat} (h : s.wav.fifo.length < 48) (hk0 : Kept z s) :
    Kept z (s.setWav (fun w => { w with fifo := w.fifo ++ [x], fifoMax := max w.fifoMax m })) :=
  hk0.trans ⟨rfl, rfl, Nat.le_refl _, id, id, fun _ => by
    show (s.wav.fifo ++ [x]).length ≤ 48
    rw [List.length_append]; exact h, id⟩

theorem kept_detectDrop (n : Nat) (f : WavUnit → WavUnit) (hk0 : Kept z s)
    (hf : ∀ w, (f w).fifo = w.fifo) : Kept z (s.detectDrop n f) :=
  kept_postBit _ _ (kept_setWav _ (kept_setLt _ _ _ _ hk0) (hf _))

theorem kept_wavEnter (x : WavIn) (hk0 : Kept z s) : Kept z (s.wavEnter x) := by
  unfold State.wavEnter
  dsimp only
  split
  · exact kept_fifoAdd ‹_› hk0
  · repeat' (first | with_reducible assumption | intro _ | with_reducible apply kept_postBit | with_reducible apply kept_post | with_reducible apply kept_detectDrop | with_reducible apply kept_setWav | split | exact Eq.refl _)

theorem kept_queueWave (q : Nat) (n : Nat) (base : Nat) (w : Wave) (l : List Raised) (hk0 : Kept z s) : Kept z
    (State.queueWave s q n base w l).1 := by
  unfold State.queueWave
  try dsimp only
  repeat' first
    | intro _
    | (with_reducible first
      | assumption | apply kept_enqueue | apply kept_postBit | apply kept_setWav | apply built | apply kept_ite)
    | simp only [kept_mk] | split | exact Eq.refl _

theorem kept_queueCopies (q n : Nat) (w : Wave) (l : List Raised) (o : State × Bool) (base : Nat)
    (h : Kept z o.1) : Kept z (State.queueCopies q n w l o base).1 :=
  kept_queueWave _ _ _ _ _ h

theorem kept_waveLane (w : Wave) (n : Nat) (l : List Raised) (hk0 : Kept z s) :
    Kept z (State.waveLane w n s l).1 := by
  unfold State.waveLane
  repeat' (first | with_reducible assumption | with_reducible apply kept_foldl1 | intro _ | with_reducible apply kept_queueCopies | split | dsimp only)

theorem kept_waveHead (w : Wave) (r : Raised) (hk0 : Kept z s) : Kept z (State.waveHead w s r) := by
  unfold State.waveHead
  try dsimp only
  repeat' first
    | (with_reducible first
      | assumption | apply kept_setHead | apply built | apply kept_ite)
    | simp only [kept_mk] | split | exact Eq.refl _

theorem kept_waveSend (w : Wave) (l : List Raised) (hk0 : Kept z s) : Kept z (State.waveSend s w l).1 := by
  unfold State.waveSend
  try dsimp only
  repeat' first
    | intro _
    | (with_reducible first
      | assumption | apply kept_waveHead | apply kept_waveLane | apply kept_foldl1 | apply kept_foldl
      | apply kept_ite)
    | split

theorem kept_handSend (w : Wave) (typ : Nat) (seq : Nat) (pt : HandPt) (arrival : Nat) (bearing : Nat) (hk0 : Kept
    z s) : Kept z (State.handSend s w typ seq pt arrival bearing).1 := by
  unfold State.handSend
  try dsimp only
  repeat' first
    | intro _
    | (with_reducible first
      | assumption | apply kept_postBit | apply kept_setWav | apply kept_enqueueEth | apply built
      | apply kept_ite)
    | simp only [kept_mk] | split | exact Eq.refl _

theorem kept_putWave (w : Wave) (hk0 : Kept z s) : Kept z (State.putWave s w) := by
  unfold State.putWave
  try dsimp only
  repeat' first
    | intro _
    | (with_reducible first
      | assumption | apply kept_setWav | apply built | apply kept_ite)
    | simp only [kept_mk] | split | exact Eq.refl _

theorem kept_handFound (o : State × Wave) (f : FoundPt) (h : Kept z o.1) : Kept z (State.handFound o f).1 := by
  unfold State.handFound
  dsimp only
  repeat' (first | with_reducible assumption | with_reducible apply kept_handSend | split | dsimp only)

theorem kept_handLost (o : State × Wave) (f : HandPt) (h : Kept z o.1) : Kept z (State.handLost o f).1 := by
  unfold State.handLost
  dsimp only
  repeat' (first | with_reducible assumption | with_reducible apply kept_handSend | split | dsimp only)

theorem kept_compute (w : Wave) (hk0 : Kept z s) : Kept z (s.compute w) := by
  unfold State.compute
  dsimp only
  repeat' (first | with_reducible assumption | with_reducible apply kept_putWave | with_reducible apply kept_foldl1 | intro _ | with_reducible apply kept_handFound | with_reducible apply kept_handLost | with_reducible apply kept_waveSend | with_reducible apply kept_postBit | with_reducible apply kept_setWav | with_reducible apply kept_ite | exact Eq.refl _)

theorem kept_openWave (n : Nat) (td : Nat) (speed : Nat) (heading : Option Nat) (cls : Nat) (hops : Nat) (remote :
    Option (Nat × Nat × Nat)) (hk0 : Kept z s) : Kept z (State.openWave s n td speed heading cls hops remote) := by
  unfold State.openWave
  try dsimp only
  repeat' first
    | intro _
    | (with_reducible first
      | assumption | apply kept_postBit | apply kept_detectDrop | apply kept_compute | apply kept_setWav
      | apply built | apply kept_ite)
    | simp only [kept_mk] | split | exact Eq.refl _

theorem kept_reanchor (w : Wave) (n : Nat) (td : Nat) (speed : Nat) (heading : Option Nat) (cls : Nat) (hk0 : Kept
    z s) : Kept z (State.reanchor s w n td speed heading cls) := by
  unfold State.reanchor
  try dsimp only
  repeat' first
    | (with_reducible first
      | assumption | apply kept_compute | apply kept_fresh | apply built | apply kept_ite)
    | simp only [kept_mk] | split | exact Eq.refl _

theorem kept_detectTake (n : Nat) (td : Nat) (speed : Nat) (heading : Nat) (hv : Bool) (cls : Nat) (hk0 : Kept z s)
    : Kept z (State.detectTake s n td speed heading hv cls) := by
  unfold State.detectTake
  try dsimp only
  repeat' first
    | intro _
    | (with_reducible first
      | assumption | apply kept_reanchor | apply kept_setWav | apply kept_openWave | apply built
      | apply kept_ite)
    | simp only [kept_mk] | split | exact Eq.refl _

theorem kept_wavLatency (tRx : Nat) (computeUs : Nat) (hk0 : Kept z s) : Kept z (State.wavLatency s tRx computeUs)
    := by
  unfold State.wavLatency
  try dsimp only
  repeat' first
    | intro _
    | (with_reducible first
      | assumption | apply kept_setWav | apply built | apply kept_ite)
    | simp only [kept_mk] | split | exact Eq.refl _

theorem detectBad_fifo {n tRx td speed : Nat} {hv : Bool} {f : WavUnit → WavUnit} {w : WavUnit}
    {cls : Nat} (h : s.detectBad n tRx td speed hv cls = some f) : (f w).fifo = w.fifo := by
  unfold State.detectBad at h
  dsimp only at h
  repeat' split at h
  all_goals first | (cases h; rfl) | cases h

theorem kept_detectServe (computeUs : Nat) (hk0 : Kept z s) :
    Kept z (s.detectServe computeUs) := by
  unfold State.detectServe
  split
  · rename_i tRx _ _ _ _ _ _ hw
    dsimp only
    have ha := kept_wavLatency tRx computeUs (kept_fifoDrop hw hk0)
    split
    · rename_i hf
      exact kept_detectDrop _ _ ha fun w => detectBad_fifo hf
    · with_reducible apply kept_detectTake
      exact ha
  · exact hk0

theorem kept_handDrop (stale : Bool) (hk0 : Kept z s) : Kept z (State.handDrop s stale) := by
  unfold State.handDrop
  try dsimp only
  repeat' first
    | intro _
    | (with_reducible first
      | assumption | apply kept_postBit | apply kept_setWav | apply built | apply kept_ite)
    | simp only [kept_mk] | split | exact Eq.refl _

theorem kept_noteSeq (p : Nat) (pay : List Byte) (tRx : Nat) (hk0 : Kept z s) : Kept z (State.noteSeq s p pay tRx)
    := by
  unfold State.noteSeq
  try dsimp only
  repeat' first
    | intro _
    | (with_reducible first
      | assumption | apply kept_postBit | apply kept_setWav | apply built | apply kept_ite)
    | simp only [kept_mk] | split | exact Eq.refl _

theorem kept_endWave (num : Nat) (hk0 : Kept z s) : Kept z (State.endWave s num) := by
  unfold State.endWave
  try dsimp only
  repeat' first
    | intro _
    | (with_reducible first
      | assumption | apply kept_postBit | apply kept_setWav | apply built | apply kept_ite)
    | simp only [kept_mk] | split | exact Eq.refl _

theorem kept_cancelWave (w : Wave) (hk0 : Kept z s) : Kept z (State.cancelWave s w) := by
  unfold State.cancelWave
  try dsimp only
  repeat' first
    | (with_reducible first
      | assumption | apply kept_endWave | apply kept_waveSend | apply built | apply kept_ite)
    | simp only [kept_mk] | split | exact Eq.refl _

theorem kept_handTake (p : Nat) (pay : List Byte) (tRx : Nat) (hk0 : Kept z s) : Kept z (State.handTake s p pay
    tRx) := by
  unfold State.handTake
  try dsimp only
  repeat' first
    | intro _
    | (with_reducible first
      | assumption | apply kept_noteSeq | apply kept_detectDrop | apply kept_openWave | apply kept_reanchor
      | apply kept_handDrop | apply kept_cancelWave | apply built | apply kept_ite)
    | simp only [kept_mk] | split | exact Eq.refl _

theorem kept_handServe (typ computeUs : Nat) (hk0 : Kept z s) :
    Kept z (s.handServe typ computeUs) := by
  unfold State.handServe
  split
  · rename_i tRx _ _ _ hw
    dsimp only
    have ha := kept_wavLatency tRx computeUs (kept_fifoDrop hw hk0)
    refine kept_ite hk0 ?_
    split
    · exact kept_handDrop _ ha
    · exact kept_ite (kept_postBit _ _ (kept_detectDrop _ _ ha fun w => rfl)) (kept_handTake _ _ _ ha)
  · exact hk0

theorem kept_peersTaken (l : List Nat) (hk0 : Kept z s) : Kept z (State.peersTaken s l) := by
  unfold State.peersTaken
  try dsimp only
  repeat' first
    | intro _
    | (with_reducible first
      | assumption | apply kept_postBit | apply kept_foldl1 | apply kept_foldl | apply kept_ite)
    | split

theorem kept_laneBad (n : Nat) (hk0 : Kept z s) : Kept z (State.laneBad s n) := by
  unfold State.laneBad
  repeat' first
    | (with_reducible first
      | assumption | apply kept_postLane)

theorem kept_takeoverBegin (n : Nat) (hk0 : Kept z s) : Kept z (State.takeoverBegin s n) :=
  built hk0 rfl rfl rfl rfl rfl

theorem kept_laneStranded (n : Nat) (hk0 : Kept z s) : Kept z (State.laneStranded s n) := by
  unfold State.laneStranded
  try dsimp only
  repeat' first
    | (with_reducible first
      | assumption | apply kept_poolEmpty | apply kept_setLane | apply built | apply kept_ite)
    | simp only [kept_mk] | split | exact Eq.refl _

theorem kept_takeoverOrStop (n : Nat) (hk0 : Kept z s) : Kept z (State.takeoverOrStop s n) := by
  unfold State.takeoverOrStop
  repeat' first
    | (with_reducible first
      | assumption | apply kept_takeoverBegin | apply kept_laneStranded | apply kept_ite)
    | split

theorem kept_laneEnable (n : Nat) (hk0 : Kept z s) : Kept z (State.laneEnable s n) := by
  unfold State.laneEnable
  try dsimp only
  repeat' first
    | (with_reducible first
      | assumption | apply kept_setLane | apply kept_laneBad | apply built | apply kept_ite)
    | simp only [kept_mk] | split | exact Eq.refl _

theorem kept_laneDisable (n : Nat) (hk0 : Kept z s) : Kept z (State.laneDisable s n) := by
  unfold State.laneDisable
  try dsimp only
  repeat' first
    | (with_reducible first
      | assumption | apply kept_setLane | apply built)
    | simp only [kept_mk] | exact Eq.refl _

theorem kept_laneStartDue (n : Nat) (hk0 : Kept z s) : Kept z (State.laneStartDue s n) := by
  unfold State.laneStartDue
  try dsimp only
  repeat' first
    | (with_reducible first
      | assumption | apply kept_laneBad | apply kept_setLane | apply kept_postLane | apply kept_takeoverOrStop
      | apply built | apply kept_ite)
    | simp only [kept_mk] | split | exact Eq.refl _

theorem kept_slotTaken (n : Nat) (l : List Nat) (hk0 : Kept z s) : Kept z (State.slotTaken s n l) := by
  unfold State.slotTaken
  try dsimp only
  repeat' first
    | (with_reducible first
      | assumption | apply kept_postLane | apply kept_laneEnable | apply kept_laneDisable | apply kept_ite)
    | split

theorem kept_fcUse (hk0 : Kept z s) : Kept z (State.fcUse s) := by
  unfold State.fcUse
  try dsimp only
  repeat' first
    | (with_reducible first
      | assumption | apply kept_post | apply built | apply kept_ite)
    | simp only [kept_mk] | split | exact Eq.refl _

theorem kept_fcOwn (o : Nat × Nat) (hk0 : Kept z s) : Kept z (State.fcOwn s o) := by
  unfold State.fcOwn
  try dsimp only
  repeat' first
    | (with_reducible first
      | assumption | apply built | apply kept_ite)
    | simp only [kept_mk] | split | exact Eq.refl _

theorem kept_fcMarks (v : Nat) (hk0 : Kept z s) : Kept z (State.fcMarks s v) := by
  unfold State.fcMarks
  repeat' first
    | (with_reducible first
      | assumption | apply kept_post)

theorem kept_fcResume (hk0 : Kept z s) : Kept z (State.fcResume s) := by
  unfold State.fcResume
  try dsimp only
  repeat' first
    | (with_reducible first
      | assumption | apply kept_fcMarks | apply built | apply kept_ite)
    | simp only [kept_mk] | split | exact Eq.refl _

theorem kept_lateDropHead (n : Nat) (q : Nat) (hk0 : Kept z s) : Kept z (State.lateDropHead s n q) := by
  unfold State.lateDropHead
  try dsimp only
  repeat' first
    | (with_reducible first
      | assumption | apply kept_postLane | apply kept_setLane | apply kept_complete | apply built
      | apply kept_ite)
    | simp only [kept_mk] | split | exact Eq.refl _

theorem kept_lateHeads (n : Nat) (q : Nat) (a : Nat) (x4 : Nat) (hk0 : Kept z s) : Kept z (State.lateHeads s n q a
    x4) := by
  induction x4 generalizing s n q a
  · exact hk0
  · rename_i ih
    unfold State.lateHeads
    try dsimp only
    repeat' first
      | (with_reducible first
        | assumption | apply ih | apply kept_complete | apply kept_lateDropHead | apply built | apply kept_ite)
      | simp only [kept_mk] | split | exact Eq.refl _

theorem kept_lateAll (n : Nat) (a : Nat) (x3 : List Nat) (hk0 : Kept z s) : Kept z (State.lateAll s n a x3) := by
  induction x3 generalizing s n a
  · exact hk0
  · rename_i ih
    unfold State.lateAll
    try dsimp only
    repeat' first
      | (with_reducible first
        | assumption | apply ih | apply kept_settle | apply kept_lateHeads | apply kept_ite)
      | split

theorem kept_fetchAll (q : Nat) (hk0 : Kept z s) : Kept z (State.fetchAll s q) := by
  unfold State.fetchAll
  try dsimp only
  repeat' first
    | (with_reducible first
      | assumption | apply kept_setQueue | apply kept_fetchRest | apply built | apply kept_ite)
    | simp only [kept_mk] | split | exact Eq.refl _

theorem kept_collSkip (n : Nat) (hk0 : Kept z s) : Kept z (State.collSkip s n) := by
  unfold State.collSkip
  try dsimp only
  repeat' first
    | (with_reducible first
      | assumption | apply kept_postLane | apply kept_setLane | apply built | apply kept_ite)
    | simp only [kept_mk] | split | exact Eq.refl _

theorem kept_dutySkipped (n : Nat) (hk0 : Kept z s) : Kept z (State.dutySkipped s n) := by
  unfold State.dutySkipped
  try dsimp only
  repeat' first
    | (with_reducible first
      | assumption | apply kept_postLane | apply kept_setLane | apply built | apply kept_ite)
    | simp only [kept_mk] | split | exact Eq.refl _

theorem kept_addAir (n : Nat) (start : Nat) (len : Nat) (beacon : Bool) (hk0 : Kept z s) : Kept z (State.addAir s n
    start len beacon) := by
  unfold State.addAir
  try dsimp only
  repeat' first
    | (with_reducible first
      | assumption | apply kept_setLane | apply built | apply kept_ite)
    | simp only [kept_mk] | split | exact Eq.refl _

theorem kept_noKeyCount (hk0 : Kept z s) : Kept z (State.noKeyCount s) := by
  unfold State.noKeyCount
  try dsimp only
  repeat' first
    | (with_reducible first
      | assumption | apply kept_post | apply built)
    | simp only [kept_mk] | exact Eq.refl _

theorem kept_sendBeacon (n : Nat) (a : Nat) (ch : Nat) (hk0 : Kept z s) : Kept z (State.sendBeacon s n a ch) := by
  unfold State.sendBeacon
  try dsimp only
  repeat' first
    | (with_reducible first
      | assumption | apply kept_dutySkipped | apply kept_setLane | apply kept_addAir | apply built
      | apply kept_ite)
    | simp only [kept_mk] | split | exact Eq.refl _

theorem kept_launchHead (n : Nat) (q : Nat) (a : Nat) (ch : Nat) (air : Nat) (hk0 : Kept z s) : Kept z
    (State.launchHead s n q a ch air) := by
  unfold State.launchHead
  try dsimp only
  repeat' first
    | (with_reducible first
      | assumption | apply kept_fcUse | apply kept_setLane | apply kept_addAir | apply kept_setQueue
      | apply kept_postLane | apply kept_tsqAdd | apply built | apply kept_ite)
    | simp only [kept_mk] | split | exact Eq.refl _

theorem kept_sendHead (n : Nat) (cls : Nat) (a : Nat) (ch : Nat) (hk0 : Kept z s) : Kept z (State.sendHead s n cls
    a ch) := by
  unfold State.sendHead
  try dsimp only
  repeat' first
    | (with_reducible first
      | assumption | apply kept_fetchAll | apply kept_collSkip | apply kept_dutySkipped | apply kept_noKeyCount
      | apply kept_complete | apply kept_launchHead | apply built | apply kept_ite)
    | simp only [kept_mk] | split | exact Eq.refl _

theorem kept_ackFail (n : Nat) (hk0 : Kept z s) : Kept z (State.ackFail s n) := by
  unfold State.ackFail
  try dsimp only
  repeat' first
    | (with_reducible first
      | assumption | apply kept_setLane | apply kept_setQueue | apply kept_postLane | apply built
      | apply kept_ite)
    | simp only [kept_mk] | split | exact Eq.refl _

theorem kept_ackTake (n : Nat) (entry : Nat) (hk0 : Kept z s) : Kept z (State.ackTake s n entry) := by
  unfold State.ackTake
  try dsimp only
  repeat' first
    | (with_reducible first
      | assumption | apply kept_setQueue | apply kept_setLane | apply built | apply kept_ite)
    | simp only [kept_mk] | split | exact Eq.refl _

theorem kept_laneEvent (n : Nat) (i : Nat) (cause : Nat) (hk0 : Kept z s) : Kept z (State.laneEvent s n i cause) :=
    by
  unfold State.laneEvent
  repeat' first
    | (with_reducible first
      | assumption | apply kept_event | apply kept_postLane)

theorem kept_xcvrFault (n : Nat) (cause : Nat) (hk0 : Kept z s) : Kept z (State.xcvrFault s n cause) := by
  unfold State.xcvrFault
  try dsimp only
  repeat' first
    | (with_reducible first
      | assumption | apply kept_setLane | apply kept_laneEvent | apply kept_laneStranded
      | apply kept_takeoverOrStop | apply built | apply kept_ite)
    | simp only [kept_mk] | split | exact Eq.refl _

theorem kept_pllCheck (n : Nat) (rf : RfCheck) (hk0 : Kept z s) : Kept z (State.pllCheck s n rf) := by
  unfold State.pllCheck
  try dsimp only
  repeat' first
    | (with_reducible first
      | assumption | apply kept_xcvrFault | apply kept_setLane | apply built | apply kept_ite)
    | simp only [kept_mk] | split | exact Eq.refl _

theorem kept_powerChecks (n : Nat) (rf : RfCheck) (hk0 : Kept z s) : Kept z (State.powerChecks s n rf) := by
  unfold State.powerChecks
  try dsimp only
  repeat' first
    | (with_reducible first
      | assumption | apply kept_setLane | apply kept_laneEvent | apply kept_xcvrFault | apply built
      | apply kept_ite)
    | simp only [kept_mk] | split | exact Eq.refl _

theorem kept_lneDone (code : Nat) (hk0 : Kept z s) : Kept z (State.lneDone s code) := by
  unfold State.lneDone
  try dsimp only
  repeat' first
    | (with_reducible first
      | assumption | apply kept_post | apply built)
    | simp only [kept_mk] | exact Eq.refl _

theorem kept_takeoverEnd (n : Nat) (hk0 : Kept z s) : Kept z (State.takeoverEnd s n) := by
  unfold State.takeoverEnd
  try dsimp only
  repeat' first
    | (with_reducible first
      | assumption | apply kept_laneEvent | apply kept_setLane | apply kept_vergeEvent | apply kept_lneDone
      | apply built | apply kept_ite)
    | simp only [kept_mk] | split | exact Eq.refl _

theorem kept_laneReturnDue (n : Nat) (hk0 : Kept z s) : Kept z (State.laneReturnDue s n) := by
  unfold State.laneReturnDue
  try dsimp only
  repeat' first
    | (with_reducible first
      | assumption | apply kept_setLane | apply kept_lneDone | apply kept_vergeEvent | apply kept_post
      | apply built | apply kept_ite)
    | simp only [kept_mk] | split | exact Eq.refl _

theorem kept_lneBusy (hk0 : Kept z s) : Kept z (State.lneBusy s) := by
  unfold State.lneBusy
  try dsimp only
  repeat' first
    | (with_reducible first
      | assumption | apply kept_post | apply built)
    | simp only [kept_mk] | exact Eq.refl _

theorem kept_cmdTakeover (n : Nat) (hk0 : Kept z s) : Kept z (State.cmdTakeover s n) := by
  unfold State.cmdTakeover
  try dsimp only
  repeat' first
    | (with_reducible first
      | assumption | apply kept_lneBusy | apply kept_lneDone | apply kept_takeoverBegin | apply built
      | apply kept_ite)
    | simp only [kept_mk] | split | exact Eq.refl _

theorem kept_cmdRelease (n : Nat) (hk0 : Kept z s) : Kept z (State.cmdRelease s n) := by
  unfold State.cmdRelease
  try dsimp only
  repeat' first
    | (with_reducible first
      | assumption | apply kept_lneBusy | apply kept_lneDone | apply kept_setLane | apply built | apply kept_ite)
    | simp only [kept_mk] | split | exact Eq.refl _

theorem kept_roundBegin (hk0 : Kept z s) : Kept z (State.roundBegin s) :=
  built hk0 rfl rfl rfl rfl rfl

theorem kept_cmdRound (hk0 : Kept z s) : Kept z (State.cmdRound s) := by
  unfold State.cmdRound
  repeat' first
    | (with_reducible first
      | assumption | apply kept_lneBusy | apply kept_lneDone | apply kept_roundBegin | apply kept_ite)
    | split

theorem kept_lneCommand (v : Word) (hk0 : Kept z s) : Kept z (State.lneCommand s v) := by
  unfold State.lneCommand
  try dsimp only
  repeat' first
    | (with_reducible first
      | assumption | apply kept_cmdTakeover | apply kept_cmdRelease | apply kept_cmdRound | apply built
      | apply kept_ite)
    | simp only [kept_mk] | split | exact Eq.refl _

theorem kept_roundDue (hk0 : Kept z s) : Kept z (State.roundDue s) := by
  unfold State.roundDue
  repeat' first
    | (with_reducible first
      | assumption | apply kept_roundBegin | apply kept_ite)
    | split

theorem kept_selfTested (ok : Bool) (hk0 : Kept z s) : Kept z (State.selfTested s ok) := by
  unfold State.selfTested
  try dsimp only
  repeat' first
    | (with_reducible first
      | assumption | apply kept_tsqAdd | apply kept_post | apply built | apply kept_ite)
    | simp only [kept_mk] | split | exact Eq.refl _

theorem kept_roundEnd (hk0 : Kept z s) : Kept z (State.roundEnd s) :=
  built hk0 rfl rfl rfl rfl rfl

theorem kept_rxTested (ok : Option Bool) (hk0 : Kept z s) : Kept z (State.rxTested s ok) := by
  unfold State.rxTested
  try dsimp only
  repeat' first
    | (with_reducible first
      | assumption | apply kept_setLane | apply kept_roundEnd | apply kept_xcvrFault | apply built
      | apply kept_ite)
    | simp only [kept_mk] | split | exact Eq.refl _

theorem kept_spareTest (txOk : Bool) (rxOk : Option Bool) (hk0 : Kept z s) : Kept z (State.spareTest s txOk rxOk)
    := by
  unfold State.spareTest
  try dsimp only
  repeat' first
    | (with_reducible first
      | assumption | apply kept_roundDue | apply kept_selfTested | apply kept_rxTested | apply built
      | apply kept_ite)
    | simp only [kept_mk] | split | exact Eq.refl _

theorem kept_cellAct (n : Nat) (a : Nat) (cls : Nat) (ch : Nat) (hk0 : Kept z s) : Kept z (State.cellAct s n a cls
    ch) := by
  unfold State.cellAct
  try dsimp only
  repeat' first
    | (with_reducible first
      | assumption | apply kept_sendHead | apply kept_collSkip | apply kept_sendBeacon | apply kept_setLane
      | apply built | apply kept_ite)
    | simp only [kept_mk] | split | exact Eq.refl _

theorem kept_rfChecks (n : Nat) (sent : Bool) (rf : RfCheck) (hk0 : Kept z s) : Kept z (State.rfChecks s n sent rf)
    := by
  unfold State.rfChecks
  try dsimp only
  repeat' first
    | (with_reducible first
      | assumption | apply kept_powerChecks | apply kept_pllCheck | apply kept_ite)
    | split

theorem kept_cellLate (n : Nat) (a : Nat) (w : Word) (hk0 : Kept z s) : Kept z (State.cellLate s n a w) := by
  unfold State.cellLate
  try dsimp only
  repeat' first
    | (with_reducible first
      | assumption | apply kept_lateAll | apply built | apply kept_ite)
    | simp only [kept_mk] | split | exact Eq.refl _

theorem kept_cellServe (n : Nat) (a : Nat) (w : Word) (rf : RfCheck) (hk0 : Kept z s) : Kept z (State.cellServe s n
    a w rf) := by
  unfold State.cellServe
  try dsimp only
  repeat' first
    | (with_reducible first
      | assumption | apply kept_cellLate | apply kept_laneBad | apply kept_rfChecks | apply kept_cellAct
      | apply kept_ite)
    | split

theorem kept_slotServe (n : Nat) (a : Nat) (rf : RfCheck) (hk0 : Kept z s) : Kept z (State.slotServe s n a rf) := by
  unfold State.slotServe
  try dsimp only
  repeat' first
    | (with_reducible first
      | assumption | apply kept_setLane | apply kept_cellServe | apply kept_lateAll | apply built
      | apply kept_ite)
    | simp only [kept_mk] | split | exact Eq.refl _

theorem kept_slotWork (n : Nat) (rf : RfCheck) (hk0 : Kept z s) : Kept z (State.slotWork s n rf) := by
  unfold State.slotWork
  try dsimp only
  repeat' first
    | (with_reducible first
      | assumption | apply kept_laneStartDue | apply kept_slotTaken | apply kept_copyDomain
      | apply kept_laneReturnDue | apply kept_takeoverEnd | apply kept_ackFail | apply kept_slotServe
      | apply built | apply kept_ite)
    | simp only [kept_mk] | split | exact Eq.refl _

theorem kept_laneFetchDue (n : Nat) (hk0 : Kept z s) : Kept z (State.laneFetchDue s n) := by
  unfold State.laneFetchDue
  try dsimp only
  repeat' first
    | (with_reducible first
      | assumption | apply kept_lateAll | apply kept_setQueue | apply built | apply kept_ite)
    | simp only [kept_mk] | split | exact Eq.refl _

theorem kept_rxDrop (n : Nat) (check : Nat) (hk0 : Kept z s) : Kept z (State.rxDrop s n check) := by
  unfold State.rxDrop
  try dsimp only
  repeat' first
    | (with_reducible first
      | assumption | apply kept_setLane | apply kept_noKeyCount | apply kept_postLane | apply built
      | apply kept_ite)
    | simp only [kept_mk] | split | exact Eq.refl _

theorem kept_rxAccept (n : Nat) (e : Nat) (f : RxFrame) (hk0 : Kept z s) : Kept z (State.rxAccept s n e f) := by
  unfold State.rxAccept
  try dsimp only
  repeat' first
    | (with_reducible first
      | assumption | apply kept_setLt | apply kept_enterJoined | apply kept_setLane | apply built
      | apply kept_ite)
    | simp only [kept_mk] | split | exact Eq.refl _

theorem kept_sendAck (n : Nat) (e : Nat) (f : RxFrame) (hk0 : Kept z s) : Kept z (State.sendAck s n e f) := by
  unfold State.sendAck
  try dsimp only
  repeat' first
    | (with_reducible first
      | assumption | apply kept_setLane | apply kept_addAir | apply kept_fcUse | apply built | apply kept_ite)
    | simp only [kept_mk] | split | exact Eq.refl _

theorem kept_postLrx (n : Nat) (e : Nat) (f : RxFrame) (foreign : Bool) (hk0 : Kept z s) : Kept z (State.postLrx s
    n e f foreign) := by
  unfold State.postLrx
  try dsimp only
  repeat' first
    | (with_reducible first
      | assumption | apply kept_rxPost | apply built | apply kept_ite)
    | simp only [kept_mk] | split | exact Eq.refl _

theorem kept_lcsDrop (n : Nat) (f : RxFrame) (typ : Nat) (case_ : Nat) (hk0 : Kept z s) : Kept z (State.lcsDrop s n
    f typ case_) := by
  unfold State.lcsDrop
  repeat' first
    | (with_reducible first
      | assumption | apply kept_event)

theorem kept_idleDrop (hk0 : Kept z s) : Kept z (State.idleDrop s) :=
  built hk0 rfl rfl rfl rfl rfl

theorem kept_takeTemp (e : Nat) (half : Nat) (hk0 : Kept z s) : Kept z (State.takeTemp s e half) := by
  unfold State.takeTemp
  try dsimp only
  repeat' first
    | (with_reducible first
      | assumption | apply kept_setLt | apply built | apply kept_ite)
    | simp only [kept_mk] | split | exact Eq.refl _

theorem kept_takeFaults (e : Nat) (v : Nat) (report : Bool) (hk0 : Kept z s) : Kept z (State.takeFaults s e v
    report) := by
  unfold State.takeFaults
  try dsimp only
  repeat' first
    | (with_reducible first
      | assumption | apply kept_setLt | apply kept_enterState | apply kept_ite)
    | split

theorem kept_takeReport (n : Nat) (e : Nat) (f : RxFrame) (hk0 : Kept z s) : Kept z (State.takeReport s n e f) := by
  unfold State.takeReport
  try dsimp only
  repeat' first
    | (with_reducible first
      | assumption | apply kept_setLt | apply kept_postLrx | apply kept_takeFaults | apply kept_takeTemp)

theorem kept_takeFault (n : Nat) (e : Nat) (f : RxFrame) (hk0 : Kept z s) : Kept z (State.takeFault s n e f) := by
  unfold State.takeFault
  try dsimp only
  repeat' first
    | (with_reducible first
      | assumption | apply kept_setLt | apply kept_takeTemp | apply kept_postLrx | apply kept_takeFaults)

theorem kept_takeDetect (n : Nat) (e : Nat) (f : RxFrame) (hk0 : Kept z s) : Kept z (State.takeDetect s n e f) := by
  unfold State.takeDetect
  try dsimp only
  repeat' first
    | (with_reducible first
      | assumption | apply kept_wavEnter)

theorem kept_noAccept (n : Nat) (e : Nat) (hk0 : Kept z s) : Kept z (State.noAccept s n e) := by
  unfold State.noAccept
  repeat' first
    | (with_reducible first
      | assumption | apply kept_event)

theorem kept_sendAccept (n : Nat) (e : Nat) (nonce : List Byte) (hk0 : Kept z s) : Kept z (State.sendAccept s n e
    nonce) := by
  unfold State.sendAccept
  try dsimp only
  repeat' first
    | (with_reducible first
      | assumption | apply kept_enqueue | apply kept_noAccept | apply built | apply kept_ite)
    | simp only [kept_mk] | split | exact Eq.refl _

theorem kept_mismatch (e : Nat) (hk0 : Kept z s) : Kept z (State.mismatch s e) := by
  unfold State.mismatch
  try dsimp only
  repeat' first
    | (with_reducible first
      | assumption | apply kept_withdrawUnicast | apply kept_withdrawScene | apply kept_enterMismatch)

theorem kept_takeJoin (n : Nat) (e : Nat) (f : RxFrame) (hk0 : Kept z s) : Kept z (State.takeJoin s n e f) := by
  unfold State.takeJoin
  try dsimp only
  repeat' first
    | (with_reducible first
      | assumption | apply kept_takeTemp | apply kept_setLt | apply kept_setScnEntry | apply kept_sendAccept
      | apply kept_enterJoined | apply kept_mismatch | apply built | apply kept_ite)
    | simp only [kept_mk] | split | exact Eq.refl _

theorem kept_lcsTake (n : Nat) (e : Nat) (f : RxFrame) (hk0 : Kept z s) : Kept z (State.lcsTake s n e f) := by
  unfold State.lcsTake
  try dsimp only
  repeat' first
    | (with_reducible first
      | assumption | apply kept_postLrx | apply kept_lcsDrop | apply kept_idleDrop | apply kept_takeReport
      | apply kept_takeDetect | apply kept_takeFault | apply kept_takeJoin | apply built | apply kept_ite)
    | simp only [kept_mk] | split | exact Eq.refl _

theorem kept_unknownFrame (src : Nat) (hk0 : Kept z s) : Kept z (State.unknownFrame s src) := by
  unfold State.unknownFrame
  try dsimp only
  repeat' first
    | (with_reducible first
      | assumption | apply kept_postEvent | apply built)
    | simp only [kept_mk] | exact Eq.refl _

theorem kept_dataFrame (f : RxFrame) (hk0 : Kept z s) : Kept z (State.dataFrame s f) := by
  unfold State.dataFrame
  try dsimp only
  repeat' first
    | (with_reducible first
      | assumption | apply kept_rxDrop | apply kept_unknownFrame | apply kept_lcsTake | apply kept_sendAck
      | apply kept_rxAccept | apply built | apply kept_ite)
    | simp only [kept_mk] | split | exact Eq.refl _

theorem kept_ackFrame (f : RxFrame) (hk0 : Kept z s) : Kept z (State.ackFrame s f) := by
  unfold State.ackFrame
  try dsimp only
  repeat' first
    | (with_reducible first
      | assumption | apply kept_rxDrop | apply kept_ackTake | apply kept_rxAccept | apply built | apply kept_ite)
    | simp only [kept_mk] | split | exact Eq.refl _

theorem kept_setEth (p : Nat) (f : EthUnit → EthUnit) (hk0 : Kept z s) : Kept z (State.setEth s p f) := by
  unfold State.setEth
  try dsimp only
  repeat' first
    | (with_reducible first
      | assumption | apply built | apply kept_ite)
    | simp only [kept_mk] | split | exact Eq.refl _

theorem kept_etxSend (p : Nat) (hk0 : Kept z s) : Kept z (State.etxSend s p) := by
  unfold State.etxSend
  try dsimp only
  repeat' first
    | (with_reducible first
      | assumption | apply kept_setQueue | apply kept_setEth | apply kept_tsqAdd | apply built | apply kept_ite)
    | simp only [kept_mk] | split | exact Eq.refl _

theorem kept_erxPost (p : Nat) (sfd : Nat) (last : Nat) (f : List Byte) (hk0 : Kept z s) : Kept z (State.erxPost s
    p sfd last f) := by
  unfold State.erxPost
  try dsimp only
  repeat' first
    | (with_reducible first
      | assumption | apply kept_rxPost | apply kept_noBuf | apply built | apply kept_ite)
    | simp only [kept_mk] | split | exact Eq.refl _

theorem kept_ethArrive (p : Nat) (sfd : Nat) (last : Nat) (fcsOk : Bool) (f : List Byte) (hk0 : Kept z s) : Kept z
    (State.ethArrive s p sfd last fcsOk f) := by
  unfold State.ethArrive
  try dsimp only
  repeat' first
    | (with_reducible first
      | assumption | apply kept_postBit | apply kept_wavEnter | apply kept_erxPost | apply built
      | apply kept_ite)
    | simp only [kept_mk] | split | exact Eq.refl _

theorem kept_ethLink (p : Nat) (up : Bool) (speed : Nat) (hk0 : Kept z s) : Kept z (State.ethLink s p up speed) :=
    by
  unfold State.ethLink
  try dsimp only
  repeat' first
    | (with_reducible first
      | assumption | apply kept_postBit | apply kept_setEth | apply built | apply kept_ite)
    | simp only [kept_mk] | split | exact Eq.refl _

theorem kept_setKey (f : KeyUnit → KeyUnit) (hk0 : Kept z s) : Kept z (State.setKey s f) :=
  built hk0 rfl rfl rfl rfl rfl

theorem kept_putKeyBuf (d : List Byte) (hk0 : Kept z s) : Kept z (State.putKeyBuf s d) := by
  unfold State.putKeyBuf
  try dsimp only
  repeat' first
    | intro _
    | (with_reducible first
      | assumption | apply kept_setCfg | apply kept_foldl1 | apply kept_foldl | apply kept_ite)
    | split

theorem kept_keyRefuse (code : Nat) (hk0 : Kept z s) : Kept z (State.keyRefuse s code) := by
  unfold State.keyRefuse
  try dsimp only
  repeat' first
    | (with_reducible first
      | assumption | apply kept_postBit | apply kept_setKey | apply built | apply kept_ite)
    | simp only [kept_mk] | split | exact Eq.refl _

theorem kept_keyStart (j : KeyJob) (hk0 : Kept z s) : Kept z (State.keyStart s j) := by
  unfold State.keyStart
  try dsimp only
  repeat' first
    | (with_reducible first
      | assumption | apply kept_setKey | apply built | apply kept_ite)
    | simp only [kept_mk] | split | exact Eq.refl _

theorem kept_keyTake (slot : Nat) (hk0 : Kept z s) : Kept z (State.keyTake s slot) := by
  unfold State.keyTake
  try dsimp only
  repeat' first
    | (with_reducible first
      | assumption | apply kept_setKey | apply built | apply kept_ite)
    | simp only [kept_mk] | split | exact Eq.refl _

theorem kept_onSlot (n : Nat) (u : Usage) (lenOk : Bool) {k : Slot → State} (hk0 : Kept z s) (hk1 : ∀ t, Kept z (k
    t)) : Kept z (State.onSlot s n u lenOk k) := by
  unfold State.onSlot
  try dsimp only
  repeat' first
    | (with_reducible first
      | assumption | apply hk1 | apply kept_keyRefuse | apply built | apply kept_ite)
    | simp only [kept_mk] | split | exact Eq.refl _

theorem kept_streamCmd (op : Nat) (slot : Nat) (mode : Nat) (fin : List Byte → List Byte) (hk0 : Kept z s) : Kept z
    (State.streamCmd s op slot mode fin) := by
  unfold State.streamCmd
  try dsimp only
  repeat' first
    | (with_reducible first
      | assumption | apply kept_setKey | apply kept_keyStart | apply kept_keyRefuse | apply built
      | apply kept_ite)
    | simp only [kept_mk] | split | exact Eq.refl _

theorem kept_cmdNetload (n : Nat) (hk0 : Kept z s) : Kept z (State.cmdNetload s n) := by
  unfold State.cmdNetload
  try dsimp only
  repeat' first
    | intro _
    | (with_reducible first
      | assumption | apply kept_onSlot | apply kept_keyStart | apply kept_ite)
    | split

theorem kept_cmdWrap (n : Nat) (hk0 : Kept z s) : Kept z (State.cmdWrap s n) := by
  unfold State.cmdWrap
  try dsimp only
  repeat' first
    | intro _
    | (with_reducible first
      | assumption | apply kept_onSlot | apply kept_keyTake | apply kept_keyStart)

theorem kept_cmdHash (mode : Nat) (hk0 : Kept z s) : Kept z (State.cmdHash s mode) := by
  unfold State.cmdHash
  repeat' first
    | (with_reducible first
      | assumption | apply kept_keyRefuse | apply kept_streamCmd | apply kept_ite)
    | split

theorem kept_cmdHmac (mode : Nat) (n : Nat) (hk0 : Kept z s) : Kept z (State.cmdHmac s mode n) := by
  unfold State.cmdHmac
  try dsimp only
  repeat' first
    | intro _
    | (with_reducible first
      | assumption | apply kept_onSlot | apply kept_streamCmd | apply kept_keyTake | apply kept_ite)
    | split

theorem kept_cmdVerify (n : Nat) (hk0 : Kept z s) : Kept z (State.cmdVerify s n) := by
  unfold State.cmdVerify
  try dsimp only
  repeat' first
    | intro _
    | (with_reducible first
      | assumption | apply kept_onSlot | apply kept_keyStart | apply kept_ite)
    | split

theorem kept_cmdSign (n : Nat) (hk0 : Kept z s) : Kept z (State.cmdSign s n) := by
  unfold State.cmdSign
  try dsimp only
  repeat' first
    | intro _
    | (with_reducible first
      | assumption | apply kept_onSlot | apply kept_fresh | apply kept_keyStart)

theorem kept_cmdAttest (hk0 : Kept z s) : Kept z (State.cmdAttest s) := by
  unfold State.cmdAttest
  try dsimp only
  repeat' first
    | (with_reducible first
      | assumption | apply kept_keyRefuse | apply kept_fresh | apply kept_keyStart | apply built
      | apply kept_ite)
    | simp only [kept_mk] | split | exact Eq.refl _

theorem kept_cmdRandom (hk0 : Kept z s) : Kept z (State.cmdRandom s) := by
  unfold State.cmdRandom
  repeat' first
    | (with_reducible first
      | assumption | apply kept_keyRefuse | apply kept_fresh | apply kept_keyStart | apply kept_ite)
    | split

theorem kept_cmdHostwrite (n : Nat) (hk0 : Kept z s) : Kept z (State.cmdHostwrite s n) := by
  unfold State.cmdHostwrite
  try dsimp only
  repeat' first
    | intro _
    | (with_reducible first
      | assumption | apply kept_onSlot | apply kept_keyStart | apply built)
    | simp only [kept_mk] | exact Eq.refl _

theorem kept_cmdKum (hk0 : Kept z s) : Kept z (State.cmdKum s) := by
  unfold State.cmdKum
  try dsimp only
  repeat' first
    | (with_reducible first
      | assumption | apply kept_keyRefuse | apply kept_keyStart | apply built | apply kept_ite)
    | simp only [kept_mk] | split | exact Eq.refl _

theorem kept_keyCommand (op : Nat) (mode : Nat) (n : Nat) (hk0 : Kept z s) : Kept z (State.keyCommand s op mode n)
    := by
  unfold State.keyCommand
  try dsimp only
  repeat' first
    | (with_reducible first
      | assumption | apply kept_keyRefuse | apply kept_setKey | apply kept_cmdKum | apply kept_cmdNetload
      | apply kept_cmdWrap | apply kept_cmdHash | apply kept_cmdHmac | apply kept_cmdVerify | apply kept_cmdSign
      | apply kept_cmdAttest | apply kept_cmdRandom | apply kept_cmdHostwrite | apply built | apply kept_ite)
    | simp only [kept_mk] | split | exact Eq.refl _

theorem kept_keyCmdWord (v : Word) (hk0 : Kept z s) : Kept z (State.keyCmdWord s v) := by
  unfold State.keyCmdWord
  repeat' first
    | (with_reducible first
      | assumption | apply kept_keyCommand | apply kept_setCfg)

theorem kept_clearTamper (hk0 : Kept z s) : Kept z (State.clearTamper s) := by
  unfold State.clearTamper
  try dsimp only
  repeat' first
    | (with_reducible first
      | assumption | apply kept_setKey | apply kept_postBit | apply built | apply kept_ite)
    | simp only [kept_mk] | split | exact Eq.refl _

theorem kept_commitEnd (hk0 : Kept z s) : Kept z (State.commitEnd s) := by
  unfold State.commitEnd
  try dsimp only
  repeat' first
    | (with_reducible first
      | assumption | apply kept_setKey | apply kept_post | apply kept_clearTamper | apply built | apply kept_ite)
    | simp only [kept_mk] | split | exact Eq.refl _

theorem kept_wkrRest (hk0 : Kept z s) : Kept z (State.wkrRest s) := by
  unfold State.wkrRest
  try dsimp only
  repeat' first
    | (with_reducible first
      | assumption | apply kept_setKey | apply built | apply kept_ite)
    | simp only [kept_mk] | split | exact Eq.refl _

theorem kept_netTake (n : Nat) (hk0 : Kept z s) : Kept z (State.netTake s n) := by
  unfold State.netTake
  try dsimp only
  repeat' first
    | (with_reducible first
      | assumption | apply kept_fcOwn | apply kept_setKey | apply built | apply kept_ite)
    | simp only [kept_mk] | split | exact Eq.refl _

theorem kept_keyFinish (hk0 : Kept z s) : Kept z (State.keyFinish s) := by
  unfold State.keyFinish
  try dsimp only
  repeat' first
    | (with_reducible first
      | assumption | apply kept_netTake | apply kept_wkrRest | apply kept_putKeyBuf | apply kept_postBit
      | apply kept_setKey | apply built | apply kept_ite)
    | simp only [kept_mk] | split | exact Eq.refl _

theorem kept_zeroRsram (hk0 : Kept z s) : Kept z (State.zeroRsram s) := by
  unfold State.zeroRsram
  try dsimp only
  repeat' first
    | (with_reducible first
      | assumption | apply built | apply kept_ite)
    | simp only [kept_mk] | split | exact Eq.refl _

theorem kept_tamperStore (action : Nat) (hk0 : Kept z s) : Kept z (State.tamperStore s action) := by
  unfold State.tamperStore
  try dsimp only
  repeat' first
    | (with_reducible first
      | assumption | apply kept_setKey | apply kept_postBit | apply built | apply kept_ite)
    | simp only [kept_mk] | split | exact Eq.refl _

theorem kept_keyAbort (hk0 : Kept z s) : Kept z (State.keyAbort s) := by
  unfold State.keyAbort
  try dsimp only
  repeat' first
    | (with_reducible first
      | assumption | apply kept_setKey | apply kept_putKeyBuf | apply built | apply kept_ite)
    | simp only [kept_mk] | split | exact Eq.refl _

theorem kept_tamperActive (n : Nat) (hk0 : Kept z s) : Kept z (State.tamperActive s n) := by
  unfold State.tamperActive
  try dsimp only
  repeat' first
    | (with_reducible first
      | assumption | apply kept_setKey | apply kept_zeroRsram | apply kept_postEvent | apply kept_tamperStore
      | apply kept_keyAbort | apply built | apply kept_ite)
    | simp only [kept_mk] | split | exact Eq.refl _

theorem kept_tpolicyWrite (master : Nat) (addr : Nat) (v : Word) (hk0 : Kept z s) : Kept z (State.tpolicyWrite s
    master addr v) := by
  unfold State.tpolicyWrite
  try dsimp only
  repeat' first
    | (with_reducible first
      | assumption | apply kept_postEvent | apply kept_setKey | apply built | apply kept_ite)
    | simp only [kept_mk] | split | exact Eq.refl _

theorem kept_eraseDone (hk0 : Kept z s) : Kept z (State.eraseDone s) := by
  unfold State.eraseDone
  try dsimp only
  repeat' first
    | (with_reducible first
      | assumption | apply kept_postBit | apply kept_setKey | apply built | apply kept_ite)
    | simp only [kept_mk] | split | exact Eq.refl _

theorem kept_keyPair (dt : Nat) (master : Nat) (op : Nat) (mode : Nat) (slot : Nat) (hk0 : Kept z s) : Kept z
    (State.keyPair s dt master op mode slot) := by
  unfold State.keyPair
  try dsimp only
  repeat' first
    | intro _
    | (with_reducible first
      | assumption | apply kept_pairWrite | apply kept_elapse | apply kept_keyCmdWord | apply kept_ite)
    | split

theorem kept_setUpd (f : UpdUnit → UpdUnit) (hk0 : Kept z s)
    (hf : s.upd.secver ≤ (f s.upd).secver) : Kept z (s.setUpd f) :=
  hk0.trans ⟨rfl, rfl, hf, id, id, id, id⟩

theorem kept_updMirror (hk0 : Kept z s) : Kept z (State.updMirror s) :=
  built hk0 rfl rfl rfl rfl rfl

theorem kept_closeSession (hk0 : Kept z s) : Kept z (State.closeSession s) := by
  unfold State.closeSession
  repeat' first
    | (with_reducible first
      | assumption | apply kept_setHandle | apply kept_ite)
    | split

theorem kept_discard (hk0 : Kept z s) : Kept z (State.discard s) := by
  unfold State.discard
  try dsimp only
  repeat' first
    | (with_reducible first
      | assumption | apply kept_setUpd | apply built | apply kept_ite)
    | simp only [kept_mk] | split | exact Eq.refl _ | exact Nat.le_refl _ | exact Nat.le_max_left _ _

theorem kept_updPost (code : Nat) (hk0 : Kept z s) : Kept z (State.updPost s code) := by
  unfold State.updPost
  try dsimp only
  repeat' first
    | (with_reducible first
      | assumption | apply kept_postBit | apply kept_setUpd | apply built | apply kept_ite)
    | simp only [kept_mk] | split | exact Eq.refl _ | exact Nat.le_refl _ | exact Nat.le_max_left _ _

theorem kept_manifestTake (m : List Byte) (slot : Nat) (hk0 : Kept z s) : Kept z (State.manifestTake s m slot) := by
  unfold State.manifestTake
  try dsimp only
  repeat' first
    | (with_reducible first
      | assumption | apply kept_updMirror | apply kept_setUpd | apply kept_discard | apply built
      | apply kept_ite)
    | simp only [kept_mk] | split | exact Eq.refl _ | exact Nat.le_refl _ | exact Nat.le_max_left _ _

theorem kept_manifestCmd (m : List Byte) (hk0 : Kept z s) : Kept z (State.manifestCmd s m).1 := by
  unfold State.manifestCmd
  try dsimp only
  repeat' first
    | (with_reducible first
      | assumption | apply kept_manifestTake | apply built | apply kept_ite)
    | simp only [kept_mk] | split | exact Eq.refl _

theorem kept_activate (hk0 : Kept z s) : Kept z (State.activate s) := by
  unfold State.activate
  try dsimp only
  repeat' first
    | (with_reducible first
      | assumption | apply kept_raiseReset | apply kept_updMirror | apply kept_setUpd | apply built
      | apply kept_ite)
    | simp only [kept_mk] | split | exact Eq.refl _ | exact Nat.le_refl _ | exact Nat.le_max_left _ _

theorem kept_confirm (hk0 : Kept z s) : Kept z (State.confirm s) := by
  unfold State.confirm
  try dsimp only
  repeat' first
    | (with_reducible first
      | assumption | apply kept_setUpd | apply kept_setKey | apply kept_postBit | apply kept_updMirror
      | apply kept_discard | apply built | apply kept_ite)
    | simp only [kept_mk] | split | exact Eq.refl _ | exact Nat.le_refl _ | exact Nat.le_max_left _ _

theorem kept_revertSet (hk0 : Kept z s) : Kept z (State.revertSet s) := by
  unfold State.revertSet
  try dsimp only
  repeat' first
    | (with_reducible first
      | assumption | apply kept_updMirror | apply kept_setUpd | apply kept_postEvent | apply built
      | apply kept_ite)
    | simp only [kept_mk] | split | exact Eq.refl _ | exact Nat.le_refl _ | exact Nat.le_max_left _ _

theorem kept_updAbort (hk0 : Kept z s) : Kept z (State.updAbort s) := by
  unfold State.updAbort
  repeat' first
    | (with_reducible first
      | assumption | apply kept_updMirror | apply kept_discard | apply kept_closeSession)

theorem kept_netSession {k : State} (hk0 : Kept z s) (hk1 : Kept z k) : Kept z (State.netSession s k) := by
  unfold State.netSession
  repeat' first
    | (with_reducible first
      | assumption | apply kept_updPost | apply kept_ite)
    | split

theorem kept_cmdManifest (hk0 : Kept z s) : Kept z (State.cmdManifest s) := by
  unfold State.cmdManifest
  try dsimp only
  repeat' first
    | (with_reducible first
      | assumption | apply kept_netSession | apply kept_manifestCmd | apply kept_updPost | apply kept_ite)
    | split

theorem kept_cmdChunk (hk0 : Kept z s) : Kept z (State.cmdChunk s) := by
  unfold State.cmdChunk
  try dsimp only
  repeat' first
    | (with_reducible first
      | assumption | apply kept_netSession | apply kept_updPost | apply kept_setUpd | apply built
      | apply kept_ite)
    | simp only [kept_mk] | split | exact Eq.refl _ | exact Nat.le_refl _ | exact Nat.le_max_left _ _

theorem kept_cmdActivate (hk0 : Kept z s) : Kept z (State.cmdActivate s) := by
  unfold State.cmdActivate
  repeat' first
    | (with_reducible first
      | assumption | apply kept_updPost | apply kept_activate | apply kept_ite)
    | split

theorem kept_cmdConfirm (hk0 : Kept z s) : Kept z (State.cmdConfirm s) := by
  unfold State.cmdConfirm
  repeat' first
    | (with_reducible first
      | assumption | apply kept_updPost | apply kept_confirm | apply kept_ite)
    | split

theorem kept_cmdRevert (hk0 : Kept z s) : Kept z (State.cmdRevert s) := by
  unfold State.cmdRevert
  repeat' first
    | (with_reducible first
      | assumption | apply kept_raiseReset | apply kept_updPost | apply kept_revertSet | apply kept_ite)
    | split

theorem kept_updCommand (op : Nat) (hk0 : Kept z s) : Kept z (State.updCommand s op) := by
  unfold State.updCommand
  try dsimp only
  repeat' first
    | (with_reducible first
      | assumption | apply kept_updPost | apply kept_cmdManifest | apply kept_cmdChunk | apply kept_cmdActivate
      | apply kept_cmdConfirm | apply kept_updAbort | apply kept_cmdRevert | apply built | apply kept_ite)
    | simp only [kept_mk] | split | exact Eq.refl _

theorem kept_updCmdWord (v : Word) (hk0 : Kept z s) : Kept z (State.updCmdWord s v) := by
  unfold State.updCmdWord
  repeat' first
    | (with_reducible first
      | assumption | apply kept_updCommand | apply kept_setCfg)

theorem kept_updPair (dt : Nat) (master : Nat) (op : Nat) (hk0 : Kept z s) : Kept z (State.updPair s dt master op)
    := by
  unfold State.updPair
  try dsimp only
  repeat' first
    | intro _
    | (with_reducible first
      | assumption | apply kept_pairWrite | apply kept_elapse | apply kept_updCmdWord | apply kept_ite)
    | split

theorem kept_svcAnswer (tag : Nat) (code : Nat) (hk0 : Kept z s) : Kept z (State.svcAnswer s tag code) := by
  unfold State.svcAnswer
  try dsimp only
  repeat' first
    | (with_reducible first
      | assumption | apply kept_postBit | apply built | apply kept_ite)
    | simp only [kept_mk] | split | exact Eq.refl _

theorem kept_svcMessage (dt : Nat) (tag : Nat) {k : State → State} (hk0 : Kept z s) (hk1 : ∀ t, Kept z t → Kept z
    (k t)) : Kept z (State.svcMessage s dt tag k) := by
  unfold State.svcMessage
  try dsimp only
  repeat' first
    | intro _
    | (with_reducible first
      | assumption | apply hk1 | apply kept_occur | apply kept_svcAnswer | apply kept_ite)
    | split

theorem kept_preempt (hk0 : Kept z s) : Kept z (State.preempt s) := by
  unfold State.preempt
  try dsimp only
  repeat' first
    | (with_reducible first
      | assumption | apply kept_updPost | apply kept_postEvent | apply kept_updMirror | apply kept_discard
      | apply kept_closeSession | apply kept_ite)
    | split

theorem kept_svcBegin (tag : Nat) (m : List Byte) (hk0 : Kept z s) : Kept z (State.svcBegin s tag m) := by
  unfold State.svcBegin
  try dsimp only
  repeat' first
    | (with_reducible first
      | assumption | apply kept_setUpd | apply kept_setHandle | apply kept_manifestCmd | apply kept_updMirror
      | apply kept_svcAnswer | apply built | apply kept_ite)
    | simp only [kept_mk] | split | exact Eq.refl _ | exact Nat.le_refl _ | exact Nat.le_max_left _ _

theorem kept_svcOpenMsg (tag : Nat) (m : List Byte) (hk0 : Kept z s) : Kept z (State.svcOpenMsg s tag m) := by
  unfold State.svcOpenMsg
  repeat' first
    | (with_reducible first
      | assumption | apply kept_svcAnswer | apply kept_svcBegin | apply kept_preempt | apply kept_ite)
    | split

theorem kept_svcChunkMsg (tag : Nat) (off : Nat) (d : List Byte) (hk0 : Kept z s) : Kept z (State.svcChunkMsg s tag
    off d) := by
  unfold State.svcChunkMsg
  try dsimp only
  repeat' first
    | (with_reducible first
      | assumption | apply kept_svcAnswer | apply kept_setUpd | apply built | apply kept_ite)
    | simp only [kept_mk] | split | exact Eq.refl _ | exact Nat.le_refl _ | exact Nat.le_max_left _ _

theorem kept_svcCloseMsg (tag : Nat) (hk0 : Kept z s) : Kept z (State.svcCloseMsg s tag) := by
  unfold State.svcCloseMsg
  repeat' first
    | (with_reducible first
      | assumption | apply kept_svcAnswer | apply kept_updMirror | apply kept_closeSession | apply kept_ite)
    | split

theorem kept_svcActivateMsg (tag : Nat) (hk0 : Kept z s) : Kept z (State.svcActivateMsg s tag) := by
  unfold State.svcActivateMsg
  try dsimp only
  repeat' first
    | (with_reducible first
      | assumption | apply kept_svcAnswer | apply kept_activate | apply built | apply kept_ite)
    | simp only [kept_mk] | split | exact Eq.refl _

theorem kept_svcConfirmMsg (tag : Nat) (hk0 : Kept z s) : Kept z (State.svcConfirmMsg s tag) := by
  unfold State.svcConfirmMsg
  repeat' first
    | (with_reducible first
      | assumption | apply kept_svcAnswer | apply kept_confirm | apply kept_ite)
    | split

theorem kept_svcAbortMsg (tag : Nat) (hk0 : Kept z s) : Kept z (State.svcAbortMsg s tag) := by
  unfold State.svcAbortMsg
  try dsimp only
  repeat' first
    | (with_reducible first
      | assumption | apply kept_updPost | apply kept_svcAnswer | apply kept_updAbort | apply built
      | apply kept_ite)
    | simp only [kept_mk] | split | exact Eq.refl _

theorem kept_svcKeyMsg (tag : Nat) (m : List Byte) (hk0 : Kept z s) : Kept z (State.svcKeyMsg s tag m) := by
  unfold State.svcKeyMsg
  try dsimp only
  repeat' first
    | (with_reducible first
      | assumption | apply kept_svcAnswer | apply kept_keyRefuse | apply kept_setKey | apply kept_keyStart
      | apply built | apply kept_ite)
    | simp only [kept_mk] | split | exact Eq.refl _

theorem kept_svcConsoleMsg (tag : Nat) (d : List Byte) (hk0 : Kept z s) : Kept z (State.svcConsoleMsg s tag d) := by
  unfold State.svcConsoleMsg
  try dsimp only
  repeat' first
    | (with_reducible first
      | assumption | apply kept_svcAnswer | apply built | apply kept_ite)
    | simp only [kept_mk] | split | exact Eq.refl _

theorem kept_consoleSend (d : List Byte) (hk0 : Kept z s) : Kept z (State.consoleSend s d) := by
  unfold State.consoleSend
  try dsimp only
  repeat' first
    | (with_reducible first
      | assumption | apply kept_fresh | apply built | apply kept_ite)
    | simp only [kept_mk] | split | exact Eq.refl _

theorem kept_svcPresence (asserted : Bool) (hk0 : Kept z s) : Kept z (State.svcPresence s asserted) := by
  unfold State.svcPresence
  try dsimp only
  repeat' first
    | (with_reducible first
      | assumption | apply kept_postBit | apply kept_updMirror | apply kept_setUpd | apply built
      | apply kept_ite)
    | simp only [kept_mk] | split | exact Eq.refl _ | exact Nat.le_refl _ | exact Nat.le_max_left _ _

theorem kept_vbusState (present : Bool) (configured : Bool) (highSpeed : Bool) (hk0 : Kept z s) : Kept z
    (State.vbusState s present configured highSpeed) := by
  unfold State.vbusState
  try dsimp only
  repeat' first
    | (with_reducible first
      | assumption | apply kept_postBit | apply kept_updMirror | apply kept_closeSession | apply built
      | apply kept_ite)
    | simp only [kept_mk] | split | exact Eq.refl _

theorem kept_beginVerify (hk0 : Kept z s) : Kept z (State.beginVerify s) := by
  unfold State.beginVerify
  try dsimp only
  repeat' first
    | (with_reducible first
      | assumption | apply kept_updMirror | apply kept_setUpd | apply built | apply kept_ite)
    | simp only [kept_mk] | split | exact Eq.refl _ | exact Nat.le_refl _ | exact Nat.le_max_left _ _

theorem kept_chunkAnswer (tag : Option Nat) (code : Nat) (hk0 : Kept z s) : Kept z (State.chunkAnswer s tag code)
    := by
  unfold State.chunkAnswer
  try dsimp only
  repeat' first
    | (with_reducible first
      | assumption | apply kept_updPost | apply kept_svcAnswer | apply built | apply kept_ite)
    | simp only [kept_mk] | split | exact Eq.refl _

theorem kept_chunkEnd (ok : Bool) (hk0 : Kept z s) : Kept z (State.chunkEnd s ok) := by
  unfold State.chunkEnd
  try dsimp only
  repeat' first
    | (with_reducible first
      | assumption | apply kept_setUpd | apply kept_chunkAnswer | apply kept_beginVerify | apply built
      | apply kept_ite)
    | simp only [kept_mk] | split | exact Eq.refl _ | exact Nat.le_refl _ | exact Nat.le_max_left _ _

theorem kept_verifyEnd (ioOk : Bool) (hk0 : Kept z s) : Kept z (State.verifyEnd s ioOk) := by
  unfold State.verifyEnd
  try dsimp only
  repeat' first
    | (with_reducible first
      | assumption | apply kept_postEvent | apply kept_updMirror | apply kept_setUpd | apply kept_discard
      | apply kept_postBit | apply built | apply kept_ite)
    | simp only [kept_mk] | split | exact Eq.refl _ | exact Nat.le_refl _ | exact Nat.le_max_left _ _

theorem kept_copyOne (host : Bool) (ok : Bool) (hk0 : Kept z s) : Kept z (State.copyOne s host ok) := by
  unfold State.copyOne
  try dsimp only
  repeat' first
    | (with_reducible first
      | assumption | apply kept_setUpd | apply built | apply kept_ite)
    | simp only [kept_mk] | split | exact Eq.refl _ | exact Nat.le_refl _ | exact Nat.le_max_left _ _

theorem kept_copyEnd (ok : Bool) (hk0 : Kept z s) : Kept z (State.copyEnd s ok) := by
  unfold State.copyEnd
  try dsimp only
  repeat' first
    | (with_reducible first
      | assumption | apply kept_updMirror | apply kept_setUpd | apply kept_postEvent | apply built
      | apply kept_ite)
    | simp only [kept_mk] | split | exact Eq.refl _ | exact Nat.le_refl _ | exact Nat.le_max_left _ _

theorem kept_stopAck (typ : Nat) (idx : Nat) (hk0 : Kept z s) : Kept z (State.stopAck s typ idx) := by
  unfold State.stopAck
  try dsimp only
  repeat' first
    | (with_reducible first
      | assumption | apply kept_enterState | apply kept_groupAck | apply built | apply kept_ite)
    | simp only [kept_mk] | split | exact Eq.refl _

theorem kept_stopHandle (typ : Nat) (idx : Nat) (hk0 : Kept z s) : Kept z (State.stopHandle s typ idx) := by
  unfold State.stopHandle
  try dsimp only
  repeat' first
    | (with_reducible first
      | assumption | apply kept_setHandle | apply kept_stopAck | apply kept_withdrawUnicast
      | apply kept_withdrawScene | apply kept_setHead | apply kept_setSink | apply kept_queueStop
      | apply kept_msStop | apply built | apply kept_ite)
    | simp only [kept_mk] | split | exact Eq.refl _

theorem kept_startEffect (typ : Nat) (idx : Nat) (hk0 : Kept z s) : Kept z (State.startEffect s typ idx) := by
  unfold State.startEffect
  try dsimp only
  repeat' first
    | (with_reducible first
      | assumption | apply kept_setHead | apply kept_groupStarted | apply kept_unpark | apply kept_msArm
      | apply kept_recSrcStart | apply built | apply kept_ite)
    | simp only [kept_mk] | split | exact Eq.refl _

theorem kept_startHandle (c : Nat) (typ : Nat) (idx : Nat) (hk0 : Kept z s) : Kept z (State.startHandle s c typ
    idx) := by
  unfold State.startHandle
  try dsimp only
  repeat' first
    | (with_reducible first
      | assumption | apply kept_setHandle | apply kept_takeUpChan | apply kept_copyAll | apply kept_startEffect
      | apply built | apply kept_ite)
    | simp only [kept_mk] | split | exact Eq.refl _

theorem kept_strFinish (c : Nat) (hk0 : Kept z s) : Kept z (State.strFinish s c) := by
  unfold State.strFinish
  try dsimp only
  repeat' first
    | (with_reducible first
      | assumption | apply kept_strDone | apply kept_startHandle | apply kept_stopHandle | apply built
      | apply kept_ite)
    | simp only [kept_mk] | split | exact Eq.refl _

theorem kept_strBoundary (c : Nat) (here : Nat → Nat → Bool) (hk0 : Kept z s) : Kept z (State.strBoundary s c here)
    := by
  unfold State.strBoundary
  try dsimp only
  repeat' first
    | (with_reducible first
      | assumption | apply kept_strFinish | apply built | apply kept_ite)
    | simp only [kept_mk] | split | exact Eq.refl _

theorem kept_setService (typ : Nat) (idx : Nat) (on : Bool) (hk0 : Kept z s) : Kept z (State.setService s typ idx
    on) := by
  unfold State.setService
  repeat' first
    | (with_reducible first
      | assumption | apply kept_chService | apply kept_fdService | apply kept_ite)
    | split

theorem kept_createHandle (typ : Nat) (idx : Nat) (a : Nat) (hk0 : Kept z s) : Kept z (State.createHandle s typ idx
    a) := by
  unfold State.createHandle
  try dsimp only
  repeat' first
    | (with_reducible first
      | assumption | apply kept_setService | apply kept_setHandle | apply kept_updMirror | apply kept_setUpd
      | apply built | apply kept_ite)
    | simp only [kept_mk] | split | exact Eq.refl _ | exact Nat.le_refl _ | exact Nat.le_max_left _ _

theorem kept_destroyHandle (typ : Nat) (idx : Nat) (hk0 : Kept z s) : Kept z (State.destroyHandle s typ idx) := by
  unfold State.destroyHandle
  try dsimp only
  repeat' first
    | (with_reducible first
      | assumption | apply kept_setService | apply kept_setHandle | apply kept_updMirror | apply kept_ite)
    | split

theorem kept_strWriteBack (typ : Nat) (idx : Nat) (hk0 : Kept z s) : Kept z (State.strWriteBack s typ idx) := by
  unfold State.strWriteBack
  repeat' first
    | (with_reducible first
      | assumption | apply kept_setCfg)

theorem kept_strMove (start : Bool) (typ : Nat) (idx : Nat) (hk0 : Kept z s) : Kept z (State.strMove s start typ
    idx) := by
  unfold State.strMove
  try dsimp only
  repeat' first
    | (with_reducible first
      | assumption | apply kept_calAbort | apply kept_strDone | apply kept_strFinish | apply built
      | apply kept_ite)
    | simp only [kept_mk] | split | exact Eq.refl _

theorem kept_strRun (op : Nat) (typ : Nat) (idx : Nat) (a : Nat) (hk0 : Kept z s) : Kept z (State.strRun s op typ
    idx a) := by
  unfold State.strRun
  try dsimp only
  repeat' first
    | (with_reducible first
      | assumption | apply kept_strDone | apply kept_strWriteBack | apply kept_createHandle
      | apply kept_destroyHandle | apply kept_strMove | apply built | apply kept_ite)
    | simp only [kept_mk] | split | exact Eq.refl _

theorem kept_strCommand (op : Nat) (hk0 : Kept z s) : Kept z (State.strCommand s op) := by
  unfold State.strCommand
  try dsimp only
  repeat' first
    | (with_reducible first
      | assumption | apply kept_postBit | apply kept_strDone | apply kept_strRun | apply built | apply kept_ite)
    | simp only [kept_mk] | split | exact Eq.refl _

theorem kept_strWrite (dt : Nat) (master : Nat) (op : Nat) (hk0 : Kept z s) : Kept z (State.strWrite s dt master
    op) := by
  unfold State.strWrite
  try dsimp only
  repeat' first
    | intro _
    | (with_reducible first
      | assumption | apply kept_access | apply kept_elapse | apply kept_strCommand | apply kept_ite)
    | split

theorem kept_strRow (dt : Nat) (start : Bool) (hk0 : Kept z s) : Kept z (State.strRow s dt start) := by
  unfold State.strRow
  try dsimp only
  repeat' first
    | intro _
    | (with_reducible first
      | assumption | apply kept_occurIn | apply kept_strFinish | apply built | apply kept_ite)
    | simp only [kept_mk] | split | exact Eq.refl _

theorem kept_rstNote (hk0 : Kept z s) : Kept z (State.rstNote s) :=
  built hk0 rfl rfl rfl rfl rfl

theorem kept_resetParts (level : Nat) (hk0 : Kept z s) : Kept z (s.resetParts level) := by
  refine hk0.trans ⟨rfl, rfl, Nat.le_refl _, fun h => ?_, fun _ => ⟨Nat.zero_le _, Nat.zero_le _⟩, fun _ =>
      Nat.zero_le _, fun _ => ?_⟩
  · simp only [State.resetParts]
    split
    · exact ⟨rfl, rfl⟩
    · exact filter_wf h
  · have e : (s.resetParts level).tbs.tsqs = List.replicate 7 Tsq.reset := by
      simp only [State.resetParts, State.resetTbs]; split <;> rfl
    rw [e]
    intro q hq
    rw [List.eq_of_mem_replicate hq]
    exact Nat.zero_le _

theorem kept_resetSys (p : StartPlan) (hk0 : Kept z s) : Kept z (State.resetSys s p) := by
  unfold State.resetSys
  try dsimp only
  repeat' first
    | (with_reducible first
      | assumption | apply built | apply kept_ite)
    | simp only [kept_mk] | split | exact Eq.refl _

theorem kept_failNote (p : StartPlan) (hk0 : Kept z s) : Kept z (State.failNote s p) := by
  unfold State.failNote
  try dsimp only
  repeat' first
    | (with_reducible first
      | assumption | apply built | apply kept_ite)
    | simp only [kept_mk] | split | exact Eq.refl _

theorem kept_startSet (p : StartPlan) (hk0 : Kept z s) : Kept z (State.startSet s p) := by
  unfold State.startSet
  try dsimp only
  repeat' first
    | (with_reducible first
      | assumption | apply kept_revertSet | apply kept_updMirror | apply kept_setUpd | apply built
      | apply kept_ite)
    | simp only [kept_mk] | split | exact Eq.refl _ | exact Nat.le_refl _ | exact Nat.le_max_left _ _

theorem kept_restartNote (level : Nat) (hk0 : Kept z s) : Kept z (State.restartNote s level) := by
  unfold State.restartNote
  repeat' first
    | (with_reducible first
      | assumption | apply kept_postBit | apply kept_ite)
    | split

theorem kept_startRow (hk0 : Kept z s) : Kept z (State.startRow s) := by
  unfold State.startRow
  try dsimp only
  repeat' first
    | (with_reducible first
      | assumption | apply kept_rowSubst | apply built | apply kept_ite)
    | simp only [kept_mk] | split | exact Eq.refl _

theorem kept_loadPins (b : ImgBody) (hk0 : Kept z s) : Kept z (State.loadPins s b) := by
  unfold State.loadPins
  try dsimp only
  repeat' first
    | intro _
    | (with_reducible first
      | assumption | apply kept_setCfg | apply kept_foldl1 | apply kept_foldl | apply kept_ite)
    | split

theorem kept_loadTable (b : ImgBody) (hk0 : Kept z s) : Kept z (s.loadTable b) := by
  unfold State.loadTable
  dsimp only
  repeat' first
    | (with_reducible first
      | assumption | apply kept_foldl | apply kept_setLt)
    | intro _ _ _
  exact hk0.trans ⟨rfl, rfl, Nat.le_refl _, filter_wf, id, id, id⟩

theorem kept_loadFeeders (b : ImgBody) (hk0 : Kept z s) : Kept z (State.loadFeeders s b) := by
  unfold State.loadFeeders
  try dsimp only
  repeat' first
    | (with_reducible first
      | assumption | apply built | apply kept_ite)
    | simp only [kept_mk] | split | exact Eq.refl _

theorem kept_loadGroups (hk0 : Kept z s) : Kept z (State.loadGroups s) := by
  unfold State.loadGroups
  try dsimp only
  repeat' first
    | (with_reducible first
      | assumption | apply built | apply kept_ite)
    | simp only [kept_mk] | split | exact Eq.refl _

theorem kept_loadQueues (b : ImgBody) (hk0 : Kept z s) : Kept z (State.loadQueues s b) := by
  unfold State.loadQueues
  try dsimp only
  repeat' first
    | intro _
    | (with_reducible first
      | assumption | apply kept_setCfg | apply kept_foldl1 | apply kept_foldl | apply built)
    | simp only [kept_mk] | exact Eq.refl _

theorem kept_loadRec (b : ImgBody) (hk0 : Kept z s) : Kept z (State.loadRec s b) :=
  built hk0 rfl rfl rfl rfl rfl

theorem kept_loadHandles (x1 : List ImgHandle) (hk0 : Kept z s) : Kept z (State.loadHandles s x1) := by
  induction x1 generalizing s
  · exact hk0
  · rename_i ih
    unfold State.loadHandles
    try dsimp only
    repeat' first
      | (with_reducible first
        | assumption | apply ih | apply kept_startHandle | apply kept_createHandle | apply kept_ite)
      | split

theorem kept_loadService (typ : Nat) (idx : Nat) (hk0 : Kept z s) : Kept z (State.loadService s typ idx) := by
  unfold State.loadService
  try dsimp only
  repeat' first
    | (with_reducible first
      | assumption | apply kept_setHandle | apply kept_event | apply kept_setService | apply kept_ite)
    | split

theorem kept_loadServices (hk0 : Kept z s) : Kept z (State.loadServices s) := by
  unfold State.loadServices
  try dsimp only
  repeat' first
    | intro _
    | (with_reducible first
      | assumption | apply kept_loadService | apply kept_foldl1 | apply kept_foldl | apply kept_ite)
    | split

theorem kept_applyImage (g : Image) (hk0 : Kept z s) : Kept z (State.applyImage s g) := by
  unfold State.applyImage
  try dsimp only
  repeat' first
    | (with_reducible first
      | assumption | apply kept_loadFeeders | apply kept_loadTable | apply kept_loadPins
      | apply kept_loadServices | apply kept_loadHandles | apply kept_loadRec | apply kept_loadQueues
      | apply kept_loadGroups | apply built)
    | simp only [kept_mk] | exact Eq.refl _

theorem kept_startPulses (level : Nat) (hk0 : Kept z s) : Kept z (State.startPulses s level) := by
  unfold State.startPulses
  try dsimp only
  repeat' first
    | intro _
    | (with_reducible first
      | assumption | apply kept_postEvent | apply kept_pulseRebase | apply kept_pulseCredit | apply kept_foldl1
      | apply kept_foldl | apply built | apply kept_ite)
    | simp only [kept_mk] | split | exact Eq.refl _

theorem kept_restoredTold (hk0 : Kept z s) : Kept z (State.restoredTold s) := by
  unfold State.restoredTold
  try dsimp only
  repeat' first
    | (with_reducible first
      | assumption | apply kept_postEvent | apply built | apply kept_ite)
    | simp only [kept_mk] | split | exact Eq.refl _

theorem kept_startDeliver (hk0 : Kept z s) : Kept z (State.startDeliver s) := by
  unfold State.startDeliver
  repeat' first
    | (with_reducible first
      | assumption | apply kept_deliverHeld | apply kept_ite)
    | split

theorem kept_startEnd (hk0 : Kept z s) : Kept z (State.startEnd s) := by
  unfold State.startEnd
  try dsimp only
  repeat' first
    | (with_reducible first
      | assumption | apply kept_setUpd | apply kept_updMirror | apply kept_rstNote | apply built
      | apply kept_ite)
    | simp only [kept_mk] | split | exact Eq.refl _ | exact Nat.le_refl _ | exact Nat.le_max_left _ _

theorem kept_startLoad (hk0 : Kept z s) : Kept z (State.startLoad s) := by
  unfold State.startLoad
  try dsimp only
  repeat' first
    | (with_reducible first
      | assumption | apply kept_startEnd | apply kept_recStart | apply kept_applyImage | apply kept_restoredTold
      | apply kept_startDeliver | apply kept_startPulses | apply kept_fcResume | apply kept_rstNote
      | apply built | apply kept_ite)
    | simp only [kept_mk] | split | exact Eq.refl _

theorem kept_startCopy (hk0 : Kept z s) : Kept z (State.startCopy s) := by
  unfold State.startCopy
  try dsimp only
  repeat' first
    | (with_reducible first
      | assumption | apply kept_updMirror | apply kept_setUpd | apply kept_startLoad | apply built
      | apply kept_ite)
    | simp only [kept_mk] | split | exact Eq.refl _ | exact Nat.le_refl _ | exact Nat.le_max_left _ _

theorem kept_startSecure (hk0 : Kept z s) : Kept z (State.startSecure s) := by
  unfold State.startSecure
  try dsimp only
  repeat' first
    | (with_reducible first
      | assumption | apply kept_tamperStore | apply kept_startCopy | apply built | apply kept_ite)
    | simp only [kept_mk] | split | exact Eq.refl _

theorem kept_startQuiesce (hk0 : Kept z s) : Kept z (State.startQuiesce s) := by
  unfold State.startQuiesce
  repeat' first
    | (with_reducible first
      | assumption | apply kept_recDiscard | apply kept_recTear | apply kept_ite)
    | split

theorem kept_startHost (p : StartPlan) (hk0 : Kept z s) : Kept z (State.startHost s p) := by
  unfold State.startHost
  try dsimp only
  repeat' first
    | (with_reducible first
      | assumption | apply kept_startEnd | apply kept_startPulses | apply kept_fcResume | apply kept_failNote
      | apply built)
    | simp only [kept_mk] | exact Eq.refl _

theorem kept_startParts (p : StartPlan) (hk0 : Kept z s) : Kept z (State.startParts s p) := by
  unfold State.startParts
  try dsimp only
  repeat' first
    | (with_reducible first
      | assumption | apply kept_resetSys | apply kept_resetParts | apply kept_startQuiesce | apply kept_rstNote
      | apply kept_startRow | apply kept_restartNote | apply kept_startSet | apply kept_failNote | apply built)
    | simp only [kept_mk] | exact Eq.refl _

theorem kept_startRun (hk0 : Kept z s) : Kept z (State.startRun s) := by
  unfold State.startRun
  try dsimp only
  repeat' first
    | (with_reducible first
      | assumption | apply kept_startHost | apply kept_startSecure | apply kept_startParts | apply kept_ite)
    | split

theorem kept_vinNote (hk0 : Kept z s) : Kept z (State.vinNote s) := by
  unfold State.vinNote
  repeat' first
    | (with_reducible first
      | assumption | apply kept_wakeNote)

theorem kept_vinStart (hk0 : Kept z s) : Kept z (State.vinStart s) := by
  unfold State.vinStart
  try dsimp only
  repeat' first
    | (with_reducible first
      | assumption | apply kept_vinNote | apply kept_startRun | apply built | apply kept_ite)
    | simp only [kept_mk] | split | exact Eq.refl _

theorem kept_clockHalt (n : Nat) (hk0 : Kept z s) : Kept z (State.clockHalt s n) := by
  unfold State.clockHalt
  try dsimp only
  repeat' first
    | (with_reducible first
      | assumption | apply kept_resetParts | apply kept_rstNote | apply built)
    | simp only [kept_mk] | exact Eq.refl _

theorem kept_clockRetry (hk0 : Kept z s) : Kept z (State.clockRetry s) := by
  unfold State.clockRetry
  try dsimp only
  repeat' first
    | (with_reducible first
      | assumption | apply kept_startSecure | apply kept_startParts)

theorem kept_clockRetryDue (good : Bool) (hk0 : Kept z s) : Kept z (State.clockRetryDue s good) := by
  unfold State.clockRetryDue
  try dsimp only
  repeat' first
    | (with_reducible first
      | assumption | apply kept_clockRetry | apply built | apply kept_ite)
    | simp only [kept_mk] | split | exact Eq.refl _

theorem kept_keyOpEnd (hk0 : Kept z s) : Kept z (State.keyOpEnd s) := by
  unfold State.keyOpEnd
  try dsimp only
  repeat' first
    | (with_reducible first
      | assumption | apply kept_keyFinish | apply kept_svcAnswer | apply kept_startCopy | apply built
      | apply kept_ite)
    | simp only [kept_mk] | split | exact Eq.refl _

theorem kept_vinLost (hk0 : Kept z s) : Kept z (State.vinLost s) := by
  unfold State.vinLost
  try dsimp only
  repeat' first
    | (with_reducible first
      | assumption | apply built | apply kept_ite)
    | simp only [kept_mk] | split | exact Eq.refl _

theorem kept_bootOk (v : Word) (hk0 : Kept z s) : Kept z (State.bootOk s v) := by
  unfold State.bootOk
  try dsimp only
  repeat' first
    | (with_reducible first
      | assumption | apply kept_setCfg | apply built | apply kept_ite)
    | simp only [kept_mk] | split | exact Eq.refl _

theorem kept_rstCommand (v : Word) (hk0 : Kept z s) : Kept z (State.rstCommand s v) := by
  unfold State.rstCommand
  try dsimp only
  repeat' first
    | (with_reducible first
      | assumption | apply kept_setCfg | apply kept_raiseReset | apply built | apply kept_ite)
    | simp only [kept_mk] | split | exact Eq.refl _

theorem kept_fuseDone (code : Nat) (hk0 : Kept z s) : Kept z (State.fuseDone s code) := by
  unfold State.fuseDone
  try dsimp only
  repeat' first
    | (with_reducible first
      | assumption | apply kept_postBit | apply built)
    | simp only [kept_mk] | exact Eq.refl _

theorem kept_fuseProgram (v : Word) (ok : Bool) (hk0 : Kept z s) : Kept z (State.fuseProgram s v ok) := by
  unfold State.fuseProgram
  try dsimp only
  repeat' first
    | (with_reducible first
      | assumption | apply kept_setCfg | apply kept_fuseDone | apply built | apply kept_ite)
    | simp only [kept_mk] | split | exact Eq.refl _

theorem kept_closeOutput (k : Nat) (hk0 : Kept z s) : Kept z (State.closeOutput s k) :=
  built hk0 rfl rfl rfl rfl rfl

theorem kept_openOutputs (hk0 : Kept z s) : Kept z (State.openOutputs s) :=
  built hk0 rfl rfl rfl rfl rfl

theorem kept_coilFault (k : Nat) (cause : Nat) (hk0 : Kept z s) : Kept z (State.coilFault s k cause) := by
  unfold State.coilFault
  try dsimp only
  repeat' first
    | (with_reducible first
      | assumption | apply kept_postEvent | apply built | apply kept_ite)
    | simp only [kept_mk] | split | exact Eq.refl _

theorem kept_coilCheck (k : Nat) (ma : Nat) (hk0 : Kept z s) : Kept z (State.coilCheck s k ma) := by
  unfold State.coilCheck
  repeat' first
    | (with_reducible first
      | assumption | apply kept_coilFault | apply kept_ite)
    | split

theorem kept_coilChecks (coils : List Nat) (hk0 : Kept z s) : Kept z (State.coilChecks s coils) := by
  unfold State.coilChecks
  try dsimp only
  repeat' first
    | intro _
    | (with_reducible first
      | assumption | apply kept_coilCheck | apply kept_foldl1 | apply kept_foldl | apply kept_ite)
    | split

theorem kept_pwrRefuse (code : Nat) (hk0 : Kept z s) : Kept z (State.pwrRefuse s code) := by
  unfold State.pwrRefuse
  try dsimp only
  repeat' first
    | (with_reducible first
      | assumption | apply kept_postBit | apply built)
    | simp only [kept_mk] | exact Eq.refl _

theorem kept_transBegin (target : Pwr) (fade : Nat) (todo : List (Nat × Nat)) (fromLit : Bool) (hk0 : Kept z s) :
    Kept z (State.transBegin s target fade todo fromLit) :=
  built hk0 rfl rfl rfl rfl rfl

theorem kept_leaveHeldAll (hk0 : Kept z s) : Kept z (State.leaveHeldAll s) := by
  unfold State.leaveHeldAll
  try dsimp only
  repeat' first
    | intro _
    | (with_reducible first
      | assumption | apply kept_leaveHeld | apply kept_foldl1 | apply kept_foldl | apply kept_ite)
    | split

theorem kept_fadeHeads (fade : Nat) (hk0 : Kept z s) : Kept z (State.fadeHeads s fade) := by
  unfold State.fadeHeads
  try dsimp only
  repeat' first
    | intro _
    | (with_reducible first
      | assumption | apply kept_fadeOut | apply kept_foldl1 | apply kept_foldl | apply kept_ite)
    | split

theorem kept_enterLit (hk0 : Kept z s) : Kept z (State.enterLit s) := by
  unfold State.enterLit
  repeat' first
    | (with_reducible first
      | assumption | apply kept_transBegin)

theorem kept_enterFading (target : Pwr) (fade : Nat) (hk0 : Kept z s) : Kept z (State.enterFading s target fade) :=
    by
  unfold State.enterFading
  repeat' first
    | (with_reducible first
      | assumption | apply kept_fadeHeads | apply kept_leaveHeldAll | apply kept_transBegin)

theorem kept_enterOff (hk0 : Kept z s) : Kept z (State.enterOff s) := by
  unfold State.enterOff
  try dsimp only
  repeat' first
    | (with_reducible first
      | assumption | apply kept_leaveHeldAll | apply kept_openOutputs | apply kept_transBegin | apply built
      | apply kept_ite)
    | simp only [kept_mk] | split | exact Eq.refl _

theorem kept_pwrAccept (target : Pwr) (fade : Nat) (hk0 : Kept z s) : Kept z (State.pwrAccept s target fade) := by
  unfold State.pwrAccept
  try dsimp only
  repeat' first
    | (with_reducible first
      | assumption | apply kept_enterLit | apply kept_enterFading | apply kept_enterOff | apply built
      | apply kept_ite)
    | simp only [kept_mk] | split | exact Eq.refl _

theorem kept_pwrCommand (v : Word) (hk0 : Kept z s) : Kept z (State.pwrCommand s v) := by
  unfold State.pwrCommand
  try dsimp only
  repeat' first
    | (with_reducible first
      | assumption | apply kept_setCfg | apply kept_pwrRefuse | apply kept_pwrAccept | apply kept_ite)
    | split

theorem kept_pwrRow (dt : Nat) (master : Nat) (state : Nat) (fade : Nat) (hk0 : Kept z s) : Kept z (State.pwrRow s
    dt master state fade) := by
  unfold State.pwrRow
  try dsimp only
  repeat' first
    | intro _
    | (with_reducible first
      | assumption | apply kept_pairWrite | apply kept_elapse | apply kept_pwrCommand | apply kept_ite)
    | split

theorem kept_litEngines (hk0 : Kept z s) : Kept z (State.litEngines s) := by
  unfold State.litEngines
  try dsimp only
  repeat' first
    | (with_reducible first
      | assumption | apply kept_headsDark | apply kept_leaveHeldAll | apply built | apply kept_ite)
    | simp only [kept_mk] | split | exact Eq.refl _

theorem kept_transEnd (p : Pwr) (hk0 : Kept z s) : Kept z (State.transEnd s p) := by
  unfold State.transEnd
  try dsimp only
  repeat' first
    | (with_reducible first
      | assumption | apply kept_postBit | apply built)
    | simp only [kept_mk] | exact Eq.refl _

theorem kept_closeNext (k : Nat) (hk0 : Kept z s) : Kept z (State.closeNext s k) := by
  unfold State.closeNext
  try dsimp only
  repeat' first
    | (with_reducible first
      | assumption | apply kept_closeOutput | apply built | apply kept_ite)
    | simp only [kept_mk] | split | exact Eq.refl _

theorem kept_litDone (coils : List Nat) (hk0 : Kept z s) : Kept z (State.litDone s coils) := by
  unfold State.litDone
  try dsimp only
  repeat' first
    | (with_reducible first
      | assumption | apply kept_transEnd | apply kept_coilChecks | apply built | apply kept_ite)
    | simp only [kept_mk] | split | exact Eq.refl _

theorem kept_openDue (hk0 : Kept z s) : Kept z (State.openDue s) := by
  unfold State.openDue
  try dsimp only
  repeat' first
    | (with_reducible first
      | assumption | apply kept_openOutputs | apply built | apply kept_ite)
    | simp only [kept_mk] | split | exact Eq.refl _

theorem kept_vigilDone (hk0 : Kept z s) : Kept z (State.vigilDone s) := by
  unfold State.vigilDone
  try dsimp only
  repeat' first
    | (with_reducible first
      | assumption | apply kept_transEnd | apply built | apply kept_ite)
    | simp only [kept_mk] | split | exact Eq.refl _

theorem kept_powerDown (hk0 : Kept z s) : Kept z (State.powerDown s) := by
  unfold State.powerDown
  try dsimp only
  repeat' first
    | (with_reducible first
      | assumption | apply kept_recDiscard | apply kept_recTear | apply built)
    | simp only [kept_mk] | exact Eq.refl _

theorem kept_offDone (hk0 : Kept z s) : Kept z (State.offDone s) := by
  unfold State.offDone
  try dsimp only
  repeat' first
    | (with_reducible first
      | assumption | apply kept_wakeUp | apply kept_powerDown | apply built | apply kept_ite)
    | simp only [kept_mk] | split | exact Eq.refl _

theorem kept_photocell (dark : Bool) (hk0 : Kept z s) : Kept z (State.photocell s dark) := by
  unfold State.photocell
  try dsimp only
  repeat' first
    | (with_reducible first
      | assumption | apply kept_openOutputs | apply built | apply kept_ite)
    | simp only [kept_mk] | split | exact Eq.refl _

theorem kept_tickAim (hk0 : Kept z s) : Kept z (State.tickAim s) :=
  built hk0 rfl rfl rfl rfl rfl

theorem kept_tickCopies (hk0 : Kept z s) : Kept z (State.tickCopies s) := by
  unfold State.tickCopies
  try dsimp only
  repeat' first
    | (with_reducible first
      | assumption | apply kept_peersTaken | apply kept_rulesTaken | apply kept_curvesTaken
      | apply kept_copyDomain | apply kept_strBoundary | apply kept_ite)
    | split

theorem kept_tickEdits (hk0 : Kept z s) : Kept z (State.tickEdits s) := by
  unfold State.tickEdits
  repeat' first
    | (with_reducible first
      | assumption | apply kept_editAll | apply kept_ite)
    | split

theorem kept_tickScene (solveUs : Nat) (hk0 : Kept z s) : Kept z (State.tickScene s solveUs) := by
  unfold State.tickScene
  repeat' first
    | (with_reducible first
      | assumption | apply kept_scnTick | apply kept_ite)
    | split

theorem kept_tickWork (solveUs : Nat) (hk0 : Kept z s) : Kept z (State.tickWork s solveUs) := by
  unfold State.tickWork
  repeat' first
    | (with_reducible first
      | assumption | apply kept_tickScene | apply kept_litEngines | apply kept_tickEdits | apply kept_tickCopies
      | apply kept_tickAim)

theorem kept_periodBegin (g : Nat) (meas : List SinkMeas) (hk0 : Kept z s) : Kept z (State.periodBegin s g meas) :=
    by
  unfold State.periodBegin
  try dsimp only
  repeat' first
    | (with_reducible first
      | assumption | apply kept_periodFaults | apply kept_copyDomain | apply kept_periodWork
      | apply kept_strBoundary | apply kept_ite)
    | split

theorem kept_cycleBegin (f : Nat) (tc : Nat) (img : ImgFeeder) (syn : Bool) (hk0 : Kept z s) : Kept z
    (State.cycleBegin s f tc img syn) := by
  unfold State.cycleBegin
  try dsimp only
  repeat' first
    | (with_reducible first
      | assumption | apply kept_lineBoundary | apply kept_copyDomain | apply kept_takeUpFeeder
      | apply kept_strBoundary | apply kept_ite)
    | split

theorem kept_statClear (a : Nat) (v : Word) (hk0 : Kept z s) : Kept z (State.statClear s a v) := by
  unfold State.statClear
  try dsimp only
  repeat' first
    | (with_reducible first
      | assumption | apply kept_setStat)

theorem kept_mstCommand (v : Word) (hk0 : Kept z s) : Kept z (State.mstCommand s v) := by
  unfold State.mstCommand
  try dsimp only
  repeat' first
    | (with_reducible first
      | assumption | apply kept_calStart | apply kept_mstAckSink | apply built | apply kept_ite)
    | simp only [kept_mk] | split | exact Eq.refl _

theorem kept_qdmCommand (v : Word) (hk0 : Kept z s) : Kept z (State.qdmCommand s v) := by
  unfold State.qdmCommand
  try dsimp only
  repeat' first
    | (with_reducible first
      | assumption | apply kept_qResume | apply kept_qFlush | apply built | apply kept_ite)
    | simp only [kept_mk] | split | exact Eq.refl _

theorem kept_recCommand (v : Word) (hk0 : Kept z s) : Kept z (State.recCommand s v) := by
  unfold State.recCommand
  try dsimp only
  repeat' first
    | (with_reducible first
      | assumption | apply kept_recDumpCmd | apply kept_recSoftCmd | apply built | apply kept_ite)
    | simp only [kept_mk] | split | exact Eq.refl _

theorem kept_islCommand (v : Word) (hk0 : Kept z s) : Kept z (State.islCommand s v) := by
  unfold State.islCommand
  try dsimp only
  repeat' first
    | (with_reducible first
      | assumption | apply kept_setCfg | apply kept_islSealrst | apply kept_islSubst | apply kept_islRelease
      | apply kept_islCheck | apply built | apply kept_ite)
    | simp only [kept_mk] | split | exact Eq.refl _

theorem kept_vergeCommand (v : Word) (hk0 : Kept z s) : Kept z (State.vergeCommand s v) := by
  unfold State.vergeCommand
  try dsimp only
  repeat' first
    | (with_reducible first
      | assumption | apply kept_setCfg | apply kept_vergeTest | apply kept_fresh | apply kept_vergeFree
      | apply built | apply kept_ite)
    | simp only [kept_mk] | split | exact Eq.refl _

theorem kept_wgTake (master : Nat) (w : Nat) (off : Nat) (addr : Nat) (v : Word) (hk0 : Kept z s) : Kept z
    (State.wgTake s master w off addr v) := by
  unfold State.wgTake
  try dsimp only
  repeat' first
    | (with_reducible first
      | assumption | apply kept_pwrCommand | apply kept_rstCommand | apply kept_bootOk | apply kept_fuseProgram
      | apply kept_fresh | apply kept_islCommand | apply kept_accCfgSet | apply kept_accPulseSet
      | apply kept_tbsAdjWord | apply kept_rtcCommand | apply kept_keyCmdWord | apply kept_updCmdWord
      | apply kept_wdtKick | apply kept_vergeCommand | apply kept_partestArm | apply kept_setCfg | apply built
      | apply kept_ite)
    | simp only [kept_mk] | split | exact Eq.refl _

theorem kept_takenNow (a : Nat) (d : Dom) (l : List Nat) (hk0 : Kept z s) : Kept z (State.takenNow s a d l) := by
  unfold State.takenNow
  try dsimp only
  repeat' first
    | (with_reducible first
      | assumption | apply kept_slotTaken | apply kept_fcOwn | apply built | apply kept_ite)
    | simp only [kept_mk] | split | exact Eq.refl _

theorem kept_rwsStore (a : Nat) (i : RegInfo) (v : Word) (hk0 : Kept z s) : Kept z (State.rwsStore s a i v) := by
  unfold State.rwsStore
  try dsimp only
  repeat' first
    | (with_reducible first
      | assumption | apply kept_shadowWrite | apply kept_takenNow | apply kept_takeUpAll | apply kept_ite)
    | split

theorem kept_rwsWrite (master : Nat) (addr : Nat) (a : Nat) (i : RegInfo) (v : Word) (hk0 : Kept z s) : Kept z
    (State.rwsWrite s master addr a i v) := by
  unfold State.rwsWrite
  try dsimp only
  repeat' first
    | (with_reducible first
      | assumption | apply kept_lockedWrite | apply kept_rwsStore | apply built | apply kept_ite)
    | simp only [kept_mk] | split | exact Eq.refl _

theorem kept_chanStore (a : Nat) (n : Nat) (v : Word) (hk0 : Kept z s) : Kept z (State.chanStore s a n v) := by
  unfold State.chanStore
  try dsimp only
  repeat' first
    | (with_reducible first
      | assumption | apply kept_markChanged | apply kept_setCfg | apply kept_takeUpChan | apply kept_ite)
    | split

theorem kept_chanWrite (master : Nat) (addr : Nat) (a : Nat) (n : Nat) (i : RegInfo) (v : Word) (hk0 : Kept z s) :
    Kept z (State.chanWrite s master addr a n i v) := by
  unfold State.chanWrite
  try dsimp only
  repeat' first
    | (with_reducible first
      | assumption | apply kept_lockedWrite | apply kept_chanStore | apply kept_ite)
    | split

theorem kept_wlWrite (master : Nat) (addr : Nat) (a : Nat) (i : RegInfo) (v : Word) (hk0 : Kept z s) : Kept z
    (State.wlWrite s master addr a i v) := by
  unfold State.wlWrite
  try dsimp only
  repeat' first
    | (with_reducible first
      | assumption | apply kept_chanWrite | apply kept_lockedWrite | apply kept_setCfg | apply built
      | apply kept_ite)
    | simp only [kept_mk] | split | exact Eq.refl _

theorem kept_strStore (a : Nat) (v : Word) (hk0 : Kept z s) : Kept z (State.strStore s a v) := by
  unfold State.strStore
  repeat' first
    | (with_reducible first
      | assumption | apply kept_setCfg | apply kept_ite)
    | split

theorem kept_msStore (master : Nat) (addr : Nat) (a : Nat) (m : Nat) (v : Word) (hk0 : Kept z s) : Kept z
    (State.msStore s master addr a m v) := by
  unfold State.msStore
  repeat' first
    | (with_reducible first
      | assumption | apply kept_setCfg | apply kept_lockedWrite | apply kept_ite)
    | split

theorem kept_ringStore (master : Nat) (addr : Nat) (a : Nat) (q : Nat) (v : Word) (hk0 : Kept z s) : Kept z
    (State.ringStore s master addr a q v) := by
  unfold State.ringStore
  repeat' first
    | (with_reducible first
      | assumption | apply kept_lockedWrite | apply kept_setCfg | apply kept_ite)
    | split

theorem kept_winStore (master : Nat) (addr : Nat) (a : Nat) (w : Nat) (v : Word) (hk0 : Kept z s) : Kept z
    (State.winStore s master addr a w v) := by
  unfold State.winStore
  repeat' first
    | (with_reducible first
      | assumption | apply kept_lockedWrite | apply kept_setCfg | apply kept_ite)
    | split

theorem kept_qdmStore (master : Nat) (addr : Nat) (a : Nat) (o : Nat) (v : Word) (hk0 : Kept z s) : Kept z
    (State.qdmStore s master addr a o v) := by
  unfold State.qdmStore
  try dsimp only
  repeat' first
    | (with_reducible first
      | assumption | apply kept_tailWrite | apply kept_ringStore | apply kept_winWrite | apply kept_winStore
      | apply kept_ite)
    | split

theorem kept_usbCtrlWrite (v : Word) (hk0 : Kept z s) : Kept z (State.usbCtrlWrite s v) := by
  unfold State.usbCtrlWrite
  try dsimp only
  repeat' first
    | (with_reducible first
      | assumption | apply kept_setCfg | apply built | apply kept_ite)
    | simp only [kept_mk] | split | exact Eq.refl _

theorem kept_rwStore (master : Nat) (addr : Nat) (a : Nat) (v : Word) (hk0 : Kept z s) : Kept z (State.rwStore s
    master addr a v) := by
  unfold State.rwStore
  try dsimp only
  repeat' first
    | (with_reducible first
      | assumption | apply kept_strStore | apply kept_euiHiWrite | apply kept_setCfg | apply kept_qdmStore
      | apply kept_ppsCfgWrite | apply kept_msStore | apply kept_almWrite | apply kept_wakeperStore
      | apply kept_recTsel | apply kept_recEdgeWrite | apply kept_usbCtrlWrite | apply built | apply kept_ite)
    | simp only [kept_mk] | split | exact Eq.refl _

theorem kept_cmdWrite (a : Nat) (v : Word) (hk0 : Kept z s) : Kept z (State.cmdWrite s a v) := by
  unfold State.cmdWrite
  try dsimp only
  repeat' first
    | (with_reducible first
      | assumption | apply kept_strCommand | apply kept_rwsStore | apply kept_editCommand
      | apply kept_mstCommand | apply kept_lneCommand | apply kept_qdmCommand | apply kept_recCommand
      | apply built | apply kept_ite)
    | simp only [kept_mk] | split | exact Eq.refl _

theorem kept_regStore (master : Nat) (addr : Nat) (a : Nat) (v : Word) (hk0 : Kept z s) : Kept z (State.regStore s
    master addr a v) := by
  unfold State.regStore
  try dsimp only
  repeat' first
    | (with_reducible first
      | assumption | apply kept_statClear | apply kept_cmdWrite | apply kept_rwStore | apply kept_rwsWrite
      | apply kept_wlWrite | apply kept_tpolicyWrite | apply built | apply kept_ite)
    | simp only [kept_mk] | split | exact Eq.refl _

theorem kept_upperWrite (w : Nat) (master : Nat) (addr : Nat) (v : Word) (hk0 : Kept z s) : Kept z
    (State.upperWrite s w master addr v) := by
  unfold State.upperWrite
  try dsimp only
  repeat' first
    | (with_reducible first
      | assumption | apply kept_expirePair | apply kept_guardFail | apply kept_failPair | apply kept_wgTake
      | apply kept_dropPair | apply built | apply kept_ite)
    | simp only [kept_mk] | split | exact Eq.refl _

theorem kept_lowerWrite (w : Nat) (master : Nat) (addr : Nat) (v : Word) (hk0 : Kept z s) : Kept z
    (State.lowerWrite s w master addr v) := by
  unfold State.lowerWrite
  try dsimp only
  repeat' first
    | (with_reducible first
      | assumption | apply kept_intervene | apply kept_openPairAt | apply kept_regStore | apply kept_ite)
    | split

theorem kept_regWrite (master : Nat) (addr : Nat) (size : Nat) (v : Word) (hk0 : Kept z s) : Kept z (State.regWrite
    s master addr size v) := by
  unfold State.regWrite
  try dsimp only
  repeat' first
    | (with_reducible first
      | assumption | apply kept_busError | apply kept_answer | apply kept_regStore | apply kept_upperWrite
      | apply kept_lowerWrite | apply kept_ite)
    | split

theorem kept_plainRead (a : Nat) (hk0 : Kept z s) : Kept z (State.plainRead s a) := by
  unfold State.plainRead
  try dsimp only
  repeat' first
    | (with_reducible first
      | assumption | apply kept_answer | apply kept_setLatch | apply built | apply kept_ite)
    | simp only [kept_mk] | split | exact Eq.refl _

theorem kept_regLoad (a : Nat) (hk0 : Kept z s) : Kept z (s.regLoad a) := by
  unfold State.regLoad
  split <;> repeat' (first | with_reducible assumption | with_reducible apply kept_ite | with_reducible apply kept_plainRead | with_reducible apply kept_slotRead | with_reducible apply kept_slotCountRead | with_reducible apply kept_nowRead | with_reducible apply kept_tsqRead | with_reducible apply kept_fresh | with_reducible apply kept_dateRead | with_reducible apply kept_timeRead | with_reducible apply kept_subRead)

theorem kept_regRead (master : Nat) (addr : Nat) (size : Nat) (hk0 : Kept z s) : Kept z (State.regRead s master
    addr size) := by
  unfold State.regRead
  try dsimp only
  repeat' first
    | (with_reducible first
      | assumption | apply kept_busError | apply kept_intervene | apply kept_answer | apply kept_regLoad
      | apply kept_ite)
    | split

theorem kept_busWrite (master : Nat) (addr : Nat) (size : Nat) (v : Nat) (hk0 : Kept z s) : Kept z (State.busWrite
    s master addr size v) := by
  unfold State.busWrite
  repeat' first
    | (with_reducible first
      | assumption | apply kept_regWrite | apply kept_answer | apply kept_hostRsWrite | apply kept_masterWrite
      | apply kept_ite)
    | split

theorem kept_joinReads (lo : BusReply) (hk0 : Kept z s) : Kept z (State.joinReads s lo) := by
  unfold State.joinReads
  repeat' first
    | (with_reducible first
      | assumption | apply kept_answerHi | apply kept_answer)

theorem kept_busRead (master : Nat) (addr : Nat) (size : Nat) (hk0 : Kept z s) : Kept z (State.busRead s master
    addr size) := by
  unfold State.busRead
  try dsimp only
  repeat' first
    | (with_reducible first
      | assumption | apply kept_regRead | apply kept_joinReads | apply kept_rsRead | apply kept_answer
      | apply kept_answerHi | apply kept_ite)
    | split
end Sys2Proof.Laws
end

