-- ==== Sys2Proof/Laws/PerInstr.lean ====
section
/-! SUPPORT. One lemma for each command: the family Sender says that a well-formed command names a bus master by a
code of R84, below 16. -/

namespace Sys2Proof.Laws
open Sys2Proof

/-- The bus master that sends a command, for the commands that an access of a master is. -/
def Sender.master (i : Instr) : Option Nat :=
  match i with
  | .sysBootok _ master _ => some master
  | .rstcmdHost _ master => some master
  | .rstcmdSystem _ master => some master
  | .fuseprog _ master _ _ => some master
  | .pwrcmdLit _ master => some master
  | .pwrcmdVigil _ master _ => some master
  | .pwrcmdOff _ master _ => some master
  | .pwrcmdHold _ master => some master
  | .registerWrite _ master _ _ _ => some master
  | .errorResponse _ master _ _ _ _ => some master
  | .statusClear _ master _ _ => some master
  | .guardPairOpen _ master _ _ => some master
  | .guardStrayWrite _ master _ _ => some master
  | .fltPartest _ master _ => some master
  | .strCreate _ master => some master
  | .strDestroy _ master => some master
  | .strStop _ master => some master
  | .strStart _ master => some master
  | .strQuery _ master => some master
  | .ltbCommit _ master => some master
  | .ltbClear _ master => some master
  | .ltbEuiLookup _ master _ => some master
  | .ltableDirectWrite _ master _ _ => some master
  | .mstCalibrate _ master _ => some master
  | .mstAck _ master _ => some master
  | .islctlSealrst _ master => some master
  | .islctlSubst _ master _ => some master
  | .islctlRelease _ master _ => some master
  | .islctlChecknow _ master => some master
  | .accCfgWrite _ master _ => some master
  | .accPulseWrite _ master _ _ => some master
  | .accSlotRead _ master _ _ _ => some master
  | .tbsNowRead _ master => some master
  | .tsqPop _ master _ => some master
  | .rtcDateRead _ master _ => some master
  | .loHiLatchRead _ master _ _ => some master
  | .lneTakeover _ master _ => some master
  | .lneRelease _ master _ => some master
  | .lneSpareRoundNow _ master => some master
  | .qdmTailWrite _ master _ _ => some master
  | .qdmResume _ master _ => some master
  | .qdmFlush _ master _ => some master
  | .windowEnableWrite _ master _ _ => some master
  | .adjStep _ master => some master
  | .adjRate _ master => some master
  | .adjSlew _ master _ => some master
  | .adjSlewstop _ master => some master
  | .rtcSet _ master _ => some master
  | .rtcDstfwd _ master => some master
  | .rtcDstback _ master => some master
  | .rtcTrimWrite _ master _ => some master
  | .alarmWrite _ master _ _ => some master
  | .wakeperWrite _ master _ => some master
  | .rsramRead _ master _ _ _ => some master
  | .recDump _ master _ => some master
  | .recSoft _ master _ => some master
  | .recTselWrite _ master _ => some master
  | .kumWrite _ master => some master
  | .kumErase _ master => some master
  | .kumLifecycle _ master => some master
  | .kumClearTamper _ master => some master
  | .netload _ master _ => some master
  | .keyWrap _ master _ => some master
  | .keyHash _ master _ => some master
  | .keyHmac _ master _ _ => some master
  | .keyVerify _ master _ => some master
  | .keySign _ master _ => some master
  | .attest _ master => some master
  | .keyRandom _ master => some master
  | .hostwrite _ master _ => some master
  | .keyTpolicyWrite _ master _ => some master
  | .updManifest _ master => some master
  | .updChunk _ master => some master
  | .updActivate _ master => some master
  | .updConfirm _ master => some master
  | .updAbort _ master => some master
  | .updRevert _ master => some master
  | .fltWdtkick _ master _ => some master
  | .vergeRetest _ master _ _ _ => some master
  | .vergeRelease _ master _ _ => some master
  | _ => none

/-- A well-formed command of a bus master names one of 16 (R84). -/
def Sender.Statement (i : Instr) : Prop := i.wf = true → ∀ m, Sender.master i = some m → m < 16

theorem Sender.one {m n : Nat} (h : decide (n < 16) = true) (e : some n = some m) : m < 16 :=
  Option.some.inj e ▸ of_decide_eq_true h

theorem Sender.fst {m n : Nat} {b : Bool} (h : (decide (n < 16) && b) = true) (e : some n = some m) : m < 16 :=
  Option.some.inj e ▸ of_decide_eq_true (Bool.and_eq_true _ _ |>.mp h).1

theorem Sender.fst2 {m n : Nat} {b c : Bool} (h : (decide (n < 16) && b && c) = true) (e : some n = some m) : m < 16 :=
  Sender.fst (Bool.and_eq_true _ _ |>.mp h).1 e

theorem Sender.fst3 {m n : Nat} {b c d : Bool} (h : (decide (n < 16) && b && c && d) = true) (e : some n = some m) : m < 16 :=
  Sender.fst2 (Bool.and_eq_true _ _ |>.mp h).1 e

theorem Sender.vinLoss (dt : Nat) : Sender.Statement (.vinLoss dt) :=
  fun _ _ e => nomatch e
theorem Sender.holdEnter (dt : Nat) : Sender.Statement (.holdEnter dt) :=
  fun _ _ e => nomatch e
theorem Sender.vinReturn (dt : Nat) : Sender.Statement (.vinReturn dt) :=
  fun _ _ e => nomatch e
theorem Sender.holdupCharged (dt : Nat) : Sender.Statement (.holdupCharged dt) :=
  fun _ _ e => nomatch e
theorem Sender.resetAssert (dt : Nat) : Sender.Statement (.resetAssert dt) :=
  fun _ _ e => nomatch e
theorem Sender.copyBlock (dt : Nat) (host ok : Bool) : Sender.Statement (.copyBlock dt host ok) :=
  fun _ _ e => nomatch e
theorem Sender.copyComplete (dt : Nat) (ok : Bool) : Sender.Statement (.copyComplete dt ok) :=
  fun _ _ e => nomatch e
theorem Sender.clockGoodTimeout (dt : Nat) (mandatory : Bool) (n : Nat) : Sender.Statement (.clockGoodTimeout dt mandatory n) :=
  fun _ _ e => nomatch e
theorem Sender.clockHaltRetry (dt : Nat) (good : Bool) : Sender.Statement (.clockHaltRetry dt good) :=
  fun _ _ e => nomatch e
theorem Sender.resetnPulse (dt : Nat) (width : Nat) (acts : Bool) : Sender.Statement (.resetnPulse dt width acts) :=
  fun _ _ e => nomatch e
theorem Sender.wdtHostExpire (dt : Nat) : Sender.Statement (.wdtHostExpire dt) :=
  fun _ _ e => nomatch e
theorem Sender.wdtSysExpire (dt : Nat) : Sender.Statement (.wdtSysExpire dt) :=
  fun _ _ e => nomatch e
theorem Sender.bootWindowExpire (dt : Nat) : Sender.Statement (.bootWindowExpire dt) :=
  fun _ _ e => nomatch e
theorem Sender.sysBootok (dt : Nat) (master : Nat) (value : Word) : Sender.Statement (.sysBootok dt master value) :=
  fun h _ e => Sender.one h e
theorem Sender.rstcmdHost (dt : Nat) (master : Nat) : Sender.Statement (.rstcmdHost dt master) :=
  fun h _ e => Sender.one h e
theorem Sender.rstcmdSystem (dt : Nat) (master : Nat) : Sender.Statement (.rstcmdSystem dt master) :=
  fun h _ e => Sender.one h e
theorem Sender.debugResetRequest (dt : Nat) : Sender.Statement (.debugResetRequest dt) :=
  fun _ _ e => nomatch e
theorem Sender.fuseprog (dt : Nat) (master : Nat) (value : Word) (ok : Bool) : Sender.Statement (.fuseprog dt master value ok) :=
  fun h _ e => Sender.one h e
theorem Sender.pwrcmdLit (dt : Nat) (master : Nat) : Sender.Statement (.pwrcmdLit dt master) :=
  fun h _ e => Sender.one h e
theorem Sender.pwrcmdVigil (dt : Nat) (master : Nat) (fade : Nat) : Sender.Statement (.pwrcmdVigil dt master fade) :=
  fun h _ e => Sender.fst h e
theorem Sender.pwrcmdOff (dt : Nat) (master : Nat) (fade : Nat) : Sender.Statement (.pwrcmdOff dt master fade) :=
  fun h _ e => Sender.fst h e
theorem Sender.pwrcmdHold (dt : Nat) (master : Nat) : Sender.Statement (.pwrcmdHold dt master) :=
  fun h _ e => Sender.one h e
theorem Sender.contactorClose (dt : Nat) (k : Nat) : Sender.Statement (.contactorClose dt k) :=
  fun _ _ e => nomatch e
theorem Sender.litTransitionDone (dt : Nat) (coils : List Nat) : Sender.Statement (.litTransitionDone dt coils) :=
  fun _ _ e => nomatch e
theorem Sender.contactorsOpen (dt : Nat) : Sender.Statement (.contactorsOpen dt) :=
  fun _ _ e => nomatch e
theorem Sender.vigilTransitionDone (dt : Nat) (coils : List Nat) : Sender.Statement (.vigilTransitionDone dt coils) :=
  fun _ _ e => nomatch e
theorem Sender.offEnter (dt : Nat) : Sender.Statement (.offEnter dt) :=
  fun _ _ e => nomatch e
theorem Sender.coilOpenCoil (dt : Nat) (k ma : Nat) : Sender.Statement (.coilOpenCoil dt k ma) :=
  fun _ _ e => nomatch e
theorem Sender.coilOver (dt : Nat) (k ma : Nat) : Sender.Statement (.coilOver dt k ma) :=
  fun _ _ e => nomatch e
theorem Sender.photocellLevelHeld (dt : Nat) (dark : Bool) : Sender.Statement (.photocellLevelHeld dt dark) :=
  fun _ _ e => nomatch e
theorem Sender.registerWrite (dt : Nat) (master : Nat) (addr size value : Nat) : Sender.Statement (.registerWrite dt master addr size value) :=
  fun h _ e => Sender.fst2 h e
theorem Sender.errorResponse (dt : Nat) (master : Nat) (addr size : Nat) (write : Bool) (value : Nat) : Sender.Statement (.errorResponse dt master addr size write value) :=
  fun h _ e => Sender.fst2 h e
theorem Sender.statusClear (dt : Nat) (master : Nat) (addr : Nat) (value : Word) : Sender.Statement (.statusClear dt master addr value) :=
  fun h _ e => Sender.one h e
theorem Sender.statusEventPost (dt : Nat) (addr : Nat) : Sender.Statement (.statusEventPost dt addr) :=
  fun _ _ e => nomatch e
theorem Sender.guardPairOpen (dt : Nat) (master : Nat) (addr : Nat) (value : Word) : Sender.Statement (.guardPairOpen dt master addr value) :=
  fun h _ e => Sender.one h e
theorem Sender.guardStrayWrite (dt : Nat) (master : Nat) (addr : Nat) (value : Word) : Sender.Statement (.guardStrayWrite dt master addr value) :=
  fun h _ e => Sender.one h e
theorem Sender.guardTimeout (dt : Nat) (win : Nat) : Sender.Statement (.guardTimeout dt win) :=
  fun _ _ e => nomatch e
theorem Sender.parityScan (dt : Nat) (corrupt : Option Corrupt) : Sender.Statement (.parityScan dt corrupt) :=
  fun _ _ e => nomatch e
theorem Sender.fltPartest (dt : Nat) (master : Nat) (value : Word) : Sender.Statement (.fltPartest dt master value) :=
  fun h _ e => Sender.one h e
theorem Sender.tickBoundary (dt : Nat) (solveUs : Nat) : Sender.Statement (.tickBoundary dt solveUs) :=
  fun _ _ e => nomatch e
theorem Sender.slotBoundary (dt : Nat) (lane : Nat) (rf : RfCheck) : Sender.Statement (.slotBoundary dt lane rf) :=
  fun _ _ e => nomatch e
theorem Sender.periodBoundary (dt : Nat) (group : Nat) (meas : List SinkMeas) : Sender.Statement (.periodBoundary dt group meas) :=
  fun _ _ e => nomatch e
theorem Sender.cycleBoundary (dt : Nat) (feeder : Nat) (samples : List (List Int)) : Sender.Statement (.cycleBoundary dt feeder samples) :=
  fun _ _ e => nomatch e
theorem Sender.cycleSynthTimeout (dt : Nat) (feeder : Nat) (samples : List (List Int)) : Sender.Statement (.cycleSynthTimeout dt feeder samples) :=
  fun _ _ e => nomatch e
theorem Sender.strCreate (dt : Nat) (master : Nat) : Sender.Statement (.strCreate dt master) :=
  fun h _ e => Sender.one h e
theorem Sender.strDestroy (dt : Nat) (master : Nat) : Sender.Statement (.strDestroy dt master) :=
  fun h _ e => Sender.one h e
theorem Sender.strStop (dt : Nat) (master : Nat) : Sender.Statement (.strStop dt master) :=
  fun h _ e => Sender.one h e
theorem Sender.strStart (dt : Nat) (master : Nat) : Sender.Statement (.strStart dt master) :=
  fun h _ e => Sender.one h e
theorem Sender.strQuery (dt : Nat) (master : Nat) : Sender.Statement (.strQuery dt master) :=
  fun h _ e => Sender.one h e
theorem Sender.handleStopComplete (dt : Nat) : Sender.Statement (.handleStopComplete dt) :=
  fun _ _ e => nomatch e
theorem Sender.handleStartComplete (dt : Nat) : Sender.Statement (.handleStartComplete dt) :=
  fun _ _ e => nomatch e
theorem Sender.ltbCommit (dt : Nat) (master : Nat) : Sender.Statement (.ltbCommit dt master) :=
  fun h _ e => Sender.one h e
theorem Sender.ltbClear (dt : Nat) (master : Nat) : Sender.Statement (.ltbClear dt master) :=
  fun h _ e => Sender.one h e
theorem Sender.ltbCommitComplete (dt : Nat) : Sender.Statement (.ltbCommitComplete dt) :=
  fun _ _ e => nomatch e
theorem Sender.ltbEuiLookup (dt : Nat) (master : Nat) (value : Word) : Sender.Statement (.ltbEuiLookup dt master value) :=
  fun h _ e => Sender.one h e
theorem Sender.ltableDirectWrite (dt : Nat) (master : Nat) (addr : Nat) (data : List Byte) : Sender.Statement (.ltableDirectWrite dt master addr data) :=
  fun h _ e => Sender.one h e
theorem Sender.entrySilent (dt : Nat) (entry : Nat) : Sender.Statement (.entrySilent dt entry) :=
  fun _ _ e => nomatch e
theorem Sender.scnHeldFrameQueue (dt : Nat) : Sender.Statement (.scnHeldFrameQueue dt) :=
  fun _ _ e => nomatch e
theorem Sender.headCommandStart (dt : Nat) (head : Nat) : Sender.Statement (.headCommandStart dt head) :=
  fun _ _ e => nomatch e
theorem Sender.headWaveTime (dt : Nat) (head : Nat) : Sender.Statement (.headWaveTime dt head) :=
  fun _ _ e => nomatch e
theorem Sender.wavDetectProcess (dt : Nat) (computeUs : Nat) : Sender.Statement (.wavDetectProcess dt computeUs) :=
  fun _ _ e => nomatch e
theorem Sender.wavHandoffOpen (dt : Nat) (computeUs : Nat) : Sender.Statement (.wavHandoffOpen dt computeUs) :=
  fun _ _ e => nomatch e
theorem Sender.wavHandoffUpdate (dt : Nat) (computeUs : Nat) : Sender.Statement (.wavHandoffUpdate dt computeUs) :=
  fun _ _ e => nomatch e
theorem Sender.wavHandoffCancel (dt : Nat) (computeUs : Nat) : Sender.Statement (.wavHandoffCancel dt computeUs) :=
  fun _ _ e => nomatch e
theorem Sender.waveEnd (dt : Nat) (wave : Nat) : Sender.Statement (.waveEnd dt wave) :=
  fun _ _ e => nomatch e
theorem Sender.headroomLoopStep (dt : Nat) (group : Nat) : Sender.Statement (.headroomLoopStep dt group) :=
  fun _ _ e => nomatch e
theorem Sender.hrLimit (dt : Nat) (group : Nat) : Sender.Statement (.hrLimit dt group) :=
  fun _ _ e => nomatch e
theorem Sender.mstTjWindow (dt : Nat) (group : Nat) (last : List SinkMeas) (ntcOhms : List Rat) : Sender.Statement (.mstTjWindow dt group last ntcOhms) :=
  fun _ _ e => nomatch e
theorem Sender.mstCalibrate (dt : Nat) (master : Nat) (group : Nat) : Sender.Statement (.mstCalibrate dt master group) :=
  fun h _ e => Sender.fst h e
theorem Sender.calibrationDone (dt : Nat) : Sender.Statement (.calibrationDone dt) :=
  fun _ _ e => nomatch e
theorem Sender.mstAck (dt : Nat) (master : Nat) (sink : Nat) : Sender.Statement (.mstAck dt master sink) :=
  fun h _ e => Sender.fst h e
theorem Sender.sinkFaultOpen (dt : Nat) (sink : Nat) : Sender.Statement (.sinkFaultOpen dt sink) :=
  fun _ _ e => nomatch e
theorem Sender.sinkFaultCtrl (dt : Nat) (sink : Nat) : Sender.Statement (.sinkFaultCtrl dt sink) :=
  fun _ _ e => nomatch e
theorem Sender.sinkOvercurrent (dt : Nat) (sink i vds : Nat) : Sender.Statement (.sinkOvercurrent dt sink i vds) :=
  fun _ _ e => nomatch e
theorem Sender.sinkFaultSat (dt : Nat) (sink : Nat) : Sender.Statement (.sinkFaultSat dt sink) :=
  fun _ _ e => nomatch e
theorem Sender.sinkBlanking (dt : Nat) (sink i : Nat) (adj : List (Nat × Nat)) : Sender.Statement (.sinkBlanking dt sink i adj) :=
  fun _ _ e => nomatch e
theorem Sender.pulseStretch (dt : Nat) (sink : Nat) (cur : List (Nat × Nat)) : Sender.Statement (.pulseStretch dt sink cur) :=
  fun _ _ e => nomatch e
theorem Sender.spareSinkSelftest (dt : Nat) (group : Nat) (ok : Bool) (meas : SinkMeas) : Sender.Statement (.spareSinkSelftest dt group ok meas) :=
  fun _ _ e => nomatch e
theorem Sender.spareSinkTakeover (dt : Nat) (group : Nat) : Sender.Statement (.spareSinkTakeover dt group) :=
  fun _ _ e => nomatch e
theorem Sender.groupDark (dt : Nat) (group : Nat) : Sender.Statement (.groupDark dt group) :=
  fun _ _ e => nomatch e
theorem Sender.groupStartupEnd (dt : Nat) (group : Nat) : Sender.Statement (.groupStartupEnd dt group) :=
  fun _ _ e => nomatch e
theorem Sender.groupRecoveryEnd (dt : Nat) (group : Nat) : Sender.Statement (.groupRecoveryEnd dt group) :=
  fun _ _ e => nomatch e
theorem Sender.syncPulse (dt : Nat) (present msg : Bool) (err : Int) : Sender.Statement (.syncPulse dt present msg err) :=
  fun _ _ e => nomatch e
theorem Sender.mtrLinkTimeout (dt : Nat) (batches : List (List Byte × Nat)) : Sender.Statement (.mtrLinkTimeout dt batches) :=
  fun _ _ e => nomatch e
theorem Sender.mtrLinkRestore (dt : Nat) (octets : List Byte) (crc : Nat) : Sender.Statement (.mtrLinkRestore dt octets crc) :=
  fun _ _ e => nomatch e
theorem Sender.mtrTempAverage (dt : Nat) (temp : Option Rat) : Sender.Statement (.mtrTempAverage dt temp) :=
  fun _ _ e => nomatch e
theorem Sender.spareRefCheck (dt : Nat) (dev : Rat) : Sender.Statement (.spareRefCheck dt dev) :=
  fun _ _ e => nomatch e
theorem Sender.channelCheckDone (dt : Nat) (cycles : List CheckCyc) : Sender.Statement (.channelCheckDone dt cycles) :=
  fun _ _ e => nomatch e
theorem Sender.mtrStuck (dt : Nat) (ch : Nat) (samples : List (List Int)) : Sender.Statement (.mtrStuck dt ch samples) :=
  fun _ _ e => nomatch e
theorem Sender.meterSubstitution (dt : Nat) (feeder : Nat) : Sender.Statement (.meterSubstitution dt feeder) :=
  fun _ _ e => nomatch e
theorem Sender.islctlSealrst (dt : Nat) (master : Nat) : Sender.Statement (.islctlSealrst dt master) :=
  fun h _ e => Sender.one h e
theorem Sender.islctlSubst (dt : Nat) (master : Nat) (ch : Nat) : Sender.Statement (.islctlSubst dt master ch) :=
  fun h _ e => Sender.fst h e
theorem Sender.islctlRelease (dt : Nat) (master : Nat) (ch : Nat) : Sender.Statement (.islctlRelease dt master ch) :=
  fun h _ e => Sender.fst h e
theorem Sender.islctlChecknow (dt : Nat) (master : Nat) : Sender.Statement (.islctlChecknow dt master) :=
  fun h _ e => Sender.one h e
theorem Sender.islandSupplyFail (dt : Nat) : Sender.Statement (.islandSupplyFail dt) :=
  fun _ _ e => nomatch e
theorem Sender.islandPowerUp (dt : Nat) (retained : Bool) : Sender.Statement (.islandPowerUp dt retained) :=
  fun _ _ e => nomatch e
theorem Sender.intervalClose (dt : Nat) (feeder : Nat) : Sender.Statement (.intervalClose dt feeder) :=
  fun _ _ e => nomatch e
theorem Sender.pulseEmit (dt : Nat) (output : Nat) : Sender.Statement (.pulseEmit dt output) :=
  fun _ _ e => nomatch e
theorem Sender.accCfgWrite (dt : Nat) (master : Nat) (value : Word) : Sender.Statement (.accCfgWrite dt master value) :=
  fun h _ e => Sender.one h e
theorem Sender.accPulseWrite (dt : Nat) (master : Nat) (output : Nat) (value : Word) : Sender.Statement (.accPulseWrite dt master output value) :=
  fun h _ e => Sender.fst h e
theorem Sender.accSlotRead (dt : Nat) (master : Nat) (feeder element k : Nat) : Sender.Statement (.accSlotRead dt master feeder element k) :=
  fun h _ e => Sender.fst3 h e
theorem Sender.tbsNowRead (dt : Nat) (master : Nat) : Sender.Statement (.tbsNowRead dt master) :=
  fun h _ e => Sender.one h e
theorem Sender.tsqPop (dt : Nat) (master : Nat) (queue : Nat) : Sender.Statement (.tsqPop dt master queue) :=
  fun h _ e => Sender.fst h e
theorem Sender.rtcDateRead (dt : Nat) (master : Nat) (sub : Nat) : Sender.Statement (.rtcDateRead dt master sub) :=
  fun h _ e => Sender.one h e
theorem Sender.loHiLatchRead (dt : Nat) (master : Nat) (addr size : Nat) : Sender.Statement (.loHiLatchRead dt master addr size) :=
  fun h _ e => Sender.fst h e
theorem Sender.laneFetch (dt : Nat) (lane : Nat) : Sender.Statement (.laneFetch dt lane) :=
  fun _ _ e => nomatch e
theorem Sender.ackTimeout (dt : Nat) (lane : Nat) : Sender.Statement (.ackTimeout dt lane) :=
  fun _ _ e => nomatch e
theorem Sender.laneStart (dt : Nat) (lane : Nat) : Sender.Statement (.laneStart dt lane) :=
  fun _ _ e => nomatch e
theorem Sender.lneTakeover (dt : Nat) (master : Nat) (lane : Nat) : Sender.Statement (.lneTakeover dt master lane) :=
  fun h _ e => Sender.fst h e
theorem Sender.lneRelease (dt : Nat) (master : Nat) (lane : Nat) : Sender.Statement (.lneRelease dt master lane) :=
  fun h _ e => Sender.fst h e
theorem Sender.lneSpareRoundNow (dt : Nat) (master : Nat) : Sender.Statement (.lneSpareRoundNow dt master) :=
  fun h _ e => Sender.one h e
theorem Sender.spareRound (dt : Nat) (txOk : Bool) (rxOk : Option Bool) : Sender.Statement (.spareRound dt txOk rxOk) :=
  fun _ _ e => nomatch e
theorem Sender.spareLocked (dt : Nat) : Sender.Statement (.spareLocked dt) :=
  fun _ _ e => nomatch e
theorem Sender.laneReturn (dt : Nat) (lane : Nat) : Sender.Statement (.laneReturn dt lane) :=
  fun _ _ e => nomatch e
theorem Sender.frameRejected (dt : Nat) (lane check : Nat) : Sender.Statement (.frameRejected dt lane check) :=
  fun _ _ e => nomatch e
theorem Sender.enhancedAckReceive (dt : Nat) (frame : RxFrame) : Sender.Statement (.enhancedAckReceive dt frame) :=
  fun _ _ e => nomatch e
theorem Sender.reportReceive (dt : Nat) (frame : RxFrame) : Sender.Statement (.reportReceive dt frame) :=
  fun _ _ e => nomatch e
theorem Sender.detectReceive (dt : Nat) (frame : RxFrame) : Sender.Statement (.detectReceive dt frame) :=
  fun _ _ e => nomatch e
theorem Sender.faultReceive (dt : Nat) (frame : RxFrame) : Sender.Statement (.faultReceive dt frame) :=
  fun _ _ e => nomatch e
theorem Sender.joinReceive (dt : Nat) (frame : RxFrame) : Sender.Statement (.joinReceive dt frame) :=
  fun _ _ e => nomatch e
theorem Sender.unknownJoin (dt : Nat) (frame : RxFrame) : Sender.Statement (.unknownJoin dt frame) :=
  fun _ _ e => nomatch e
theorem Sender.probeResponseReceive (dt : Nat) (frame : RxFrame) : Sender.Statement (.probeResponseReceive dt frame) :=
  fun _ _ e => nomatch e
theorem Sender.foreignFrame (dt : Nat) (frame : RxFrame) : Sender.Statement (.foreignFrame dt frame) :=
  fun _ _ e => nomatch e
theorem Sender.qdmTailWrite (dt : Nat) (master : Nat) (queue : Nat) (value : Word) : Sender.Statement (.qdmTailWrite dt master queue value) :=
  fun h _ e => Sender.fst h e
theorem Sender.qdmResume (dt : Nat) (master : Nat) (queue : Nat) : Sender.Statement (.qdmResume dt master queue) :=
  fun h _ e => Sender.fst h e
theorem Sender.qdmFlush (dt : Nat) (master : Nat) (queue : Nat) : Sender.Statement (.qdmFlush dt master queue) :=
  fun h _ e => Sender.fst h e
theorem Sender.dmaBurst (dt : Nat) (memError ringError : Bool) : Sender.Statement (.dmaBurst dt memError ringError) :=
  fun _ _ e => nomatch e
theorem Sender.descriptorComplete (dt : Nat) (queue : Nat) : Sender.Statement (.descriptorComplete dt queue) :=
  fun _ _ e => nomatch e
theorem Sender.windowEnableWrite (dt : Nat) (master : Nat) (window : Nat) (value : Word) : Sender.Statement (.windowEnableWrite dt master window value) :=
  fun h _ e => Sender.fst h e
theorem Sender.ethTransmit (dt : Nat) (port : Nat) : Sender.Statement (.ethTransmit dt port) :=
  fun _ _ e => nomatch e
theorem Sender.ethFrameReceive (dt : Nat) (port sfd last : Nat) (fcsOk : Bool) (frame : List Byte) : Sender.Statement (.ethFrameReceive dt port sfd last fcsOk frame) :=
  fun _ _ e => nomatch e
theorem Sender.ethLinkChange (dt : Nat) (port : Nat) (up : Bool) (speed : Nat) : Sender.Statement (.ethLinkChange dt port up speed) :=
  fun _ _ e => nomatch e
theorem Sender.adjStep (dt : Nat) (master : Nat) : Sender.Statement (.adjStep dt master) :=
  fun h _ e => Sender.one h e
theorem Sender.adjRate (dt : Nat) (master : Nat) : Sender.Statement (.adjRate dt master) :=
  fun h _ e => Sender.one h e
theorem Sender.adjSlew (dt : Nat) (master : Nat) (rate : Nat) : Sender.Statement (.adjSlew dt master rate) :=
  fun h _ e => Sender.fst h e
theorem Sender.adjSlewstop (dt : Nat) (master : Nat) : Sender.Statement (.adjSlewstop dt master) :=
  fun h _ e => Sender.one h e
theorem Sender.slewEnd (dt : Nat) : Sender.Statement (.slewEnd dt) :=
  fun _ _ e => nomatch e
theorem Sender.ppsEdge (dt : Nat) (edge heldUs : Nat) : Sender.Statement (.ppsEdge dt edge heldUs) :=
  fun _ _ e => nomatch e
theorem Sender.ppsLost (dt : Nat) : Sender.Statement (.ppsLost dt) :=
  fun _ _ e => nomatch e
theorem Sender.milestoneFire (dt : Nat) (m : Nat) : Sender.Statement (.milestoneFire dt m) :=
  fun _ _ e => nomatch e
theorem Sender.milestonePulseEnd (dt : Nat) (m : Nat) : Sender.Statement (.milestonePulseEnd dt m) :=
  fun _ _ e => nomatch e
theorem Sender.rtcSecond (dt : Nat) : Sender.Statement (.rtcSecond dt) :=
  fun _ _ e => nomatch e
theorem Sender.rtcSet (dt : Nat) (master : Nat) (mask : Nat) : Sender.Statement (.rtcSet dt master mask) :=
  fun h _ e => Sender.one h e
theorem Sender.rtcDstfwd (dt : Nat) (master : Nat) : Sender.Statement (.rtcDstfwd dt master) :=
  fun h _ e => Sender.one h e
theorem Sender.rtcDstback (dt : Nat) (master : Nat) : Sender.Statement (.rtcDstback dt master) :=
  fun h _ e => Sender.one h e
theorem Sender.rtcTrimWrite (dt : Nat) (master : Nat) (value : Word) : Sender.Statement (.rtcTrimWrite dt master value) :=
  fun h _ e => Sender.one h e
theorem Sender.alarmWrite (dt : Nat) (master : Nat) (addr : Nat) (value : Word) : Sender.Statement (.alarmWrite dt master addr value) :=
  fun h _ e => Sender.one h e
theorem Sender.wakeperWrite (dt : Nat) (master : Nat) (value : Word) : Sender.Statement (.wakeperWrite dt master value) :=
  fun h _ e => Sender.one h e
theorem Sender.periodicWake (dt : Nat) : Sender.Statement (.periodicWake dt) :=
  fun _ _ e => nomatch e
theorem Sender.oscStop (dt : Nat) : Sender.Statement (.oscStop dt) :=
  fun _ _ e => nomatch e
theorem Sender.oscResume (dt : Nat) : Sender.Statement (.oscResume dt) :=
  fun _ _ e => nomatch e
theorem Sender.vbakCheck (dt : Nat) (mv : Nat) : Sender.Statement (.vbakCheck dt mv) :=
  fun _ _ e => nomatch e
theorem Sender.rsramRead (dt : Nat) (master : Nat) (off size : Nat) (corrupt : Option Byte) : Sender.Statement (.rsramRead dt master off size corrupt) :=
  fun h _ e => Sender.fst h e
theorem Sender.weirWriterStart (dt : Nat) : Sender.Statement (.weirWriterStart dt) :=
  fun _ _ e => nomatch e
theorem Sender.recordCommit (dt : Nat) : Sender.Statement (.recordCommit dt) :=
  fun _ _ e => nomatch e
theorem Sender.gapRecord (dt : Nat) : Sender.Statement (.gapRecord dt) :=
  fun _ _ e => nomatch e
theorem Sender.recDump (dt : Nat) (master : Nat) (source : Nat) : Sender.Statement (.recDump dt master source) :=
  fun h _ e => Sender.one h e
theorem Sender.recSoft (dt : Nat) (master : Nat) (source : Nat) : Sender.Statement (.recSoft dt master source) :=
  fun h _ e => Sender.one h e
theorem Sender.recTselWrite (dt : Nat) (master : Nat) (value : Word) : Sender.Statement (.recTselWrite dt master value) :=
  fun h _ e => Sender.one h e
theorem Sender.kumWrite (dt : Nat) (master : Nat) : Sender.Statement (.kumWrite dt master) :=
  fun h _ e => Sender.one h e
theorem Sender.kumErase (dt : Nat) (master : Nat) : Sender.Statement (.kumErase dt master) :=
  fun h _ e => Sender.one h e
theorem Sender.kumLifecycle (dt : Nat) (master : Nat) : Sender.Statement (.kumLifecycle dt master) :=
  fun h _ e => Sender.one h e
theorem Sender.kumClearTamper (dt : Nat) (master : Nat) : Sender.Statement (.kumClearTamper dt master) :=
  fun h _ e => Sender.one h e
theorem Sender.keyCommitPulseEnd (dt : Nat) : Sender.Statement (.keyCommitPulseEnd dt) :=
  fun _ _ e => nomatch e
theorem Sender.netload (dt : Nat) (master : Nat) (slot : Nat) : Sender.Statement (.netload dt master slot) :=
  fun h _ e => Sender.one h e
theorem Sender.keyWrap (dt : Nat) (master : Nat) (slot : Nat) : Sender.Statement (.keyWrap dt master slot) :=
  fun h _ e => Sender.one h e
theorem Sender.keyHash (dt : Nat) (master : Nat) (mode : Nat) : Sender.Statement (.keyHash dt master mode) :=
  fun h _ e => Sender.one h e
theorem Sender.keyHmac (dt : Nat) (master : Nat) (mode slot : Nat) : Sender.Statement (.keyHmac dt master mode slot) :=
  fun h _ e => Sender.one h e
theorem Sender.keyVerify (dt : Nat) (master : Nat) (slot : Nat) : Sender.Statement (.keyVerify dt master slot) :=
  fun h _ e => Sender.one h e
theorem Sender.keySign (dt : Nat) (master : Nat) (slot : Nat) : Sender.Statement (.keySign dt master slot) :=
  fun h _ e => Sender.one h e
theorem Sender.attest (dt : Nat) (master : Nat) : Sender.Statement (.attest dt master) :=
  fun h _ e => Sender.one h e
theorem Sender.keyRandom (dt : Nat) (master : Nat) : Sender.Statement (.keyRandom dt master) :=
  fun h _ e => Sender.one h e
theorem Sender.hostwrite (dt : Nat) (master : Nat) (slot : Nat) : Sender.Statement (.hostwrite dt master slot) :=
  fun h _ e => Sender.one h e
theorem Sender.keyOpComplete (dt : Nat) : Sender.Statement (.keyOpComplete dt) :=
  fun _ _ e => nomatch e
theorem Sender.tamperLatch (dt : Nat) (source : Nat) : Sender.Statement (.tamperLatch dt source) :=
  fun _ _ e => nomatch e
theorem Sender.keyTpolicyWrite (dt : Nat) (master : Nat) (value : Word) : Sender.Statement (.keyTpolicyWrite dt master value) :=
  fun h _ e => Sender.one h e
theorem Sender.slotEraseDone (dt : Nat) : Sender.Statement (.slotEraseDone dt) :=
  fun _ _ e => nomatch e
theorem Sender.updManifest (dt : Nat) (master : Nat) : Sender.Statement (.updManifest dt master) :=
  fun h _ e => Sender.one h e
theorem Sender.updChunk (dt : Nat) (master : Nat) : Sender.Statement (.updChunk dt master) :=
  fun h _ e => Sender.one h e
theorem Sender.updActivate (dt : Nat) (master : Nat) : Sender.Statement (.updActivate dt master) :=
  fun h _ e => Sender.one h e
theorem Sender.updConfirm (dt : Nat) (master : Nat) : Sender.Statement (.updConfirm dt master) :=
  fun h _ e => Sender.one h e
theorem Sender.updAbort (dt : Nat) (master : Nat) : Sender.Statement (.updAbort dt master) :=
  fun h _ e => Sender.one h e
theorem Sender.updRevert (dt : Nat) (master : Nat) : Sender.Statement (.updRevert dt master) :=
  fun h _ e => Sender.one h e
theorem Sender.chunkConfirmed (dt : Nat) (ok : Bool) : Sender.Statement (.chunkConfirmed dt ok) :=
  fun _ _ e => nomatch e
theorem Sender.verifyDone (dt : Nat) (ioOk : Bool) : Sender.Statement (.verifyDone dt ioOk) :=
  fun _ _ e => nomatch e
theorem Sender.trialExpire (dt : Nat) : Sender.Statement (.trialExpire dt) :=
  fun _ _ e => nomatch e
theorem Sender.svcOpen (dt : Nat) (tag : Nat) (manifest : List Byte) : Sender.Statement (.svcOpen dt tag manifest) :=
  fun _ _ e => nomatch e
theorem Sender.svcChunk (dt : Nat) (tag offset : Nat) (data : List Byte) : Sender.Statement (.svcChunk dt tag offset data) :=
  fun _ _ e => nomatch e
theorem Sender.svcClose (dt : Nat) (tag : Nat) : Sender.Statement (.svcClose dt tag) :=
  fun _ _ e => nomatch e
theorem Sender.svcActivate (dt : Nat) (tag : Nat) : Sender.Statement (.svcActivate dt tag) :=
  fun _ _ e => nomatch e
theorem Sender.svcConfirm (dt : Nat) (tag : Nat) : Sender.Statement (.svcConfirm dt tag) :=
  fun _ _ e => nomatch e
theorem Sender.svcAbort (dt : Nat) (tag : Nat) : Sender.Statement (.svcAbort dt tag) :=
  fun _ _ e => nomatch e
theorem Sender.svcStatus (dt : Nat) (tag : Nat) : Sender.Statement (.svcStatus dt tag) :=
  fun _ _ e => nomatch e
theorem Sender.svcKeymsg (dt : Nat) (tag : Nat) (msg : List Byte) : Sender.Statement (.svcKeymsg dt tag msg) :=
  fun _ _ e => nomatch e
theorem Sender.svcConsole (dt : Nat) (tag : Nat) (octets : List Byte) : Sender.Statement (.svcConsole dt tag octets) :=
  fun _ _ e => nomatch e
theorem Sender.consoleOut (dt : Nat) (octets : List Byte) : Sender.Statement (.consoleOut dt octets) :=
  fun _ _ e => nomatch e
theorem Sender.svcBadMessage (dt : Nat) (tag : Nat) : Sender.Statement (.svcBadMessage dt tag) :=
  fun _ _ e => nomatch e
theorem Sender.svcPresentChange (dt : Nat) (asserted : Bool) : Sender.Statement (.svcPresentChange dt asserted) :=
  fun _ _ e => nomatch e
theorem Sender.vbusChange (dt : Nat) (present configured highSpeed : Bool) : Sender.Statement (.vbusChange dt present configured highSpeed) :=
  fun _ _ e => nomatch e
theorem Sender.scrub (dt : Nat) (mram : Bool) (addr : Nat) (error : Bool) : Sender.Statement (.scrub dt mram addr error) :=
  fun _ _ e => nomatch e
theorem Sender.sramUncorrectable (dt : Nat) (addr : Nat) (scrub : Bool) : Sender.Statement (.sramUncorrectable dt addr scrub) :=
  fun _ _ e => nomatch e
theorem Sender.mramError (dt : Nat) (addr : Nat) (uncorrectable scrub : Bool) : Sender.Statement (.mramError dt addr uncorrectable scrub) :=
  fun _ _ e => nomatch e
theorem Sender.mramRemapCommit (dt : Nat) : Sender.Statement (.mramRemapCommit dt) :=
  fun _ _ e => nomatch e
theorem Sender.lockstepMismatch (dt : Nat) (win : Nat) : Sender.Statement (.lockstepMismatch dt win) :=
  fun _ _ e => nomatch e
theorem Sender.clockMonitorFault (dt : Nat) (clock : Nat) : Sender.Statement (.clockMonitorFault dt clock) :=
  fun _ _ e => nomatch e
theorem Sender.secmonFault (dt : Nat) (cause : Nat) : Sender.Statement (.secmonFault dt cause) :=
  fun _ _ e => nomatch e
theorem Sender.fltWdtkick (dt : Nat) (master : Nat) (value : Word) : Sender.Statement (.fltWdtkick dt master value) :=
  fun h _ e => Sender.one h e
theorem Sender.vergeRetest (dt : Nat) (master : Nat) (kind index : Nat) (pass : Bool) : Sender.Statement (.vergeRetest dt master kind index pass) :=
  fun h _ e => Sender.one h e
theorem Sender.vergeRelease (dt : Nat) (master : Nat) (kind index : Nat) : Sender.Statement (.vergeRelease dt master kind index) :=
  fun h _ e => Sender.one h e
theorem Sender.openCoilClear (dt : Nat) (k ma : Nat) : Sender.Statement (.openCoilClear dt k ma) :=
  fun _ _ e => nomatch e
theorem Sender.tamperSourceInactive (dt : Nat) (source : Nat) : Sender.Statement (.tamperSourceInactive dt source) :=
  fun _ _ e => nomatch e
theorem Sender.vbakRetentionLoss (dt : Nat) : Sender.Statement (.vbakRetentionLoss dt) :=
  fun _ _ e => nomatch e

end Sys2Proof.Laws
end

