-- ==== Sys2Proof/Tests/Slice0.lean ====
section
/-! SUPPORT. The model's own tests: the spec's worked examples, ill-formed commands, and for every hypothesis of a
statement a state and operands that meet it. -/

namespace Sys2Proof.Tests
open Sys2Proof Sys2Proof.Machine
set_option linter.all false
set_option Elab.async false
/-- A list with element i replaced. -/
def setAt (l : List Byte) (i : Nat) (b : Byte) : List Byte := modAt l i (fun _ => b)
/-- Words with the parity a store sets. -/
def soundWords (l : List (Nat × Word)) : List (Nat × PWord) := l.map (fun x => (x.1, sound x.2))
/-- Software's copies of those words. -/
def bank (l : List (Nat × Word)) : Bank := { words := soundWords l, wroteAt := 0, wrote := [] }
/-- The module after reset with its reset controller changed. -/
def sysAt (f : SysUnit → SysUnit) : State := { State.reset with sys := f State.reset.sys }
/-- A transition to LIT that began at raw count 0, with output 1 to close. -/
def litTrans : Trans :=
  { target := .lit, t0 := 0, fade := 0, todo := [(0, 1)], last := none, opened := false, engines := false,
    fromLit := false }
/-- The transition to LIT at a fabric cycle. -/
def lighting (cyc : Nat) : State := { sysAt (fun u => { u with trans := some litTrans }) with cyc := cyc }
/-- A transition that began at raw count 0. -/
def fadeTrans (p : Pwr) (todo : List (Nat × Nat)) (engines opened : Bool) : Trans :=
  { target := p, t0 := 0, fade := 0, todo := todo, last := none, opened := opened, engines := engines,
    fromLit := false }
/-- That transition 10 ms later, with output 1 closed. -/
def fading (p : Pwr) (todo : List (Nat × Nat)) (engines opened : Bool) : State :=
  { sysAt (fun u => { u with closed := [1], trans := some (fadeTrans p todo engines opened) }) with cyc := 4000000 }
/-- The module after reset with its update engine changed, and a RUNNING session 0. -/
def updAt (f : UpdUnit → UpdUnit) : State :=
  { State.reset with
    upd := f State.reset.upd
    str := { State.reset.str with handles := [(65536 * 11, { st := .running, gen := 1, owner := 0 })] }
    regs := { State.reset.regs with cfg := bank [(0x400E0018, 0x20000000)] } }
/-- A manifest of one part of 4 octets. -/
def oneManifest : List Byte :=
  setAt (setAt (List.replicate 512 0) 7 1) 72 4
/-- The service port attached and enabled. -/
def portAt (f : UpdUnit → UpdUnit) : State :=
  { updAt f with
    usb := { vbus := true, configured := true, highSpeed := false, out := none, console := [] }
    regs := { State.reset.regs with cfg := bank [(0x40120004, 1)] } }
/-- The same with no session. -/
def portIdle : State := { portAt id with str := State.reset.str }
/-- A session that has taken a manifest, with the chunk registers set. -/
def chunkReady : State :=
  { updAt (fun u => { u with sessNet := true, sluice := .receiving, manifest := oneManifest }) with
    regs := { State.reset.regs with cfg := bank [(0x400E0018, 0x20000000), (0x400E0024, 4)] } }
/-- A status register with a first event set and a second held. -/
def heldAt (a : Nat) : State :=
  { State.reset with
    cyc := 4000
    regs := { State.reset.regs with
      stat := [(a, { seq := 7, bits := 5, marks := [(0, 6), (2, 7)], held := [{ bits := 8, cyc := 10 }], last := some 10 })] } }
/-- A pair open on FLT_WDTCFG. -/
def pairOpen : State :=
  { State.reset with
    cyc := 100, regs := { State.reset.regs with pairs := [{ win := wFLT, off := 0x010, value := 60, master := 0, cyc := 90, addr := reg wFLT 0x010 }] } }
/-- A SOFT trigger source. -/
def softSource : ImgSource :=
  { num := 5, trig := 1, window := 0, inst := 0, ref := 0, signed := false, edgeSet := 0, regs := [0x40000040] }
/-- An entry of the Weir. -/
def oneEntry : RecEntry :=
  { kind := 1, source := 64, code := 5, flags := 0, stamp := { raw := 1, corr := 5, frac := 0, epoch := 0 },
    payload := [1, 2], cyc := 2, resv := false }
/-- The recorder with a RECORDER section, source 5 RUNNING, a Weir and a record in progress. -/
def recAt (w : List RecEntry) (e : Option RecEntry) : State :=
  { State.reset with
    evr := { State.reset.evr with
      cfg := some { snapshot := false, log2n := 8, sources := [softSource] }, weir := w, writing := e }
    str := { State.reset.str with handles := [(65536 * 10 + 5, { st := .running, gen := 1, owner := 0 })] } }
/-- The module after reset with its security monitor changed. -/
def keyAt (f : KeyUnit → KeyUnit) : State := { State.reset with key := f State.reset.key }
/-- A slot whose policy allows every usage. -/
def allSlot : Slot := { value := [], policy := 0x2FE00000, gen := 0 }
/-- A store in OWNED. -/
def ownedStore : Store :=
  { lc := .owned, ownerGen := 0, ctr := 1, tpolicy := 0, tpolWritten := false, ownerImage := false, slots := [] }
/-- A key update job that commits that store. -/
def storeJob (clear : Bool) : KeyJob :=
  { op := 1, slot := 3, code := 0, out := [], commit := some ownedStore, svcTag := none, lcChange := true,
    slotChange := true, erase := false, clearTamper := clear, spend := false }
/-- A store with slot n written, and a length in KEY_LEN. -/
def keySlotAt (n len : Nat) : State :=
  { keyAt (fun k => { k with store := { ownedStore with slots := [(n, allSlot)] } }) with
    regs := { State.reset.regs with cfg := bank [(0x400D0014, BitVec.ofNat 32 len)] } }
/-- The module after reset with its timebase changed. -/
def tbsAt (f : TbsUnit → TbsUnit) : State := { State.reset with tbs := f State.reset.tbs }
/-- An entry of a transmit-timestamp queue. -/
def oneTs : TsEntry := { tag := 9, queue := 3, attempt := 0, stamp := { raw := 1, corr := 5, frac := 0, epoch := 0 }, gap := false }
/-- The module after reset with its backup domain changed. -/
def rtcAt (f : RtcUnit → RtcUnit) : State := { State.reset with rtc := f State.reset.rtc }
/-- The module in OFF with a wake period of one second. -/
def inOffState : State :=
  { sysAt (fun u => { u with phase := .down, pwr := .off }) with
    rtc := { State.reset.rtc with pwron := false }
    regs := { State.reset.regs with cfg := bank [(0x400B0028, 256)] } }
/-- A queue of an image. -/
def imgQ (own : Bool) (cls target engine base : Nat) : ImgQueue :=
  { engineOwned := own, cls := cls, target := target, lprio := 0, dprio := 0, engine := engine,
    pcpMask := if cls = 4 then 255 else 0, ringBase := base, log2n := 4 }
/-- A feeder of an image: channels 0 to 2 and 16 to 18, contactor 0, pulse output 0, 50 Hz. -/
def testFeeder : ImgFeeder :=
  { phases := [0, 1, 2], neutral := none, volts := [16, 17, 18], contactor := some 0, pulse := some 0, hz60 := false }
/-- A sink group of an image. -/
def imgG (on : Bool) (h : Option Nat) : ImgGroup := { enabled := on, head := h, interlock := false, ntc := true, spare := true }
/-- The queues of the test image. -/
def testQueues : List (Nat × ImgQueue) :=
  [(0, imgQ true 0 0 2 0x20100000), (1, imgQ true 1 0 1 0x20100200), (2, imgQ true 1 0 3 0x20100400),
   (3, imgQ false 2 15 0 0x20100600), (4, imgQ false 3 0 0 0x20100800), (5, imgQ false 4 0 0 0x20100A00),
   (6, imgQ false 5 15 0 0x20100C00), (7, imgQ false 1 0 0 0x20100E00), (8, imgQ true 3 0 2 0x20101000)]
/-- A structure image: 8 entries with head 0 in entry 0, one feeder, group 0 of the head, group 1 used directly. -/
def testBody : ImgBody :=
  { pools := [8, 2, 56, 16, 4, 4, 16, 9, 32, 8, 2], ltBase := 0x20000000, ltCount := 8, ltHeads := [(0, 0)],
    feeders := [(0, testFeeder)], spareCh := some 15,
    groups := [imgG true (some 0), imgG true none, imgG false none, imgG false none, imgG false none,
               imgG false none, imgG false none, imgG false none],
    queues := testQueues, recorder := { snapshot := false, log2n := 8, sources := [softSource] }, pins := [],
    clkOff := [], clkPlan := 0, contactors := none, handles := [] }
/-- Registers that the test image sets. -/
def ringRegs (l : List (Nat × ImgQueue)) : List (Nat × Word) :=
  l.flatMap (fun q => [(reg wQDM (0x1004 + 0x40 * q.1), BitVec.ofNat 32 q.2.ringBase), (reg wQDM (0x1008 + 0x40 * q.1), 4)])
/-- The module with the test image: group phases, handles of the image, registers and memory. -/
def imaged (phase : Phase) (handles : List (Nat × Handle)) (cfg : List (Nat × Word)) (mem : List Host.Cell) : State :=
  { State.reset with
    cyc := 4000000
    str := { StrUnit.reset with img := some { bytes := [], body := testBody }, handles := handles }
    ltb := { LtbUnit.reset with base := 0x20000000, count := 8, heads := [(0, 0)] }
    mtr := { MtrUnit.reset with map := [(0, testFeeder)], mapSpare := some 15, spare := SpareState.idle }
    mst := { MstUnit.reset with groups := (List.replicate 2 { Group.reset with phase := phase }) ++ (List.replicate 6 Group.reset) }
    qdm := { QdmUnit.reset with cfgs := testQueues }
    evr := { RecUnit.reset with cfg := some testBody.recorder }
    regs := { RegUnit.reset with cfg := bank cfg }
    mem := mem }
/-- A handle in a state, with generation 1. -/
def handleIn (st : HState) : Handle := { st := st, gen := 1, owner := 0 }
/-- A word of STR_HANDLE for generation 1. -/
def hword (typ idx : Nat) : Word := BitVec.ofNat 32 (handleWord 1 typ idx)
/-- The module with the test image, the handles of it and STR_HANDLE. -/
def strAt (handles : List (Nat × Handle)) (typ idx : Nat) : State :=
  imaged .dark handles [(reg wSTR 0x034, hword typ idx)] []
/-- An edit of entry 1 of all its regions. -/
def editOf (clear : Bool) : EditCmd := { ticket := 1, clear := clear, index := 1, mask := 0x3F, src := 0x20200000 }
/-- The module with the test image, a commit queue and memory. -/
def editing (queue : List EditCmd) (mem : List Host.Cell) : State :=
  { imaged .dark [] [] mem with
    ltb := { (imaged .dark [] [] mem).ltb with queue := queue, issued := 1 } }
/-- Entry 1 a radio lantern with an EUI-64 of 0x77 in a state, as bytes of memory. -/
def lantern (st : Byte) : List Host.Cell := [(0x20000180, 0x77), (0x20000188, 1), (0x20000189, st)]
/-- A border reference in a commit's source. -/
def newEntry : List Host.Cell :=
  [(0x20200008, 3), (0x2020000D, 255), (0x2020000E, 255), (0x2020000F, 255), (0x20200010, 255), (0x20200011, 255),
   (0x202000C0, 255), (0x202000C1, 255), (0x202000C8, 255), (0x202000C9, 255), (0x202000D0, 255), (0x202000D1, 255),
   (0x202000D8, 255), (0x202000D9, 255)]
/-- The module in LIT with the scene engine enabled and a TICK boundary due. -/
def litTick : State :=
  { imaged .run [] [] [] with
    cyc := 40000000
    sys := { SysUnit.reset with pwr := .lit }
    regs := { RegUnit.reset with cfg := bank [(reg wSCN 0x004, 1)], act := [], changed := [{ key := reg wSCN 0x004, cyc := 0, word := 1 }] } }
/-- A wave profile's words: all classes, no heading needed, speeds 10 to 300, level, reach and times. -/
def testProf : List Word := [0x0F088000, 0x012C0064, 0x000A0064, 0x01F40FA0, 0x00640064, 0x20200014, 0x03E803E8, 0]
/-- A wave of peer 0 and its number 0x77, opened at entry 1. -/
def testWave : Wave :=
  { num := 0, ident := 128, anchor := 1, t0 := 2000, speed := 100, heading := none, profile := 0, prof := testProf,
    set := [{ entry := 1, lateral := false, bearing := none, arrival := 2000, raise := 2000, release := 2500, sent := none,
              dist := some 0 }],
    points := [], remote := some (0, 0x77, 2), hops := 1, cls := 1 }
/-- The header template of peer 0: IPv4 at 10.0.0.1, UDP port 47310. -/
def testHdr : List Byte :=
  List.replicate 12 0 ++ [8, 0, 0x45, 0, 0, 0, 0, 0, 0, 0, 64, 17, 0, 0, 10, 0, 0, 2, 10, 0, 0, 1, 0xB8, 0xCE, 0xB8, 0xCE, 0, 0,
    0, 0, 0, 0]
/-- The active words of profile 0 and of peer 0, and the wave engine enabled with handoff. -/
def waveRegs : List (Nat × Word) :=
  [(reg wWAV 0x004, 0x05640101), (reg wWAV 0x008, 0x80040064)]
    ++ (numberedFrom 0 testProf).map (fun x => (reg wWAV (0x400 + 4 * x.1), x.2))
    ++ [(reg wWAV 0x1000, 0x8000002A), (reg wWAV 0x1004, 0x11), (reg wWAV 0x1008, 0x22)]
    ++ (numberedFrom 0 (leWords 11 testHdr)).map (fun x => (reg wWAV (0x1010 + 4 * x.1), x.2))
/-- The module in LIT with the wave engine enabled, entry 1 RUNNING with profile 0, a FIFO and waves. -/
def waveLit (fifo : List WavIn) (waves : List Wave) : State :=
  { imaged .run [(State.hkey 1 1, handleIn .running), (State.hkey 6 0, handleIn .running)] (ringRegs testQueues)
      (lantern 2 ++ [(0x20000240, 255), (0x20000241, 255), (0x20000248, 255), (0x20000249, 255), (0x20000250, 255),
        (0x20000251, 255), (0x20000258, 255), (0x20000259, 255)]) with
    cyc := 100
    sys := { SysUnit.reset with pwr := .lit }
    regs := { RegUnit.reset with cfg := bank (ringRegs testQueues), act := soundWords waveRegs }
    wav := { WavUnit.reset with fifo := fifo, waves := waves } }
/-- A handoff datagram of a TYPE for entry 1, from peer 0. -/
def handGram (typ : Nat) : List Byte :=
  let b := beBytes 2 0x5957 ++ beBytes 1 1 ++ beBytes 1 typ ++ leBytes 4 0x11 ++ leBytes 4 0x22 ++ beBytes 2 0x77 ++ beBytes 2 1
    ++ beBytes 2 1 ++ beBytes 8 0x77 ++ beBytes 8 20000 ++ beBytes 8 20 ++ beBytes 2 100 ++ [3, 1, 1, 0]
  b ++ beBytes 4 (crc32c b)
/-- The test image with group 1 in RUN, one of its sinks RUNNING and changed, and the group changed. -/
def sinking (c : Nat) (f : Sink → Sink) (g : Group → Group) : State :=
  { imaged .run [(State.hkey 3 c, handleIn .running)] [] [] with
    mst := { (imaged .run [] [] []).mst with
      groups := modAt (imaged .run [] [] []).mst.groups 1 g, sinks := modAt MstUnit.reset.sinks c f } }
/-- The same with the interlock of group 1, in STARTUP. -/
def interlocked : State :=
  { sinking 9 (fun k => { k with d := 100 }) (fun g => { g with phase := .startup }) with
    str := { StrUnit.reset with
      img := some { bytes := [], body := { testBody with groups := modAt testBody.groups 1 (fun g => { g with interlock := true }) } }
      handles := [(State.hkey 3 9, handleIn .running)] } }
/-- Group 1 dark with an NTC reading of 25 °C. -/
def calReady : State :=
  { imaged .dark [] [] [] with
    mst := { (imaged .dark [] [] []).mst with
      groups := modAt (imaged .dark [] [] []).mst.groups 1 (fun g => { g with ntc := some 25 }) } }
/-- A calibration of group 1 whose one channel has had both steps. -/
def doneCal : Cal :=
  { group := 1, tRef := 25, t0 := 0, periods := 64, samples := [{ step := 0, vf := 30000, i := 700 }, { step := 1, vf := 28000, i := 175 }],
    low := false, ended := true }
/-- A PERIOD boundary of group 1 in LIT with sink 9 RUNNING at a third of full drive. -/
def periodAt : State :=
  { sinking 9 id id with
    cyc := 8015594
    sys := { SysUnit.reset with pwr := .lit }
    regs := { RegUnit.reset with cfg := bank [(reg wMST 0x520, 0x55550800)], act := soundWords [(reg wMST 0x120, 0xF)], changed := [{ key := reg wMST 0x520, cyc := 0, word := 0x55550800 }] } }
/-- A head command. -/
def oneHeadCmd : HeadCmd := { mixCap := [1000, 0, 0, 0, 0, 0], cap := 1000, level := 500, curve := 0, fade := 10, teff := 5 }
/-- A PERIOD boundary of group 0 in LIT with head 0 RUNNING, a command and a wave due. -/
def headAt : State :=
  { imaged .run [(State.hkey 2 0, handleIn .running)] [] [] with
    cyc := 8000000 - 6
    sys := { SysUnit.reset with pwr := .lit }
    mst := { (imaged .run [] [] []).mst with
      heads := modAt MstUnit.reset.heads 0 (fun h =>
        { h with
          pend := [oneHeadCmd]
          waves := [{ ident := 128, level := 900, raise := 5, release := 9000000, rise := 1, fadeback := 1, curve := 0, start := none }] }) } }
/-- The module with the test image, its channels scaled 1:1 with sensors, channels 0 to 2 and feeder 0 in service,
the last boundary of feeder 0 at raw count 100,000. -/
def metering : State :=
  { imaged .dark [(State.hkey 4 1, handleIn .running)] [] [] with
    cyc := 8200000
    mtr := { (imaged .dark [] [] []).mtr with
      feeds := modAt MtrUnit.reset.feeds 0 (fun x => { x with last := some 100000 }) }
    acc := { AccUnit.reset with chIn := [0, 1, 2], fdIn := [0] }
    regs := { RegUnit.reset with
      act := soundWords [(reg wMTR 0x100, 0x01000001), (reg wMTR 0x104, 0x3F800000), (reg wMTR 0x120, 0x01000001), (reg wMTR 0x124, 0x3F800000),
        (reg wMTR 0x140, 0x01000001), (reg wMTR 0x144, 0x3F800000), (reg wMTR 0x300, 0x80000000), (reg wMTR 0x304, 0x3F800000),
        (reg wMTR 0x320, 0x80000000), (reg wMTR 0x324, 0x3F800000), (reg wMTR 0x340, 0x80000000), (reg wMTR 0x344, 0x3F800000)] } }
/-- Two samples of a cycle. -/
def sampled : List TakenSample :=
  [{ at_ := 125000, xs := [1, 0, 0, 0, 0, 0, 0, 0, 0, 0, 0, 0, 0, 0, 0, 0, 230, 230, 230, 0], clips := [], hold := false },
   { at_ := 150000, xs := [2, 0, 0, 0, 0, 0, 0, 0, 0, 0, 0, 0, 0, 0, 0, 0, 230, 230, 230, 0], clips := [], hold := false }]
/-- A latched close. -/
def oneClose : IvClose :=
  { startRaw := 1, endRaw := 4000000, startEpoch := 0, endEpoch := 0, endCorr := 20000000, cycles := 1, flags := 0,
    diff := [1000, 0, 0, 0, 0, 0, 10], accs := [1000, 0, 0, 0, 0, 0, 10], rescfg := 0, headE := [0, 0, 0, 0, 0, 0, 0, 0] }
/-- The radio checks of a slot pass. -/
def goodRf : RfCheck := { locked := true, fwd := 27, refl := 0 }
/-- Lane 0 enabled at 50 kb/s in slots of 10,000 µs, 100 to a slotframe, every slot on channel 5 of a plan of 400 kHz. -/
def laneRegs : List (Nat × Word) :=
  [(reg wLNE 0x004, 1), (reg wLNE 0x008, 0), (reg wLNE 0x00C, 1000), (reg wLNE 0x010, 0x27100064), (reg wLNE 0x01C, 1),
   (reg wLNE 0x100, 5), (reg wLNE (lneOff 4 0x010), 0xD32E8404), (reg wLTB 0x024, 8)]
/-- The lanes with lane 0 running. -/
def oneLaneUp : List Lane := modAt LneUnit.reset.lanes 0 (fun l => { l with run := true, xcvr := some 0 })
/-- The module in LIT with lane 0 running, more registers in force, just before the start of a slot. -/
def laneAt (slot : Nat) (more : List (Nat × Word)) : State :=
  { imaged .dark [(State.hkey 1 1, handleIn .running)] (ringRegs testQueues) (lantern 2) with
    cyc := 4000000 * slot - 6
    sys := { SysUnit.reset with pwr := .lit }
    lne := { LneUnit.reset with lanes := oneLaneUp }
    key := { KeyUnit.reset with netKey := some [1] }
    regs := { RegUnit.reset with act := soundWords (laneRegs ++ more), cfg := bank (ringRegs testQueues) } }
/-- Lanes 0 and 1 running with the same timing; lane 0 has tuned channel 5 in this slot. -/
def crowded : State :=
  let x := fun (k : Nat × Word) => (k.1 + lneOff 1 0, k.2)
  { laneAt 1 ([(reg wLNE 0x1000, 0xB0100001)] ++ (laneRegs.take 6).map x ++ [(reg wLNE 0x3000, 0x80100001)]) with
    lne := { LneUnit.reset with lanes := [
      { Lane.reset 0 with run := true, xcvr := some 0, slot := some 1, tuned := some 5 },
      { Lane.reset 1 with run := true, xcvr := some 1 }, Lane.reset 2, Lane.reset 3] } }
/-- Lane 0 with a WAVE cell and a descriptor of one octet held at the head of its queue, with bytes of it. -/
def launching (mem : List Host.Cell) : State :=
  { laneAt 1 [(reg wLNE 0x1000, 0x90100001), (reg wWAV 0x004, 1)] with
    mem := [(0x20000180, 0x77), (0x20000188, 1), (0x20000189, 2), (0x20100008, 1)]
      ++ mem.filter (fun c => c.2 != 0) ++ [(0x20100016, 255), (0x20100017, 255)]
    qdm := { QdmUnit.reset with
      cfgs := testQueues
      handed := [(0, 0, 0)]
      queues := [(0, { Queue.reset with tail := 1, held := some { octets := [1, 2, 3] } })] } }
/-- Lane 0 in an idle slot while its receiver is under test, with some tests failed. -/
def idling (fails : Nat) : State :=
  { laneAt 1 [] with
    lne := { LneUnit.reset with
      spare := .rxtest, lanes := modAt oneLaneUp 0 (fun l => { l with slot := some 1, rxTestFail := fails }) } }
/-- Lane 0 with a start that is due. -/
def starting (mem : List Host.Cell) : State :=
  { laneAt 1 [] with
    mem := mem
    lne := { LneUnit.reset with lanes := modAt LneUnit.reset.lanes 0 (fun l => { l with startAt := some 5 }) } }
/-- Lane 0 just before its slot 1 with a descriptor ready to be fetched. -/
def fetching : State :=
  { launching [(0x2010000A, 0)] with
    cyc := 4000000 - 100006
    qdm := { QdmUnit.reset with cfgs := testQueues, handed := [(0, 0, 0)], queues := [(0, { Queue.reset with tail := 1 })] } }
/-- An attempt of queue 0 in slot 0, addressed to entry 1. -/
def oneAwait : Await := { queue := 0, slot := 0, dest := 1 }
/-- Lane 0 waiting for its acknowledgement, the window over. -/
def awaiting : State :=
  { launching [(0x2010000A, 1)] with
    cyc := 8000000
    lne := { LneUnit.reset with lanes := modAt oneLaneUp 0 (fun l => { l with await := some oneAwait }) }
    qdm := { QdmUnit.reset with
      cfgs := testQueues, queues := [(0, { Queue.reset with tail := 1, held := some { octets := [1] }, attempts := 1 })] } }
/-- Lane 0 served by the spare, with a release. -/
def onSpare (r : Option Nat) : State :=
  { laneAt 1 [] with
    lne := { LneUnit.reset with
      spare := .serving, cmdBusy := r.isSome, lanes := modAt oneLaneUp 0 (fun l => { l with xcvr := some 4, releaseAt := r }) } }
/-- A frame received on lane 0 in its slot 1. -/
def frameOf (src : Nat) (formJ : Bool) (p : List Byte) : RxFrame :=
  { lane := 0, src := src, sfd := 2500000, last := 2600000, rssi := 200, fc := 7, bcast := false, ackReq := false,
    formJ := formJ, header := [1], payload := p }
/-- REPORT, FAULT, DETECT and JOIN payloads. -/
def reportOctets : List Byte := [0x59, 0x81, 5, 0, 0, 0, 9, 0, 0, 0, 0, 0x40, 8, 0, 0, 0, 0, 0, 0, 0]
def faultOctets : List Byte := [0x59, 0x83, 2, 0, 0, 0, 0, 0x40, 0, 0]
def detectOctets : List Byte := [0x59, 0x82, 1, 0, 0, 0, 0, 5, 0, 1, 0, 0, 0, 1]
def joinOctets : List Byte := [0x59, 0x84, 1, 2, 3, 4, 5, 6, 7, 8, 0, 0, 0, 0, 0, 0x40, 0, 0, 0, 0, 0, 0]
/-- Lane 0 listening in an UPLINK cell of its slot 1, entry 1 JOINED. -/
def hearing : State :=
  let s := laneAt 1 [(reg wLNE 0x1000, 0xB0100001)]
  { s with
    cyc := 6000000
    str := { s.str with handles := [(State.hkey 1 1, handleIn .running), (State.hkey 8 3, handleIn .running)] }
    lne := { s.lne with lanes := modAt oneLaneUp 0 (fun l => { l with slot := some 1, tuned := some 5 }) }
    key := { s.key with store := { ownedStore with slots := [(6, allSlot)] } }
    qdm := { s.qdm with queues := [(3, { Queue.reset with tail := 2 })] } }
/-- Lane 0 waiting for the acknowledgement of the head of queue 1, sent in slot 1. -/
def acked : State :=
  { hearing with
    lne := { hearing.lne with lanes := modAt oneLaneUp 0 (fun l => { l with await := some { queue := 1, slot := 1, dest := 1 } }) }
    qdm := { QdmUnit.reset with
      cfgs := testQueues, queues := [(1, { Queue.reset with tail := 1, attempts := 1 })] } }
/-- Queue 1 parked on a fault. -/
def parkedAt : State :=
  { laneAt 1 [] with
    qdm := { QdmUnit.reset with cfgs := testQueues, queues := [(1, { Queue.reset with tail := 3, parked := true })] } }
/-- A COPY of 40 octets and an Ethernet frame of 40 octets, from DMA address 0x10. -/
def copyDesc : Desc :=
  { addr := 0x10, len := 40, flags := 0, timing := [0, 0x20, 0, 0, 0, 0, 0, 0, 0, 0], dest := 0, tag := 9 }
def ethDesc : Desc := { copyDesc with timing := [0, 0, 0, 0, 0, 0, 0, 0, 0, 0] }
/-- Windows 0 and 1: DMA pages 0 and 0x2000 of every queue. -/
def copyWin : List (Nat × Word) :=
  [(reg wQDM 0x2000, 0xE000000C), (reg wQDM 0x200C, 0x20200000), (reg wQDM 0x2014, 0xFFFFFFFF),
   (reg wQDM 0x2020, 0xE000000C), (reg wQDM 0x2024, 0x2000), (reg wQDM 0x202C, 0x20300000), (reg wQDM 0x2034, 0xFFFFFFFF)]
/-- The head descriptor of queue 6, and two source bytes. -/
def copyMem : List Host.Cell := [(0x20100C00, 0x10), (0x20100C08, 40), (0x20100C0D, 0x20), (0x20100C18, 9), (0x20200011, 7)]
/-- Queue 6 RUNNING with one descriptor, windows and memory. -/
def copying (win : List (Nat × Word)) (mem : List Host.Cell) : State :=
  { imaged .dark [(State.hkey 8 6, handleIn .running)] (win ++ ringRegs testQueues) mem with
    qdm := { QdmUnit.reset with cfgs := testQueues, queues := [(6, { Queue.reset with tail := 1 })] } }
/-- Queues 4 and 5 RUNNING, queue 4 with an Ethernet frame to fetch; both directions of port 0 enabled and up. -/
def sending : State :=
  { imaged .dark [(State.hkey 8 4, handleIn .running), (State.hkey 8 5, handleIn .running)]
      (copyWin ++ [(reg wETH0 0x004, 3), (reg wETH0 0x014, 0x0200000A)] ++ ringRegs testQueues)
      [(0x20100800, 0x10), (0x20100808, 40), (0x20100818, 9), (0x20200011, 7)] with
    eth0 := { up := true, speed := 1000, lastTx := none }
    qdm := { QdmUnit.reset with cfgs := testQueues, queues := [(4, { Queue.reset with tail := 1 }), (5, { Queue.reset with tail := 2 })] } }
/-- A UDP datagram of 4 octets from 10.0.0.1 to 10.0.0.2, port 47310. -/
def udpFrame : List Byte :=
  List.replicate 12 255 ++ [8, 0, 0x45, 0, 0, 32, 0, 0, 0, 0, 64, 17, 0, 0, 10, 0, 0, 1, 10, 0, 0, 2, 0xB8, 0xCE, 0xB8, 0xCE, 0, 12,
    0, 0, 1, 2, 3, 4]

/-! ## The spec's worked examples and small steps -/

/-- Chapter 11's example: the octets of one SCENE record in its frame. -/
theorem test_sceneOctets :
    State.payOctets (.scene 1000700 0x1A2B
      [{ laddr := 1234, groups := 3, cap := 65535, level := 65535, fade := 50, curve := 1, mix := [51569, 32633, 21755, 9024] }])
    = [0x59, 0x01, 0xFC, 0x44, 0x0F, 0x00, 0x00, 0x2B, 0x1A, 0x01, 0xD2, 0x44, 0x03, 0x00, 0xFF, 0xFF, 0xFF, 0xFF, 0x32, 0x00,
       0x01, 0x71, 0xC9, 0x79, 0x7F, 0xFB, 0x54, 0x40, 0x23] := by decide +kernel

/-- Chapter 9's example: the allocations of entries 40 to 44. -/
theorem test_allocation :
    State.allocate 216006000 [(40, 27500000), (41, 30000000), (42, 25000000), (43, 24000000), (44, 23500000)]
    = [(40, 45693577), (41, 49847539), (42, 41539615), (43, 39878031), (44, 39047238)] := by decide +kernel

/-- Chapter 13's example: +10 ppm from raw 1,000,000,000. -/
def tenPpm : TbsUnit := { TbsUnit.reset with rate := 2814749767, rb := 1000000000, epoch := 3 }

theorem test_stamp :
    tenPpm.stampAt 1200000000 = { raw := 1200000000, corr := 6000009999, frac := 0xFFFF, epoch := 3 } := by decide +kernel

theorem test_milestoneTarget :
    tenPpm.rawOf 7000000000 = 1399996001 ∧ tenPpm.corrNs 1399996001 = 7000000004 ∧ tenPpm.rawOf 8000000000 = 1599994001 := by
  decide +kernel

/-- Chapter 14's example: 2031-10-26 and 2032-03-28 are Sundays; 2100-02-29 does not exist, 2000-02-29 does. -/
theorem test_calendar :
    weekday 2031 10 26 = 6 ∧ weekday 2032 3 28 = 6 ∧
      clockBad { y := 2100, mo := 2, d := 29, h := 0, mi := 0, s := 0 } = 5 ∧
      clockBad { y := 2000, mo := 2, d := 29, h := 0, mi := 0, s := 0 } = 0 := by decide +kernel

/-- Chapter 12's example: a copy's first burst ends at the 256-byte boundary; then 256, 256, 256 and 40. -/
theorem test_bursts :
    State.burstLen 0x400FFF40 1000 = 192 ∧ State.burstLen 0x40100000 808 = 256 ∧ State.burstLen 0x40100300 40 = 40 := by
  decide +kernel

/-- Chapter 10's example: airtimes at 200 kb/s of PSDUs of 40, 100 and 127 octets. -/
theorem test_airtime :
    let s := { State.reset with regs := { RegUnit.reset with act := soundWords [(reg wLNE 0x008, 0x33080000)] } }
    s.airUs 0 40 = 2080 ∧ s.airUs 0 100 = 4480 ∧ s.airUs 0 127 = 5560 := by decide +kernel

/-- Chapter 7's example: the derating limit at 95 °C with a slope of 4 %/K. -/
theorem test_derate :
    let s := { State.reset with regs := { RegUnit.reset with act := soundWords [(reg wSCN 0x00C, 0x001A2855)] } }
    s.derateAt 85 95 = 39321 := by decide +kernel

/-- Chapter 5's example: the solve of a lantern of four channels, first with no limit, then with red at half. -/
def fourChannels (red : Nat) : SolveIn :=
  { chans := [
      { u := 1 / 2, v := 1 / 2, flux := 500, power := 2, side := 0, lim := red, ok := true },
      { u := 1 / 8, v := 9 / 16, flux := 1000, power := 3, side := 0, lim := 65535, ok := true },
      { u := 3 / 16, v := 3 / 16, flux := 100, power := 2, side := 1, lim := 65535, ok := true },
      { u := 1 / 4, v := 1 / 2, flux := 2000, power := 12, side := 1 / 64, lim := 65535, ok := true }]
    u := 9 / 32
    v := 1 / 2
    sideOn := true
    bound := 1 / 32
    fluxRated := 1200
    lc := 65535 }

theorem test_solve :
    (fourChannels 65535).solve =
      { mixCap := [51569, 32633, 21755, 9024], cap := 65535, mix := [51569, 32633, 21755, 9024], status := 0 } := by
  decide +kernel

theorem test_solveRedLimit :
    (fourChannels 32768).solve.cap = 65535 ∧ (fourChannels 32768).solve.status = 0 ∧
      ((fourChannels 32768).solve.mix.drop 1).take 2 = [0, 0] := by decide +kernel

/-- A queue is first in, first out; an empty one idles. -/
theorem test_queue :
    (match step { State.reset with pending := [.pwrcmdLit 0 0, .vinLoss 5] } with
     | .next t => t.pending == [.vinLoss 5] && t.sys.trans.isSome
     | _ => false) = true := by decide +kernel

theorem test_idle : step State.reset = .next State.reset := rfl

/-- No word spells a command: the table gives its rows no bits. -/
theorem test_noWord : decodeTableWord 32 0 = none := rfl

/-! ## Well-formed commands -/

theorem test_wf_refuses_0 : ([
    .sysBootok 0 16 0, .rstcmdHost 0 16, .rstcmdSystem 0 16, .fuseprog 0 16 0 false, .pwrcmdLit 0 16,
    .pwrcmdVigil 0 16 0, .pwrcmdVigil 0 0 65536, .pwrcmdOff 0 16 0, .pwrcmdOff 0 0 65536, .pwrcmdHold 0 16,
    .contactorClose 0 4, .coilOpenCoil 0 4 0, .coilOver 0 4 0, .registerWrite 0 16 0 4 0, .registerWrite 0 0 0 3 0,
    .registerWrite 0 0 0 4 (256 ^ 4), .errorResponse 0 16 0 4 false 0, .errorResponse 0 0 0 3 false 0,
    .errorResponse 0 0 0 4 false (256 ^ 4), .statusClear 0 16 0 0, .guardPairOpen 0 16 0 0,
    .guardStrayWrite 0 16 0 0, .guardTimeout 0 0x14, .fltPartest 0 16 0, .slotBoundary 0 4 goodRf,
    .periodBoundary 0 8 [], .cycleBoundary 0 0 [[0]], .cycleBoundary 0 4 [], .cycleSynthTimeout 0 0 [[0]],
    .cycleSynthTimeout 0 4 [], .strCreate 0 16, .strDestroy 0 16, .strStop 0 16, .strStart 0 16, .strQuery 0 16,
    .ltbCommit 0 16, .ltbClear 0 16, .ltbEuiLookup 0 16 0, .ltableDirectWrite 0 16 0 [], .entrySilent 0 4096,
    .headCommandStart 0 8, .headWaveTime 0 8] : List Instr).all (fun c => !c.wf) = true := by decide +kernel

theorem test_wf_refuses_1 : ([
    .waveEnd 0 128, .headroomLoopStep 0 8, .hrLimit 0 8, .mstTjWindow 0 8 [] [], .mstCalibrate 0 16 0,
    .mstCalibrate 0 0 8, .mstAck 0 16 0, .mstAck 0 0 64, .sinkFaultOpen 0 56, .sinkFaultCtrl 0 56,
    .sinkOvercurrent 0 56 0 0, .sinkFaultSat 0 56, .sinkBlanking 0 56 0 [], .pulseStretch 0 56 [],
    .spareSinkSelftest 0 8 false ⟨0, 0, 0, 0, false⟩, .spareSinkTakeover 0 8, .groupDark 0 8, .groupStartupEnd 0 8,
    .groupRecoveryEnd 0 8, .mtrStuck 0 0 [[0]], .mtrStuck 0 20 [], .meterSubstitution 0 4, .islctlSealrst 0 16,
    .islctlSubst 0 16 0, .islctlSubst 0 0 32, .islctlRelease 0 16 0, .islctlRelease 0 0 32, .islctlChecknow 0 16,
    .intervalClose 0 4, .pulseEmit 0 4, .accCfgWrite 0 16 0, .accPulseWrite 0 16 0 0, .accPulseWrite 0 0 4 0,
    .accSlotRead 0 16 0 0 0, .accSlotRead 0 0 4 0 0, .accSlotRead 0 0 0 4 0, .accSlotRead 0 0 0 0 8,
    .tbsNowRead 0 16, .tsqPop 0 16 0, .tsqPop 0 0 7, .rtcDateRead 0 16 0, .loHiLatchRead 0 16 0 4] : List Instr).all (fun c => !c.wf) = true := by decide +kernel

theorem test_wf_refuses_2 : ([
    .loHiLatchRead 0 0 0 3, .laneFetch 0 4, .ackTimeout 0 4, .laneStart 0 4, .lneTakeover 0 16 0,
    .lneTakeover 0 0 4, .lneRelease 0 16 0, .lneRelease 0 0 4, .lneSpareRoundNow 0 16, .laneReturn 0 4,
    .frameRejected 0 4 1, .frameRejected 0 0 8, .qdmTailWrite 0 16 0 0, .qdmTailWrite 0 0 64 0, .qdmResume 0 16 0,
    .qdmResume 0 0 64, .qdmFlush 0 16 0, .qdmFlush 0 0 64, .descriptorComplete 0 64, .windowEnableWrite 0 16 0 0,
    .windowEnableWrite 0 0 64 0, .ethTransmit 0 2, .ethFrameReceive 0 2 0 0 false [], .ethLinkChange 0 2 false 0,
    .adjStep 0 16, .adjRate 0 16, .adjSlew 0 16 0, .adjSlew 0 0 256, .adjSlewstop 0 16, .milestoneFire 0 32,
    .milestonePulseEnd 0 32, .rtcSet 0 16 0, .rtcDstfwd 0 16, .rtcDstback 0 16, .rtcTrimWrite 0 16 0,
    .alarmWrite 0 16 0 0, .wakeperWrite 0 16 0, .rsramRead 0 16 0 4 none, .rsramRead 0 0 0 3 none, .recDump 0 16 0,
    .recSoft 0 16 0, .recTselWrite 0 16 0] : List Instr).all (fun c => !c.wf) = true := by decide +kernel

theorem test_wf_refuses_3 : ([
    .kumWrite 0 16, .kumErase 0 16, .kumLifecycle 0 16, .kumClearTamper 0 16, .netload 0 16 0, .keyWrap 0 16 0,
    .keyHash 0 16 0, .keyHmac 0 16 0 0, .keyVerify 0 16 0, .keySign 0 16 0, .attest 0 16, .keyRandom 0 16,
    .hostwrite 0 16 0, .keyTpolicyWrite 0 16 0, .updManifest 0 16, .updChunk 0 16, .updActivate 0 16,
    .updConfirm 0 16, .updAbort 0 16, .updRevert 0 16, .svcOpen 0 65536 [], .svcChunk 0 65536 0 [],
    .svcClose 0 65536, .svcActivate 0 65536, .svcConfirm 0 65536, .svcAbort 0 65536, .svcStatus 0 65536,
    .svcKeymsg 0 65536 [], .svcConsole 0 65536 [], .svcBadMessage 0 65536, .lockstepMismatch 0 0x14,
    .fltWdtkick 0 16 0, .vergeRetest 0 16 0 0 false, .vergeRelease 0 16 0 0, .openCoilClear 0 4 0] : List Instr).all (fun c => !c.wf) = true := by decide +kernel

theorem test_wf_accepts_0 : ([
    .sysBootok 0 0 0, .rstcmdHost 0 0, .rstcmdSystem 0 0, .fuseprog 0 0 0 false, .pwrcmdLit 0 0,
    .pwrcmdVigil 0 0 0, .pwrcmdOff 0 0 0, .pwrcmdHold 0 0, .contactorClose 0 0, .coilOpenCoil 0 0 0,
    .coilOver 0 0 0, .registerWrite 0 0 0 4 0, .errorResponse 0 0 0 4 false 0, .statusClear 0 0 0 0,
    .guardPairOpen 0 0 0 0, .guardStrayWrite 0 0 0 0, .guardTimeout 0 0, .fltPartest 0 0 0,
    .slotBoundary 0 0 goodRf, .periodBoundary 0 0 [], .cycleBoundary 0 0 [], .cycleSynthTimeout 0 0 [],
    .strCreate 0 0, .strDestroy 0 0, .strStop 0 0, .strStart 0 0, .strQuery 0 0, .ltbCommit 0 0, .ltbClear 0 0,
    .ltbEuiLookup 0 0 0, .ltableDirectWrite 0 0 0 [], .entrySilent 0 0, .headCommandStart 0 0, .headWaveTime 0 0,
    .waveEnd 0 0, .headroomLoopStep 0 0, .hrLimit 0 0, .mstTjWindow 0 0 [] [], .mstCalibrate 0 0 0, .mstAck 0 0 0,
    .sinkFaultOpen 0 0, .sinkFaultCtrl 0 0, .sinkOvercurrent 0 0 0 0, .sinkFaultSat 0 0, .sinkBlanking 0 0 0 [],
    .pulseStretch 0 0 [], .spareSinkSelftest 0 0 false ⟨0, 0, 0, 0, false⟩, .spareSinkTakeover 0 0, .groupDark 0 0,
    .groupStartupEnd 0 0] : List Instr).all (fun c => c.wf) = true := by decide +kernel

theorem test_wf_accepts_1 : ([
    .groupRecoveryEnd 0 0, .mtrStuck 0 0 [], .meterSubstitution 0 0, .islctlSealrst 0 0, .islctlSubst 0 0 0,
    .islctlRelease 0 0 0, .islctlChecknow 0 0, .intervalClose 0 0, .pulseEmit 0 0, .accCfgWrite 0 0 0,
    .accPulseWrite 0 0 0 0, .accSlotRead 0 0 0 0 0, .tbsNowRead 0 0, .tsqPop 0 0 0, .rtcDateRead 0 0 0,
    .loHiLatchRead 0 0 0 4, .laneFetch 0 0, .ackTimeout 0 0, .laneStart 0 0, .lneTakeover 0 0 0, .lneRelease 0 0 0,
    .lneSpareRoundNow 0 0, .laneReturn 0 0, .frameRejected 0 0 1, .qdmTailWrite 0 0 0 0, .qdmResume 0 0 0,
    .qdmFlush 0 0 0, .descriptorComplete 0 0, .windowEnableWrite 0 0 0 0, .ethTransmit 0 0,
    .ethFrameReceive 0 0 0 0 false [], .ethLinkChange 0 0 false 0, .adjStep 0 0, .adjRate 0 0, .adjSlew 0 0 0,
    .adjSlewstop 0 0, .milestoneFire 0 0, .milestonePulseEnd 0 0, .rtcSet 0 0 0, .rtcDstfwd 0 0, .rtcDstback 0 0,
    .rtcTrimWrite 0 0 0, .alarmWrite 0 0 0 0, .wakeperWrite 0 0 0, .rsramRead 0 0 0 4 none, .recDump 0 0 0,
    .recSoft 0 0 0, .recTselWrite 0 0 0, .kumWrite 0 0, .kumErase 0 0] : List Instr).all (fun c => c.wf) = true := by decide +kernel

theorem test_wf_accepts_2 : ([
    .kumLifecycle 0 0, .kumClearTamper 0 0, .netload 0 0 0, .keyWrap 0 0 0, .keyHash 0 0 0, .keyHmac 0 0 0 0,
    .keyVerify 0 0 0, .keySign 0 0 0, .attest 0 0, .keyRandom 0 0, .hostwrite 0 0 0, .keyTpolicyWrite 0 0 0,
    .updManifest 0 0, .updChunk 0 0, .updActivate 0 0, .updConfirm 0 0, .updAbort 0 0, .updRevert 0 0,
    .svcOpen 0 0 [], .svcChunk 0 0 0 [], .svcClose 0 0, .svcActivate 0 0, .svcConfirm 0 0, .svcAbort 0 0,
    .svcStatus 0 0, .svcKeymsg 0 0 [], .svcConsole 0 0 [], .svcBadMessage 0 0, .lockstepMismatch 0 0,
    .fltWdtkick 0 0 0, .vergeRetest 0 0 0 0 false, .vergeRelease 0 0 0 0, .openCoilClear 0 0 0] : List Instr).all (fun c => c.wf) = true := by decide +kernel

/-! ## Witnesses: `wit_<statement>_<clause>` shows a state, with 7 cycles since the last command, and operands that
meet the clause's hypotheses together -/

theorem noPair {s : State} (h : s.regs.pairs = []) (w : Nat) : s.openPair w = none := by simp [State.openPair, h]
theorem raised_of {s : State} {a i : Nat}
    (h : ((s.statOf a).bits.testBit i || (s.statOf a).held.any (fun h => h.bits.testBit i)) = true) : s.raised a i := by
  simpa [State.raised] using h
theorem not_raised_of {s : State} {a i : Nat}
    (h : ((s.statOf a).bits.testBit i || (s.statOf a).held.any (fun h => h.bits.testBit i)) = false) : ¬s.raised a i := by
  simpa [State.raised] using h

theorem wit_powerCommands_0 :
    (fun (m : Nat) (s0 : State) => (fun (s : State) => s0.powered = true ∧ (s.lets m (reg wSYS 0x040) ∧ s.sys.phase = .up ∧ s.sys.safe = false ∧ s.sys.trans = none ∧
    ¬(s.sys.pwr = .lit ∧ s.sys.held = false))) (s0.after 7))
      (0 : Nat) (State.reset) := by
  repeat' apply And.intro
  all_goals first
    | decide +kernel
    | exact Or.inl rfl
    | exact fun _ _ => noPair (by decide +kernel) _
    | exact not_raised_of (by decide +kernel)
    | exact raised_of (by decide +kernel)

theorem wit_powerCommands_1 :
    (fun (m fade : Nat) (s0 : State) => (fun (s : State) => (fade < 65536) ∧ s0.powered = true ∧ (s.lets m (reg wSYS 0x040) ∧ s.sys.phase = .up ∧ s.sys.safe = false ∧ s.sys.trans = none ∧
    ¬(s.sys.pwr = .vigil ∧ s.sys.held = false))) (s0.after 7))
      (0 : Nat) (5 : Nat) (sysAt (fun u => { u with pwr := .lit })) := by
  repeat' apply And.intro
  all_goals first
    | decide +kernel
    | exact Or.inl rfl
    | exact fun _ _ => noPair (by decide +kernel) _
    | exact not_raised_of (by decide +kernel)
    | exact raised_of (by decide +kernel)

theorem wit_powerCommands_2 :
    (fun (m fade : Nat) (s0 : State) => (fun (s : State) => (fade < 65536) ∧ s0.powered = true ∧ (s.lets m (reg wSYS 0x040) ∧ s.sys.phase = .up ∧ s.sys.safe = false ∧ s.sys.trans = none ∧ s.sys.pwr = .lit)) (s0.after 7))
      (0 : Nat) (5 : Nat) (sysAt (fun u => { u with pwr := .lit })) := by
  repeat' apply And.intro
  all_goals first
    | decide +kernel
    | exact Or.inl rfl
    | exact fun _ _ => noPair (by decide +kernel) _
    | exact not_raised_of (by decide +kernel)
    | exact raised_of (by decide +kernel)

theorem wit_powerCommands_3 :
    (fun (m fade : Nat) (s0 : State) => (fun (s : State) => (fade < 65536) ∧ s0.powered = true ∧ (s.lets m (reg wSYS 0x040) ∧ s.sys.phase = .up ∧ s.sys.safe = false ∧ s.sys.trans = none ∧ s.sys.pwr = .vigil)) (s0.after 7))
      (0 : Nat) (5 : Nat) (sysAt (fun u => { u with closed := [1], openCoil := [1] })) := by
  repeat' apply And.intro
  all_goals first
    | decide +kernel
    | exact Or.inl rfl
    | exact fun _ _ => noPair (by decide +kernel) _
    | exact not_raised_of (by decide +kernel)
    | exact raised_of (by decide +kernel)

theorem wit_powerCommands_4 :
    (fun (m : Nat) (s0 : State) => (fun (s : State) => s0.powered = true ∧ (s.lets m (reg wSYS 0x040) ∧ s.sys.phase ≠ .clockHalt ∧ s.sys.safe = false)) (s0.after 7))
      (0 : Nat) (State.reset) := by
  repeat' apply And.intro
  all_goals first
    | decide +kernel
    | exact Or.inl rfl
    | exact fun _ _ => noPair (by decide +kernel) _
    | exact not_raised_of (by decide +kernel)
    | exact raised_of (by decide +kernel)

theorem wit_powerTransitions_0 :
    (fun (k o : Nat) (r : List (Nat × Nat)) (x : Trans) (s0 : State) => (fun (s : State) => s0.powered = true ∧ (s.sys.trans = some x ∧ x.todo = (k, o) :: r ∧ x.t0 + 200000 + k * s.closingStep ≤ s.raw)) (s0.after 7))
      (0 : Nat) (1 : Nat) (([] : List (Nat × Nat)) : List (Nat × Nat)) (litTrans : Trans) (lighting 1000000) := by
  repeat' apply And.intro
  all_goals first
    | decide +kernel
    | exact Or.inl rfl
    | exact fun _ _ => noPair (by decide +kernel) _
    | exact not_raised_of (by decide +kernel)
    | exact raised_of (by decide +kernel)

theorem wit_powerTransitions_1 :
    (fun (k : Nat) (x : Trans) (s0 : State) => (fun (s : State) => s0.powered = true ∧ (s.sys.trans = some x ∧ s.raw < x.t0 + 200000 + k * s.closingStep)) (s0.after 7))
      (0 : Nat) (litTrans : Trans) (lighting 0) := by
  repeat' apply And.intro
  all_goals first
    | decide +kernel
    | exact Or.inl rfl
    | exact fun _ _ => noPair (by decide +kernel) _
    | exact not_raised_of (by decide +kernel)
    | exact raised_of (by decide +kernel)

theorem wit_powerTransitions_2 :
    (fun (coils : List Nat) (x : Trans) (s0 : State) => (fun (s : State) => ((∀ k < 4, 20 ≤ nth 0 coils k ∧ nth 0 coils k ≤ 400)) ∧ s0.powered = true ∧ (s.sys.trans = some x ∧ x.target = .lit ∧ x.todo = [] ∧ x.engines = true)) (s0.after 7))
      ([100, 100, 100, 100] : List Nat) (fadeTrans .lit [] true false : Trans) (fading .lit [] true false) := by
  repeat' apply And.intro
  all_goals first
    | decide +kernel
    | exact Or.inl rfl
    | exact fun _ _ => noPair (by decide +kernel) _
    | exact not_raised_of (by decide +kernel)
    | exact raised_of (by decide +kernel)

theorem wit_powerTransitions_3 :
    (fun (x : Trans) (s0 : State) => (fun (s : State) => s0.powered = true ∧ (s.sys.trans = some x ∧ x.target ≠ .lit ∧ x.opened = false ∧ x.t0 + x.fade * 20000000 + 200000 ≤ s.raw)) (s0.after 7))
      (fadeTrans .vigil [] false false : Trans) (fading .vigil [] false false) := by
  repeat' apply And.intro
  all_goals first
    | decide +kernel
    | exact Or.inl rfl
    | exact fun _ _ => noPair (by decide +kernel) _
    | exact not_raised_of (by decide +kernel)
    | exact raised_of (by decide +kernel)

theorem wit_powerTransitions_4 :
    (fun (coils : List Nat) (x : Trans) (s0 : State) => (fun (s : State) => s0.powered = true ∧ (s.sys.trans = some x ∧ x.target = .vigil ∧ x.opened = true)) (s0.after 7))
      ([0, 0, 0, 0] : List Nat) (fadeTrans .vigil [] false true : Trans) (fading .vigil [] false true) := by
  repeat' apply And.intro
  all_goals first
    | decide +kernel
    | exact Or.inl rfl
    | exact fun _ _ => noPair (by decide +kernel) _
    | exact not_raised_of (by decide +kernel)
    | exact raised_of (by decide +kernel)

theorem wit_powerTransitions_5 :
    (fun (x : Trans) (s0 : State) => (fun (s : State) => s0.powered = true ∧ (s.rtc.wakePend = none ∧ s.sys.trans = some x ∧ x.target = .off ∧ x.opened = true)) (s0.after 7))
      (fadeTrans .off [] false true : Trans) (fading .off [] false true) := by
  repeat' apply And.intro
  all_goals first
    | decide +kernel
    | exact Or.inl rfl
    | exact fun _ _ => noPair (by decide +kernel) _
    | exact not_raised_of (by decide +kernel)
    | exact raised_of (by decide +kernel)

theorem wit_coilFaultsAndPhotocell_0 :
    (fun (k ma : Nat) (s0 : State) => (fun (s : State) => (ma < 20) ∧ s0.powered = true ∧ (s.sys.closed.contains k = true ∧ s.sys.overCur.contains k = false ∧ s.sys.vin = true ∧ s.sys.openCoil.contains k = false)) (s0.after 7))
      (2 : Nat) (19 : Nat) (sysAt (fun u => { u with closed := [2] })) := by
  repeat' apply And.intro
  all_goals first
    | decide +kernel
    | exact Or.inl rfl
    | exact fun _ _ => noPair (by decide +kernel) _
    | exact not_raised_of (by decide +kernel)
    | exact raised_of (by decide +kernel)

theorem wit_coilFaultsAndPhotocell_1 :
    (fun (k ma : Nat) (s0 : State) => (fun (s : State) => (400 < ma) ∧ s0.powered = true ∧ (s.sys.closed.contains k = true ∧ s.sys.overCur.contains k = false ∧ s.sys.vin = true)) (s0.after 7))
      (2 : Nat) (401 : Nat) (sysAt (fun u => { u with closed := [2] })) := by
  repeat' apply And.intro
  all_goals first
    | decide +kernel
    | exact Or.inl rfl
    | exact fun _ _ => noPair (by decide +kernel) _
    | exact not_raised_of (by decide +kernel)
    | exact raised_of (by decide +kernel)

theorem wit_coilFaultsAndPhotocell_2 :
    (fun (k ma : Nat) (s0 : State) => (fun (s : State) => (20 ≤ ma) ∧ s0.powered = true ∧ (s.sys.closed.contains k = true ∧ s.sys.overCur.contains k = false ∧ s.sys.vin = true)) (s0.after 7))
      (2 : Nat) (20 : Nat) (sysAt (fun u => { u with closed := [2], openCoil := [2] })) := by
  repeat' apply And.intro
  all_goals first
    | decide +kernel
    | exact Or.inl rfl
    | exact fun _ _ => noPair (by decide +kernel) _
    | exact not_raised_of (by decide +kernel)
    | exact raised_of (by decide +kernel)

theorem wit_coilFaultsAndPhotocell_3 :
    (fun (x k ma : Nat) (s0 : State) => (fun (s : State) => s0.powered = true ∧ (s.coilDriven k = false ∨ (x = 0 ∧ 20 ≤ ma) ∨ (x = 1 ∧ ma ≤ 400) ∨ (2 ≤ x ∧ ma < 20))) (s0.after 7))
      (1 : Nat) (2 : Nat) (400 : Nat) (sysAt (fun u => { u with closed := [2] })) := by
  repeat' apply And.intro
  all_goals first
    | decide +kernel
    | exact Or.inl rfl
    | exact fun _ _ => noPair (by decide +kernel) _
    | exact not_raised_of (by decide +kernel)
    | exact raised_of (by decide +kernel)

theorem wit_coilFaultsAndPhotocell_4 :
    (fun (s0 : State) => (fun (s : State) => s0.powered = true ∧ (s.sys.safe = true ∧ s.sys.phase = .up)) (s0.after 7))
       (sysAt (fun u => { u with safe := true, closed := [1, 2] })) := by
  repeat' apply And.intro
  all_goals first
    | decide +kernel
    | exact Or.inl rfl
    | exact fun _ _ => noPair (by decide +kernel) _
    | exact not_raised_of (by decide +kernel)
    | exact raised_of (by decide +kernel)

theorem wit_coilFaultsAndPhotocell_5 :
    (fun (s0 : State) => (fun (s : State) => s0.powered = true ∧ (s.sys.safe = true ∧ s.sys.phase = .up)) (s0.after 7))
       (sysAt (fun u => { u with safe := true })) := by
  repeat' apply And.intro
  all_goals first
    | decide +kernel
    | exact Or.inl rfl
    | exact fun _ _ => noPair (by decide +kernel) _
    | exact not_raised_of (by decide +kernel)
    | exact raised_of (by decide +kernel)

theorem wit_resetSourcesAssert_0 :
    (fun (width : Nat) (acts : Bool) (s0 : State) => (fun (s : State) => ((10000 ≤ width ∨ (1000 ≤ width ∧ acts = true))) ∧ s0.powered = true ∧ (s.sys.vin = true ∧ s.goingOff = false)) (s0.after 7))
      (10000 : Nat) (false : Bool) (State.reset) := by
  repeat' apply And.intro
  all_goals first
    | decide +kernel
    | exact Or.inl rfl
    | exact fun _ _ => noPair (by decide +kernel) _
    | exact not_raised_of (by decide +kernel)
    | exact raised_of (by decide +kernel)

theorem wit_resetSourcesAssert_1 :
    (fun (width : Nat) (acts : Bool) (s0 : State) => (fun (_ : State) => ((width < 1000)) ∧ s0.powered = true ∧ (True)) (s0.after 7))
      (999 : Nat) (true : Bool) (State.reset) := by
  repeat' apply And.intro
  all_goals first
    | decide +kernel
    | exact Or.inl rfl
    | exact fun _ _ => noPair (by decide +kernel) _
    | exact not_raised_of (by decide +kernel)
    | exact raised_of (by decide +kernel)

theorem wit_resetSourcesAssert_2 :
    (fun (s0 : State) => (fun (s : State) => s0.powered = true ∧ (s.sys.phase = .up ∧ s.sys.hostRun = true)) (s0.after 7))
       (State.reset) := by
  repeat' apply And.intro
  all_goals first
    | decide +kernel
    | exact Or.inl rfl
    | exact fun _ _ => noPair (by decide +kernel) _
    | exact not_raised_of (by decide +kernel)
    | exact raised_of (by decide +kernel)

theorem wit_resetSourcesAssert_3 :
    (fun (r : Nat) (s0 : State) => (fun (s : State) => s0.powered = true ∧ (s.works wFLT ∧ s.sys.wdtAt = some r ∧ r + s.sys.wdtPeriod * 200000000 ≤ s.raw)) (s0.after 7))
      (0 : Nat) ({ sysAt (fun u => { u with wdtAt := some 0 }) with cyc := 12000000000 }) := by
  repeat' apply And.intro
  all_goals first
    | decide +kernel
    | exact Or.inl rfl
    | exact fun _ _ => noPair (by decide +kernel) _
    | exact not_raised_of (by decide +kernel)
    | exact raised_of (by decide +kernel)

theorem wit_resetSourcesAssert_4 :
    (fun (r : Nat) (s0 : State) => (fun (s : State) => s0.powered = true ∧ (s.sys.phase = .up ∧ s.sys.booted = false ∧
    s.sys.bootAt = some r ∧ r + max 1 (fld (s.cfg (reg wSYS 0x050)) 11 0) * 200000000 ≤ s.raw)) (s0.after 7))
      (0 : Nat) ({ State.reset with cyc := 120000000000000 }) := by
  repeat' apply And.intro
  all_goals first
    | decide +kernel
    | exact Or.inl rfl
    | exact fun _ _ => noPair (by decide +kernel) _
    | exact not_raised_of (by decide +kernel)
    | exact raised_of (by decide +kernel)

theorem wit_resetSourcesAssert_5 :
    (fun (m : Nat) (s0 : State) => (fun (s : State) => s0.powered = true ∧ (s.lets m (reg wSYS 0x048))) (s0.after 7))
      (0 : Nat) (State.reset) := by
  repeat' apply And.intro
  all_goals first
    | decide +kernel
    | exact Or.inl rfl
    | exact fun _ _ => noPair (by decide +kernel) _
    | exact not_raised_of (by decide +kernel)
    | exact raised_of (by decide +kernel)

theorem wit_resetSourcesAssert_6 :
    (fun (m : Nat) (s0 : State) => (fun (s : State) => s0.powered = true ∧ (s.lets m (reg wSYS 0x048))) (s0.after 7))
      (0 : Nat) (State.reset) := by
  repeat' apply And.intro
  all_goals first
    | decide +kernel
    | exact Or.inl rfl
    | exact fun _ _ => noPair (by decide +kernel) _
    | exact not_raised_of (by decide +kernel)
    | exact raised_of (by decide +kernel)

theorem wit_resetSourcesAssert_7 :
    (fun (s0 : State) => (fun (_ : State) => s0.powered = true ∧ (True)) (s0.after 7))
       (State.reset) := by
  repeat' apply And.intro
  all_goals first
    | decide +kernel
    | exact Or.inl rfl
    | exact fun _ _ => noPair (by decide +kernel) _
    | exact not_raised_of (by decide +kernel)
    | exact raised_of (by decide +kernel)

theorem wit_bootFuseAndWatchdog_0 :
    (fun (m : Nat) (v : Word) (s0 : State) => (fun (s : State) => (bit v 0 = true) ∧ s0.powered = true ∧ (s.lets m (reg wSYS 0x04C) ∧ s.sys.phase = .up ∧ s.sys.booted = false)) (s0.after 7))
      (0 : Nat) (1 : Word) (State.reset) := by
  repeat' apply And.intro
  all_goals first
    | decide +kernel
    | exact Or.inl rfl
    | exact fun _ _ => noPair (by decide +kernel) _
    | exact not_raised_of (by decide +kernel)
    | exact raised_of (by decide +kernel)

theorem wit_bootFuseAndWatchdog_1 :
    (fun (m : Nat) (v : Word) (s0 : State) => (fun (s : State) => s0.powered = true ∧ (s.lets m (reg wSYS 0x060) ∧ s.upd.svcPresent = true ∧ s.key.locked = false ∧
    (s.lifeCycle = .provisioned ∨ s.lifeCycle = .owned) ∧ (if bit v 31 then fld v 9 0 ≤ 551 else fld v 9 0 ≤ 27))) (s0.after 7))
      (0 : Nat) (0x80000000#32 + 551#32 : Word) ({ State.reset with upd := { State.reset.upd with svcPresent := true } }) := by
  repeat' apply And.intro
  all_goals first
    | decide +kernel
    | exact Or.inl rfl
    | exact fun _ _ => noPair (by decide +kernel) _
    | exact not_raised_of (by decide +kernel)
    | exact raised_of (by decide +kernel)

theorem wit_bootFuseAndWatchdog_2 :
    (fun (m : Nat) (v : Word) (s0 : State) => (fun (s : State) => (bit v 0 = true) ∧ s0.powered = true ∧ (s.lets m (reg wFLT 0x014) ∧ s.sys.wdtAt.isSome = true)) (s0.after 7))
      (0 : Nat) (1 : Word) (sysAt (fun u => { u with wdtAt := some 0 })) := by
  repeat' apply And.intro
  all_goals first
    | decide +kernel
    | exact Or.inl rfl
    | exact fun _ _ => noPair (by decide +kernel) _
    | exact not_raised_of (by decide +kernel)
    | exact raised_of (by decide +kernel)

theorem wit_supplyLossAndReturn_0 :
    (fun (s0 : State) => (fun (s : State) => s0.powered = true ∧ (s.sys.vin = true)) (s0.after 7))
       (State.reset) := by
  repeat' apply And.intro
  all_goals first
    | decide +kernel
    | exact Or.inl rfl
    | exact fun _ _ => noPair (by decide +kernel) _
    | exact not_raised_of (by decide +kernel)
    | exact raised_of (by decide +kernel)

theorem wit_supplyLossAndReturn_1 :
    (fun (s0 : State) => (fun (s : State) => s0.powered = true ∧ (s.sys.phase = .dying ∧ s.sys.vin = false)) (s0.after 7))
       (sysAt (fun u => { u with phase := .dying, vin := false })) := by
  repeat' apply And.intro
  all_goals first
    | decide +kernel
    | exact Or.inl rfl
    | exact fun _ _ => noPair (by decide +kernel) _
    | exact not_raised_of (by decide +kernel)
    | exact raised_of (by decide +kernel)

theorem wit_startsRun_0 :
    (fun (s0 : State) => (fun (s : State) => s0.powered = true ∧ (s.sys.phase = .up ∧ s.sys.booted = true ∧ s.sys.safe = false ∧ s.upd.sluice ≠ .trial ∧ s.sys.asserted ≠ [])) (s0.after 7))
       (sysAt (fun u => { u with booted := true, asserted := [12] })) := by
  repeat' apply And.intro
  all_goals first
    | decide +kernel
    | exact Or.inl rfl
    | exact fun _ _ => noPair (by decide +kernel) _
    | exact not_raised_of (by decide +kernel)
    | exact raised_of (by decide +kernel)

theorem wit_startsRun_2 :
    (fun (n r : Nat) (s0 : State) => (fun (s : State) => (n < 20 ∧ n ≠ wSYS ∧ n ≠ wTBS ∧ n ≠ wKEY) ∧ s0.powered = true ∧ (s.sys.phase = .up ∧ s.sys.bootAt = some r ∧ s.raw ≤ r + 400000 ∧ s.blockOn n = true)) (s0.after 7))
      (5 : Nat) (0 : Nat) (State.reset) := by
  repeat' apply And.intro
  all_goals first
    | decide +kernel
    | exact Or.inl rfl
    | exact fun _ _ => noPair (by decide +kernel) _
    | exact not_raised_of (by decide +kernel)
    | exact raised_of (by decide +kernel)

theorem wit_startsRun_3 :
    (fun (n r : Nat) (s0 : State) => (fun (s : State) => s0.powered = true ∧ (s.sys.phase = .up ∧ s.sys.bootAt = some r ∧ s.raw ≤ r + 400000)) (s0.after 7))
      (0x1E : Nat) (0 : Nat) (State.reset) := by
  repeat' apply And.intro
  all_goals first
    | decide +kernel
    | exact Or.inl rfl
    | exact fun _ _ => noPair (by decide +kernel) _
    | exact not_raised_of (by decide +kernel)
    | exact raised_of (by decide +kernel)

theorem wit_startsRun_4 :
    (fun (s0 : State) => (fun (s : State) => s0.powered = true ∧ (s.sys.phase = .clockHalt ∧ s.sys.retryAt + 10 * rawS ≤ s.raw)) (s0.after 7))
       ({ sysAt (fun u => { u with phase := .clockHalt }) with cyc := 4000000000 }) := by
  repeat' apply And.intro
  all_goals first
    | decide +kernel
    | exact Or.inl rfl
    | exact fun _ _ => noPair (by decide +kernel) _
    | exact not_raised_of (by decide +kernel)
    | exact raised_of (by decide +kernel)

theorem wit_startsRun_5 :
    (fun (s0 : State) => (fun (s : State) => s0.powered = true ∧ (s.sys.phase = .clockHalt ∧ s.sys.retryAt + 10 * rawS ≤ s.raw)) (s0.after 7))
       ({ sysAt (fun u => { u with phase := .clockHalt }) with cyc := 4000000000 }) := by
  repeat' apply And.intro
  all_goals first
    | decide +kernel
    | exact Or.inl rfl
    | exact fun _ _ => noPair (by decide +kernel) _
    | exact not_raised_of (by decide +kernel)
    | exact raised_of (by decide +kernel)

theorem wit_startsRun_6 :
    (fun (b : Bool) (s0 : State) => (fun (s : State) => s0.powered = true ∧ (s.sys.phase ≠ .clockHalt ∨ s.raw < s.sys.retryAt + 10 * rawS)) (s0.after 7))
      (true : Bool) (sysAt (fun u => { u with phase := .clockHalt })) := by
  repeat' apply And.intro
  all_goals first
    | decide +kernel
    | exact Or.inl rfl
    | exact fun _ _ => noPair (by decide +kernel) _
    | exact not_raised_of (by decide +kernel)
    | exact raised_of (by decide +kernel)

theorem wit_updateHostCommands_0 :
    (fun (m : Nat) (s0 : State) => (fun (s : State) => s0.powered = true ∧ (s.lets m (reg wUPD 0x010) ∧ s.upd.chunk = none ∧ s.sessionOpen = true ∧ s.upd.sessNet = true ∧
    s.hst tSESSION 0 = .running ∧ State.memSpan s.updSrc 512 = true ∧
    s.upd.sluice ≠ .armed ∧ s.upd.sluice ≠ .copying ∧ s.upd.sluice ≠ .trial)) (s0.after 7))
      (0 : Nat) (updAt (fun u => { u with sessNet := true })) := by
  repeat' apply And.intro
  all_goals first
    | decide +kernel
    | exact Or.inl rfl
    | exact fun _ _ => noPair (by decide +kernel) _
    | exact not_raised_of (by decide +kernel)
    | exact raised_of (by decide +kernel)

theorem wit_updateHostCommands_1 :
    (fun (m : Nat) (s0 : State) => (fun (s : State) => s0.powered = true ∧ (s.lets m (reg wUPD 0x010) ∧ s.upd.chunk = none ∧ s.sessionOpen = true ∧ s.upd.sessNet = true ∧
    s.hst tSESSION 0 = .running ∧ s.upd.sluice = .receiving ∧
    1 ≤ fld (s.cfg (reg wUPD 0x024)) 20 0 ∧ fld (s.cfg (reg wUPD 0x024)) 20 0 ≤ 2 ^ 20 ∧
    (s.cfg (reg wUPD 0x020)).toNat = s.upd.bytes ∧
    s.upd.bytes + fld (s.cfg (reg wUPD 0x024)) 20 0 ≤ manifestTotal s.upd.manifest ∧
    State.memSpan s.updSrc (fld (s.cfg (reg wUPD 0x024)) 20 0) = true)) (s0.after 7))
      (0 : Nat) (chunkReady) := by
  repeat' apply And.intro
  all_goals first
    | decide +kernel
    | exact Or.inl rfl
    | exact fun _ _ => noPair (by decide +kernel) _
    | exact not_raised_of (by decide +kernel)
    | exact raised_of (by decide +kernel)

theorem wit_updateHostCommands_2 :
    (fun (m : Nat) (s0 : State) => (fun (s : State) => s0.powered = true ∧ (s.lets m (reg wUPD 0x010) ∧ s.upd.chunk = none ∧ s.upd.sluice = .staged ∧
    (s.sessionOpen = false ∨ s.upd.sessNet = true))) (s0.after 7))
      (0 : Nat) (updAt (fun u => { u with sluice := .staged, sessNet := true })) := by
  repeat' apply And.intro
  all_goals first
    | decide +kernel
    | exact Or.inl rfl
    | exact fun _ _ => noPair (by decide +kernel) _
    | exact not_raised_of (by decide +kernel)
    | exact raised_of (by decide +kernel)

theorem wit_updateHostCommands_3 :
    (fun (m : Nat) (s0 : State) => (fun (s : State) => s0.powered = true ∧ (s.lets m (reg wUPD 0x010) ∧ s.upd.chunk = none ∧ s.upd.sluice = .trial)) (s0.after 7))
      (0 : Nat) (updAt (fun u => { u with sluice := .trial })) := by
  repeat' apply And.intro
  all_goals first
    | decide +kernel
    | exact Or.inl rfl
    | exact fun _ _ => noPair (by decide +kernel) _
    | exact not_raised_of (by decide +kernel)
    | exact raised_of (by decide +kernel)

theorem wit_updateHostCommands_4 :
    (fun (m : Nat) (s0 : State) => (fun (s : State) => s0.powered = true ∧ (s.lets m (reg wUPD 0x010) ∧ s.upd.chunk = none)) (s0.after 7))
      (0 : Nat) (updAt (fun u => { u with sluice := .receiving, sessNet := true })) := by
  repeat' apply And.intro
  all_goals first
    | decide +kernel
    | exact Or.inl rfl
    | exact fun _ _ => noPair (by decide +kernel) _
    | exact not_raised_of (by decide +kernel)
    | exact raised_of (by decide +kernel)

theorem wit_updateHostCommands_5 :
    (fun (m : Nat) (s0 : State) => (fun (s : State) => s0.powered = true ∧ (s.lets m (reg wUPD 0x010) ∧ s.upd.chunk = none ∧ s.upd.sluice = .trial)) (s0.after 7))
      (0 : Nat) (updAt (fun u => { u with sluice := .trial })) := by
  repeat' apply And.intro
  all_goals first
    | decide +kernel
    | exact Or.inl rfl
    | exact fun _ _ => noPair (by decide +kernel) _
    | exact not_raised_of (by decide +kernel)
    | exact raised_of (by decide +kernel)

theorem wit_updateProgress_0 :
    (fun (c : ChunkJob) (s0 : State) => (fun (s : State) => s0.powered = true ∧ (s.works wUPD ∧ s.upd.chunk = some c ∧ c.svcTag = none)) (s0.after 7))
      ({ offset := 0, data := [1, 2, 3, 4], svcTag := none } : ChunkJob) (updAt (fun u => { u with
        sluice := .receiving, manifest := oneManifest, chunk := some { offset := 0, data := [1, 2, 3, 4], svcTag := none } })) := by
  repeat' apply And.intro
  all_goals first
    | decide +kernel
    | exact Or.inl rfl
    | exact fun _ _ => noPair (by decide +kernel) _
    | exact not_raised_of (by decide +kernel)
    | exact raised_of (by decide +kernel)

theorem wit_updateProgress_1 :
    (fun (c : ChunkJob) (s0 : State) => (fun (s : State) => s0.powered = true ∧ (s.works wUPD ∧ s.upd.chunk = some c ∧ c.svcTag = none)) (s0.after 7))
      ({ offset := 0, data := [1, 2, 3, 4], svcTag := none } : ChunkJob) (updAt (fun u => { u with
        sluice := .receiving, manifest := oneManifest, chunk := some { offset := 0, data := [1, 2, 3, 4], svcTag := none } })) := by
  repeat' apply And.intro
  all_goals first
    | decide +kernel
    | exact Or.inl rfl
    | exact fun _ _ => noPair (by decide +kernel) _
    | exact not_raised_of (by decide +kernel)
    | exact raised_of (by decide +kernel)

theorem wit_updateProgress_2 :
    (fun (ioOk : Bool) (s0 : State) => (fun (s : State) => s0.powered = true ∧ (s.works wUPD ∧ s.upd.sluice = .verifying)) (s0.after 7))
      (true : Bool) (updAt (fun u => { u with sluice := .verifying })) := by
  repeat' apply And.intro
  all_goals first
    | decide +kernel
    | exact Or.inl rfl
    | exact fun _ _ => noPair (by decide +kernel) _
    | exact not_raised_of (by decide +kernel)
    | exact raised_of (by decide +kernel)

theorem wit_updateProgress_3 :
    (fun (s0 : State) => (fun (s : State) => s0.powered = true ∧ (s.works wUPD ∧ s.upd.sluice = .verifying ∧ 1 ≤ manifestCount s.upd.manifest)) (s0.after 7))
       (updAt (fun u => { u with sluice := .verifying, manifest := oneManifest })) := by
  repeat' apply And.intro
  all_goals first
    | decide +kernel
    | exact Or.inl rfl
    | exact fun _ _ => noPair (by decide +kernel) _
    | exact not_raised_of (by decide +kernel)
    | exact raised_of (by decide +kernel)

theorem wit_updateProgress_4 :
    (fun (host : Bool) (s0 : State) => (fun (s : State) => s0.powered = true ∧ (s.sys.phase = .copying ∧ s.upd.sluice = .copying ∧
    (if host then s.upd.copyHost < 8192 else s.upd.copyNor < 448))) (s0.after 7))
      (true : Bool) ({ updAt (fun u => { u with sluice := .copying }) with sys := { State.reset.sys with phase := .copying } }) := by
  repeat' apply And.intro
  all_goals first
    | decide +kernel
    | exact Or.inl rfl
    | exact fun _ _ => noPair (by decide +kernel) _
    | exact not_raised_of (by decide +kernel)
    | exact raised_of (by decide +kernel)

theorem wit_updateProgress_5 :
    (fun (host : Bool) (s0 : State) => (fun (s : State) => s0.powered = true ∧ (s.sys.phase = .copying)) (s0.after 7))
      (true : Bool) ({ updAt (fun u => { u with sluice := .copying }) with sys := { State.reset.sys with phase := .copying } }) := by
  repeat' apply And.intro
  all_goals first
    | decide +kernel
    | exact Or.inl rfl
    | exact fun _ _ => noPair (by decide +kernel) _
    | exact not_raised_of (by decide +kernel)
    | exact raised_of (by decide +kernel)

theorem wit_updateProgress_6 :
    (fun (ok : Bool) (s0 : State) => (fun (s : State) => s0.powered = true ∧ (s.sys.phase = .copying ∧ s.upd.sluice = .copying ∧ s.upd.copyNor = 448 ∧ s.upd.copyHost = 8192)) (s0.after 7))
      (true : Bool) ({ updAt (fun u => { u with sluice := .copying, copyNor := 448, copyHost := 8192 }) with
        sys := { State.reset.sys with phase := .copying } }) := by
  repeat' apply And.intro
  all_goals first
    | decide +kernel
    | exact Or.inl rfl
    | exact fun _ _ => noPair (by decide +kernel) _
    | exact not_raised_of (by decide +kernel)
    | exact raised_of (by decide +kernel)

theorem wit_updateProgress_7 :
    (fun (r : Nat) (s0 : State) => (fun (s : State) => s0.powered = true ∧ (s.works wUPD ∧ s.upd.sluice = .trial ∧ s.upd.trialAt = some r ∧ s.sys.phase = .up ∧
    r + manifestTrial s.upd.manifest * 200000000 ≤ s.raw)) (s0.after 7))
      (0 : Nat) ({ updAt (fun u => { u with sluice := .trial, trialAt := some 0 }) with cyc := 400000000 * 601 }) := by
  repeat' apply And.intro
  all_goals first
    | decide +kernel
    | exact Or.inl rfl
    | exact fun _ _ => noPair (by decide +kernel) _
    | exact not_raised_of (by decide +kernel)
    | exact raised_of (by decide +kernel)

theorem wit_servicePortSession_0 :
    (fun (tag : Nat) (m : List Byte) (s0 : State) => (fun (s : State) => (m.length = 512) ∧ s0.powered = true ∧ (s.svcUp = true ∧ s.sys.phase ≠ .tamperHalt ∧ s.sessionOpen = false ∧ s.upd.sluice = .idle)) (s0.after 7))
      (7 : Nat) (List.replicate 512 (0 : Byte) : List Byte) (portIdle) := by
  repeat' apply And.intro
  all_goals first
    | decide +kernel
    | exact Or.inl rfl
    | exact fun _ _ => noPair (by decide +kernel) _
    | exact not_raised_of (by decide +kernel)
    | exact raised_of (by decide +kernel)

theorem wit_servicePortSession_1 :
    (fun (tag off : Nat) (d : List Byte) (s0 : State) => (fun (s : State) => (d ≠ [] ∧ d.length ≤ 2 ^ 20) ∧ s0.powered = true ∧ (s.svcUp = true ∧ s.sys.phase ≠ .tamperHalt ∧ s.svcSession = true ∧ s.hst tSESSION 0 = .running ∧
    s.upd.chunk = none ∧ s.upd.sluice = .receiving ∧ s.upd.bytes = off ∧
    off + d.length ≤ manifestTotal s.upd.manifest)) (s0.after 7))
      (7 : Nat) (0 : Nat) ([1] : List Byte) (portAt (fun u => { u with sluice := .receiving, manifest := oneManifest })) := by
  repeat' apply And.intro
  all_goals first
    | decide +kernel
    | exact Or.inl rfl
    | exact fun _ _ => noPair (by decide +kernel) _
    | exact not_raised_of (by decide +kernel)
    | exact raised_of (by decide +kernel)

theorem wit_servicePortSession_2 :
    (fun (tag : Nat) (s0 : State) => (fun (s : State) => s0.powered = true ∧ (s.svcUp = true ∧ s.sys.phase ≠ .tamperHalt ∧ s.svcSession = true)) (s0.after 7))
      (7 : Nat) (portAt id) := by
  repeat' apply And.intro
  all_goals first
    | decide +kernel
    | exact Or.inl rfl
    | exact fun _ _ => noPair (by decide +kernel) _
    | exact not_raised_of (by decide +kernel)
    | exact raised_of (by decide +kernel)

theorem wit_servicePortSession_3 :
    (fun (tag : Nat) (s0 : State) => (fun (s : State) => s0.powered = true ∧ (s.svcUp = true ∧ s.sys.phase ≠ .tamperHalt ∧ s.svcSession = true ∧ s.upd.sluice = .staged)) (s0.after 7))
      (7 : Nat) (portAt (fun u => { u with sluice := .staged })) := by
  repeat' apply And.intro
  all_goals first
    | decide +kernel
    | exact Or.inl rfl
    | exact fun _ _ => noPair (by decide +kernel) _
    | exact not_raised_of (by decide +kernel)
    | exact raised_of (by decide +kernel)

theorem wit_servicePortSession_4 :
    (fun (tag : Nat) (s0 : State) => (fun (s : State) => s0.powered = true ∧ (s.svcUp = true ∧ s.sys.phase ≠ .tamperHalt ∧ s.upd.sluice = .trial)) (s0.after 7))
      (7 : Nat) (portAt (fun u => { u with sluice := .trial })) := by
  repeat' apply And.intro
  all_goals first
    | decide +kernel
    | exact Or.inl rfl
    | exact fun _ _ => noPair (by decide +kernel) _
    | exact not_raised_of (by decide +kernel)
    | exact raised_of (by decide +kernel)

theorem wit_servicePortSession_5 :
    (fun (tag : Nat) (s0 : State) => (fun (s : State) => s0.powered = true ∧ (s.svcUp = true ∧ s.sys.phase ≠ .tamperHalt ∧ s.upd.chunk = none)) (s0.after 7))
      (7 : Nat) (portAt (fun u => { u with sluice := .receiving })) := by
  repeat' apply And.intro
  all_goals first
    | decide +kernel
    | exact Or.inl rfl
    | exact fun _ _ => noPair (by decide +kernel) _
    | exact not_raised_of (by decide +kernel)
    | exact raised_of (by decide +kernel)

theorem wit_servicePortMessages_0 :
    (fun (tag : Nat) (s0 : State) => (fun (s : State) => s0.powered = true ∧ (s.svcUp = true ∧ s.sys.phase ≠ .tamperHalt)) (s0.after 7))
      (7 : Nat) (portIdle) := by
  repeat' apply And.intro
  all_goals first
    | decide +kernel
    | exact Or.inl rfl
    | exact fun _ _ => noPair (by decide +kernel) _
    | exact not_raised_of (by decide +kernel)
    | exact raised_of (by decide +kernel)

theorem wit_servicePortMessages_1 :
    (fun (tag : Nat) (s0 : State) => (fun (s : State) => s0.powered = true ∧ (s.svcUp = true ∧ s.sys.phase ≠ .tamperHalt)) (s0.after 7))
      (7 : Nat) (portIdle) := by
  repeat' apply And.intro
  all_goals first
    | decide +kernel
    | exact Or.inl rfl
    | exact fun _ _ => noPair (by decide +kernel) _
    | exact not_raised_of (by decide +kernel)
    | exact raised_of (by decide +kernel)

theorem wit_servicePortMessages_2 :
    (fun (tag : Nat) (msg : List Byte) (s0 : State) => (fun (s : State) => s0.powered = true ∧ (s.svcUp = true ∧ s.sys.phase ≠ .tamperHalt ∧ s.key.job = none)) (s0.after 7))
      (7 : Nat) (([] : List Byte) : List Byte) (portIdle) := by
  repeat' apply And.intro
  all_goals first
    | decide +kernel
    | exact Or.inl rfl
    | exact fun _ _ => noPair (by decide +kernel) _
    | exact not_raised_of (by decide +kernel)
    | exact raised_of (by decide +kernel)

theorem wit_servicePortMessages_3 :
    (fun (tag : Nat) (d : List Byte) (s0 : State) => (fun (s : State) => (d ≠ [] ∧ d.length ≤ 4096) ∧ s0.powered = true ∧ (s.svcUp = true ∧ s.sys.phase ≠ .tamperHalt ∧ s.hst tSESSION 1 = .running)) (s0.after 7))
      (7 : Nat) ([65] : List Byte) ({ portIdle with str := { State.reset.str with handles := [(65536 * 11 + 1, { st := .running, gen := 1, owner := 0 })] } }) := by
  repeat' apply And.intro
  all_goals first
    | decide +kernel
    | exact Or.inl rfl
    | exact fun _ _ => noPair (by decide +kernel) _
    | exact not_raised_of (by decide +kernel)
    | exact raised_of (by decide +kernel)

theorem wit_servicePortMessages_4 :
    (fun (d : List Byte) (s0 : State) => (fun (s : State) => (d ≠ []) ∧ s0.powered = true ∧ (s.works wUSB ∧ s.svcUp = true ∧ s.hst tSESSION 1 = .running)) (s0.after 7))
      ([65] : List Byte) ({ portIdle with str := { State.reset.str with handles := [(65536 * 11 + 1, { st := .running, gen := 1, owner := 0 })] } }) := by
  repeat' apply And.intro
  all_goals first
    | decide +kernel
    | exact Or.inl rfl
    | exact fun _ _ => noPair (by decide +kernel) _
    | exact not_raised_of (by decide +kernel)
    | exact raised_of (by decide +kernel)

theorem wit_servicePortMessages_5 :
    (fun (a : Bool) (s0 : State) => (fun (s : State) => s0.powered = true ∧ (s.upd.svcPresent ≠ a)) (s0.after 7))
      (true : Bool) (State.reset) := by
  repeat' apply And.intro
  all_goals first
    | decide +kernel
    | exact Or.inl rfl
    | exact fun _ _ => noPair (by decide +kernel) _
    | exact not_raised_of (by decide +kernel)
    | exact raised_of (by decide +kernel)

theorem wit_servicePortMessages_6 :
    (fun (c h : Bool) (s0 : State) => (fun (s : State) => s0.powered = true ∧ (s.usb.vbus = false ∧ fld (s.cfg (reg wUSB 0x004)) 0 0 = 1)) (s0.after 7))
      (true : Bool) (true : Bool) ({ portIdle with usb := State.reset.usb }) := by
  repeat' apply And.intro
  all_goals first
    | decide +kernel
    | exact Or.inl rfl
    | exact fun _ _ => noPair (by decide +kernel) _
    | exact not_raised_of (by decide +kernel)
    | exact raised_of (by decide +kernel)

theorem wit_servicePortMessages_7 :
    (fun (c h : Bool) (s0 : State) => (fun (s : State) => s0.powered = true ∧ (s.usb.vbus = true)) (s0.after 7))
      (true : Bool) (true : Bool) (portAt id) := by
  repeat' apply And.intro
  all_goals first
    | decide +kernel
    | exact Or.inl rfl
    | exact fun _ _ => noPair (by decide +kernel) _
    | exact not_raised_of (by decide +kernel)
    | exact raised_of (by decide +kernel)

theorem wit_busErrors_0 :
    (fun (m addr size v : Nat) (w : Bool) (s0 : State) => (fun (s : State) => (State.isRegSpace addr = true ∧ State.isSplit m addr size = false) ∧ s0.powered = true ∧ (s.errCause m addr size ≠ 0 ∧ ¬s.raised (reg wSYS 0) 0)) (s0.after 7))
      (7 : Nat) (0x40000010 : Nat) (4 : Nat) (1 : Nat) (true : Bool) (State.reset) := by
  repeat' apply And.intro
  all_goals first
    | decide +kernel
    | exact Or.inl rfl
    | exact fun _ _ => noPair (by decide +kernel) _
    | exact not_raised_of (by decide +kernel)
    | exact raised_of (by decide +kernel)

theorem wit_busErrors_1 :
    (fun (m addr size v : Nat) (w : Bool) (s0 : State) => (fun (s : State) => (State.isRegSpace addr = true ∧ State.isSplit m addr size = false) ∧ s0.powered = true ∧ (s.errCause m addr size ≠ 0 ∧ s.raised (reg wSYS 0) 0)) (s0.after 7))
      (0 : Nat) (0x40000011 : Nat) (4 : Nat) (1 : Nat) (false : Bool) (heldAt (reg wSYS 0)) := by
  repeat' apply And.intro
  all_goals first
    | decide +kernel
    | exact Or.inl rfl
    | exact fun _ _ => noPair (by decide +kernel) _
    | exact not_raised_of (by decide +kernel)
    | exact raised_of (by decide +kernel)

theorem wit_registerAccesses_0 :
    (fun (m addr v w : Nat) (i : RegInfo) (s0 : State) => (fun (s : State) => ([wSYS, wSCN, wWAV, wMST, wMTR, wACC, wLNE, wUPD, wFLT, wETH0, wETH1, wUSB, wPIN].contains w = true ∧ windowOf addr = some w ∧ upperHalf addr = false ∧ statMask (firstAddr addr) = 0 ∧ i.acc = .rw) ∧ s0.powered = true ∧ (s.lets m addr ∧ regInfo s.sys.fuses (firstAddr addr) = some i)) (s0.after 7))
      (0 : Nat) (0x40124004 : Nat) (0xFFFFFFFF : Nat) (wUSB : Nat) ({ mask := 1, reset := 1, acc := .rw, dom := .now } : RegInfo) ({ State.reset with regs := { State.reset.regs with cfg := bank [(0x40120004, 0)] } }) := by
  repeat' apply And.intro
  all_goals first
    | decide +kernel
    | exact Or.inl rfl
    | exact fun _ _ => noPair (by decide +kernel) _
    | exact not_raised_of (by decide +kernel)
    | exact raised_of (by decide +kernel)

theorem wit_registerAccesses_1 :
    (fun (m addr h : Nat) (s0 : State) => (fun (s : State) => (upperHalf addr = false) ∧ s0.powered = true ∧ (s.lets m addr ∧ s.latchHi (firstAddr addr) = some h)) (s0.after 7))
      (0 : Nat) (0x400A0030 : Nat) (0 : Nat) (State.reset) := by
  repeat' apply And.intro
  all_goals first
    | decide +kernel
    | exact Or.inl rfl
    | exact fun _ _ => noPair (by decide +kernel) _
    | exact not_raised_of (by decide +kernel)
    | exact raised_of (by decide +kernel)

theorem wit_registerAccesses_2 :
    (fun (addr : Nat) (h : Held) (r : List Held) (s0 : State) => (fun (s : State) => (statMask (firstAddr addr) ≠ 0) ∧ s0.powered = true ∧ ((s.statOf (firstAddr addr)).held = h :: r ∧
    (s.statOf (firstAddr addr)).last.map (· / 400) ≠ some (s.cyc / 400))) (s0.after 7))
      (0x40020000 : Nat) ({ bits := 8, cyc := 10 } : Held) (([] : List Held) : List Held) (heldAt 0x40020000) := by
  repeat' apply And.intro
  all_goals first
    | decide +kernel
    | exact Or.inl rfl
    | exact fun _ _ => noPair (by decide +kernel) _
    | exact not_raised_of (by decide +kernel)
    | exact raised_of (by decide +kernel)

theorem wit_registerAccesses_3 :
    (fun (addr : Nat) (s0 : State) => (fun (s : State) => s0.powered = true ∧ ((s.statOf (firstAddr addr)).last.map (· / 400) = some (s.cyc / 400))) (s0.after 7))
      (0x40020000 : Nat) ({ heldAt 0x40020000 with cyc := 20 }) := by
  repeat' apply And.intro
  all_goals first
    | decide +kernel
    | exact Or.inl rfl
    | exact fun _ _ => noPair (by decide +kernel) _
    | exact not_raised_of (by decide +kernel)
    | exact raised_of (by decide +kernel)

theorem wit_clearingBySequence_0 :
    (fun (m addr a : Nat) (v : Word) (s0 : State) => (fun (s : State) => (firstAddr addr = a ∧ upperHalf addr = false ∧ statMask a ≠ 0) ∧ s0.powered = true ∧ (s.lets m addr)) (s0.after 7))
      (0 : Nat) (0x40020000 : Nat) (0x40020000 : Nat) (0x07FFFFFF : Word) (heldAt 0x40020000) := by
  repeat' apply And.intro
  all_goals first
    | decide +kernel
    | exact Or.inl rfl
    | exact fun _ _ => noPair (by decide +kernel) _
    | exact not_raised_of (by decide +kernel)
    | exact raised_of (by decide +kernel)

theorem wit_guardedPairs_0 :
    (fun (m addr w : Nat) (v : Word) (s0 : State) => (fun (s : State) => (windowOf addr = some w ∧ guarded w = true ∧ upperHalf addr = false) ∧ s0.powered = true ∧ (s.lets m addr ∧ s.isWG (firstAddr addr) = true)) (s0.after 7))
      (0 : Nat) (0x400F1010 : Nat) (wFLT : Nat) (60 : Word) (State.reset) := by
  repeat' apply And.intro
  all_goals first
    | decide +kernel
    | exact Or.inl rfl
    | exact fun _ _ => noPair (by decide +kernel) _
    | exact not_raised_of (by decide +kernel)
    | exact raised_of (by decide +kernel)

theorem wit_guardedPairs_1 :
    (fun (m addr n : Nat) (p : GuardPair) (s0 : State) => (fun (s : State) => (windowOf addr = some wFLT ∧ upperHalf addr = true ∧ firstOff wFLT addr = 0x010 ∧ BitVec.ofNat 32 n = ~~~p.value ∧ p.off = 0x010) ∧ s0.powered = true ∧ (s.errCause m addr 4 = 0 ∧ s.openPair wFLT = some p ∧ s.cyc ≤ p.cyc + 32)) (s0.after 7))
      (1 : Nat) (0x400F9010 : Nat) ((~~~(60 : Word)).toNat : Nat) ({ win := wFLT, off := 0x010, value := 60, master := 0, cyc := 90, addr := reg wFLT 0x010 } : GuardPair) (pairOpen) := by
  repeat' apply And.intro
  all_goals first
    | decide +kernel
    | exact Or.inl rfl
    | exact fun _ _ => noPair (by decide +kernel) _
    | exact not_raised_of (by decide +kernel)
    | exact raised_of (by decide +kernel)

theorem wit_guardedPairs_2 :
    (fun (m addr n : Nat) (p : GuardPair) (s0 : State) => (fun (s : State) => (windowOf addr = some wFLT ∧ upperHalf addr = true ∧ BitVec.ofNat 32 n ≠ ~~~p.value) ∧ s0.powered = true ∧ (s.errCause m addr 4 = 0 ∧ s.openPair wFLT = some p ∧ s.cyc ≤ p.cyc + 32)) (s0.after 7))
      (1 : Nat) (0x400F9010 : Nat) (60 : Nat) ({ win := wFLT, off := 0x010, value := 60, master := 0, cyc := 90, addr := reg wFLT 0x010 } : GuardPair) (pairOpen) := by
  repeat' apply And.intro
  all_goals first
    | decide +kernel
    | exact Or.inl rfl
    | exact fun _ _ => noPair (by decide +kernel) _
    | exact not_raised_of (by decide +kernel)
    | exact raised_of (by decide +kernel)

theorem wit_guardedPairs_3 :
    (fun (m addr w : Nat) (v : Word) (s0 : State) => (fun (s : State) => (windowOf addr = some w ∧ guarded w = true ∧ upperHalf addr = true) ∧ s0.powered = true ∧ (s.errCause m addr 4 = 0 ∧ s.openPair w = none)) (s0.after 7))
      (0 : Nat) (0x400F9010 : Nat) (wFLT : Nat) (60 : Word) (State.reset) := by
  repeat' apply And.intro
  all_goals first
    | decide +kernel
    | exact Or.inl rfl
    | exact fun _ _ => noPair (by decide +kernel) _
    | exact not_raised_of (by decide +kernel)
    | exact raised_of (by decide +kernel)

theorem wit_guardedPairs_4 :
    (fun (w : Nat) (p : GuardPair) (s0 : State) => (fun (s : State) => (guarded w = true) ∧ s0.powered = true ∧ (s.openPair w = some p ∧ p.cyc + 32 < s.cyc)) (s0.after 7))
      (wFLT : Nat) ({ win := wFLT, off := 0x010, value := 60, master := 0, cyc := 90, addr := reg wFLT 0x010 } : GuardPair) ({ pairOpen with cyc := 123 }) := by
  repeat' apply And.intro
  all_goals first
    | decide +kernel
    | exact Or.inl rfl
    | exact fun _ _ => noPair (by decide +kernel) _
    | exact not_raised_of (by decide +kernel)
    | exact raised_of (by decide +kernel)

theorem wit_guardedPairs_5 :
    (fun (w : Nat) (p : GuardPair) (s0 : State) => (fun (s : State) => s0.powered = true ∧ (s.openPair w = some p ∧ s.cyc ≤ p.cyc + 32)) (s0.after 7))
      (wFLT : Nat) ({ win := wFLT, off := 0x010, value := 60, master := 0, cyc := 90, addr := reg wFLT 0x010 } : GuardPair) (pairOpen) := by
  repeat' apply And.intro
  all_goals first
    | decide +kernel
    | exact Or.inl rfl
    | exact fun _ _ => noPair (by decide +kernel) _
    | exact not_raised_of (by decide +kernel)
    | exact raised_of (by decide +kernel)

theorem wit_integrityErrors_0 :
    (fun (a : Nat) (s0 : State) => (fun (s : State) => (State.inSram a = true) ∧ s0.powered = true ∧ (s.works wFLT ∧ tabGetD 0 s.flt.rowCnt ((a - 0x20000000) / 1024) + 1 < max 1 (fld (s.cfg (reg wFLT 0x040)) 3 0))) (s0.after 7))
      (0x20000410 : Nat) (State.reset) := by
  repeat' apply And.intro
  all_goals first
    | decide +kernel
    | exact Or.inl rfl
    | exact fun _ _ => noPair (by decide +kernel) _
    | exact not_raised_of (by decide +kernel)
    | exact raised_of (by decide +kernel)

theorem wit_integrityErrors_1 :
    (fun (a : Nat) (s0 : State) => (fun (s : State) => (State.inSram a = true) ∧ s0.powered = true ∧ (s.works wFLT ∧ s.flt.rows.length < 184 ∧
    max 1 (fld (s.cfg (reg wFLT 0x040)) 3 0) ≤ tabGetD 0 s.flt.rowCnt ((a - 0x20000000) / 1024) + 1)) (s0.after 7))
      (0x20000410 : Nat) ({ State.reset with flt := { State.reset.flt with rowCnt := [(1, 2)] } }) := by
  repeat' apply And.intro
  all_goals first
    | decide +kernel
    | exact Or.inl rfl
    | exact fun _ _ => noPair (by decide +kernel) _
    | exact not_raised_of (by decide +kernel)
    | exact raised_of (by decide +kernel)

theorem wit_integrityErrors_2 :
    (fun (a : Nat) (s0 : State) => (fun (s : State) => (a < 0x1000000) ∧ s0.powered = true ∧ (s.works wFLT ∧ tabGetD 0 s.flt.secCnt (a / 4096) + 1 < max 1 (fld (s.cfg (reg wFLT 0x040)) 3 0))) (s0.after 7))
      (0x1005 : Nat) (State.reset) := by
  repeat' apply And.intro
  all_goals first
    | decide +kernel
    | exact Or.inl rfl
    | exact fun _ _ => noPair (by decide +kernel) _
    | exact not_raised_of (by decide +kernel)
    | exact raised_of (by decide +kernel)

theorem wit_integrityErrors_3 :
    (fun (m : Bool) (a : Nat) (s0 : State) => (fun (_ : State) => s0.powered = true ∧ (True)) (s0.after 7))
      (true : Bool) (0x1005 : Nat) (State.reset) := by
  repeat' apply And.intro
  all_goals first
    | decide +kernel
    | exact Or.inl rfl
    | exact fun _ _ => noPair (by decide +kernel) _
    | exact not_raised_of (by decide +kernel)
    | exact raised_of (by decide +kernel)

theorem wit_integrityErrors_4 :
    (fun (a : Nat) (scr : Bool) (s0 : State) => (fun (s : State) => (State.inSram a = true) ∧ s0.powered = true ∧ (s.works wFLT)) (s0.after 7))
      (0x20000410 : Nat) (true : Bool) (State.reset) := by
  repeat' apply And.intro
  all_goals first
    | decide +kernel
    | exact Or.inl rfl
    | exact fun _ _ => noPair (by decide +kernel) _
    | exact not_raised_of (by decide +kernel)
    | exact raised_of (by decide +kernel)

theorem wit_integrityErrors_5 :
    (fun (a : Nat) (u scr : Bool) (s0 : State) => (fun (s : State) => (a < 0x1000000) ∧ s0.powered = true ∧ (s.works wFLT ∧ s.flt.copying.contains (a / 4096) = false ∧ s.flt.sectors.length + s.flt.copying.length < 64)) (s0.after 7))
      (0x5000 : Nat) (true : Bool) (false : Bool) (State.reset) := by
  repeat' apply And.intro
  all_goals first
    | decide +kernel
    | exact Or.inl rfl
    | exact fun _ _ => noPair (by decide +kernel) _
    | exact not_raised_of (by decide +kernel)
    | exact raised_of (by decide +kernel)

theorem wit_integrityErrors_6 :
    (fun (sec : Nat) (r : List Nat) (s0 : State) => (fun (s : State) => s0.powered = true ∧ (s.works wFLT ∧ s.flt.copying = sec :: r)) (s0.after 7))
      (5 : Nat) ([6] : List Nat) ({ State.reset with flt := { State.reset.flt with copying := [5, 6] } }) := by
  repeat' apply And.intro
  all_goals first
    | decide +kernel
    | exact Or.inl rfl
    | exact fun _ _ => noPair (by decide +kernel) _
    | exact not_raised_of (by decide +kernel)
    | exact raised_of (by decide +kernel)

theorem wit_monitorsAssertResets_0 :
    (fun (w : Nat) (s0 : State) => (fun (s : State) => ([wSYS, wSCN, wWAV, wLNE, wQDM, wTBS, wKEY].contains w = true) ∧ s0.powered = true ∧ (s.works wFLT)) (s0.after 7))
      (wSCN : Nat) (State.reset) := by
  repeat' apply And.intro
  all_goals first
    | decide +kernel
    | exact Or.inl rfl
    | exact fun _ _ => noPair (by decide +kernel) _
    | exact not_raised_of (by decide +kernel)
    | exact raised_of (by decide +kernel)

theorem wit_monitorsAssertResets_1 :
    (fun (n : Nat) (s0 : State) => (fun (_ : State) => (n ≤ 5) ∧ s0.powered = true ∧ (True)) (s0.after 7))
      (3 : Nat) (State.reset) := by
  repeat' apply And.intro
  all_goals first
    | decide +kernel
    | exact Or.inl rfl
    | exact fun _ _ => noPair (by decide +kernel) _
    | exact not_raised_of (by decide +kernel)
    | exact raised_of (by decide +kernel)

theorem wit_monitorsAssertResets_2 :
    (fun (s0 : State) => (fun (s : State) => s0.powered = true ∧ (s.blockOn wUSB = true)) (s0.after 7))
       (State.reset) := by
  repeat' apply And.intro
  all_goals first
    | decide +kernel
    | exact Or.inl rfl
    | exact fun _ _ => noPair (by decide +kernel) _
    | exact not_raised_of (by decide +kernel)
    | exact raised_of (by decide +kernel)

theorem wit_monitorsAssertResets_3 :
    (fun (c : Nat) (s0 : State) => (fun (s : State) => s0.powered = true ∧ (s.works wKEY)) (s0.after 7))
      (0 : Nat) (State.reset) := by
  repeat' apply And.intro
  all_goals first
    | decide +kernel
    | exact Or.inl rfl
    | exact fun _ _ => noPair (by decide +kernel) _
    | exact not_raised_of (by decide +kernel)
    | exact raised_of (by decide +kernel)

theorem wit_monitorsAssertResets_4 :
    (fun (a p : Nat) (v : Word) (x : Bool) (s0 : State) => (fun (s : State) => ((p % 16 ≠ parityOf v)) ∧ s0.powered = true ∧ (s.works wFLT ∧ s.isConfig (firstAddr a) = true ∧ (windowOf a).any s.blockOn = true ∧ s.scanned (s.storedKey (firstAddr a)) = true)) (s0.after 7))
      (0x40120004 : Nat) (1 : Nat) (3 : Word) (false : Bool) (State.reset) := by
  repeat' apply And.intro
  all_goals first
    | decide +kernel
    | exact Or.inl rfl
    | exact fun _ _ => noPair (by decide +kernel) _
    | exact not_raised_of (by decide +kernel)
    | exact raised_of (by decide +kernel)

theorem wit_monitorsAssertResets_5 :
    (fun (a p : Nat) (v : Word) (x : Bool) (s0 : State) => (fun (s : State) => s0.powered = true ∧ (s.works wFLT ∧ s.scanFound = [] ∧ bit (s.cfg (reg wFLT 0x080)) 31 = false)) (s0.after 7))
      (0x40120004 : Nat) (1 : Nat) (3 : Word) (false : Bool) (State.reset) := by
  repeat' apply And.intro
  all_goals first
    | decide +kernel
    | exact Or.inl rfl
    | exact fun _ _ => noPair (by decide +kernel) _
    | exact not_raised_of (by decide +kernel)
    | exact raised_of (by decide +kernel)

theorem wit_monitorsAssertResets_6 :
    (fun (s0 : State) => (fun (s : State) => s0.powered = true ∧ (s.works wFLT ∧ s.scanFound = [] ∧ bit (s.cfg (reg wFLT 0x080)) 31 = false)) (s0.after 7))
       (State.reset) := by
  repeat' apply And.intro
  all_goals first
    | decide +kernel
    | exact Or.inl rfl
    | exact fun _ _ => noPair (by decide +kernel) _
    | exact not_raised_of (by decide +kernel)
    | exact raised_of (by decide +kernel)

theorem wit_vergeAndParityTest_0 :
    (fun (m : Nat) (v : Word) (s0 : State) => (fun (s : State) => s0.powered = true ∧ (s.lets m (reg wFLT 0x080))) (s0.after 7))
      (0 : Nat) (0x80120004 : Word) (State.reset) := by
  repeat' apply And.intro
  all_goals first
    | decide +kernel
    | exact Or.inl rfl
    | exact fun _ _ => noPair (by decide +kernel) _
    | exact not_raised_of (by decide +kernel)
    | exact raised_of (by decide +kernel)

theorem wit_vergeAndParityTest_1 :
    (fun (w off : Nat) (s0 : State) => (fun (s : State) => s0.powered = true ∧ (s.works wFLT ∧ bit (s.cfg (reg wFLT 0x080)) 31 = true ∧ fld (s.cfg (reg wFLT 0x080)) 23 16 = w ∧
    fld (s.cfg (reg wFLT 0x080)) 15 0 = off ∧ s.isConfig (reg w off) = true ∧ s.blockOn w = true ∧ s.scanFinds false = [] ∧ s.scanFinds true = [])) (s0.after 7))
      (wUSB : Nat) (4 : Nat) ({ State.reset with regs := { State.reset.regs with cfg := bank [(0x400F0080, 0x80120004)] } }) := by
  repeat' apply And.intro
  all_goals first
    | decide +kernel
    | exact Or.inl rfl
    | exact fun _ _ => noPair (by decide +kernel) _
    | exact not_raised_of (by decide +kernel)
    | exact raised_of (by decide +kernel)

theorem wit_vergeAndParityTest_2 :
    (fun (w off : Nat) (s0 : State) => (fun (s : State) => s0.powered = true ∧ (s.works wFLT ∧ bit (s.cfg (reg wFLT 0x080)) 31 = true ∧ fld (s.cfg (reg wFLT 0x080)) 23 16 = w ∧
    fld (s.cfg (reg wFLT 0x080)) 15 0 = off ∧ s.isConfig (reg w off) = false ∧ s.scanFinds false = [] ∧ s.scanFinds true = [])) (s0.after 7))
      (wUSB : Nat) (5 : Nat) ({ State.reset with regs := { State.reset.regs with cfg := bank [(0x400F0080, 0x80120005)] } }) := by
  repeat' apply And.intro
  all_goals first
    | decide +kernel
    | exact Or.inl rfl
    | exact fun _ _ => noPair (by decide +kernel) _
    | exact not_raised_of (by decide +kernel)
    | exact raised_of (by decide +kernel)

theorem wit_vergeAndParityTest_3 :
    (fun (m k i : Nat) (s0 : State) => (fun (s : State) => (k ≤ 2 ∧ i < State.vergeSize k) ∧ s0.powered = true ∧ (s.lets m (reg wFLT 0x054) ∧ s.vergeBusy = false ∧ s.retired k i = true)) (s0.after 7))
      (0 : Nat) (0 : Nat) (9 : Nat) ({ State.reset with flt := { State.reset.flt with sinkRet := [9] } }) := by
  repeat' apply And.intro
  all_goals first
    | decide +kernel
    | exact Or.inl rfl
    | exact fun _ _ => noPair (by decide +kernel) _
    | exact not_raised_of (by decide +kernel)
    | exact raised_of (by decide +kernel)

theorem wit_vergeAndParityTest_4 :
    (fun (m i : Nat) (s0 : State) => (fun (s : State) => (i < 56) ∧ s0.powered = true ∧ (s.lets m (reg wFLT 0x054) ∧ s.vergeBusy = false ∧ s.flt.sinkSub.contains i = true)) (s0.after 7))
      (0 : Nat) (9 : Nat) ({ State.reset with flt := { State.reset.flt with sinkSub := [9] } }) := by
  repeat' apply And.intro
  all_goals first
    | decide +kernel
    | exact Or.inl rfl
    | exact fun _ _ => noPair (by decide +kernel) _
    | exact not_raised_of (by decide +kernel)
    | exact raised_of (by decide +kernel)

theorem wit_recorder_0 :
    (fun (e : RecEntry) (r : List RecEntry) (s0 : State) => (fun (s : State) => s0.powered = true ∧ (s.works wREC ∧ s.evr.weir = e :: r ∧ s.evr.cfg.isSome = true ∧ s.evr.writing = none ∧ 1 ≤ s.creditNow)) (s0.after 7))
      (oneEntry : RecEntry) (([] : List RecEntry) : List RecEntry) (recAt [oneEntry] none) := by
  repeat' apply And.intro
  all_goals first
    | decide +kernel
    | exact Or.inl rfl
    | exact fun _ _ => noPair (by decide +kernel) _
    | exact not_raised_of (by decide +kernel)
    | exact raised_of (by decide +kernel)

theorem wit_recorder_1 :
    (fun (e : RecEntry) (s0 : State) => (fun (s : State) => s0.powered = true ∧ (s.works wREC ∧ s.evr.writing = some e)) (s0.after 7))
      (oneEntry : RecEntry) (recAt [] (some oneEntry)) := by
  repeat' apply And.intro
  all_goals first
    | decide +kernel
    | exact Or.inl rfl
    | exact fun _ _ => noPair (by decide +kernel) _
    | exact not_raised_of (by decide +kernel)
    | exact raised_of (by decide +kernel)

theorem wit_recorder_2 :
    (fun (n : Nat) (g : Gap) (r : List (Nat × Gap)) (s0 : State) => (fun (s : State) => s0.powered = true ∧ (s.works wREC ∧ s.evr.weir = [] ∧ s.evr.gaps = (n, g) :: r ∧ s.evr.cfg.isSome = true ∧ s.evr.writing = none ∧
    1 ≤ s.creditNow)) (s0.after 7))
      (3 : Nat) ({ lost := 2, firstRaw := 5, lastRaw := 6, firstEpoch := 0, lastEpoch := 0 } : Gap) (([] : List (Nat × Gap)) : List (Nat × Gap)) ({ recAt [] none with evr := { (recAt [] none).evr with gaps := [(3, { lost := 2, firstRaw := 5, lastRaw := 6, firstEpoch := 0, lastEpoch := 0 })] } }) := by
  repeat' apply And.intro
  all_goals first
    | decide +kernel
    | exact Or.inl rfl
    | exact fun _ _ => noPair (by decide +kernel) _
    | exact not_raised_of (by decide +kernel)
    | exact raised_of (by decide +kernel)

theorem wit_recorder_3 :
    (fun (m n : Nat) (s0 : State) => (fun (s : State) => (n < 64) ∧ s0.powered = true ∧ (s.lets m (reg wREC 0x014) ∧ s.recCfg.snapshot = false ∧ (s.weirRoom n).isSome = true)) (s0.after 7))
      (0 : Nat) (5 : Nat) (recAt [] none) := by
  repeat' apply And.intro
  all_goals first
    | decide +kernel
    | exact Or.inl rfl
    | exact fun _ _ => noPair (by decide +kernel) _
    | exact not_raised_of (by decide +kernel)
    | exact raised_of (by decide +kernel)

theorem wit_recorder_4 :
    (fun (m n : Nat) (c : ImgSource) (s0 : State) => (fun (s : State) => (n < 64) ∧ s0.powered = true ∧ (s.lets m (reg wREC 0x014) ∧ s.recSource n = some c ∧ (∀ d ∈ s.recCfg.sources, d.num = n → d.trig = 1) ∧ s.hst tRECSRC n = .running ∧
    s.recCfg.snapshot = false ∧ (s.tally n).count < 2 ^ 32 - 1)) (s0.after 7))
      (0 : Nat) (5 : Nat) (softSource : ImgSource) (recAt [] none) := by
  repeat' apply And.intro
  all_goals first
    | decide +kernel
    | exact Or.inl rfl
    | exact fun _ _ => noPair (by decide +kernel) _
    | exact not_raised_of (by decide +kernel)
    | exact raised_of (by decide +kernel)

theorem wit_recorder_5 :
    (fun (m : Nat) (v : Word) (s0 : State) => (fun (s : State) => s0.powered = true ∧ (s.lets m (reg wREC 0x024))) (s0.after 7))
      (0 : Nat) (0x80000005 : Word) (recAt [] none) := by
  repeat' apply And.intro
  all_goals first
    | decide +kernel
    | exact Or.inl rfl
    | exact fun _ _ => noPair (by decide +kernel) _
    | exact not_raised_of (by decide +kernel)
    | exact raised_of (by decide +kernel)

theorem wit_keyUpdateMessages_0 :
    (fun (c : Nat → Nat → Instr) (m : Nat) (s0 : State) => (fun (s : State) => (c = .kumWrite ∨ c = .kumErase ∨ c = .kumLifecycle ∨ c = .kumClearTamper) ∧ s0.powered = true ∧ (s.lets m (reg wKEY 0x00C) ∧ s.key.job = none)) (s0.after 7))
      (Instr.kumWrite : Nat → Nat → Instr) (0 : Nat) (State.reset) := by
  repeat' apply And.intro
  all_goals first
    | decide +kernel
    | exact Or.inl rfl
    | exact fun _ _ => noPair (by decide +kernel) _
    | exact not_raised_of (by decide +kernel)
    | exact raised_of (by decide +kernel)

theorem wit_keyUpdateMessages_1 :
    (fun (j : KeyJob) (x : Store) (s0 : State) => (fun (s : State) => s0.powered = true ∧ (s.works wKEY ∧ s.key.job = some j ∧ j.commit = some x ∧ j.clearTamper = false)) (s0.after 7))
      (storeJob false : KeyJob) (ownedStore : Store) (keyAt (fun k => { k with job := some (storeJob false) })) := by
  repeat' apply And.intro
  all_goals first
    | decide +kernel
    | exact Or.inl rfl
    | exact fun _ _ => noPair (by decide +kernel) _
    | exact not_raised_of (by decide +kernel)
    | exact raised_of (by decide +kernel)

theorem wit_keyUpdateMessages_2 :
    (fun (j : KeyJob) (x : Store) (s0 : State) => (fun (s : State) => s0.powered = true ∧ (s.works wKEY ∧ s.key.job = some j ∧ j.commit = some x ∧ j.clearTamper = true ∧ j.spend = false)) (s0.after 7))
      (storeJob true : KeyJob) (ownedStore : Store) (keyAt (fun k => { k with job := some (storeJob true), latched := [2], locked := true })) := by
  repeat' apply And.intro
  all_goals first
    | decide +kernel
    | exact Or.inl rfl
    | exact fun _ _ => noPair (by decide +kernel) _
    | exact not_raised_of (by decide +kernel)
    | exact raised_of (by decide +kernel)

theorem wit_keySlotCommands_0 :
    (fun (m n : Nat) (x : Slot) (s0 : State) => (fun (s : State) => (n < 32) ∧ s0.powered = true ∧ (s.lets m (reg wKEY 0x00C) ∧ s.key.job = none ∧ s.key.locked = false ∧ s.keyLen ≤ 512 ∧
    s.keySlot n = some x ∧ (roleUsages n).contains .lane = true ∧ bit x.policy 26 = true)) (s0.after 7))
      (0 : Nat) (7 : Nat) (allSlot : Slot) (keySlotAt 7 0) := by
  repeat' apply And.intro
  all_goals first
    | decide +kernel
    | exact Or.inl rfl
    | exact fun _ _ => noPair (by decide +kernel) _
    | exact not_raised_of (by decide +kernel)
    | exact raised_of (by decide +kernel)

theorem wit_keySlotCommands_1 :
    (fun (m n : Nat) (x : Slot) (s0 : State) => (fun (s : State) => (n < 32) ∧ s0.powered = true ∧ (s.lets m (reg wKEY 0x00C) ∧ s.key.job = none ∧ s.key.locked = false ∧ (s.keyLen = 16 ∨ s.keyLen = 32) ∧
    s.keySlot n = some x ∧ (roleUsages n).contains .wrap = true ∧ bit x.policy 25 = true)) (s0.after 7))
      (0 : Nat) (6 : Nat) (allSlot : Slot) (keySlotAt 6 16) := by
  repeat' apply And.intro
  all_goals first
    | decide +kernel
    | exact Or.inl rfl
    | exact fun _ _ => noPair (by decide +kernel) _
    | exact not_raised_of (by decide +kernel)
    | exact raised_of (by decide +kernel)

theorem wit_keySlotCommands_2 :
    (fun (m n : Nat) (x : Slot) (s0 : State) => (fun (s : State) => (n < 32) ∧ s0.powered = true ∧ (s.lets m (reg wKEY 0x00C) ∧ s.key.job = none ∧ s.key.locked = false ∧ s.keyLen = 96 ∧
    s.keySlot n = some x ∧ (roleUsages n).contains .verify = true ∧ bit x.policy 21 = true)) (s0.after 7))
      (0 : Nat) (9 : Nat) (allSlot : Slot) (keySlotAt 9 96) := by
  repeat' apply And.intro
  all_goals first
    | decide +kernel
    | exact Or.inl rfl
    | exact fun _ _ => noPair (by decide +kernel) _
    | exact not_raised_of (by decide +kernel)
    | exact raised_of (by decide +kernel)

theorem wit_keySlotCommands_3 :
    (fun (m n : Nat) (x : Slot) (s0 : State) => (fun (s : State) => (n < 32) ∧ s0.powered = true ∧ (s.lets m (reg wKEY 0x00C) ∧ s.key.job = none ∧ s.key.locked = false ∧ s.keyLen = 32 ∧
    s.keySlot n = some x ∧ (roleUsages n).contains .sign = true ∧ bit x.policy 22 = true)) (s0.after 7))
      (0 : Nat) (9 : Nat) (allSlot : Slot) (keySlotAt 9 32) := by
  repeat' apply And.intro
  all_goals first
    | decide +kernel
    | exact Or.inl rfl
    | exact fun _ _ => noPair (by decide +kernel) _
    | exact not_raised_of (by decide +kernel)
    | exact raised_of (by decide +kernel)

theorem wit_keySlotCommands_4 :
    (fun (m n : Nat) (x : Slot) (s0 : State) => (fun (s : State) => (n < 32) ∧ s0.powered = true ∧ (s.lets m (reg wKEY 0x00C) ∧ s.key.job = none ∧ s.key.locked = false ∧ s.keyLen = 16 ∧
    s.keySlot n = some x ∧ (roleUsages n).contains .hostwrite = true ∧ bit x.policy 27 = true)) (s0.after 7))
      (0 : Nat) (9 : Nat) (allSlot : Slot) (keySlotAt 9 16) := by
  repeat' apply And.intro
  all_goals first
    | decide +kernel
    | exact Or.inl rfl
    | exact fun _ _ => noPair (by decide +kernel) _
    | exact not_raised_of (by decide +kernel)
    | exact raised_of (by decide +kernel)

theorem wit_keyStreamsAndAttest_0 :
    (fun (m : Nat) (s0 : State) => (fun (s : State) => s0.powered = true ∧ (s.lets m (reg wKEY 0x00C) ∧ s.key.job = none ∧ s.keyLen ≤ 512)) (s0.after 7))
      (0 : Nat) (State.reset) := by
  repeat' apply And.intro
  all_goals first
    | decide +kernel
    | exact Or.inl rfl
    | exact fun _ _ => noPair (by decide +kernel) _
    | exact not_raised_of (by decide +kernel)
    | exact raised_of (by decide +kernel)

theorem wit_keyStreamsAndAttest_1 :
    (fun (m : Nat) (s0 : State) => (fun (s : State) => s0.powered = true ∧ (s.lets m (reg wKEY 0x00C) ∧ s.key.job = none ∧ s.keyLen ≤ 512)) (s0.after 7))
      (0 : Nat) (State.reset) := by
  repeat' apply And.intro
  all_goals first
    | decide +kernel
    | exact Or.inl rfl
    | exact fun _ _ => noPair (by decide +kernel) _
    | exact not_raised_of (by decide +kernel)
    | exact raised_of (by decide +kernel)

theorem wit_keyStreamsAndAttest_2 :
    (fun (m : Nat) (b : List Byte) (s0 : State) => (fun (s : State) => s0.powered = true ∧ (s.lets m (reg wKEY 0x00C) ∧ s.key.job = none ∧ s.keyLen ≤ 512 ∧ s.key.stream = some (4, 0, b))) (s0.after 7))
      (0 : Nat) ([1] : List Byte) (keyAt (fun k => { k with stream := some (4, 0, [1]) })) := by
  repeat' apply And.intro
  all_goals first
    | decide +kernel
    | exact Or.inl rfl
    | exact fun _ _ => noPair (by decide +kernel) _
    | exact not_raised_of (by decide +kernel)
    | exact raised_of (by decide +kernel)

theorem wit_keyStreamsAndAttest_3 :
    (fun (m : Nat) (b : List Byte) (s0 : State) => (fun (s : State) => s0.powered = true ∧ (s.lets m (reg wKEY 0x00C) ∧ s.key.job = none ∧ s.keyLen ≤ 512 ∧ s.key.stream = some (4, 0, b))) (s0.after 7))
      (0 : Nat) ([1] : List Byte) (keyAt (fun k => { k with stream := some (4, 0, [1]) })) := by
  repeat' apply And.intro
  all_goals first
    | decide +kernel
    | exact Or.inl rfl
    | exact fun _ _ => noPair (by decide +kernel) _
    | exact not_raised_of (by decide +kernel)
    | exact raised_of (by decide +kernel)

theorem wit_keyStreamsAndAttest_4 :
    (fun (m n : Nat) (x : Slot) (s0 : State) => (fun (s : State) => (n < 32) ∧ s0.powered = true ∧ (s.lets m (reg wKEY 0x00C) ∧ s.key.job = none ∧ s.key.locked = false ∧ s.keyLen ≤ 512 ∧
    s.keySlot n = some x ∧ (roleUsages n).contains .hmac = true ∧ bit x.policy 23 = true)) (s0.after 7))
      (0 : Nat) (9 : Nat) (allSlot : Slot) (keySlotAt 9 0) := by
  repeat' apply And.intro
  all_goals first
    | decide +kernel
    | exact Or.inl rfl
    | exact fun _ _ => noPair (by decide +kernel) _
    | exact not_raised_of (by decide +kernel)
    | exact raised_of (by decide +kernel)

theorem wit_keyStreamsAndAttest_5 :
    (fun (m n k : Nat) (x : Slot) (s0 : State) => (fun (s : State) => (n < 32 ∧ 2 ≤ k ∧ k ≤ 3) ∧ s0.powered = true ∧ (s.lets m (reg wKEY 0x00C) ∧ s.key.job = none ∧ s.key.locked = false ∧ s.keyLen ≤ 512 ∧
    s.keySlot n = some x ∧ (roleUsages n).contains .hmac = true ∧ bit x.policy 23 = true ∧ s.key.stream = none)) (s0.after 7))
      (0 : Nat) (9 : Nat) (2 : Nat) (allSlot : Slot) (keySlotAt 9 0) := by
  repeat' apply And.intro
  all_goals first
    | decide +kernel
    | exact Or.inl rfl
    | exact fun _ _ => noPair (by decide +kernel) _
    | exact not_raised_of (by decide +kernel)
    | exact raised_of (by decide +kernel)

theorem wit_keyStreamsAndAttest_6 :
    (fun (m : Nat) (x : Slot) (s0 : State) => (fun (s : State) => s0.powered = true ∧ (s.lets m (reg wKEY 0x00C) ∧ s.key.job = none ∧ s.key.locked = false ∧ s.keyLen = 32 ∧ s.keySlot 0 = some x)) (s0.after 7))
      (0 : Nat) (allSlot : Slot) (keySlotAt 0 32) := by
  repeat' apply And.intro
  all_goals first
    | decide +kernel
    | exact Or.inl rfl
    | exact fun _ _ => noPair (by decide +kernel) _
    | exact not_raised_of (by decide +kernel)
    | exact raised_of (by decide +kernel)

theorem wit_keyStreamsAndAttest_7 :
    (fun (m : Nat) (s0 : State) => (fun (s : State) => s0.powered = true ∧ (s.lets m (reg wKEY 0x00C) ∧ s.key.job = none ∧ 1 ≤ s.keyLen ∧ s.keyLen ≤ 512)) (s0.after 7))
      (0 : Nat) (keySlotAt 9 16) := by
  repeat' apply And.intro
  all_goals first
    | decide +kernel
    | exact Or.inl rfl
    | exact fun _ _ => noPair (by decide +kernel) _
    | exact not_raised_of (by decide +kernel)
    | exact raised_of (by decide +kernel)

theorem wit_keyCompletionAndTamper_0 :
    (fun (j : KeyJob) (s0 : State) => (fun (s : State) => s0.powered = true ∧ (s.works wKEY ∧ s.key.job = some j ∧ j.commit = none ∧ j.svcTag = none ∧ j.clearTamper = false ∧ j.op ≠ 2)) (s0.after 7))
      (plainJob 9 0 0 [1, 2, 3] : KeyJob) (keyAt (fun k => { k with job := some (plainJob 9 0 0 [1, 2, 3]) })) := by
  repeat' apply And.intro
  all_goals first
    | decide +kernel
    | exact Or.inl rfl
    | exact fun _ _ => noPair (by decide +kernel) _
    | exact not_raised_of (by decide +kernel)
    | exact raised_of (by decide +kernel)

theorem wit_keyCompletionAndTamper_1 :
    (fun (n : Nat) (x : Slot) (s0 : State) => (fun (s : State) => s0.powered = true ∧ (s.works wKEY ∧ s.key.job = some (plainJob 2 n 0 []) ∧ s.keySlot n = some x)) (s0.after 7))
      (7 : Nat) (allSlot : Slot) ({ keySlotAt 7 0 with key := { (keySlotAt 7 0).key with job := some (plainJob 2 7 0 []) } }) := by
  repeat' apply And.intro
  all_goals first
    | decide +kernel
    | exact Or.inl rfl
    | exact fun _ _ => noPair (by decide +kernel) _
    | exact not_raised_of (by decide +kernel)
    | exact raised_of (by decide +kernel)

theorem wit_keyCompletionAndTamper_2 :
    (fun (m : Nat) (v : Word) (s0 : State) => (fun (s : State) => s0.powered = true ∧ (s.lets m (reg wKEY 0x01C) ∧ s.key.store.tpolWritten = false)) (s0.after 7))
      (0 : Nat) (0x3FFF : Word) (State.reset) := by
  repeat' apply And.intro
  all_goals first
    | decide +kernel
    | exact Or.inl rfl
    | exact fun _ _ => noPair (by decide +kernel) _
    | exact not_raised_of (by decide +kernel)
    | exact raised_of (by decide +kernel)

theorem wit_keyCompletionAndTamper_3 :
    (fun (m : Nat) (v : Word) (s0 : State) => (fun (s : State) => s0.powered = true ∧ (s.lets m (reg wKEY 0x01C) ∧ s.key.store.tpolWritten = true)) (s0.after 7))
      (0 : Nat) (0x3FFF : Word) (keyAt (fun k => { k with store := { k.store with tpolWritten := true } })) := by
  repeat' apply And.intro
  all_goals first
    | decide +kernel
    | exact Or.inl rfl
    | exact fun _ _ => noPair (by decide +kernel) _
    | exact not_raised_of (by decide +kernel)
    | exact raised_of (by decide +kernel)

theorem wit_keyCompletionAndTamper_4 :
    (fun (s0 : State) => (fun (s : State) => s0.powered = true ∧ (s.works wKEY ∧ s.key.erasing = true)) (s0.after 7))
       (keyAt (fun k => { k with erasing := true })) := by
  repeat' apply And.intro
  all_goals first
    | decide +kernel
    | exact Or.inl rfl
    | exact fun _ _ => noPair (by decide +kernel) _
    | exact not_raised_of (by decide +kernel)
    | exact raised_of (by decide +kernel)

theorem wit_keyCompletionAndTamper_5 :
    (fun (n : Nat) (s0 : State) => (fun (s : State) => (n < 4) ∧ s0.powered = true ∧ (s.backupOn = true ∧ s.sys.phase = .up ∧ s.tamperAction n ≠ 0 ∧ s.key.latched = [])) (s0.after 7))
      (2 : Nat) (State.reset) := by
  repeat' apply And.intro
  all_goals first
    | decide +kernel
    | exact Or.inl rfl
    | exact fun _ _ => noPair (by decide +kernel) _
    | exact not_raised_of (by decide +kernel)
    | exact raised_of (by decide +kernel)

theorem wit_keyCompletionAndTamper_6 :
    (fun (n : Nat) (s0 : State) => (fun (s : State) => (4 ≤ n ∧ n < 7) ∧ s0.powered = true ∧ (s.sys.vin = true ∧ s.sys.phase = .up ∧ s.key.latched = [])) (s0.after 7))
      (5 : Nat) (State.reset) := by
  repeat' apply And.intro
  all_goals first
    | decide +kernel
    | exact Or.inl rfl
    | exact fun _ _ => noPair (by decide +kernel) _
    | exact not_raised_of (by decide +kernel)
    | exact raised_of (by decide +kernel)

theorem wit_keyCompletionAndTamper_7 :
    (fun (n : Nat) (s0 : State) => (fun (_ : State) => s0.powered = true ∧ (True)) (s0.after 7))
      (2 : Nat) (keyAt (fun k => { k with active := [2, 3] })) := by
  repeat' apply And.intro
  all_goals first
    | decide +kernel
    | exact Or.inl rfl
    | exact fun _ _ => noPair (by decide +kernel) _
    | exact not_raised_of (by decide +kernel)
    | exact raised_of (by decide +kernel)

theorem wit_timebase_0 :
    (fun (m : Nat) (s0 : State) => (fun (s : State) => s0.powered = true ∧ (s.lets m (reg wTBS 0x010))) (s0.after 7))
      (0 : Nat) ({ State.reset with cyc := 5000 }) := by
  repeat' apply And.intro
  all_goals first
    | decide +kernel
    | exact Or.inl rfl
    | exact fun _ _ => noPair (by decide +kernel) _
    | exact not_raised_of (by decide +kernel)
    | exact raised_of (by decide +kernel)

theorem wit_timebase_1 :
    (fun (m k : Nat) (s0 : State) => (fun (s : State) => (k < 7) ∧ s0.powered = true ∧ (s.lets m (reg wTBS (0x100 + 0x20 * k)) ∧ s.tbs.tsqs.length = 7)) (s0.after 7))
      (0 : Nat) (3 : Nat) (tbsAt (fun u => { u with tsqs := modAt u.tsqs 3 (fun q => { q with entries := [oneTs] }) })) := by
  repeat' apply And.intro
  all_goals first
    | decide +kernel
    | exact Or.inl rfl
    | exact fun _ _ => noPair (by decide +kernel) _
    | exact not_raised_of (by decide +kernel)
    | exact raised_of (by decide +kernel)

theorem wit_timebase_2 :
    (fun (m r : Nat) (s0 : State) => (fun (s : State) => s0.powered = true ∧ (s.lets m (reg wTBS 0x048) ∧ s.tbs.adjAt.getD 0 ≤ s.raw ∧ s.adjArg ≠ 0 ∧ 0 ≤ s.tbs.corr (s.raw + 1) + s.adjArg)) (s0.after 7))
      (0 : Nat) (3 : Nat) ({ tbsAt (fun u => { u with slew := some { ppm := 100, amount := 5000, start := 0 } }) with regs := { State.reset.regs with cfg := bank [(0x400A0040, 1000)] } }) := by
  repeat' apply And.intro
  all_goals first
    | decide +kernel
    | exact Or.inl rfl
    | exact fun _ _ => noPair (by decide +kernel) _
    | exact not_raised_of (by decide +kernel)
    | exact raised_of (by decide +kernel)

theorem wit_timebase_3 :
    (fun (m r : Nat) (s0 : State) => (fun (s : State) => s0.powered = true ∧ (s.lets m (reg wTBS 0x048) ∧ s.tbs.adjAt.getD 0 ≤ s.raw ∧ -(2 ^ 39) ≤ s.adjArg ∧ s.adjArg < 2 ^ 39)) (s0.after 7))
      (0 : Nat) (3 : Nat) ({ tbsAt (fun u => { u with slew := some { ppm := 100, amount := 5000, start := 0 } }) with regs := { State.reset.regs with cfg := bank [(0x400A0040, 1000)] } }) := by
  repeat' apply And.intro
  all_goals first
    | decide +kernel
    | exact Or.inl rfl
    | exact fun _ _ => noPair (by decide +kernel) _
    | exact not_raised_of (by decide +kernel)
    | exact raised_of (by decide +kernel)

theorem wit_timebase_4 :
    (fun (m p r : Nat) (s0 : State) => (fun (s : State) => (1 ≤ p ∧ p ≤ 255) ∧ s0.powered = true ∧ (s.lets m (reg wTBS 0x048) ∧ s.tbs.adjAt.getD 0 ≤ s.raw ∧ s.adjArg ≠ 0 ∧ -999999999 ≤ s.adjArg ∧ s.adjArg ≤ 999999999)) (s0.after 7))
      (0 : Nat) (200 : Nat) (3 : Nat) ({ tbsAt (fun u => { u with slew := some { ppm := 100, amount := 5000, start := 0 } }) with regs := { State.reset.regs with cfg := bank [(0x400A0040, 1000)] } }) := by
  repeat' apply And.intro
  all_goals first
    | decide +kernel
    | exact Or.inl rfl
    | exact fun _ _ => noPair (by decide +kernel) _
    | exact not_raised_of (by decide +kernel)
    | exact raised_of (by decide +kernel)

theorem wit_timebase_5 :
    (fun (m r : Nat) (s0 : State) => (fun (s : State) => s0.powered = true ∧ (s.lets m (reg wTBS 0x048) ∧ s.tbs.adjAt.getD 0 ≤ s.raw ∧ s.tbs.slew.isSome = true)) (s0.after 7))
      (0 : Nat) (3 : Nat) (tbsAt (fun u => { u with slew := some { ppm := 100, amount := 5000, start := 0 } })) := by
  repeat' apply And.intro
  all_goals first
    | decide +kernel
    | exact Or.inl rfl
    | exact fun _ _ => noPair (by decide +kernel) _
    | exact not_raised_of (by decide +kernel)
    | exact raised_of (by decide +kernel)

theorem wit_timebase_6 :
    (fun (w : Slew) (r : Nat) (s0 : State) => (fun (s : State) => s0.powered = true ∧ (s.works wTBS ∧ s.tbs.slew = some w ∧ w.endRaw ≤ s.raw)) (s0.after 7))
      ({ ppm := 500, amount := 5, start := 0 } : Slew) (3 : Nat) ({ tbsAt (fun u => { u with slew := some { ppm := 500, amount := 5, start := 0 } }) with cyc := 5000 }) := by
  repeat' apply And.intro
  all_goals first
    | decide +kernel
    | exact Or.inl rfl
    | exact fun _ _ => noPair (by decide +kernel) _
    | exact not_raised_of (by decide +kernel)
    | exact raised_of (by decide +kernel)

theorem wit_ppsAndMilestones_0 :
    (fun (e us : Nat) (s0 : State) => (fun (s : State) => s0.powered = true ∧ (s.works wTBS ∧ bit (s.cfg (reg wTBS 0x060)) 31 = true ∧ max 1 (fld (s.cfg (reg wTBS 0x060)) 7 0) ≤ us)) (s0.after 7))
      (1000 : Nat) (50 : Nat) ({ tbsAt (fun u => { u with ppsSeen := true }) with regs := { State.reset.regs with cfg := bank [(0x400A0060, 0x80000014)] } }) := by
  repeat' apply And.intro
  all_goals first
    | decide +kernel
    | exact Or.inl rfl
    | exact fun _ _ => noPair (by decide +kernel) _
    | exact not_raised_of (by decide +kernel)
    | exact raised_of (by decide +kernel)

theorem wit_ppsAndMilestones_1 :
    (fun (e us : Nat) (s0 : State) => (fun (s : State) => s0.powered = true ∧ (s.works wTBS ∧ bit (s.cfg (reg wTBS 0x060)) 31 = true ∧ us < max 1 (fld (s.cfg (reg wTBS 0x060)) 7 0))) (s0.after 7))
      (1000 : Nat) (5 : Nat) ({ State.reset with regs := { State.reset.regs with cfg := bank [(0x400A0060, 0x80000014)] } }) := by
  repeat' apply And.intro
  all_goals first
    | decide +kernel
    | exact Or.inl rfl
    | exact fun _ _ => noPair (by decide +kernel) _
    | exact not_raised_of (by decide +kernel)
    | exact raised_of (by decide +kernel)

theorem wit_ppsAndMilestones_2 :
    (fun (e us : Nat) (s0 : State) => (fun (s : State) => s0.powered = true ∧ (bit (s.cfg (reg wTBS 0x060)) 31 = false)) (s0.after 7))
      (1000 : Nat) (5 : Nat) (State.reset) := by
  repeat' apply And.intro
  all_goals first
    | decide +kernel
    | exact Or.inl rfl
    | exact fun _ _ => noPair (by decide +kernel) _
    | exact not_raised_of (by decide +kernel)
    | exact raised_of (by decide +kernel)

theorem wit_ppsAndMilestones_3 :
    (fun (s0 : State) => (fun (s : State) => s0.powered = true ∧ (s.works wTBS ∧ bit (s.cfg (reg wTBS 0x060)) 31 = true ∧ s.tbs.ppsLostDone = false ∧ s.tbs.ppsFrom + 300000000 ≤ s.raw)) (s0.after 7))
       ({ State.reset with cyc := 600000000, regs := { State.reset.regs with cfg := bank [(0x400A0060, 0x80000014)] } }) := by
  repeat' apply And.intro
  all_goals first
    | decide +kernel
    | exact Or.inl rfl
    | exact fun _ _ => noPair (by decide +kernel) _
    | exact not_raised_of (by decide +kernel)
    | exact raised_of (by decide +kernel)

theorem wit_ppsAndMilestones_4 :
    (fun (m : Nat) (s0 : State) => (fun (s : State) => s0.powered = true ∧ (s.works wTBS ∧ m < s.tbs.ms.length ∧ (s.mile m).st = .armed ∧ (s.mile m).rawTarget ≤ s.raw ∧ s.msPeriodic m = false)) (s0.after 7))
      (4 : Nat) ({ tbsAt (fun u => { u with ms := modAt u.ms 4 (fun x => { x with st := .armed, target := 5, rawTarget := 5 }) }) with cyc := 20, regs := { State.reset.regs with cfg := bank [(0x400A0480, 0x02000000)] } }) := by
  repeat' apply And.intro
  all_goals first
    | decide +kernel
    | exact Or.inl rfl
    | exact fun _ _ => noPair (by decide +kernel) _
    | exact not_raised_of (by decide +kernel)
    | exact raised_of (by decide +kernel)

theorem wit_ppsAndMilestones_5 :
    (fun (m : Nat) (s0 : State) => (fun (s : State) => s0.powered = true ∧ (s.works wTBS ∧ m < s.tbs.ms.length ∧ (s.mile m).st = .armed ∧ (s.mile m).rawTarget ≤ s.raw ∧ s.msPeriodic m = true ∧
    s.raw ≤ s.msRaw m ((s.mile m).target + s.msPeriod m))) (s0.after 7))
      (4 : Nat) ({ tbsAt (fun u => { u with ms := modAt u.ms 4 (fun x => { x with st := .armed, target := 5, rawTarget := 5 }) }) with cyc := 20, regs := { State.reset.regs with cfg := bank [(0x400A0480, 0x42000000), (0x400A048C, 1000)] } }) := by
  repeat' apply And.intro
  all_goals first
    | decide +kernel
    | exact Or.inl rfl
    | exact fun _ _ => noPair (by decide +kernel) _
    | exact not_raised_of (by decide +kernel)
    | exact raised_of (by decide +kernel)

theorem wit_ppsAndMilestones_6 :
    (fun (m : Nat) (s0 : State) => (fun (s : State) => s0.powered = true ∧ (s.works wTBS ∧ m < s.tbs.ms.length ∧ (s.mile m).st = .armed ∧ (s.mile m).rawTarget ≤ s.raw ∧ s.msPeriodic m = true ∧
    s.msRaw m ((s.mile m).target + s.msPeriod m) < s.raw ∧ s.msCorr m = false ∧ 0 < s.msPeriod m ∧ 0 ≤ (s.mile m).target)) (s0.after 7))
      (4 : Nat) ({ tbsAt (fun u => { u with ms := modAt u.ms 4 (fun x => { x with st := .armed, target := 5, rawTarget := 5 }) }) with cyc := 10000, regs := { State.reset.regs with cfg := bank [(0x400A0480, 0x42000000), (0x400A048C, 1000)] } }) := by
  repeat' apply And.intro
  all_goals first
    | decide +kernel
    | exact Or.inl rfl
    | exact fun _ _ => noPair (by decide +kernel) _
    | exact not_raised_of (by decide +kernel)
    | exact raised_of (by decide +kernel)

theorem wit_ppsAndMilestones_7 :
    (fun (m r : Nat) (p : Bool) (s0 : State) => (fun (s : State) => s0.powered = true ∧ (s.works wTBS ∧ (s.mile m).pulse = some (r, p) ∧ r ≤ s.raw)) (s0.after 7))
      (4 : Nat) (50 : Nat) (true : Bool) ({ tbsAt (fun u => { u with ms := modAt u.ms 4 (fun x => { x with pulse := some (50, true) }) }) with cyc := 100 }) := by
  repeat' apply And.intro
  all_goals first
    | decide +kernel
    | exact Or.inl rfl
    | exact fun _ _ => noPair (by decide +kernel) _
    | exact not_raised_of (by decide +kernel)
    | exact raised_of (by decide +kernel)

theorem wit_calendarRuns_0 :
    (fun (s0 : State) => (fun (s : State) => s0.powered = true ∧ (s.backupOn = true ∧ s.rtc.oscRun = true ∧ s.rtc.pend = none ∧ s.rtc.clk ≠ Clock.last)) (s0.after 7))
       ({ rtcAt (fun u => { u with valid := true }) with regs := { State.reset.regs with cfg := bank [(0x400B0040, 0x80000000), (0x400B0048, 1)] } }) := by
  repeat' apply And.intro
  all_goals first
    | decide +kernel
    | exact Or.inl rfl
    | exact fun _ _ => noPair (by decide +kernel) _
    | exact not_raised_of (by decide +kernel)
    | exact raised_of (by decide +kernel)

theorem wit_calendarRuns_1 :
    (fun (s0 : State) => (fun (s : State) => s0.powered = true ∧ (s.backupOn = true ∧ s.rtc.oscRun = true ∧ s.rtc.pend = none ∧ s.rtc.clk = Clock.last ∧ s.rtc.ended = false)) (s0.after 7))
       (rtcAt (fun u => { u with clk := Clock.last })) := by
  repeat' apply And.intro
  all_goals first
    | decide +kernel
    | exact Or.inl rfl
    | exact fun _ _ => noPair (by decide +kernel) _
    | exact not_raised_of (by decide +kernel)
    | exact raised_of (by decide +kernel)

theorem wit_calendarRuns_2 :
    (fun (s0 : State) => (fun (s : State) => s0.powered = true ∧ (s.backupOn = true ∧ s.rtc.oscRun = true ∧ s.rtc.pend = some .fwd)) (s0.after 7))
       (rtcAt (fun u => { u with pend := some .fwd })) := by
  repeat' apply And.intro
  all_goals first
    | decide +kernel
    | exact Or.inl rfl
    | exact fun _ _ => noPair (by decide +kernel) _
    | exact not_raised_of (by decide +kernel)
    | exact raised_of (by decide +kernel)

theorem wit_calendarRuns_3 :
    (fun (s0 : State) => (fun (s : State) => s0.powered = true ∧ (s.backupOn = true ∧ s.rtc.oscRun = true ∧ s.rtc.pend = some .back ∧ s.rtc.clk ≠ Clock.last)) (s0.after 7))
       (rtcAt (fun u => { u with pend := some .back, dst := true, clk := { y := 2030, mo := 10, d := 27, h := 2, mi := 59, s := 59 } })) := by
  repeat' apply And.intro
  all_goals first
    | decide +kernel
    | exact Or.inl rfl
    | exact fun _ _ => noPair (by decide +kernel) _
    | exact not_raised_of (by decide +kernel)
    | exact raised_of (by decide +kernel)

theorem wit_rtcCommands_0 :
    (fun (m k : Nat) (s0 : State) => (fun (s : State) => (1 ≤ k ∧ k ≤ 3) ∧ s0.powered = true ∧ (s.lets m (reg wRTC 0x01C) ∧ s.rtc.pend = none ∧ clockBad (s.setTarget k).1 = 0)) (s0.after 7))
      (0 : Nat) (3 : Nat) ({ rtcAt (fun u => { u with ended := true }) with regs := { State.reset.regs with cfg := bank [(0x400B0014, 0x001A0B1A), (0x400B0018, 0x40070A00)], stat := [(0x400B0000, { seq := 0, bits := 0x300, marks := [(8, 0), (9, 0)], held := [], last := none })] } }) := by
  repeat' apply And.intro
  all_goals first
    | decide +kernel
    | exact Or.inl rfl
    | exact fun _ _ => noPair (by decide +kernel) _
    | exact not_raised_of (by decide +kernel)
    | exact raised_of (by decide +kernel)

theorem wit_rtcCommands_1 :
    (fun (m k : Nat) (s0 : State) => (fun (s : State) => (1 ≤ k ∧ k ≤ 3) ∧ s0.powered = true ∧ (s.lets m (reg wRTC 0x01C) ∧ s.rtc.pend = none ∧ clockBad (s.setTarget k).1 ≠ 0)) (s0.after 7))
      (0 : Nat) (1 : Nat) (State.reset) := by
  repeat' apply And.intro
  all_goals first
    | decide +kernel
    | exact Or.inl rfl
    | exact fun _ _ => noPair (by decide +kernel) _
    | exact not_raised_of (by decide +kernel)
    | exact raised_of (by decide +kernel)

theorem wit_rtcCommands_2 :
    (fun (m : Nat) (s0 : State) => (fun (s : State) => s0.powered = true ∧ (s.lets m (reg wRTC 0x01C) ∧ s.rtc.pend = none ∧ s.rtc.dst = false ∧ s.rtc.clk.secs + 3601 ≤ Clock.last.secs)) (s0.after 7))
      (0 : Nat) (State.reset) := by
  repeat' apply And.intro
  all_goals first
    | decide +kernel
    | exact Or.inl rfl
    | exact fun _ _ => noPair (by decide +kernel) _
    | exact not_raised_of (by decide +kernel)
    | exact raised_of (by decide +kernel)

theorem wit_rtcCommands_3 :
    (fun (m : Nat) (s0 : State) => (fun (s : State) => s0.powered = true ∧ (s.lets m (reg wRTC 0x01C) ∧ s.rtc.pend = none ∧ s.rtc.dst = true ∧ 3599 ≤ s.rtc.clk.secs)) (s0.after 7))
      (0 : Nat) (rtcAt (fun u => { u with dst := true, clk := { y := 2030, mo := 10, d := 27, h := 2, mi := 59, s := 59 } })) := by
  repeat' apply And.intro
  all_goals first
    | decide +kernel
    | exact Or.inl rfl
    | exact fun _ _ => noPair (by decide +kernel) _
    | exact not_raised_of (by decide +kernel)
    | exact raised_of (by decide +kernel)

theorem wit_rtcCommands_4 :
    (fun (m : Nat) (v : Word) (s0 : State) => (fun (s : State) => s0.powered = true ∧ (s.lets m (reg wRTC 0x024))) (s0.after 7))
      (0 : Nat) (0x12345678 : Word) (State.reset) := by
  repeat' apply And.intro
  all_goals first
    | decide +kernel
    | exact Or.inl rfl
    | exact fun _ _ => noPair (by decide +kernel) _
    | exact not_raised_of (by decide +kernel)
    | exact raised_of (by decide +kernel)

theorem wit_rtcCommands_5 :
    (fun (m o : Nat) (v : Word) (s0 : State) => (fun (s : State) => (o = 0x044 ∨ o = 0x048 ∨ o = 0x054 ∨ o = 0x058) ∧ s0.powered = true ∧ (s.lets m (reg wRTC o) ∧ (s.rtc.valid = false ∨ s.almMode (o / 16 - 4) ≠ 1))) (s0.after 7))
      (0 : Nat) (0x054 : Nat) (0xFFFFFFFF : Word) (State.reset) := by
  repeat' apply And.intro
  all_goals first
    | decide +kernel
    | exact Or.inl rfl
    | exact fun _ _ => noPair (by decide +kernel) _
    | exact not_raised_of (by decide +kernel)
    | exact raised_of (by decide +kernel)

theorem wit_rtcCommands_6 :
    (fun (m a : Nat) (v : Word) (s0 : State) => (fun (s : State) => (a < 2) ∧ s0.powered = true ∧ (s.lets m (reg wRTC (0x040 + 0x10 * a)) ∧ s.rtc.valid = true ∧ fld v 31 30 = 1 ∧ s.almOnce a ≤ s.rtc.clk.secs)) (s0.after 7))
      (0 : Nat) (1 : Nat) (0x40000000 : Word) (rtcAt (fun u => { u with valid := true, clk := { y := 2030, mo := 10, d := 27, h := 2, mi := 59, s := 59 } })) := by
  repeat' apply And.intro
  all_goals first
    | decide +kernel
    | exact Or.inl rfl
    | exact fun _ _ => noPair (by decide +kernel) _
    | exact not_raised_of (by decide +kernel)
    | exact raised_of (by decide +kernel)

theorem wit_rtcCommands_7 :
    (fun (m : Nat) (v : Word) (s0 : State) => (fun (s : State) => s0.powered = true ∧ (s.lets m (reg wRTC 0x028))) (s0.after 7))
      (0 : Nat) (0xFFFFFFFF : Word) (State.reset) := by
  repeat' apply And.intro
  all_goals first
    | decide +kernel
    | exact Or.inl rfl
    | exact fun _ _ => noPair (by decide +kernel) _
    | exact not_raised_of (by decide +kernel)
    | exact raised_of (by decide +kernel)

theorem wit_backupDomain_0 :
    (fun (s0 : State) => (fun (s : State) => s0.powered = true ∧ (s.backupOn = true ∧ s.rtc.oscRun = true ∧ fld (s.cfg (reg wRTC 0x028)) 24 0 ≠ 0 ∧
    128 * min 22118400 (fld (s.cfg (reg wRTC 0x028)) 24 0) ≤ s.rtc.wakeSum + s.rtc.secLen)) (s0.after 7))
       ({ State.reset with regs := { State.reset.regs with cfg := bank [(0x400B0028, 256)] } }) := by
  repeat' apply And.intro
  all_goals first
    | decide +kernel
    | exact Or.inl rfl
    | exact fun _ _ => noPair (by decide +kernel) _
    | exact not_raised_of (by decide +kernel)
    | exact raised_of (by decide +kernel)

theorem wit_backupDomain_1 :
    (fun (s0 : State) => (fun (s : State) => s0.powered = true ∧ (fld (s.cfg (reg wRTC 0x028)) 24 0 = 0 ∨ s.rtc.wakeSum + s.rtc.secLen < 128 * min 22118400 (fld (s.cfg (reg wRTC 0x028)) 24 0))) (s0.after 7))
       (State.reset) := by
  repeat' apply And.intro
  all_goals first
    | decide +kernel
    | exact Or.inl rfl
    | exact fun _ _ => noPair (by decide +kernel) _
    | exact not_raised_of (by decide +kernel)
    | exact raised_of (by decide +kernel)

theorem wit_backupDomain_2 :
    (fun (s0 : State) => (fun (s : State) => s0.powered = true ∧ (s.backupOn = true)) (s0.after 7))
       ({ State.reset with regs := { State.reset.regs with stat := [] } }) := by
  repeat' apply And.intro
  all_goals first
    | decide +kernel
    | exact Or.inl rfl
    | exact fun _ _ => noPair (by decide +kernel) _
    | exact not_raised_of (by decide +kernel)
    | exact raised_of (by decide +kernel)

theorem wit_backupDomain_3 :
    (fun (s0 : State) => (fun (s : State) => s0.powered = true ∧ (s.backupOn = true)) (s0.after 7))
       (rtcAt (fun u => { u with oscRun := false })) := by
  repeat' apply And.intro
  all_goals first
    | decide +kernel
    | exact Or.inl rfl
    | exact fun _ _ => noPair (by decide +kernel) _
    | exact not_raised_of (by decide +kernel)
    | exact raised_of (by decide +kernel)

theorem wit_backupDomain_4 :
    (fun (mv : Nat) (s0 : State) => (fun (s : State) => (mv < 2000) ∧ s0.powered = true ∧ (s.sys.vin = false ∧ s.sys.vbakLost = false)) (s0.after 7))
      (1999 : Nat) (sysAt (fun u => { u with vin := false })) := by
  repeat' apply And.intro
  all_goals first
    | decide +kernel
    | exact Or.inl rfl
    | exact fun _ _ => noPair (by decide +kernel) _
    | exact not_raised_of (by decide +kernel)
    | exact raised_of (by decide +kernel)

theorem wit_backupDomain_5 :
    (fun (mv : Nat) (s0 : State) => (fun (s : State) => s0.powered = true ∧ (2000 ≤ mv ∨ s.sys.vin = true)) (s0.after 7))
      (2000 : Nat) (State.reset) := by
  repeat' apply And.intro
  all_goals first
    | decide +kernel
    | exact Or.inl rfl
    | exact fun _ _ => noPair (by decide +kernel) _
    | exact not_raised_of (by decide +kernel)
    | exact raised_of (by decide +kernel)

theorem wit_backupDomain_6 :
    (fun (m o n : Nat) (s0 : State) => (fun (s : State) => (State.masterOk m = true ∧ (n = 1 ∨ n = 2 ∨ n = 4) ∧ o + n ≤ 0xC00) ∧ s0.powered = true ∧ (s.rtc.rsBad = [])) (s0.after 7))
      (0 : Nat) (0x10 : Nat) (4 : Nat) (rtcAt (fun u => { u with rsram := [(0x11, 7)] })) := by
  repeat' apply And.intro
  all_goals first
    | decide +kernel
    | exact Or.inl rfl
    | exact fun _ _ => noPair (by decide +kernel) _
    | exact not_raised_of (by decide +kernel)
    | exact raised_of (by decide +kernel)

theorem wit_backupDomain_7 :
    (fun (m o : Nat) (b : Byte) (s0 : State) => (fun (s : State) => (State.masterOk m = true ∧ o < 0xC00) ∧ s0.powered = true ∧ ((s.statOf (reg wRTC 0)).bits.testBit 11 = false)) (s0.after 7))
      (0 : Nat) (0x10 : Nat) (5 : Byte) (State.reset) := by
  repeat' apply And.intro
  all_goals first
    | decide +kernel
    | exact Or.inl rfl
    | exact fun _ _ => noPair (by decide +kernel) _
    | exact not_raised_of (by decide +kernel)
    | exact raised_of (by decide +kernel)

theorem wit_backupDomain_8 :
    (fun (m o n : Nat) (c : Option Byte) (s0 : State) => (fun (_ : State) => (State.masterOk m = false) ∧ s0.powered = true ∧ (True)) (s0.after 7))
      (8 : Nat) (0x10 : Nat) (4 : Nat) (none : Option Byte) (State.reset) := by
  repeat' apply And.intro
  all_goals first
    | decide +kernel
    | exact Or.inl rfl
    | exact fun _ _ => noPair (by decide +kernel) _
    | exact not_raised_of (by decide +kernel)
    | exact raised_of (by decide +kernel)

theorem wit_backupDomain_9 :
    (fun (m sub : Nat) (s0 : State) => (fun (s : State) => s0.powered = true ∧ (s.lets m (reg wRTC 0x008))) (s0.after 7))
      (0 : Nat) (100 : Nat) (State.reset) := by
  repeat' apply And.intro
  all_goals first
    | decide +kernel
    | exact Or.inl rfl
    | exact fun _ _ => noPair (by decide +kernel) _
    | exact not_raised_of (by decide +kernel)
    | exact raised_of (by decide +kernel)

theorem wit_handleCommands_0 :
    (fun (m typ i : Nat) (s0 : State) => (fun (s : State) => s0.powered = true ∧ (s.lets m (reg wSTR 0x030) ∧ s.strAllows 1 typ i = true)) (s0.after 7))
      (0 : Nat) (4 : Nat) (1 : Nat) (strAt [] 4 1) := by
  repeat' apply And.intro
  all_goals first
    | decide +kernel
    | exact Or.inl rfl
    | exact fun _ _ => noPair (by decide +kernel) _
    | exact not_raised_of (by decide +kernel)
    | exact raised_of (by decide +kernel)

theorem wit_handleCommands_1 :
    (fun (m typ i : Nat) (s0 : State) => (fun (s : State) => s0.powered = true ∧ (s.lets m (reg wSTR 0x030) ∧ s.strAllows 2 typ i = true)) (s0.after 7))
      (0 : Nat) (4 : Nat) (1 : Nat) (strAt [(State.hkey 4 1, handleIn .stopped)] 4 1) := by
  repeat' apply And.intro
  all_goals first
    | decide +kernel
    | exact Or.inl rfl
    | exact fun _ _ => noPair (by decide +kernel) _
    | exact not_raised_of (by decide +kernel)
    | exact raised_of (by decide +kernel)

theorem wit_handleCommands_2 :
    (fun (m typ i : Nat) (s0 : State) => (fun (s : State) => s0.powered = true ∧ (s.lets m (reg wSTR 0x030) ∧ s.strAllows 5 typ i = true)) (s0.after 7))
      (0 : Nat) (4 : Nat) (1 : Nat) (strAt [(State.hkey 4 1, handleIn .stopped)] 4 1) := by
  repeat' apply And.intro
  all_goals first
    | decide +kernel
    | exact Or.inl rfl
    | exact fun _ _ => noPair (by decide +kernel) _
    | exact not_raised_of (by decide +kernel)
    | exact raised_of (by decide +kernel)

theorem wit_handleCommands_3 :
    (fun (m typ i : Nat) (x : Bool) (s0 : State) => (fun (s : State) => (typ = tWAVEPROF ∨ typ = tSESSION) ∧ s0.powered = true ∧ (s.lets m (reg wSTR 0x030) ∧ s.strAllows (State.moveOp x) typ i = true ∧ s.mst.cal = none ∧ s.hst typ i ≠ State.moveTo x)) (s0.after 7))
      (0 : Nat) (6 : Nat) (1 : Nat) (true : Bool) (strAt [(State.hkey 6 1, handleIn .stopped)] 6 1) := by
  repeat' apply And.intro
  all_goals first
    | decide +kernel
    | exact Or.inl rfl
    | exact fun _ _ => noPair (by decide +kernel) _
    | exact not_raised_of (by decide +kernel)
    | exact raised_of (by decide +kernel)

theorem wit_handleCommands_4 :
    (fun (m typ i : Nat) (x : Bool) (s0 : State) => (fun (s : State) => (typ ≤ 5 ∨ typ = tPROGRAMME) ∧ s0.powered = true ∧ (s.lets m (reg wSTR 0x030) ∧ s.strAllows (State.moveOp x) typ i = true ∧ s.mst.cal = none ∧ s.hst typ i ≠ State.moveTo x)) (s0.after 7))
      (0 : Nat) (4 : Nat) (1 : Nat) (true : Bool) (strAt [(State.hkey 4 1, handleIn .stopped)] 4 1) := by
  repeat' apply And.intro
  all_goals first
    | decide +kernel
    | exact Or.inl rfl
    | exact fun _ _ => noPair (by decide +kernel) _
    | exact not_raised_of (by decide +kernel)
    | exact raised_of (by decide +kernel)

theorem wit_handleCommands_5 :
    (fun (m typ i : Nat) (x : Bool) (s0 : State) => (fun (s : State) => s0.powered = true ∧ (s.lets m (reg wSTR 0x030) ∧ s.strAllows (State.moveOp x) typ i = true ∧ s.mst.cal = none ∧ s.hst typ i = State.moveTo x)) (s0.after 7))
      (0 : Nat) (9 : Nat) (1 : Nat) (false : Bool) (strAt [(State.hkey 9 1, handleIn .stopped)] 9 1) := by
  repeat' apply And.intro
  all_goals first
    | decide +kernel
    | exact Or.inl rfl
    | exact fun _ _ => noPair (by decide +kernel) _
    | exact not_raised_of (by decide +kernel)
    | exact raised_of (by decide +kernel)

theorem wit_handleCommands_6 :
    (fun (m : Nat) (r : StrRefusal) (s0 : State) => (fun (s : State) => s0.powered = true ∧ (s.lets m (reg wSTR 0x030) ∧ s.str.pend = none ∧
    s.strRefusal 2 = some r)) (s0.after 7))
      (0 : Nat) ({ result := 6, detail := 0xF, idx := some 1 } : StrRefusal) (strAt [(State.hkey 4 1, handleIn .running)] 4 1) := by
  repeat' apply And.intro
  all_goals first
    | decide +kernel
    | exact Or.inl rfl
    | exact fun _ _ => noPair (by decide +kernel) _
    | exact not_raised_of (by decide +kernel)
    | exact raised_of (by decide +kernel)

theorem wit_handleCommands_7 :
    (fun (m : Nat) (s0 : State) => (fun (s : State) => s0.powered = true ∧ (s.lets m (reg wSTR 0x030) ∧ s.str.pend.isSome = true)) (s0.after 7))
      (0 : Nat) ({ strAt [] 4 1 with str := { (strAt [] 4 1).str with pend := some { start := true, typ := 4, idx := 1, cyc := 0 } } }) := by
  repeat' apply And.intro
  all_goals first
    | decide +kernel
    | exact Or.inl rfl
    | exact fun _ _ => noPair (by decide +kernel) _
    | exact not_raised_of (by decide +kernel)
    | exact raised_of (by decide +kernel)

theorem wit_handlesAtTheirBoundary_0 :
    (fun (typ i k : Nat) (s0 : State) => (fun (s : State) => s0.powered = true ∧ (s.works wSTR ∧ s.str.pend = some { start := false, typ := typ, idx := i, cyc := k } ∧ k < s.cyc ∧ s.strDue typ i = true ∧ s.hst typ i = .running)) (s0.after 7))
      (1 : Nat) (1 : Nat) (0 : Nat) ({ strAt [(State.hkey 1 1, handleIn .running)] 4 1 with cyc := 80000000, str := { (strAt [(State.hkey 1 1, handleIn .running)] 4 1).str with pend := some { start := false, typ := 1, idx := 1, cyc := 0 } } }) := by
  repeat' apply And.intro
  all_goals first
    | decide +kernel
    | exact Or.inl rfl
    | exact fun _ _ => noPair (by decide +kernel) _
    | exact not_raised_of (by decide +kernel)
    | exact raised_of (by decide +kernel)

theorem wit_handlesAtTheirBoundary_1 :
    (fun (i k : Nat) (s0 : State) => (fun (s : State) => s0.powered = true ∧ (s.works wSTR ∧ s.str.pend = some { start := false, typ := tSINK, idx := i, cyc := k } ∧ k < s.cyc ∧ s.atPeriod (i / 7) = true ∧
    s.hst tSINK i = .running ∧ i < s.mst.sinks.length)) (s0.after 7))
      (8 : Nat) (0 : Nat) ({ strAt [(State.hkey 3 8, handleIn .running)] 4 1 with cyc := 8015594, str := { (strAt [(State.hkey 3 8, handleIn .running)] 4 1).str with pend := some { start := false, typ := 3, idx := 8, cyc := 0 } } }) := by
  repeat' apply And.intro
  all_goals first
    | decide +kernel
    | exact Or.inl rfl
    | exact fun _ _ => noPair (by decide +kernel) _
    | exact not_raised_of (by decide +kernel)
    | exact raised_of (by decide +kernel)

theorem wit_handlesAtTheirBoundary_2 :
    (fun (typ i k : Nat) (s0 : State) => (fun (s : State) => s0.powered = true ∧ (s.works wSTR ∧ s.str.pend = some { start := true, typ := typ, idx := i, cyc := k } ∧ k < s.cyc ∧ s.strDue typ i = true)) (s0.after 7))
      (7 : Nat) (1 : Nat) (0 : Nat) ({ strAt [(State.hkey 7 1, handleIn .stopped)] 4 1 with cyc := 80000000, str := { (strAt [(State.hkey 7 1, handleIn .stopped)] 4 1).str with pend := some { start := true, typ := 7, idx := 1, cyc := 0 } } }) := by
  repeat' apply And.intro
  all_goals first
    | decide +kernel
    | exact Or.inl rfl
    | exact fun _ _ => noPair (by decide +kernel) _
    | exact not_raised_of (by decide +kernel)
    | exact raised_of (by decide +kernel)

theorem wit_handlesAtTheirBoundary_3 :
    (fun (typ i k : Nat) (x : Bool) (s0 : State) => (fun (s : State) => s0.powered = true ∧ (s.str.pend = some { start := x, typ := typ, idx := i, cyc := k } ∧ (s.strDue typ i = false ∨ s.cyc ≤ k))) (s0.after 7))
      (7 : Nat) (1 : Nat) (0 : Nat) (true : Bool) ({ strAt [(State.hkey 7 1, handleIn .stopped)] 4 1 with str := { (strAt [(State.hkey 7 1, handleIn .stopped)] 4 1).str with pend := some { start := true, typ := 7, idx := 1, cyc := 0 } } }) := by
  repeat' apply And.intro
  all_goals first
    | decide +kernel
    | exact Or.inl rfl
    | exact fun _ _ => noPair (by decide +kernel) _
    | exact not_raised_of (by decide +kernel)
    | exact raised_of (by decide +kernel)

theorem wit_tableCommands_0 :
    (fun (m : Nat) (x : Bool) (s0 : State) => (fun (s : State) => s0.powered = true ∧ (s.lets m (reg wLTB 0x018) ∧ s.ltb.queue.length < 64)) (s0.after 7))
      (0 : Nat) (true : Bool) (strAt [] 4 1) := by
  repeat' apply And.intro
  all_goals first
    | decide +kernel
    | exact Or.inl rfl
    | exact fun _ _ => noPair (by decide +kernel) _
    | exact not_raised_of (by decide +kernel)
    | exact raised_of (by decide +kernel)

theorem wit_tableCommands_1 :
    (fun (m : Nat) (x : Bool) (s0 : State) => (fun (s : State) => s0.powered = true ∧ (s.lets m (reg wLTB 0x018) ∧ 64 ≤ s.ltb.queue.length)) (s0.after 7))
      (0 : Nat) (true : Bool) (editing (List.replicate 64 (editOf false)) []) := by
  repeat' apply And.intro
  all_goals first
    | decide +kernel
    | exact Or.inl rfl
    | exact fun _ _ => noPair (by decide +kernel) _
    | exact not_raised_of (by decide +kernel)
    | exact raised_of (by decide +kernel)

theorem wit_tableCommands_2 :
    (fun (m : Nat) (v : Word) (s0 : State) => (fun (s : State) => s0.powered = true ∧ (s.lets m (reg wLTB 0x034))) (s0.after 7))
      (0 : Nat) (0 : Word) ({ editing [] (lantern 1) with regs := { RegUnit.reset with cfg := bank [(reg wLTB 0x030, 0x77)] } }) := by
  repeat' apply And.intro
  all_goals first
    | decide +kernel
    | exact Or.inl rfl
    | exact fun _ _ => noPair (by decide +kernel) _
    | exact not_raised_of (by decide +kernel)
    | exact raised_of (by decide +kernel)

theorem wit_tableCommands_3 :
    (fun (m a : Nat) (d : List Byte) (s0 : State) => (fun (s : State) => (State.memSpan a d.length = true) ∧ s0.powered = true ∧ (∀ i, i < d.length → s.inLtable (a + i) = false)) (s0.after 7))
      (0 : Nat) (0x20000C00 : Nat) ([1, 2] : List Byte) (editing [] []) := by
  repeat' apply And.intro
  all_goals first
    | decide +kernel
    | exact Or.inl rfl
    | exact fun _ _ => noPair (by decide +kernel) _
    | exact not_raised_of (by decide +kernel)
    | exact raised_of (by decide +kernel)

theorem wit_tableCommands_4 :
    (fun (m a : Nat) (d : List Byte) (s0 : State) => (fun (s : State) => (State.memSpan a d.length = true ∧ d ≠ []) ∧ s0.powered = true ∧ (∀ i, i < d.length → s.inLtable (a + i) = true)) (s0.after 7))
      (0 : Nat) (0x20000010 : Nat) ([1, 2] : List Byte) (editing [] []) := by
  repeat' apply And.intro
  all_goals first
    | decide +kernel
    | exact Or.inl rfl
    | exact fun _ _ => noPair (by decide +kernel) _
    | exact not_raised_of (by decide +kernel)
    | exact raised_of (by decide +kernel)

theorem wit_tableEdits_0 :
    (fun (c : EditCmd) (r : List EditCmd) (s0 : State) => (fun (s : State) => s0.powered = true ∧ (s.works wLTB ∧ s.ltb.queue = c :: r ∧ s.entryRunning c.index = false ∧ c.clear = false ∧ (s.commitCheck c).1 = 0 ∧
    State.memSpan (s.ltAddr c.index 0) 384 = true)) (s0.after 7))
      (editOf false : EditCmd) (([] : List EditCmd) : List EditCmd) (editing [editOf false] newEntry) := by
  repeat' apply And.intro
  all_goals first
    | decide +kernel
    | exact Or.inl rfl
    | exact fun _ _ => noPair (by decide +kernel) _
    | exact not_raised_of (by decide +kernel)
    | exact raised_of (by decide +kernel)

theorem wit_tableEdits_1 :
    (fun (c : EditCmd) (r : List EditCmd) (s0 : State) => (fun (s : State) => s0.powered = true ∧ (s.works wLTB ∧ s.ltb.queue = c :: r ∧ s.entryRunning c.index = false ∧ c.clear = true ∧ (s.clearCheck c).1 = 0 ∧
    State.memSpan (s.ltAddr c.index 0) 384 = true)) (s0.after 7))
      (editOf true : EditCmd) (([] : List EditCmd) : List EditCmd) (editing [editOf true] (lantern 1)) := by
  repeat' apply And.intro
  all_goals first
    | decide +kernel
    | exact Or.inl rfl
    | exact fun _ _ => noPair (by decide +kernel) _
    | exact not_raised_of (by decide +kernel)
    | exact raised_of (by decide +kernel)

theorem wit_tableEdits_2 :
    (fun (c : EditCmd) (r : List EditCmd) (s0 : State) => (fun (s : State) => s0.powered = true ∧ (s.works wLTB ∧ s.ltb.queue = c :: r ∧ s.entryRunning c.index = false ∧
    ((if c.clear then s.clearCheck c else s.commitCheck c).1 ≠ 0))) (s0.after 7))
      (editOf false : EditCmd) ([editOf true] : List EditCmd) (editing [editOf false, editOf true] []) := by
  repeat' apply And.intro
  all_goals first
    | decide +kernel
    | exact Or.inl rfl
    | exact fun _ _ => noPair (by decide +kernel) _
    | exact not_raised_of (by decide +kernel)
    | exact raised_of (by decide +kernel)

theorem wit_tableEdits_3 :
    (fun (c : EditCmd) (r : List EditCmd) (s0 : State) => (fun (s : State) => s0.powered = true ∧ (s.ltb.queue = c :: r ∧ s.entryRunning c.index = true)) (s0.after 7))
      (editOf false : EditCmd) (([] : List EditCmd) : List EditCmd) ({ editing [editOf false] [] with str := { (strAt [] 4 1).str with handles := [(State.hkey 1 1, handleIn .running)] } }) := by
  repeat' apply And.intro
  all_goals first
    | decide +kernel
    | exact Or.inl rfl
    | exact fun _ _ => noPair (by decide +kernel) _
    | exact not_raised_of (by decide +kernel)
    | exact raised_of (by decide +kernel)

theorem wit_tableEdits_4 :
    (fun (n : Nat) (s0 : State) => (fun (s : State) => s0.powered = true ∧ (s.works wLTB ∧ s.silentDue n = true ∧ State.isMem (s.ltAddr n 9) = true)) (s0.after 7))
      (1 : Nat) ({ editing [] (lantern 2) with tbs := { TbsUnit.reset with tickPrev := some 100000000000000 } }) := by
  repeat' apply And.intro
  all_goals first
    | decide +kernel
    | exact Or.inl rfl
    | exact fun _ _ => noPair (by decide +kernel) _
    | exact not_raised_of (by decide +kernel)
    | exact raised_of (by decide +kernel)

theorem wit_tickAndHeldFrames_0 :
    (fun (us : Nat) (s0 : State) => (fun (s : State) => s0.powered = true ∧ (s.works wTBS ∧ s.tickDue = true)) (s0.after 7))
      (100 : Nat) (litTick) := by
  repeat' apply And.intro
  all_goals first
    | decide +kernel
    | exact Or.inl rfl
    | exact fun _ _ => noPair (by decide +kernel) _
    | exact not_raised_of (by decide +kernel)
    | exact raised_of (by decide +kernel)

theorem wit_tickAndHeldFrames_1 :
    (fun (us : Nat) (s0 : State) => (fun (s : State) => s0.powered = true ∧ (s.tickDue = false)) (s0.after 7))
      (100 : Nat) (strAt [] 4 1) := by
  repeat' apply And.intro
  all_goals first
    | decide +kernel
    | exact Or.inl rfl
    | exact fun _ _ => noPair (by decide +kernel) _
    | exact not_raised_of (by decide +kernel)
    | exact raised_of (by decide +kernel)

theorem wit_tickAndHeldFrames_2 :
    (fun (q : Nat) (h : HeldFrame) (r : List HeldFrame) (s0 : State) => (fun (s : State) => s0.powered = true ∧ (s.works wSCN ∧ s.scnRuns = true ∧ s.scn.held = h :: r ∧ s.engineQueue 1 h.lane 1 = some q ∧ s.qFree q = true ∧ q < 64)) (s0.after 7))
      (1 : Nat) ({ lane := 0, asn := 500, pay := .octets [0x59, 2] } : HeldFrame) (([] : List HeldFrame) : List HeldFrame) ({ imaged .dark [] (ringRegs testQueues) [] with
        scn := { ScnUnit.reset with held := [{ lane := 0, asn := 500, pay := .octets [0x59, 2] }] }
        sys := { SysUnit.reset with pwr := .lit }
        regs := { RegUnit.reset with cfg := bank (ringRegs testQueues), act := soundWords [(reg wSCN 0x004, 1)] } }) := by
  repeat' apply And.intro
  all_goals first
    | decide +kernel
    | exact Or.inl rfl
    | exact fun _ _ => noPair (by decide +kernel) _
    | exact not_raised_of (by decide +kernel)
    | exact raised_of (by decide +kernel)

theorem wit_tickAndHeldFrames_3 :
    (fun (s0 : State) => (fun (s : State) => s0.powered = true ∧ (s.works wSCN ∧ s.scnRuns = false)) (s0.after 7))
       ({ imaged .dark [] (ringRegs testQueues) [] with scn := { ScnUnit.reset with held := [{ lane := 0, asn := 500, pay := .octets [0x59, 2] }] } }) := by
  repeat' apply And.intro
  all_goals first
    | decide +kernel
    | exact Or.inl rfl
    | exact fun _ _ => noPair (by decide +kernel) _
    | exact not_raised_of (by decide +kernel)
    | exact raised_of (by decide +kernel)

theorem wit_waveDetects_0 :
    (fun (n tr td sp hd cl us : Nat) (hv : Bool) (r : List WavIn) (s0 : State) => (fun (s : State) => s0.powered = true ∧ (s.works wWAV ∧ s.wav.fifo = .detect n tr td sp hd hv cl :: r ∧ (s.detectBad n tr td sp hv cl).isSome = true)) (s0.after 7))
      (1 : Nat) (100 : Nat) (90 : Nat) (300 : Nat) (5 : Nat) (1 : Nat) (4 : Nat) (true : Bool) (([] : List WavIn) : List WavIn) ({ strAt [] 4 1 with wav := { WavUnit.reset with fifo := [.detect 1 100 90 300 5 true 1] } }) := by
  repeat' apply And.intro
  all_goals first
    | decide +kernel
    | exact Or.inl rfl
    | exact fun _ _ => noPair (by decide +kernel) _
    | exact not_raised_of (by decide +kernel)
    | exact raised_of (by decide +kernel)

theorem wit_waveDetects_1 :
    (fun (n tr td sp hd cl us k p c : Nat) (hv : Bool) (r : List WavIn) (s0 : State) => (fun (s : State) => s0.powered = true ∧ (s.works wWAV ∧ s.wav.fifo = .detect n tr td sp hd hv cl :: r ∧ (s.detectBad n tr td sp hv cl).isNone = true ∧
    (s.wav.waves.any (fun w => s.joins w n td (if hv then some hd else none))) = false ∧ s.freeWave = some k ∧ s.lt n 0x00E 1 = p ∧
    (tabGetD 0 s.wav.counts k + 1) % 512 = c)) (s0.after 7))
      (1 : Nat) (100 : Nat) (90 : Nat) (300 : Nat) (5 : Nat) (1 : Nat) (4 : Nat) (0 : Nat) (0 : Nat) (1 : Nat) (true : Bool) (([] : List WavIn) : List WavIn) (waveLit [.detect 1 100 90 300 5 true 1] []) := by
  repeat' apply And.intro
  all_goals first
    | decide +kernel
    | exact Or.inl rfl
    | exact fun _ _ => noPair (by decide +kernel) _
    | exact not_raised_of (by decide +kernel)
    | exact raised_of (by decide +kernel)

theorem wit_waveDetects_2 :
    (fun (n tr td sp hd cl us : Nat) (hv : Bool) (r : List WavIn) (w : Wave) (s0 : State) => (fun (s : State) => s0.powered = true ∧ (s.works wWAV ∧ s.wav.fifo = .detect n tr td sp hd hv cl :: r ∧ (s.detectBad n tr td sp hv cl).isNone = true ∧
    minBy (State.joinGap n td) (s.wav.waves.filter (fun x => s.joins x n td (if hv then some hd else none))) = some w)) (s0.after 7))
      (1 : Nat) (3000 : Nat) (2900 : Nat) (300 : Nat) (5 : Nat) (1 : Nat) (4 : Nat) (false : Bool) (([] : List WavIn) : List WavIn) (testWave : Wave) (waveLit [.detect 1 3000 2900 300 5 false 1] [testWave]) := by
  repeat' apply And.intro
  all_goals first
    | decide +kernel
    | exact Or.inl rfl
    | exact fun _ _ => noPair (by decide +kernel) _
    | exact not_raised_of (by decide +kernel)
    | exact raised_of (by decide +kernel)

theorem wit_waveDetects_3 :
    (fun (us : Nat) (s0 : State) => (fun (s : State) => s0.powered = true ∧ (s.wav.fifo = [])) (s0.after 7))
      (4 : Nat) (State.reset) := by
  repeat' apply And.intro
  all_goals first
    | decide +kernel
    | exact Or.inl rfl
    | exact fun _ _ => noPair (by decide +kernel) _
    | exact not_raised_of (by decide +kernel)
    | exact raised_of (by decide +kernel)

theorem wit_waveDetects_4 :
    (fun (n : Nat) (s0 : State) => (fun (s : State) => s0.powered = true ∧ (s.works wWAV ∧ s.waveEndDue n = true)) (s0.after 7))
      (0 : Nat) ({ waveLit [] [{ testWave with set := [] }] with cyc := 4000000 }) := by
  repeat' apply And.intro
  all_goals first
    | decide +kernel
    | exact Or.inl rfl
    | exact fun _ _ => noPair (by decide +kernel) _
    | exact not_raised_of (by decide +kernel)
    | exact raised_of (by decide +kernel)

theorem wit_waveHandoffs_0 :
    (fun (p src : List Byte) (tr co us ty : Nat) (r : List WavIn) (st : Bool) (s0 : State) => (fun (s : State) => (ty = 1 ∨ ty = 2 ∨ ty = 3) ∧ s0.powered = true ∧ (s.works wWAV ∧ s.wav.fifo = .datagram p tr co src :: r ∧
    (if fieldBE p 3 1 = 2 ∨ fieldBE p 3 1 = 3 then fieldBE p 3 1 else 1) = ty ∧
    (match s.handCheck p tr co src with | .error b => some b | .ok _ => none) = some st)) (s0.after 7))
      ([1, 2] : List Byte) ([10, 0, 0, 1] : List Byte) (5 : Nat) (25 : Nat) (4 : Nat) (1 : Nat) (([] : List WavIn) : List WavIn) (false : Bool) (waveLit [.datagram [1, 2] 5 25 [10, 0, 0, 1]] []) := by
  repeat' apply And.intro
  all_goals first
    | decide +kernel
    | exact Or.inl rfl
    | exact fun _ _ => noPair (by decide +kernel) _
    | exact not_raised_of (by decide +kernel)
    | exact raised_of (by decide +kernel)

theorem wit_waveHandoffs_1 :
    (fun (p src : List Byte) (tr co us n k c pe : Nat) (r : List WavIn) (s0 : State) => (fun (s : State) => s0.powered = true ∧ (s.works wWAV ∧ s.wav.fifo = .datagram p tr co src :: r ∧ fieldBE p 3 1 = 1 ∧ (s.handCheck p tr co src).toOption = some pe ∧
    fieldBE p 16 2 = n ∧ s.wavStateBad n = false ∧ fieldBE p 45 1 ≤ 3 ∧
    ((profOf (s.profWords (s.lt n 0x00E 1))).classes >>> fieldBE p 45 1) % 2 = 1 ∧ s.freeWave = some k ∧
    (tabGetD 0 s.wav.counts k + 1) % 512 = c)) (s0.after 7))
      (handGram 1 : List Byte) ([10, 0, 0, 1] : List Byte) (5 : Nat) (25 : Nat) (4 : Nat) (1 : Nat) (0 : Nat) (1 : Nat) (0 : Nat) (([] : List WavIn) : List WavIn) (waveLit [.datagram (handGram 1) 5 25 [10, 0, 0, 1]] []) := by
  repeat' apply And.intro
  all_goals first
    | decide +kernel
    | exact Or.inl rfl
    | exact fun _ _ => noPair (by decide +kernel) _
    | exact not_raised_of (by decide +kernel)
    | exact raised_of (by decide +kernel)

theorem wit_waveHandoffs_2 :
    (fun (p src : List Byte) (tr co us n pe : Nat) (r : List WavIn) (w : Wave) (s0 : State) => (fun (s : State) => s0.powered = true ∧ (s.works wWAV ∧ s.wav.fifo = .datagram p tr co src :: r ∧ fieldBE p 3 1 = 2 ∧ (s.handCheck p tr co src).toOption = some pe ∧
    fieldBE p 16 2 = n ∧ s.wavStateBad n = false ∧
    s.wav.waves.find? (fun w => match w.remote with | some r => r.1 == pe && r.2.1 == fieldBE p 12 2 | none => false) = some w)) (s0.after 7))
      (handGram 2 : List Byte) ([10, 0, 0, 1] : List Byte) (5 : Nat) (25 : Nat) (4 : Nat) (1 : Nat) (0 : Nat) (([] : List WavIn) : List WavIn) (testWave : Wave) (waveLit [.datagram (handGram 2) 5 25 [10, 0, 0, 1]] [testWave]) := by
  repeat' apply And.intro
  all_goals first
    | decide +kernel
    | exact Or.inl rfl
    | exact fun _ _ => noPair (by decide +kernel) _
    | exact not_raised_of (by decide +kernel)
    | exact raised_of (by decide +kernel)

theorem wit_waveHandoffs_3 :
    (fun (p src : List Byte) (tr co us n pe : Nat) (r : List WavIn) (w : Wave) (s0 : State) => (fun (s : State) => s0.powered = true ∧ (s.works wWAV ∧ s.wav.fifo = .datagram p tr co src :: r ∧ fieldBE p 3 1 = 3 ∧ (s.handCheck p tr co src).toOption = some pe ∧
    fieldBE p 16 2 = n ∧ s.wavStateBad n = false ∧
    s.wav.waves.find? (fun w => match w.remote with | some r => r.1 == pe && r.2.1 == fieldBE p 12 2 | none => false) = some w)) (s0.after 7))
      (handGram 3 : List Byte) ([10, 0, 0, 1] : List Byte) (5 : Nat) (25 : Nat) (4 : Nat) (1 : Nat) (0 : Nat) (([] : List WavIn) : List WavIn) (testWave : Wave) (waveLit [.datagram (handGram 3) 5 25 [10, 0, 0, 1]] [testWave]) := by
  repeat' apply And.intro
  all_goals first
    | decide +kernel
    | exact Or.inl rfl
    | exact fun _ _ => noPair (by decide +kernel) _
    | exact not_raised_of (by decide +kernel)
    | exact raised_of (by decide +kernel)

theorem wit_waveHandoffs_4 :
    (fun (p src : List Byte) (tr co us n pe ty : Nat) (r : List WavIn) (s0 : State) => (fun (s : State) => (ty = 2 ∨ ty = 3) ∧ s0.powered = true ∧ (s.works wWAV ∧ s.wav.fifo = .datagram p tr co src :: r ∧ fieldBE p 3 1 = ty ∧ (s.handCheck p tr co src).toOption = some pe ∧
    fieldBE p 16 2 = n ∧ s.wavStateBad n = false ∧
    s.wav.waves.find? (fun w => match w.remote with | some r => r.1 == pe && r.2.1 == fieldBE p 12 2 | none => false) = none)) (s0.after 7))
      (handGram 3 : List Byte) ([10, 0, 0, 1] : List Byte) (5 : Nat) (25 : Nat) (4 : Nat) (1 : Nat) (0 : Nat) (3 : Nat) (([] : List WavIn) : List WavIn) (waveLit [.datagram (handGram 3) 5 25 [10, 0, 0, 1]] []) := by
  repeat' apply And.intro
  all_goals first
    | decide +kernel
    | exact Or.inl rfl
    | exact fun _ _ => noPair (by decide +kernel) _
    | exact not_raised_of (by decide +kernel)
    | exact raised_of (by decide +kernel)

theorem wit_groupPhases_0 :
    (fun (g z : Nat) (s0 : State) => (fun (s : State) => (g < 8) ∧ s0.powered = true ∧ (s.works wMST ∧ s.mst.groups.length = 8 ∧ (s.group g).phase = .run ∧ (s.group g).zeroSince = some z ∧
    z + max 1 (fld (s.act (reg wMST 0x004)) 31 24) * 200000000 ≤ s.raw)) (s0.after 7))
      (1 : Nat) (0 : Nat) ({ imaged .run [] [] [] with cyc := 200000000000 }) := by
  repeat' apply And.intro
  all_goals first
    | decide +kernel
    | exact Or.inl rfl
    | exact fun _ _ => noPair (by decide +kernel) _
    | exact not_raised_of (by decide +kernel)
    | exact raised_of (by decide +kernel)

theorem wit_groupPhases_1 :
    (fun (g : Nat) (x : Bool) (s0 : State) => (fun (s : State) => (g < 8) ∧ s0.powered = true ∧ (s.works wMST ∧ s.mst.groups.length = 8 ∧ (s.group g).phase = (if x then .startup else .recovery) ∧
    (s.group g).since + (if x then max 1 (fld (s.act (reg wMST 0x004)) 15 8) * 20000000
      else max 1 (fld (s.act (reg wMST 0x004)) 23 16) * 200000000) ≤ s.raw)) (s0.after 7))
      (1 : Nat) (false : Bool) ({ imaged .recovery [] [] [] with cyc := 200000000000 }) := by
  repeat' apply And.intro
  all_goals first
    | decide +kernel
    | exact Or.inl rfl
    | exact fun _ _ => noPair (by decide +kernel) _
    | exact not_raised_of (by decide +kernel)
    | exact raised_of (by decide +kernel)

theorem wit_groupPhases_2 :
    (fun (g v : Nat) (s0 : State) => (fun (s : State) => (g < 8) ∧ s0.powered = true ∧ (s.works wMST ∧ s.mst.groups.length = 8 ∧ s.mst.sinks.length = 56 ∧ s.hrRuns g = true ∧
    (s.group g).hrAt + max 1 (fld (s.act (reg wMST 0x008)) 31 24) * 200000 ≤ s.raw ∧
    minBy (fun x => x) ((List.range 6).filterMap (fun j =>
      if State.sinkFault (s.sink (7 * g + j)) then none else (s.sink (7 * g + j)).hrMin)) = some v)) (s0.after 7))
      (1 : Nat) (100 : Nat) ({ sinking 9 (fun k => { k with hrMin := some 100 }) (fun x => { x with code := 100 }) with cyc := 200000000000 }) := by
  repeat' apply And.intro
  all_goals first
    | decide +kernel
    | exact Or.inl rfl
    | exact fun _ _ => noPair (by decide +kernel) _
    | exact not_raised_of (by decide +kernel)
    | exact raised_of (by decide +kernel)

theorem wit_groupPhases_3 :
    (fun (g : Nat) (s0 : State) => (fun (s : State) => (g < 8) ∧ s0.powered = true ∧ (s.hrRuns g = false ∨ s.raw < (s.group g).hrAt + max 1 (fld (s.act (reg wMST 0x008)) 31 24) * 200000)) (s0.after 7))
      (1 : Nat) (imaged .dark [] [] []) := by
  repeat' apply And.intro
  all_goals first
    | decide +kernel
    | exact Or.inl rfl
    | exact fun _ _ => noPair (by decide +kernel) _
    | exact not_raised_of (by decide +kernel)
    | exact raised_of (by decide +kernel)

theorem wit_groupPhases_5 :
    (fun (g j r : Nat) (s0 : State) => (fun (s : State) => (g < 8 ∧ j < 6) ∧ s0.powered = true ∧ (s.works wMST ∧ s.mst.sinks.length = 56 ∧ s.hrRuns g = true ∧ (s.group g).code = (s.hrLimits g).2 ∧
    (s.sink (7 * g + j)).sat = true ∧ (s.sink (7 * g + j)).satSince = some r ∧ r + 20000000 ≤ s.raw)) (s0.after 7))
      (1 : Nat) (2 : Nat) (0 : Nat) ({ sinking 9 (fun k => { k with sat := true, satSince := some 0 }) (fun g => { g with code := 4095 }) with cyc := 40000000 }) := by
  repeat' apply And.intro
  all_goals first
    | decide +kernel
    | exact Or.inl rfl
    | exact fun _ _ => noPair (by decide +kernel) _
    | exact not_raised_of (by decide +kernel)
    | exact raised_of (by decide +kernel)

theorem wit_groupPhases_6 :
    (fun (m c : Nat) (s0 : State) => (fun (s : State) => (c ≤ 55 ∧ c % 7 ≠ 6) ∧ s0.powered = true ∧ (s.lets m (reg wMST 0x00C) ∧ s.mst.groups.length = 8 ∧ s.mst.sinks.length = 56 ∧ s.mst.cal = none ∧ s.groupEnabled (c / 7) = true)) (s0.after 7))
      (0 : Nat) (9 : Nat) (sinking 9 (fun k => { k with open_ := true, takenOut := true }) id) := by
  repeat' apply And.intro
  all_goals first
    | decide +kernel
    | exact Or.inl rfl
    | exact fun _ _ => noPair (by decide +kernel) _
    | exact not_raised_of (by decide +kernel)
    | exact raised_of (by decide +kernel)

theorem wit_sinkFaults_0 :
    (fun (c : Nat) (s0 : State) => (fun (s : State) => s0.powered = true ∧ (s.works wMST ∧ s.mst.sinks.length = 56 ∧ s.sinkChecked c = true ∧ (s.sink c).open_ = false ∧
    max 1 (fld (s.act (reg wMST 0x004)) 3 0) ≤ (s.sink c).openCnt ∧
    ((s.imgGroup (c / 7)).interlock = false ∨ (s.group (c / 7)).phase = .run))) (s0.after 7))
      (9 : Nat) (sinking 9 (fun k => { k with d := 100, openCnt := 15, i := 3, vds := 20 }) id) := by
  repeat' apply And.intro
  all_goals first
    | decide +kernel
    | exact Or.inl rfl
    | exact fun _ _ => noPair (by decide +kernel) _
    | exact not_raised_of (by decide +kernel)
    | exact raised_of (by decide +kernel)

theorem wit_sinkFaults_1 :
    (fun (c : Nat) (s0 : State) => (fun (s : State) => s0.powered = true ∧ (s.works wMST ∧ s.mst.sinks.length = 56 ∧ s.mst.groups.length = 8 ∧ s.sinkChecked c = true ∧ (s.sink c).open_ = false ∧
    max 1 (fld (s.act (reg wMST 0x004)) 3 0) ≤ (s.sink c).openCnt ∧
    (s.imgGroup (c / 7)).interlock = true ∧ (s.group (c / 7)).phase ≠ .run)) (s0.after 7))
      (9 : Nat) ({ interlocked with mst := { interlocked.mst with sinks := modAt interlocked.mst.sinks 9 (fun k => { k with openCnt := 15 }) } }) := by
  repeat' apply And.intro
  all_goals first
    | decide +kernel
    | exact Or.inl rfl
    | exact fun _ _ => noPair (by decide +kernel) _
    | exact not_raised_of (by decide +kernel)
    | exact raised_of (by decide +kernel)

theorem wit_sinkFaults_2 :
    (fun (c i v : Nat) (x : Bool) (s0 : State) => (fun (s : State) => s0.powered = true ∧ (s.works wMST ∧ s.mst.sinks.length = 56 ∧ s.mst.groups.length = 8 ∧ s.sinkChecked c = true ∧ (s.sink c).ctrl = false ∧
    (if x then decide (5 * (s.sink c).targetMa / 4 < (i : Rat)) else decide (3 ≤ (s.sink c).ctrlCnt)) = true ∧
    (s.imgGroup (c / 7)).spare = true ∧ (s.group (c / 7)).subBusy = none ∧ (s.group (c / 7)).spareUsable = true ∧
    (s.group (c / 7)).spareTo = none)) (s0.after 7))
      (9 : Nat) (30 : Nat) (20 : Nat) (true : Bool) (sinking 9 (fun k => { k with d := 100, code := 100, ctrlCnt := 3 }) id) := by
  repeat' apply And.intro
  all_goals first
    | decide +kernel
    | exact Or.inl rfl
    | exact fun _ _ => noPair (by decide +kernel) _
    | exact not_raised_of (by decide +kernel)
    | exact raised_of (by decide +kernel)

theorem wit_sinkFaults_3 :
    (fun (c i v : Nat) (s0 : State) => (fun (s : State) => (c < 56 ∧ c % 7 < 6) ∧ s0.powered = true ∧ (s.works wMST ∧ s.mst.sinks.length = 56 ∧ (s.group (c / 7)).phase = .held ∧ 0 < (s.sink c).d ∧
    5 * (s.sink c).targetMa / 4 < (i : Rat))) (s0.after 7))
      (9 : Nat) (30 : Nat) (20 : Nat) (sinking 9 (fun k => { k with d := 100, code := 100 }) (fun g => { g with phase := .held })) := by
  repeat' apply And.intro
  all_goals first
    | decide +kernel
    | exact Or.inl rfl
    | exact fun _ _ => noPair (by decide +kernel) _
    | exact not_raised_of (by decide +kernel)
    | exact raised_of (by decide +kernel)

theorem wit_sinkFaults_4 :
    (fun (c : Nat) (s0 : State) => (fun (s : State) => s0.powered = true ∧ (s.works wMST ∧ s.mst.sinks.length = 56 ∧ s.mst.groups.length = 8 ∧ s.sinkChecked c = true ∧ (s.sink c).sat = false ∧
    3 ≤ (s.sink c).satCnt)) (s0.after 7))
      (9 : Nat) (sinking 9 (fun k => { k with d := 100, satCnt := 3 }) id) := by
  repeat' apply And.intro
  all_goals first
    | decide +kernel
    | exact Or.inl rfl
    | exact fun _ _ => noPair (by decide +kernel) _
    | exact not_raised_of (by decide +kernel)
    | exact raised_of (by decide +kernel)

theorem wit_sinkFaults_5 :
    (fun (c i v : Nat) (x : Nat) (s0 : State) => (fun (s : State) => (x ≤ 3) ∧ s0.powered = true ∧ ((if x = 0 then decide ((s.sink c).openCnt < max 1 (fld (s.act (reg wMST 0x004)) 3 0)) else if x = 1 then decide ((s.sink c).ctrlCnt < 3)
      else if x = 2 then decide ((s.sink c).satCnt < 3) else decide ((i : Rat) ≤ 5 * (s.sink c).targetMa / 4)) = true)) (s0.after 7))
      (9 : Nat) (3 : Nat) (20 : Nat) (0 : Nat) (sinking 9 (fun k => { k with d := 100, code := 100 }) id) := by
  repeat' apply And.intro
  all_goals first
    | decide +kernel
    | exact Or.inl rfl
    | exact fun _ _ => noPair (by decide +kernel) _
    | exact not_raised_of (by decide +kernel)
    | exact raised_of (by decide +kernel)

theorem wit_sinkFaults_6 :
    (fun (c i : Nat) (s0 : State) => (fun (s : State) => s0.powered = true ∧ (s.works wMST ∧ s.mst.sinks.length = 56 ∧ s.sinkChecked c = true ∧ s.blankDue c = true ∧ 400 * i ≤ s.fullCode c)) (s0.after 7))
      (9 : Nat) (3 : Nat) ({ sinking 9 (fun k => { k with d := 100 }) id with cyc := 6390594, regs := { RegUnit.reset with act := soundWords [(reg wMST 0x520, 0x00000800), (reg wMST 0x120, 0xF)] } }) := by
  repeat' apply And.intro
  all_goals first
    | decide +kernel
    | exact Or.inl rfl
    | exact fun _ _ => noPair (by decide +kernel) _
    | exact not_raised_of (by decide +kernel)
    | exact raised_of (by decide +kernel)

theorem wit_sinkFaults_7 :
    (fun (c i : Nat) (s0 : State) => (fun (s : State) => s0.powered = true ∧ (s.works wMST ∧ s.mst.sinks.length = 56 ∧ s.sinkChecked c = true ∧ s.blankDue c = true ∧ s.fullCode c < 400 * i ∧ (s.sink c).adjShort = false ∧
    ((s.imgGroup (c / 7)).interlock = false ∨ (s.group (c / 7)).phase = .run))) (s0.after 7))
      (9 : Nat) (3 : Nat) ({ sinking 9 (fun k => { k with d := 100 }) id with cyc := 6390594 }) := by
  repeat' apply And.intro
  all_goals first
    | decide +kernel
    | exact Or.inl rfl
    | exact fun _ _ => noPair (by decide +kernel) _
    | exact not_raised_of (by decide +kernel)
    | exact raised_of (by decide +kernel)

theorem wit_sinkFaults_8 :
    (fun (c : Nat) (s0 : State) => (fun (s : State) => (c < 56 ∧ c % 7 < 6) ∧ s0.powered = true ∧ (s.works wMST ∧ s.mst.sinks.length = 56 ∧ (s.group (c / 7)).phase ≠ .held ∧ s.stretchDue c = true ∧ (s.sink c).mode = .pwm ∧
    15 ≤ (s.sink c).onTicks ∧ (s.sink c).onTicks < 3200)) (s0.after 7))
      (9 : Nat) ({ sinking 9 (fun k => { k with mode := .pwm, onTicks := 100 }) id with cyc := 18015594 }) := by
  repeat' apply And.intro
  all_goals first
    | decide +kernel
    | exact Or.inl rfl
    | exact fun _ _ => noPair (by decide +kernel) _
    | exact not_raised_of (by decide +kernel)
    | exact raised_of (by decide +kernel)

theorem wit_sinkFaults_9 :
    (fun (c i : Nat) (s0 : State) => (fun (s : State) => (c < 56 ∧ c % 7 < 6) ∧ s0.powered = true ∧ (s.works wMST ∧ s.mst.sinks.length = 56 ∧ (s.group (c / 7)).phase ≠ .held ∧ s.stretchDue c = true ∧ (s.sink c).mode = .pwm ∧
    15 ≤ (s.sink c).onTicks ∧ (s.sink c).onTicks < 3200 ∧ s.sinkChecked (c + 1) = true ∧ s.fullCode (c + 1) < 400 * i ∧
    (s.sink (c + 1)).adjShort = false ∧ ((s.imgGroup (c / 7)).interlock = false ∨ (s.group (c / 7)).phase = .run))) (s0.after 7))
      (9 : Nat) (3 : Nat) ({ sinking 10 (fun k => { k with d := 100 }) id with cyc := 18015594, mst := { (sinking 10 (fun k => { k with d := 100 }) id).mst with sinks := modAt (sinking 10 (fun k => { k with d := 100 }) id).mst.sinks 9 (fun k => { k with mode := .pwm, onTicks := 100 }) } }) := by
  repeat' apply And.intro
  all_goals first
    | decide +kernel
    | exact Or.inl rfl
    | exact fun _ _ => noPair (by decide +kernel) _
    | exact not_raised_of (by decide +kernel)
    | exact raised_of (by decide +kernel)

theorem wit_sinkFaults_10 :
    (fun (c : Nat) (x : Bool) (s0 : State) => (fun (s : State) => s0.powered = true ∧ ((if x then s.stretchDue c else s.blankDue c) = false)) (s0.after 7))
      (9 : Nat) (true : Bool) (sinking 9 (fun k => { k with d := 100, mode := .pwm, onTicks := 100 }) id) := by
  repeat' apply And.intro
  all_goals first
    | decide +kernel
    | exact Or.inl rfl
    | exact fun _ _ => noPair (by decide +kernel) _
    | exact not_raised_of (by decide +kernel)
    | exact raised_of (by decide +kernel)

theorem wit_spareSinksAndCalibration_0 :
    (fun (g : Nat) (ok : Bool) (m : SinkMeas) (s0 : State) => (fun (s : State) => (g < 8) ∧ s0.powered = true ∧ (s.works wMST ∧ s.mst.sinks.length = 56 ∧ s.mst.groups.length = 8 ∧ s.groupEnabled g = true ∧ (s.imgGroup g).spare = true ∧
    (s.group g).spareTo = none ∧ (s.group g).subBusy = none ∧ (s.group g).selfAt ≠ some (s.selfSlot g))) (s0.after 7))
      (1 : Nat) (true : Bool) ({ sink := 13, i := 50, vds := 400, vsup := 30000, clamp := false } : SinkMeas) (imaged .run [] [] []) := by
  repeat' apply And.intro
  all_goals first
    | decide +kernel
    | exact Or.inl rfl
    | exact fun _ _ => noPair (by decide +kernel) _
    | exact not_raised_of (by decide +kernel)
    | exact raised_of (by decide +kernel)

theorem wit_spareSinksAndCalibration_1 :
    (fun (g : Nat) (ok : Bool) (m : SinkMeas) (s0 : State) => (fun (s : State) => s0.powered = true ∧ ((s.group g).selfAt = some (s.selfSlot g))) (s0.after 7))
      (1 : Nat) (true : Bool) ({ sink := 13, i := 50, vds := 400, vsup := 30000, clamp := false } : SinkMeas) ({ sinking 9 id (fun x => { x with selfAt := some 1250000000 }) with cyc := 800000000 }) := by
  repeat' apply And.intro
  all_goals first
    | decide +kernel
    | exact Or.inl rfl
    | exact fun _ _ => noPair (by decide +kernel) _
    | exact not_raised_of (by decide +kernel)
    | exact raised_of (by decide +kernel)

theorem wit_spareSinksAndCalibration_2 :
    (fun (g j : Nat) (s0 : State) => (fun (s : State) => (g < 8 ∧ j < 6) ∧ s0.powered = true ∧ (s.works wMST ∧ s.mst.sinks.length = 56 ∧ s.mst.groups.length = 8 ∧ (s.group g).subBusy = some j ∧
    (∀ i, i < 6 → i ≠ j → (s.sink (7 * g + i)).ctrl = false ∨ (s.sink (7 * g + i)).takenOut = true))) (s0.after 7))
      (1 : Nat) (2 : Nat) (sinking 9 (fun k => { k with ctrl := true }) (fun g => { g with subBusy := some 2 })) := by
  repeat' apply And.intro
  all_goals first
    | decide +kernel
    | exact Or.inl rfl
    | exact fun _ _ => noPair (by decide +kernel) _
    | exact not_raised_of (by decide +kernel)
    | exact raised_of (by decide +kernel)

theorem wit_spareSinksAndCalibration_3 :
    (fun (m g z : Nat) (tq : Rat) (s0 : State) => (fun (s : State) => (g < 8) ∧ s0.powered = true ∧ (s.lets m (reg wMST 0x00C) ∧ s.mst.cal = none ∧ s.groupEnabled g = true ∧
    ((s.groupOwners g).all (fun o => s.hst o.1 o.2 == .stopped || s.hst o.1 o.2 == .free)) = true ∧
    (s.group g).zeroSince = some z ∧ (s.group g).ntc = some tq ∧ z + 360000000000 ≤ s.raw)) (s0.after 7))
      (0 : Nat) (1 : Nat) (0 : Nat) (25 : Rat) ({ calReady with cyc := 800000000000 }) := by
  repeat' apply And.intro
  all_goals first
    | decide +kernel
    | exact Or.inl rfl
    | exact fun _ _ => noPair (by decide +kernel) _
    | exact not_raised_of (by decide +kernel)
    | exact raised_of (by decide +kernel)

theorem wit_spareSinksAndCalibration_4 :
    (fun (m g z : Nat) (s0 : State) => (fun (s : State) => (g < 8) ∧ s0.powered = true ∧ (s.lets m (reg wMST 0x00C) ∧ s.mst.cal = none ∧ s.groupEnabled g = true ∧
    ((s.groupOwners g).all (fun o => s.hst o.1 o.2 == .stopped || s.hst o.1 o.2 == .free)) = true ∧
    (s.group g).zeroSince = some z ∧ s.raw < z + 360000000000)) (s0.after 7))
      (0 : Nat) (1 : Nat) (0 : Nat) (calReady) := by
  repeat' apply And.intro
  all_goals first
    | decide +kernel
    | exact Or.inl rfl
    | exact fun _ _ => noPair (by decide +kernel) _
    | exact not_raised_of (by decide +kernel)
    | exact raised_of (by decide +kernel)

theorem wit_spareSinksAndCalibration_5 :
    (fun (c : Cal) (s0 : State) => (fun (s : State) => s0.powered = true ∧ (s.works wMST ∧ s.mst.cal = some c ∧ c.group < 8 ∧ c.low = false ∧ (c.ended = true ∨ s.calSinks c.group = []))) (s0.after 7))
      (doneCal : Cal) ({ calReady with mst := { calReady.mst with cal := some doneCal }, regs := { RegUnit.reset with act := soundWords [(reg wMST 0x120, 0xF), (reg wMST 0x520, 0x00000800)] } }) := by
  repeat' apply And.intro
  all_goals first
    | decide +kernel
    | exact Or.inl rfl
    | exact fun _ _ => noPair (by decide +kernel) _
    | exact not_raised_of (by decide +kernel)
    | exact raised_of (by decide +kernel)

theorem wit_spareSinksAndCalibration_6 :
    (fun (c : Cal) (s0 : State) => (fun (s : State) => s0.powered = true ∧ (s.works wMST ∧ s.mst.cal = some c ∧ c.low = true)) (s0.after 7))
      ({ doneCal with low := true } : Cal) ({ calReady with mst := { calReady.mst with cal := some { doneCal with low := true } } }) := by
  repeat' apply And.intro
  all_goals first
    | decide +kernel
    | exact Or.inl rfl
    | exact fun _ _ => noPair (by decide +kernel) _
    | exact not_raised_of (by decide +kernel)
    | exact raised_of (by decide +kernel)

theorem wit_spareSinksAndCalibration_7 :
    (fun (c : Cal) (s0 : State) => (fun (s : State) => s0.powered = true ∧ (s.mst.cal = some c ∧ c.low = false ∧ c.ended = false ∧ s.calSinks c.group ≠ [])) (s0.after 7))
      ({ doneCal with ended := false } : Cal) ({ calReady with mst := { calReady.mst with cal := some { doneCal with ended := false } }, regs := { RegUnit.reset with act := soundWords [(reg wMST 0x120, 0xF), (reg wMST 0x520, 0x00000800)] } }) := by
  repeat' apply And.intro
  all_goals first
    | decide +kernel
    | exact Or.inl rfl
    | exact fun _ _ => noPair (by decide +kernel) _
    | exact not_raised_of (by decide +kernel)
    | exact raised_of (by decide +kernel)

theorem wit_spareSinksAndCalibration_8 :
    (fun (g k : Nat) (c : Cal) (s0 : State) => (fun (s : State) => (g < 8) ∧ s0.powered = true ∧ (s.works wMST ∧ s.mst.groups.length = 8 ∧ s.mst.sinks.length = 56 ∧ s.groupEnabled g = true ∧ s.atPeriod g = true ∧
    (s.group g).phase ≠ .held ∧ (s.group g).clampDue = false ∧ s.regs.changed = [] ∧ s.str.pend = none ∧
    s.mst.cal = some c ∧ c.group = g ∧ c.low = false ∧ c.periods % 32 ≠ 0 ∧ s.mastDrives = true ∧ (s.calSinks g)[c.periods / 64]? = some k)) (s0.after 7))
      (1 : Nat) (9 : Nat) ({ doneCal with ended := false, periods := 33 } : Cal) ({ calReady with cyc := 8015594, mst := { calReady.mst with cal := some { doneCal with ended := false, periods := 33 } }, sys := { calReady.sys with pwr := .lit }, regs := { RegUnit.reset with act := soundWords [(reg wMST 0x120, 0xF), (reg wMST 0x520, 0x00000800)] } }) := by
  repeat' apply And.intro
  all_goals first
    | decide +kernel
    | exact Or.inl rfl
    | exact fun _ _ => noPair (by decide +kernel) _
    | exact not_raised_of (by decide +kernel)
    | exact raised_of (by decide +kernel)

theorem wit_periodsAndHeads_0 :
    (fun (g : Nat) (ms : List SinkMeas) (s0 : State) => (fun (s : State) => (g < 8) ∧ s0.powered = true ∧ (s.works wMST ∧ s.mst.groups.length = 8 ∧ s.mst.sinks.length = 56 ∧ s.groupEnabled g = true ∧ s.atPeriod g = true ∧
    (s.group g).phase ≠ .held ∧ s.mst.cal = none)) (s0.after 7))
      (1 : Nat) ([{ sink := 9, i := 5, vds := 300, vsup := 48000, clamp := false }] : List SinkMeas) (periodAt) := by
  repeat' apply And.intro
  all_goals first
    | decide +kernel
    | exact Or.inl rfl
    | exact fun _ _ => noPair (by decide +kernel) _
    | exact not_raised_of (by decide +kernel)
    | exact raised_of (by decide +kernel)

theorem wit_periodsAndHeads_1 :
    (fun (g : Nat) (ms : List SinkMeas) (s0 : State) => (fun (s : State) => s0.powered = true ∧ (s.atPeriod g = false ∨ s.groupEnabled g = false)) (s0.after 7))
      (1 : Nat) (([] : List SinkMeas) : List SinkMeas) (imaged .run [] [] []) := by
  repeat' apply And.intro
  all_goals first
    | decide +kernel
    | exact Or.inl rfl
    | exact fun _ _ => noPair (by decide +kernel) _
    | exact not_raised_of (by decide +kernel)
    | exact raised_of (by decide +kernel)

theorem wit_periodsAndHeads_3 :
    (fun (h g : Nat) (c : HeadCmd) (s0 : State) => (fun (s : State) => s0.powered = true ∧ (s.works wMST ∧ s.mst.heads.length = 8 ∧ h < 8 ∧ s.groupOfHead h = some g ∧ s.atPeriod g = true ∧ minBy HeadCmd.teff (s.head h).pend = some c ∧ c.teff ≤ s.raw ∧
    (((s.head h).pend.erase c).any (fun x => decide (x.teff ≤ s.raw))) = false)) (s0.after 7))
      (0 : Nat) (0 : Nat) (oneHeadCmd : HeadCmd) (headAt) := by
  repeat' apply And.intro
  all_goals first
    | decide +kernel
    | exact Or.inl rfl
    | exact fun _ _ => noPair (by decide +kernel) _
    | exact not_raised_of (by decide +kernel)
    | exact raised_of (by decide +kernel)

theorem wit_periodsAndHeads_4 :
    (fun (h g : Nat) (s0 : State) => (fun (s : State) => s0.powered = true ∧ (s.works wMST ∧ s.mst.heads.length = 8 ∧ h < 8 ∧ s.groupOfHead h = some g ∧ s.atPeriod g = true)) (s0.after 7))
      (0 : Nat) (0 : Nat) (headAt) := by
  repeat' apply And.intro
  all_goals first
    | decide +kernel
    | exact Or.inl rfl
    | exact fun _ _ => noPair (by decide +kernel) _
    | exact not_raised_of (by decide +kernel)
    | exact raised_of (by decide +kernel)

theorem wit_periodsAndHeads_5 :
    (fun (g : Nat) (l : List SinkMeas) (o : List Rat) (s0 : State) => (fun (s : State) => (g < 8) ∧ s0.powered = true ∧ (s.works wMST ∧ s.mst.groups.length = 8 ∧ s.groupEnabled g = true ∧ (s.tbs.tickTarget : Rat) - 200000 ≤ s.corrNow ∧
    (s.group g).winTick ≠ some s.tbs.tickTarget)) (s0.after 7))
      (1 : Nat) (([] : List SinkMeas) : List SinkMeas) (([] : List Rat) : List Rat) ({ imaged .run [] [] [] with cyc := 39980000 }) := by
  repeat' apply And.intro
  all_goals first
    | decide +kernel
    | exact Or.inl rfl
    | exact fun _ _ => noPair (by decide +kernel) _
    | exact not_raised_of (by decide +kernel)
    | exact raised_of (by decide +kernel)

theorem wit_lineCycles_0 :
    (fun (f tc t0 : Nat) (l : List (List Int)) (img : ImgFeeder) (s0 : State) => (fun (s : State) => (f < 4) ∧ s0.powered = true ∧ (s.imgFeeder f = some img ∧ img.phases.length = 3 ∧ s.mtr.feeds.length = 4 ∧ s.mtr.powered = true ∧
    (s.takeSamples l).nextCrossing f img = some tc ∧ ((s.takeSamples l).feed f).last = some t0 ∧ ((s.takeSamples l).feed f).substReady = none)) (s0.after 7))
      (0 : Nat) (4100000 : Nat) (100000 : Nat) (([] : List (List Int)) : List (List Int)) (testFeeder : ImgFeeder) ({ metering with mtr := { metering.mtr with feeds := modAt metering.mtr.feeds 0 (fun x => { x with cross := [4100000], buf := sampled }) } }) := by
  repeat' apply And.intro
  all_goals first
    | decide +kernel
    | exact Or.inl rfl
    | exact fun _ _ => noPair (by decide +kernel) _
    | exact not_raised_of (by decide +kernel)
    | exact raised_of (by decide +kernel)

theorem wit_lineCycles_1 :
    (fun (f tc t0 : Nat) (l : List (List Int)) (img : ImgFeeder) (s0 : State) => (fun (s : State) => (f < 4) ∧ s0.powered = true ∧ (s.imgFeeder f = some img ∧ img.phases.length = 3 ∧ s.mtr.feeds.length = 4 ∧ s.mtr.powered = true ∧
    (s.takeSamples l).synthDue f img = true ∧ tc = State.synthAt ((s.takeSamples l).feed f) img ∧ ((s.takeSamples l).feed f).last = some t0 ∧ ((s.takeSamples l).feed f).substReady = none)) (s0.after 7))
      (0 : Nat) (12100000 : Nat) (100000 : Nat) (([] : List (List Int)) : List (List Int)) (testFeeder : ImgFeeder) ({ metering with mtr := { metering.mtr with stamp := 12100000, feeds := modAt metering.mtr.feeds 0 (fun x => { x with buf := sampled }) } }) := by
  repeat' apply And.intro
  all_goals first
    | decide +kernel
    | exact Or.inl rfl
    | exact fun _ _ => noPair (by decide +kernel) _
    | exact not_raised_of (by decide +kernel)
    | exact raised_of (by decide +kernel)

theorem wit_lineCycles_2 :
    (fun (f typ i k tc : Nat) (x : Bool) (img : ImgFeeder) (s0 : State) => (fun (s : State) => (f < 4) ∧ s0.powered = true ∧ (s.imgFeeder f = some img ∧ s.mtr.powered = true ∧ s.nextCrossing f img = some tc ∧
    s.str.pend = some { start := x, typ := typ, idx := i, cyc := k } ∧ k < s.boundaryCyc tc ∧
    (typ = tFEEDER ∧ i = f ∨ typ = tMETER ∧ s.chanFeeder i = some f) ∧ (s.hst typ i = .running ∨ x = true))) (s0.after 7))
      (0 : Nat) (5 : Nat) (0 : Nat) (0 : Nat) (4100000 : Nat) (true : Bool) (testFeeder : ImgFeeder) ({ metering with str := { metering.str with handles := (State.hkey 5 0, handleIn .stopped) :: metering.str.handles, pend := some { start := true, typ := 5, idx := 0, cyc := 0 } }, mtr := { metering.mtr with feeds := modAt metering.mtr.feeds 0 (fun x => { x with cross := [4100000] }) } }) := by
  repeat' apply And.intro
  all_goals first
    | decide +kernel
    | exact Or.inl rfl
    | exact fun _ _ => noPair (by decide +kernel) _
    | exact not_raised_of (by decide +kernel)
    | exact raised_of (by decide +kernel)

theorem wit_lineCycles_3 :
    (fun (f : Nat) (l : List (List Int)) (img : ImgFeeder) (s0 : State) => (fun (s : State) => (f < 4) ∧ s0.powered = true ∧ (s.imgFeeder f = some img ∧ s.mtr.powered = true ∧ (s.takeSamples l).nextCrossing f img = none)) (s0.after 7))
      (0 : Nat) (([] : List (List Int)) : List (List Int)) (testFeeder : ImgFeeder) (metering) := by
  repeat' apply And.intro
  all_goals first
    | decide +kernel
    | exact Or.inl rfl
    | exact fun _ _ => noPair (by decide +kernel) _
    | exact not_raised_of (by decide +kernel)
    | exact raised_of (by decide +kernel)

theorem wit_lineCycles_4 :
    (fun (f : Nat) (c : List Int) (img : ImgFeeder) (s0 : State) => (fun (s : State) => (sampleOk c = true ∧ f < 4) ∧ s0.powered = true ∧ (s.imgFeeder f = some img ∧ s.mtr.powered = true ∧ s.mtr.chans.length = 20 ∧ (s.mtr.restarted = true ∨ s.mtr.stamp ≤ s.raw) ∧
    (s.takeSample c).synthDue f img = false)) (s0.after 7))
      (0 : Nat) (List.replicate 20 5 : List Int) (testFeeder : ImgFeeder) (metering) := by
  repeat' apply And.intro
  all_goals first
    | decide +kernel
    | exact Or.inl rfl
    | exact fun _ _ => noPair (by decide +kernel) _
    | exact not_raised_of (by decide +kernel)
    | exact raised_of (by decide +kernel)

theorem wit_lineCycles_5 :
    (fun (f : Nat) (x : Bool) (l : List (List Int)) (s0 : State) => (fun (s : State) => s0.powered = true ∧ (s.mtr.powered = false)) (s0.after 7))
      (0 : Nat) (true : Bool) (([] : List (List Int)) : List (List Int)) ({ metering with mtr := { metering.mtr with powered := false } }) := by
  repeat' apply And.intro
  all_goals first
    | decide +kernel
    | exact Or.inl rfl
    | exact fun _ _ => noPair (by decide +kernel) _
    | exact not_raised_of (by decide +kernel)
    | exact raised_of (by decide +kernel)

theorem wit_islandSynchronisation_0 :
    (fun (e : Int) (k : SyncState) (s0 : State) => (fun (s : State) => (e.natAbs ≤ 1000) ∧ s0.powered = true ∧ (s.mtr.powered = true ∧ s.mtr.restarted = false ∧ s.mtr.sync = k ∧ s.raw % 200000 = 0)) (s0.after 7))
      (200 : Int) (SyncState.acquiring : SyncState) ({ State.reset with cyc := 399994, mtr := { MtrUnit.reset with syncGood := 2 } }) := by
  repeat' apply And.intro
  all_goals first
    | decide +kernel
    | exact Or.inl rfl
    | exact fun _ _ => noPair (by decide +kernel) _
    | exact not_raised_of (by decide +kernel)
    | exact raised_of (by decide +kernel)

theorem wit_islandSynchronisation_1 :
    (fun (e : Int) (s0 : State) => (fun (s : State) => s0.powered = true ∧ (s.mtr.powered = true ∧ (s.mtr.restarted = true ∨ (s.mtr.sync = .holdover ∧ 62500 < e.natAbs)) ∧ s.raw % 200000 = 0)) (s0.after 7))
      (200 : Int) ({ State.reset with cyc := 399994, mtr := { MtrUnit.reset with restarted := true } }) := by
  repeat' apply And.intro
  all_goals first
    | decide +kernel
    | exact Or.inl rfl
    | exact fun _ _ => noPair (by decide +kernel) _
    | exact not_raised_of (by decide +kernel)
    | exact raised_of (by decide +kernel)

theorem wit_islandSynchronisation_2 :
    (fun (e : Int) (m : Bool) (s0 : State) => (fun (s : State) => s0.powered = true ∧ (s.raw % 200000 ≠ 0)) (s0.after 7))
      (200 : Int) (true : Bool) (State.reset) := by
  repeat' apply And.intro
  all_goals first
    | decide +kernel
    | exact Or.inl rfl
    | exact fun _ _ => noPair (by decide +kernel) _
    | exact not_raised_of (by decide +kernel)
    | exact raised_of (by decide +kernel)

theorem wit_islandSynchronisation_3 :
    (fun (p m : Bool) (e : Int) (s0 : State) => (fun (s : State) => ((p && m) = false) ∧ s0.powered = true ∧ (s.mtr.powered = true ∧ s.mtr.syncMiss = 2 ∧ s.mtr.sync ≠ .holdover ∧ (p = true → s.raw % 200000 = 0))) (s0.after 7))
      (false : Bool) (true : Bool) (0 : Int) ({ State.reset with mtr := { MtrUnit.reset with sync := .locked, syncMiss := 2 } }) := by
  repeat' apply And.intro
  all_goals first
    | decide +kernel
    | exact Or.inl rfl
    | exact fun _ _ => noPair (by decide +kernel) _
    | exact not_raised_of (by decide +kernel)
    | exact raised_of (by decide +kernel)

theorem wit_islandSynchronisation_4 :
    (fun (l : List (List Byte × Nat)) (s0 : State) => (fun (s : State) => (l.all (fun b => crc32c b.1 != b.2) = true) ∧ s0.powered = true ∧ (s.works wMTR ∧ s.mtr.linkDown = false)) (s0.after 7))
      ([([1, 2], 5)] : List (List Byte × Nat)) (State.reset) := by
  repeat' apply And.intro
  all_goals first
    | decide +kernel
    | exact Or.inl rfl
    | exact fun _ _ => noPair (by decide +kernel) _
    | exact not_raised_of (by decide +kernel)
    | exact raised_of (by decide +kernel)

theorem wit_islandSynchronisation_5 :
    (fun (l : List (List Byte × Nat)) (o : List Byte) (c : Nat) (x : Bool) (s0 : State) => (fun (_ : State) => (l.any (fun b => crc32c b.1 == b.2) = true ∧ crc32c o ≠ c) ∧ s0.powered = true ∧ (True)) (s0.after 7))
      ([([1, 2], crc32c [1, 2])] : List (List Byte × Nat)) ([1, 2] : List Byte) (5 : Nat) (true : Bool) (State.reset) := by
  repeat' apply And.intro
  all_goals first
    | decide +kernel
    | exact Or.inl rfl
    | exact fun _ _ => noPair (by decide +kernel) _
    | exact not_raised_of (by decide +kernel)
    | exact raised_of (by decide +kernel)

theorem wit_islandSynchronisation_6 :
    (fun (o : List Byte) (s0 : State) => (fun (s : State) => s0.powered = true ∧ (s.works wMTR ∧ s.mtr.linkDown = true)) (s0.after 7))
      ([1, 2] : List Byte) ({ metering with mtr := { metering.mtr with linkDown := true, held := [{ feeder := 0, t0 := 5, t1 := 4000000, phases := [], holdover := false, resync := false, synth := false, freqRange := true, clips := [], freq := 50000, rms := [(1, 0x3F800000)], noloads := [], at_ := 4000000 }] } }) := by
  repeat' apply And.intro
  all_goals first
    | decide +kernel
    | exact Or.inl rfl
    | exact fun _ _ => noPair (by decide +kernel) _
    | exact not_raised_of (by decide +kernel)
    | exact raised_of (by decide +kernel)

theorem wit_islandSynchronisation_7 :
    (fun (q : Rat) (s0 : State) => (fun (s : State) => (-50 ≤ q ∧ q ≤ 150) ∧ s0.powered = true ∧ (s.mtr.powered = true)) (s0.after 7))
      (30 : Rat) (State.reset) := by
  repeat' apply And.intro
  all_goals first
    | decide +kernel
    | exact Or.inl rfl
    | exact fun _ _ => noPair (by decide +kernel) _
    | exact not_raised_of (by decide +kernel)
    | exact raised_of (by decide +kernel)

theorem wit_islandSynchronisation_8 :
    (fun (q : Option Rat) (s0 : State) => (fun (s : State) => (q.all (fun x => decide (x < -50 ∨ 150 < x)) = true) ∧ s0.powered = true ∧ (s.mtr.powered = true)) (s0.after 7))
      ((none : Option Rat) : Option Rat) (State.reset) := by
  repeat' apply And.intro
  all_goals first
    | decide +kernel
    | exact Or.inl rfl
    | exact fun _ _ => noPair (by decide +kernel) _
    | exact not_raised_of (by decide +kernel)
    | exact raised_of (by decide +kernel)

theorem wit_spareConverter_0 :
    (fun (d : Rat) (s0 : State) => (fun (s : State) => s0.powered = true ∧ (s.mtr.powered = true ∧ s.spareCh.isSome = true ∧ s.mtr.spare = .idle ∧ s.spareFree = true)) (s0.after 7))
      (0 : Rat) (metering) := by
  repeat' apply And.intro
  all_goals first
    | decide +kernel
    | exact Or.inl rfl
    | exact fun _ _ => noPair (by decide +kernel) _
    | exact not_raised_of (by decide +kernel)
    | exact raised_of (by decide +kernel)

theorem wit_spareConverter_1 :
    (fun (d : Rat) (n : Nat) (r : List Nat) (s0 : State) => (fun (s : State) => (absRat d ≤ 1 / 2000) ∧ s0.powered = true ∧ (s.mtr.powered = true ∧ s.spareCh.isSome = true ∧ s.mtr.spare = .refCheck ∧ s.mtr.refAt + 200000000 ≤ (s.raw : Int) ∧
    s.spareFree = true ∧ (List.range 20).dropWhile (fun k => !s.roundChan k) = n :: r)) (s0.after 7))
      (0 : Rat) (0 : Nat) ([1, 2, 3, 4, 5, 6, 7, 8, 9, 10, 11, 12, 13, 14, 15, 16, 17, 18, 19] : List Nat) ({ metering with cyc := 800000000, regs := { metering.regs with act := soundWords [(reg wMTR 0x008, 0x00070007)] ++ metering.regs.act }, mtr := { metering.mtr with spare := .refCheck } }) := by
  repeat' apply And.intro
  all_goals first
    | decide +kernel
    | exact Or.inl rfl
    | exact fun _ _ => noPair (by decide +kernel) _
    | exact not_raised_of (by decide +kernel)
    | exact raised_of (by decide +kernel)

theorem wit_spareConverter_2 :
    (fun (d : Rat) (s0 : State) => (fun (s : State) => (1 / 2000 < absRat d) ∧ s0.powered = true ∧ (s.mtr.powered = true ∧ s.spareCh.isSome = true ∧ s.mtr.spare = .refCheck ∧
    s.mtr.refAt + 200000000 ≤ (s.raw : Int) ∧ s.spareFree = true)) (s0.after 7))
      (1 : Rat) ({ metering with cyc := 800000000, mtr := { metering.mtr with spare := .refCheck } }) := by
  repeat' apply And.intro
  all_goals first
    | decide +kernel
    | exact Or.inl rfl
    | exact fun _ _ => noPair (by decide +kernel) _
    | exact not_raised_of (by decide +kernel)
    | exact raised_of (by decide +kernel)

theorem wit_spareConverter_3 :
    (fun (n : Nat) (l : List CheckCyc) (r : List Nat) (s0 : State) => (fun (s : State) => s0.powered = true ∧ (s.mtr.powered = true ∧ s.mtr.spare = .checking ∧ s.spareFree = true ∧ s.mtr.todo.dropWhile (fun k => !s.roundChan k) = n :: r ∧
    l.length = s.checkCycles ∧
    (2 * (State.checkCounted l).length < max 50 (fld (s.act (reg wMTR 0x004)) 15 0) ∨
    ((State.checkGain l).natAbs ≤ 10 * max 1 (fld (s.act (reg wMTR 0x004)) 31 24) ∧ (State.checkPhase l).natAbs ≤ 10 * max 1 (fld (s.act (reg wMTR 0x004)) 23 16))))) (s0.after 7))
      (5 : Nat) (List.replicate 100 { live := 1, spare := 1, phase := 0 } : List CheckCyc) ([7] : List Nat) ({ metering with regs := { metering.regs with cfg := bank [(reg wMTR 0x004, 0x01010064)], act := soundWords [(reg wMTR 0x004, 0x01010064), (reg wMTR 0x008, 0x000000A0)] }, mtr := { metering.mtr with spare := .checking, spareTarget := 1, todo := [3, 5, 7] } }) := by
  repeat' apply And.intro
  all_goals first
    | decide +kernel
    | exact Or.inl rfl
    | exact fun _ _ => noPair (by decide +kernel) _
    | exact not_raised_of (by decide +kernel)
    | exact raised_of (by decide +kernel)

theorem wit_spareConverter_4 :
    (fun (l : List CheckCyc) (s0 : State) => (fun (s : State) => s0.powered = true ∧ (s.mtr.powered = true ∧ s.mtr.spare = .checking ∧ s.spareFree = true ∧ s.mtr.repeating = false ∧ l.length = s.checkCycles ∧
    max 50 (fld (s.act (reg wMTR 0x004)) 15 0) ≤ 2 * (State.checkCounted l).length ∧
    (10 * max 1 (fld (s.act (reg wMTR 0x004)) 31 24) < (State.checkGain l).natAbs ∨ 10 * max 1 (fld (s.act (reg wMTR 0x004)) 23 16) < (State.checkPhase l).natAbs))) (s0.after 7))
      (List.replicate 100 { live := 2, spare := 1, phase := 0 } : List CheckCyc) ({ metering with regs := { RegUnit.reset with cfg := bank [(reg wMTR 0x004, 0x01010064)], act := soundWords [(reg wMTR 0x004, 0x01010064)] }, mtr := { metering.mtr with spare := .checking, spareTarget := 1 } }) := by
  repeat' apply And.intro
  all_goals first
    | decide +kernel
    | exact Or.inl rfl
    | exact fun _ _ => noPair (by decide +kernel) _
    | exact not_raised_of (by decide +kernel)
    | exact raised_of (by decide +kernel)

theorem wit_spareConverter_5 :
    (fun (f : Nat) (l : List CheckCyc) (s0 : State) => (fun (s : State) => s0.powered = true ∧ (s.mtr.powered = true ∧ s.mtr.spare = .checking ∧ s.spareFree = true ∧ s.mtr.repeating = true ∧ s.mtr.confirmed = [] ∧
    l.length = s.checkCycles ∧ max 50 (fld (s.act (reg wMTR 0x004)) 15 0) ≤ 2 * (State.checkCounted l).length ∧
    (10 * max 1 (fld (s.act (reg wMTR 0x004)) 31 24) < (State.checkGain l).natAbs ∨ 10 * max 1 (fld (s.act (reg wMTR 0x004)) 23 16) < (State.checkPhase l).natAbs) ∧
    s.chanFeeder s.mtr.spareTarget = some f ∧ f < s.mtr.feeds.length ∧ s.mtr.spareTarget < s.mtr.chans.length)) (s0.after 7))
      (0 : Nat) (List.replicate 100 { live := 2, spare := 1, phase := 0 } : List CheckCyc) ({ metering with regs := { RegUnit.reset with cfg := bank [(reg wMTR 0x004, 0x01010064)], act := soundWords [(reg wMTR 0x004, 0x01010064)] }, mtr := { metering.mtr with spare := .checking, spareTarget := 1, repeating := true } }) := by
  repeat' apply And.intro
  all_goals first
    | decide +kernel
    | exact Or.inl rfl
    | exact fun _ _ => noPair (by decide +kernel) _
    | exact not_raised_of (by decide +kernel)
    | exact raised_of (by decide +kernel)

theorem wit_spareConverter_6 :
    (fun (n f : Nat) (s0 : State) => (fun (s : State) => (n < 20) ∧ s0.powered = true ∧ (s.mtr.powered = true ∧ s.sensor n ≠ 3 ∧ 64 ≤ (s.chan n).run ∧ (s.chan n).stuck = false ∧ (s.chan n).subst = false ∧ s.spareCh ≠ some n ∧
    s.spareFree = true ∧ s.chanFeeder n = some f ∧ f < s.mtr.feeds.length ∧ n < s.mtr.chans.length)) (s0.after 7))
      (1 : Nat) (0 : Nat) ({ metering with mtr := { metering.mtr with chans := modAt MtrUnit.reset.chans 1 (fun c => { c with run := 64 }) } }) := by
  repeat' apply And.intro
  all_goals first
    | decide +kernel
    | exact Or.inl rfl
    | exact fun _ _ => noPair (by decide +kernel) _
    | exact not_raised_of (by decide +kernel)
    | exact raised_of (by decide +kernel)

theorem wit_spareConverter_7 :
    (fun (n : Nat) (s0 : State) => (fun (s : State) => (n < 16) ∧ s0.powered = true ∧ (s.mtr.powered = true ∧ s.sensor n ≠ 3 ∧ 64 ≤ (s.chan n).run ∧ (s.chan n).stuck = false ∧ (s.chan n).subst = false ∧ s.spareCh ≠ some n ∧
    s.spareFree = false ∧ n < s.mtr.chans.length)) (s0.after 7))
      (1 : Nat) ({ metering with mtr := { metering.mtr with spare := .unusable, chans := modAt MtrUnit.reset.chans 1 (fun c => { c with run := 64 }) } }) := by
  repeat' apply And.intro
  all_goals first
    | decide +kernel
    | exact Or.inl rfl
    | exact fun _ _ => noPair (by decide +kernel) _
    | exact not_raised_of (by decide +kernel)
    | exact raised_of (by decide +kernel)

theorem wit_spareConverter_8 :
    (fun (n m : Nat) (s0 : State) => (fun (s : State) => (n < 20 ∧ m < 16 ∧ m ≠ n) ∧ s0.powered = true ∧ (s.mtr.powered = true ∧ s.spareCh = some n ∧ 64 ≤ (s.chan n).run ∧ (s.chan n).stuck = false ∧ s.mtr.spare = .substituting ∧
    s.mtr.spareTarget = m ∧ s.mtr.chans.length = 20)) (s0.after 7))
      (15 : Nat) (1 : Nat) ({ metering with mtr := { metering.mtr with spare := .substituting, spareTarget := 1, chans := modAt (modAt MtrUnit.reset.chans 1 (fun c => { c with subst := true })) 15 (fun c => { c with run := 64 }) } }) := by
  repeat' apply And.intro
  all_goals first
    | decide +kernel
    | exact Or.inl rfl
    | exact fun _ _ => noPair (by decide +kernel) _
    | exact not_raised_of (by decide +kernel)
    | exact raised_of (by decide +kernel)

theorem wit_spareConverter_9 :
    (fun (n : Nat) (l : List (List Int)) (s0 : State) => (fun (s : State) => s0.powered = true ∧ (((s.takeSamples l).chan n).run < 64)) (s0.after 7))
      (1 : Nat) (([] : List (List Int)) : List (List Int)) (metering) := by
  repeat' apply And.intro
  all_goals first
    | decide +kernel
    | exact Or.inl rfl
    | exact fun _ _ => noPair (by decide +kernel) _
    | exact not_raised_of (by decide +kernel)
    | exact raised_of (by decide +kernel)

theorem wit_spareConverter_10 :
    (fun (f n tc : Nat) (img : ImgFeeder) (s0 : State) => (fun (s : State) => (f < 4) ∧ s0.powered = true ∧ (s.imgFeeder f = some img ∧ s.mtr.powered = true ∧ s.mtr.feeds.length = 4 ∧ s.nextCrossing f img = some tc ∧
    (s.feed f).substDue = some n ∧ (s.feed f).substReady = none ∧ (s.feed f).est = [])) (s0.after 7))
      (0 : Nat) (1 : Nat) (4100000 : Nat) (testFeeder : ImgFeeder) ({ metering with mtr := { metering.mtr with feeds := modAt metering.mtr.feeds 0 (fun x => { x with cross := [4100000], substDue := some 1 }) } }) := by
  repeat' apply And.intro
  all_goals first
    | decide +kernel
    | exact Or.inl rfl
    | exact fun _ _ => noPair (by decide +kernel) _
    | exact not_raised_of (by decide +kernel)
    | exact raised_of (by decide +kernel)

theorem wit_spareConverter_11 :
    (fun (f n : Nat) (s0 : State) => (fun (s : State) => s0.powered = true ∧ (s.mtr.powered = true ∧ (s.feed f).substReady = some n ∧ n < s.mtr.chans.length)) (s0.after 7))
      (0 : Nat) (1 : Nat) ({ metering with mtr := { metering.mtr with cmdPend := true, feeds := modAt MtrUnit.reset.feeds 0 (fun x => { x with substReady := some 1 }) } }) := by
  repeat' apply And.intro
  all_goals first
    | decide +kernel
    | exact Or.inl rfl
    | exact fun _ _ => noPair (by decide +kernel) _
    | exact not_raised_of (by decide +kernel)
    | exact raised_of (by decide +kernel)

theorem wit_spareConverter_12 :
    (fun (f : Nat) (s0 : State) => (fun (s : State) => s0.powered = true ∧ ((s.feed f).substReady = none ∨ s.mtr.powered = false)) (s0.after 7))
      (0 : Nat) (metering) := by
  repeat' apply And.intro
  all_goals first
    | decide +kernel
    | exact Or.inl rfl
    | exact fun _ _ => noPair (by decide +kernel) _
    | exact not_raised_of (by decide +kernel)
    | exact raised_of (by decide +kernel)

theorem wit_islandCommands_0 :
    (fun (m : Nat) (x : Bool) (s0 : State) => (fun (s : State) => s0.powered = true ∧ (s.lets m (reg wMTR 0x010) ∧ s.mtr.cmdPend = false ∧ s.upd.svcPresent = x)) (s0.after 7))
      (0 : Nat) (true : Bool) ({ State.reset with upd := { UpdUnit.reset with svcPresent := true } }) := by
  repeat' apply And.intro
  all_goals first
    | decide +kernel
    | exact Or.inl rfl
    | exact fun _ _ => noPair (by decide +kernel) _
    | exact not_raised_of (by decide +kernel)
    | exact raised_of (by decide +kernel)

theorem wit_islandCommands_1 :
    (fun (m n f : Nat) (s0 : State) => (fun (s : State) => (n < 20) ∧ s0.powered = true ∧ (s.lets m (reg wMTR 0x010) ∧ s.mtr.cmdPend = false ∧ s.spareCh ≠ some n ∧ s.sensor n ≠ 3 ∧ s.spareFree = true ∧
    s.chanFeeder n = some f ∧ f < s.mtr.feeds.length)) (s0.after 7))
      (0 : Nat) (1 : Nat) (0 : Nat) (metering) := by
  repeat' apply And.intro
  all_goals first
    | decide +kernel
    | exact Or.inl rfl
    | exact fun _ _ => noPair (by decide +kernel) _
    | exact not_raised_of (by decide +kernel)
    | exact raised_of (by decide +kernel)

theorem wit_islandCommands_2 :
    (fun (m n f : Nat) (s0 : State) => (fun (s : State) => (n < 20) ∧ s0.powered = true ∧ (s.lets m (reg wMTR 0x010) ∧ s.mtr.cmdPend = false ∧ s.spareCh ≠ some n ∧ s.sensor n ≠ 3 ∧ (s.chan n).subst = true ∧
    s.chanFeeder n = some f ∧ f < s.mtr.feeds.length)) (s0.after 7))
      (0 : Nat) (1 : Nat) (0 : Nat) ({ metering with mtr := { metering.mtr with chans := modAt MtrUnit.reset.chans 1 (fun c => { c with subst := true }) } }) := by
  repeat' apply And.intro
  all_goals first
    | decide +kernel
    | exact Or.inl rfl
    | exact fun _ _ => noPair (by decide +kernel) _
    | exact not_raised_of (by decide +kernel)
    | exact raised_of (by decide +kernel)

theorem wit_islandCommands_3 :
    (fun (m : Nat) (s0 : State) => (fun (s : State) => s0.powered = true ∧ (s.lets m (reg wMTR 0x010) ∧ s.mtr.cmdPend = false ∧ s.spareFree = true ∧ s.mtr.spare = .idle)) (s0.after 7))
      (0 : Nat) (metering) := by
  repeat' apply And.intro
  all_goals first
    | decide +kernel
    | exact Or.inl rfl
    | exact fun _ _ => noPair (by decide +kernel) _
    | exact not_raised_of (by decide +kernel)
    | exact raised_of (by decide +kernel)

theorem wit_islandCommands_4 :
    (fun (m n : Nat) (x : Bool) (s0 : State) => (fun (s : State) => (n < 20) ∧ s0.powered = true ∧ (s.lets m (reg wMTR 0x010) ∧ s.mtr.cmdPend = true)) (s0.after 7))
      (0 : Nat) (1 : Nat) (true : Bool) ({ metering with mtr := { metering.mtr with cmdPend := true } }) := by
  repeat' apply And.intro
  all_goals first
    | decide +kernel
    | exact Or.inl rfl
    | exact fun _ _ => noPair (by decide +kernel) _
    | exact not_raised_of (by decide +kernel)
    | exact raised_of (by decide +kernel)

theorem wit_islandCommands_5 :
    (fun (s0 : State) => (fun (_ : State) => s0.powered = true ∧ (True)) (s0.after 7))
       (metering) := by
  repeat' apply And.intro
  all_goals first
    | decide +kernel
    | exact Or.inl rfl
    | exact fun _ _ => noPair (by decide +kernel) _
    | exact not_raised_of (by decide +kernel)
    | exact raised_of (by decide +kernel)

theorem wit_islandCommands_6 :
    (fun (r : Bool) (s0 : State) => (fun (s : State) => s0.powered = true ∧ (s.mtr.powered = false)) (s0.after 7))
      (true : Bool) ({ metering with mtr := { metering.mtr with powered := false } }) := by
  repeat' apply And.intro
  all_goals first
    | decide +kernel
    | exact Or.inl rfl
    | exact fun _ _ => noPair (by decide +kernel) _
    | exact not_raised_of (by decide +kernel)
    | exact raised_of (by decide +kernel)

theorem wit_intervalsAndAllocation_0 :
    (fun (f : Nat) (c : IvClose) (r : List IvClose) (s0 : State) => (fun (s : State) => (f < 4) ∧ s0.powered = true ∧ (s.works wACC ∧ s.mtr.linkDown = false ∧ s.acc.ivs.length = 4 ∧ (s.feedIv f).latched = c :: r ∧
    s.closeGroup.head? = some f)) (s0.after 7))
      (0 : Nat) (oneClose : IvClose) (([] : List IvClose) : List IvClose) ({ metering with acc := { metering.acc with ivs := modAt AccUnit.reset.ivs 0 (fun v => { v with latched := [oneClose] }) } }) := by
  repeat' apply And.intro
  all_goals first
    | decide +kernel
    | exact Or.inl rfl
    | exact fun _ _ => noPair (by decide +kernel) _
    | exact not_raised_of (by decide +kernel)
    | exact raised_of (by decide +kernel)

theorem wit_intervalsAndAllocation_1 :
    (fun (f : Nat) (s0 : State) => (fun (s : State) => s0.powered = true ∧ (s.mtr.linkDown = true ∨ (s.feedIv f).latched = [] ∨ s.closeGroup.head? ≠ some f)) (s0.after 7))
      (0 : Nat) (metering) := by
  repeat' apply And.intro
  all_goals first
    | decide +kernel
    | exact Or.inl rfl
    | exact fun _ _ => noPair (by decide +kernel) _
    | exact not_raised_of (by decide +kernel)
    | exact raised_of (by decide +kernel)

theorem wit_accountsCommands_0 :
    (fun (n : Nat) (s0 : State) => (fun (s : State) => (n < 4) ∧ s0.powered = true ∧ (s.works wACC ∧ s.acc.pulses.length = 4 ∧ 0 < (s.pulse n).pending ∧ (s.pulse n).next ≤ s.raw)) (s0.after 7))
      (0 : Nat) ({ State.reset with acc := { AccUnit.reset with pulses := modAt AccUnit.reset.pulses 0 (fun p => { p with pending := 3 }) } }) := by
  repeat' apply And.intro
  all_goals first
    | decide +kernel
    | exact Or.inl rfl
    | exact fun _ _ => noPair (by decide +kernel) _
    | exact not_raised_of (by decide +kernel)
    | exact raised_of (by decide +kernel)

theorem wit_accountsCommands_1 :
    (fun (m : Nat) (v : Word) (s0 : State) => (fun (s : State) => s0.powered = true ∧ (s.lets m (reg wACC 0x004) ∧ bit (s.cfg (reg wMTR 0x00C)) 0 = false)) (s0.after 7))
      (0 : Nat) (0x00640F01 : Word) (State.reset) := by
  repeat' apply And.intro
  all_goals first
    | decide +kernel
    | exact Or.inl rfl
    | exact fun _ _ => noPair (by decide +kernel) _
    | exact not_raised_of (by decide +kernel)
    | exact raised_of (by decide +kernel)

theorem wit_accountsCommands_2 :
    (fun (m n : Nat) (v : Word) (s0 : State) => (fun (s : State) => (n < 4) ∧ s0.powered = true ∧ (s.lets m (reg wACC (0x010 + 4 * n)) ∧ bit (s.cfg (reg wMTR 0x00C)) 0 = false ∧ s.acc.pulses.length = 4)) (s0.after 7))
      (0 : Nat) (2 : Nat) (0x10640064 : Word) ({ State.reset with acc := { AccUnit.reset with pulses := modAt AccUnit.reset.pulses 2 (fun p => { p with pending := 3 }) } }) := by
  repeat' apply And.intro
  all_goals first
    | decide +kernel
    | exact Or.inl rfl
    | exact fun _ _ => noPair (by decide +kernel) _
    | exact not_raised_of (by decide +kernel)
    | exact raised_of (by decide +kernel)

theorem wit_accountsCommands_3 :
    (fun (m n : Nat) (v : Word) (x : Bool) (s0 : State) => (fun (s : State) => (n < 4) ∧ s0.powered = true ∧ (s.lets m (reg wACC (if x then 0x004 else 0x010 + 4 * n)) ∧ bit (s.cfg (reg wMTR 0x00C)) 0 = true)) (s0.after 7))
      (0 : Nat) (2 : Nat) (0x10640064 : Word) (true : Bool) ({ State.reset with regs := { RegUnit.reset with cfg := bank [(reg wMTR 0x00C, 1)] } }) := by
  repeat' apply And.intro
  all_goals first
    | decide +kernel
    | exact Or.inl rfl
    | exact fun _ _ => noPair (by decide +kernel) _
    | exact not_raised_of (by decide +kernel)
    | exact raised_of (by decide +kernel)

theorem wit_accountsCommands_4 :
    (fun (m f e k : Nat) (s0 : State) => (fun (s : State) => (f < 4 ∧ e < 4 ∧ k < 8 ∧ (e = 0 ∨ k < 6)) ∧ s0.powered = true ∧ (s.lets m (reg wACC (0x400 + 0x200 * f + 0x80 * e + 0x10 * k)))) (s0.after 7))
      (0 : Nat) (1 : Nat) (0 : Nat) (3 : Nat) (metering) := by
  repeat' apply And.intro
  all_goals first
    | decide +kernel
    | exact Or.inl rfl
    | exact fun _ _ => noPair (by decide +kernel) _
    | exact not_raised_of (by decide +kernel)
    | exact raised_of (by decide +kernel)

theorem wit_accountsCommands_5 :
    (fun (m f e k : Nat) (s0 : State) => (fun (s : State) => (f < 4 ∧ e < 4 ∧ k < 8 ∧ e ≠ 0 ∧ 6 ≤ k) ∧ s0.powered = true ∧ (s.lets m (reg wACC (0x400 + 0x200 * f + 0x80 * e + 0x10 * k)))) (s0.after 7))
      (0 : Nat) (1 : Nat) (2 : Nat) (6 : Nat) (metering) := by
  repeat' apply And.intro
  all_goals first
    | decide +kernel
    | exact Or.inl rfl
    | exact fun _ _ => noPair (by decide +kernel) _
    | exact not_raised_of (by decide +kernel)
    | exact raised_of (by decide +kernel)

theorem wit_laneSlots_0 :
    (fun (n a : Nat) (rf : RfCheck) (s0 : State) => (fun (s : State) => (n < 4) ∧ s0.powered = true ∧ (s.slotBegins n a ∧ s.cellOf n a = none)) (s0.after 7))
      (0 : Nat) (1 : Nat) (goodRf : RfCheck) (laneAt 1 []) := by
  repeat' apply And.intro
  all_goals first
    | decide +kernel
    | exact Or.inl rfl
    | exact fun _ _ => noPair (by decide +kernel) _
    | exact not_raised_of (by decide +kernel)
    | exact raised_of (by decide +kernel)

theorem wit_laneSlots_1 :
    (fun (n a ch : Nat) (rf : RfCheck) (s0 : State) => (fun (s : State) => (n < 4 ∧ rf.locked = true) ∧ s0.powered = true ∧ (s.slotBegins n a ∧ s.slotCell n a 3 ch ∧ s.collides n ch = false)) (s0.after 7))
      (0 : Nat) (1 : Nat) (5 : Nat) (goodRf : RfCheck) (laneAt 1 [(reg wLNE 0x1000, 0xB0100001)]) := by
  repeat' apply And.intro
  all_goals first
    | decide +kernel
    | exact Or.inl rfl
    | exact fun _ _ => noPair (by decide +kernel) _
    | exact not_raised_of (by decide +kernel)
    | exact raised_of (by decide +kernel)

theorem wit_laneSlots_2 :
    (fun (n a ch : Nat) (rf : RfCheck) (s0 : State) => (fun (s : State) => (n < 4) ∧ s0.powered = true ∧ (s.slotBegins n a ∧ (s.slotCell n a 3 ch ∨ s.slotCell n a 0 ch) ∧ s.collides n ch = true)) (s0.after 7))
      (1 : Nat) (1 : Nat) (5 : Nat) (goodRf : RfCheck) (crowded) := by
  repeat' apply And.intro
  all_goals first
    | decide +kernel
    | exact Or.inl rfl
    | exact fun _ _ => noPair (by decide +kernel) _
    | exact not_raised_of (by decide +kernel)
    | exact raised_of (by decide +kernel)

theorem wit_laneSlots_3 :
    (fun (n a ch : Nat) (rf : RfCheck) (s0 : State) => (fun (s : State) => (n < 4 ∧ rf.locked = true ∧ rf.refl ≤ 1 / 4) ∧ s0.powered = true ∧ (s.slotBegins n a ∧ (s.txPower n : Rat) - 3 ≤ rf.fwd ∧ s.slotCell n a 0 ch ∧ s.collides n ch = false ∧ s.airLastHour n false = 0 ∧
    (∀ k, k ≤ 127 → s.airRaw n k * 1000 ≤ s.dutyMax n * 3600 * rawS))) (s0.after 7))
      (0 : Nat) (1 : Nat) (5 : Nat) (goodRf : RfCheck) (laneAt 1 [(reg wLNE 0x1000, 0x80100001)]) := by
  repeat' apply And.intro
  all_goals first
    | decide +kernel
    | exact Or.inl rfl
    | exact fun _ _ => noPair (by decide +kernel) _
    | exact not_raised_of (by decide +kernel)
    | exact raised_of (by decide +kernel)

theorem wit_laneSlots_4 :
    (fun (n a cls q ch air : Nat) (rf : RfCheck) (s0 : State) => (fun (s : State) => (n < 4 ∧ cls < 2 ∧ rf.locked = true ∧ rf.refl ≤ 1 / 4) ∧ s0.powered = true ∧ (s.slotBegins n a ∧ (s.txPower n : Rat) - 3 ≤ rf.fwd ∧ s.slotCell n a (cls + 1) ch ∧ s.collides n ch = false ∧ s.headInLane n cls q ∧ s.headReady n q a = true ∧
    s.qdm.gone = [] ∧ State.headLate (s.headDesc q) a = false ∧ s.netKeyed = true ∧ (s.queue q).headFc = none ∧ (s.queue q).attempts = 0 ∧
    s.lne.fc < 0xFFFFFFFF ∧ s.airRaw n ((s.headDesc q).len + s.formOctets n (s.headDesc q)) = air ∧ s.dutyStops n air false = false)) (s0.after 7))
      (0 : Nat) (1 : Nat) (0 : Nat) (0 : Nat) (5 : Nat) (1472000 : Nat) (goodRf : RfCheck) (launching [(0x2010000A, 0)]) := by
  repeat' apply And.intro
  all_goals first
    | decide +kernel
    | exact Or.inl rfl
    | exact fun _ _ => noPair (by decide +kernel) _
    | exact not_raised_of (by decide +kernel)
    | exact raised_of (by decide +kernel)

theorem wit_laneSlots_5 :
    (fun (n a cls q ch : Nat) (rf : RfCheck) (s0 : State) => (fun (s : State) => (n < 4 ∧ cls < 2) ∧ s0.powered = true ∧ (s.slotBegins n a ∧ s.slotCell n a (cls + 1) ch ∧ s.headInLane n cls q ∧ s.qCount q = 1 ∧ s.qdm.gone = [] ∧
    State.headLate (s.headDesc q) a = true ∧ (s.headDesc q).late = false ∧ State.memSpan (s.descAddr q (s.queue q).head) 32 = true)) (s0.after 7))
      (0 : Nat) (2 : Nat) (0 : Nat) (0 : Nat) (5 : Nat) (goodRf : RfCheck) ({ launching [(0x20100011, 1)] with
        cyc := 8000000 - 6
        regs := { RegUnit.reset with
          act := soundWords (laneRegs ++ [(reg wLNE 0x1000, 0x90100002), (reg wWAV 0x004, 1)]), cfg := bank (ringRegs testQueues) } }) := by
  repeat' apply And.intro
  all_goals first
    | decide +kernel
    | exact Or.inl rfl
    | exact fun _ _ => noPair (by decide +kernel) _
    | exact not_raised_of (by decide +kernel)
    | exact raised_of (by decide +kernel)

theorem wit_laneSlots_6 :
    (fun (n : Nat) (rf : RfCheck) (s0 : State) => (fun (s : State) => (n < 4) ∧ s0.powered = true ∧ (s.works wLNE ∧ (∀ a ∈ (s.slotAt n s.raw).toList, s.slotStart n a ≠ s.raw ∨ (s.lane n).slot = some a))) (s0.after 7))
      (0 : Nat) (goodRf : RfCheck) ({ laneAt 1 [] with cyc := 4000100 }) := by
  repeat' apply And.intro
  all_goals first
    | decide +kernel
    | exact Or.inl rfl
    | exact fun _ _ => noPair (by decide +kernel) _
    | exact not_raised_of (by decide +kernel)
    | exact raised_of (by decide +kernel)

theorem wit_laneStartsAndRetries_0 :
    (fun (n r : Nat) (s0 : State) => (fun (s : State) => (n < 4) ∧ s0.powered = true ∧ (s.works wLNE ∧ s.lne.lanes.length = 4 ∧ (s.lane n).startAt = some r ∧ r ≤ s.raw ∧ s.antBusy n = false ∧ s.antLost n = false ∧
    (s.lane n).xcvr = some n ∧ s.flt.xcvrRet.contains n = false)) (s0.after 7))
      (0 : Nat) (5 : Nat) (starting []) := by
  repeat' apply And.intro
  all_goals first
    | decide +kernel
    | exact Or.inl rfl
    | exact fun _ _ => noPair (by decide +kernel) _
    | exact not_raised_of (by decide +kernel)
    | exact raised_of (by decide +kernel)

theorem wit_laneStartsAndRetries_1 :
    (fun (n r : Nat) (s0 : State) => (fun (s : State) => (n < 4) ∧ s0.powered = true ∧ (s.works wLNE ∧ (s.lane n).startAt = some r ∧ r ≤ s.raw ∧ (s.antBusy n = true ∨ s.antLost n = true))) (s0.after 7))
      (0 : Nat) (5 : Nat) ({ starting [] with
        regs := { RegUnit.reset with act := soundWords (laneRegs ++ [(reg wLNE (lneOff 1 0x00C), 1000)]) }
        lne := { LneUnit.reset with lanes := [
          { Lane.reset 0 with startAt := some 5 }, { Lane.reset 1 with run := true, xcvr := some 1 }, Lane.reset 2, Lane.reset 3] } }) := by
  repeat' apply And.intro
  all_goals first
    | decide +kernel
    | exact Or.inl rfl
    | exact fun _ _ => noPair (by decide +kernel) _
    | exact not_raised_of (by decide +kernel)
    | exact raised_of (by decide +kernel)

theorem wit_laneStartsAndRetries_2 :
    (fun (n : Nat) (s0 : State) => (fun (s : State) => s0.powered = true ∧ (∀ r ∈ (s.lane n).startAt.toList, s.raw < r)) (s0.after 7))
      (0 : Nat) ({ starting [] with cyc := 0 }) := by
  repeat' apply And.intro
  all_goals first
    | decide +kernel
    | exact Or.inl rfl
    | exact fun _ _ => noPair (by decide +kernel) _
    | exact not_raised_of (by decide +kernel)
    | exact raised_of (by decide +kernel)

theorem wit_laneStartsAndRetries_3 :
    (fun (n cls a q : Nat) (s0 : State) => (fun (s : State) => (n < 4 ∧ cls < 2) ∧ s0.powered = true ∧ (s.works wLNE ∧ (s.lane n).run = true ∧ s.slotFrom n (s.raw + 1) = a ∧ s.slotStart n a ≤ s.raw + rawMs ∧
    (s.cellOf n a).map (fun w => fld w 30 28) = some (cls + 1) ∧ s.laneQueues n cls = [q] ∧ s.headReady n q a = true ∧
    (s.queue q).done = none ∧ (s.queue q).xfer = none ∧ (s.queue q).held = none ∧ s.qdm.gone = [] ∧
    s.descCheck q (s.headDesc q) = none ∧ State.headLate (s.headDesc q) a = false)) (s0.after 7))
      (0 : Nat) (0 : Nat) (1 : Nat) (0 : Nat) (fetching) := by
  repeat' apply And.intro
  all_goals first
    | decide +kernel
    | exact Or.inl rfl
    | exact fun _ _ => noPair (by decide +kernel) _
    | exact not_raised_of (by decide +kernel)
    | exact raised_of (by decide +kernel)

theorem wit_laneStartsAndRetries_4 :
    (fun (n : Nat) (s0 : State) => (fun (s : State) => (n < 4) ∧ s0.powered = true ∧ ((s.lane n).run = false ∨ s.raw + rawMs < s.slotStart n (s.slotFrom n (s.raw + 1)) ∨ s.cellOf n (s.slotFrom n (s.raw + 1)) = none)) (s0.after 7))
      (0 : Nat) (laneAt 1 []) := by
  repeat' apply And.intro
  all_goals first
    | decide +kernel
    | exact Or.inl rfl
    | exact fun _ _ => noPair (by decide +kernel) _
    | exact not_raised_of (by decide +kernel)
    | exact raised_of (by decide +kernel)

theorem wit_laneStartsAndRetries_5 :
    (fun (n : Nat) (w : Await) (s0 : State) => (fun (s : State) => (n < 4) ∧ s0.powered = true ∧ (s.works wLNE ∧ (s.lane n).await = some w ∧ s.ackEnd n w ≤ s.raw)) (s0.after 7))
      (0 : Nat) (oneAwait : Await) (awaiting) := by
  repeat' apply And.intro
  all_goals first
    | decide +kernel
    | exact Or.inl rfl
    | exact fun _ _ => noPair (by decide +kernel) _
    | exact not_raised_of (by decide +kernel)
    | exact raised_of (by decide +kernel)

theorem wit_laneStartsAndRetries_6 :
    (fun (n : Nat) (s0 : State) => (fun (s : State) => s0.powered = true ∧ (∀ w ∈ (s.lane n).await.toList, s.raw < s.ackEnd n w)) (s0.after 7))
      (0 : Nat) (laneAt 1 []) := by
  repeat' apply And.intro
  all_goals first
    | decide +kernel
    | exact Or.inl rfl
    | exact fun _ _ => noPair (by decide +kernel) _
    | exact not_raised_of (by decide +kernel)
    | exact raised_of (by decide +kernel)

theorem wit_spareTransceiver_0 :
    (fun (m n : Nat) (s0 : State) => (fun (s : State) => (n < 4) ∧ s0.powered = true ∧ (s.lets m (reg wLNE 0x8004) ∧ s.lne.cmdBusy = false ∧ s.laneEnabled n = true ∧ s.spareReady = true ∧ (s.lane n).xcvr ≠ some 4)) (s0.after 7))
      (0 : Nat) (0 : Nat) (laneAt 1 []) := by
  repeat' apply And.intro
  all_goals first
    | decide +kernel
    | exact Or.inl rfl
    | exact fun _ _ => noPair (by decide +kernel) _
    | exact not_raised_of (by decide +kernel)
    | exact raised_of (by decide +kernel)

theorem wit_spareTransceiver_1 :
    (fun (m n : Nat) (s0 : State) => (fun (s : State) => (n < 4) ∧ s0.powered = true ∧ (s.lets m (reg wLNE 0x8004) ∧ (s.lne.cmdBusy = true ∨ s.laneEnabled n = false ∨ s.spareReady = false ∨ (s.lane n).xcvr = some 4))) (s0.after 7))
      (0 : Nat) (1 : Nat) (laneAt 1 []) := by
  repeat' apply And.intro
  all_goals first
    | decide +kernel
    | exact Or.inl rfl
    | exact fun _ _ => noPair (by decide +kernel) _
    | exact not_raised_of (by decide +kernel)
    | exact raised_of (by decide +kernel)

theorem wit_spareTransceiver_2 :
    (fun (m n : Nat) (s0 : State) => (fun (s : State) => (n < 4) ∧ s0.powered = true ∧ (s.lets m (reg wLNE 0x8004) ∧ s.lne.cmdBusy = false ∧ (s.lane n).xcvr = some 4 ∧ s.flt.xcvrRet.contains n = false)) (s0.after 7))
      (0 : Nat) (0 : Nat) (onSpare none) := by
  repeat' apply And.intro
  all_goals first
    | decide +kernel
    | exact Or.inl rfl
    | exact fun _ _ => noPair (by decide +kernel) _
    | exact not_raised_of (by decide +kernel)
    | exact raised_of (by decide +kernel)

theorem wit_spareTransceiver_3 :
    (fun (m n : Nat) (s0 : State) => (fun (s : State) => (n < 4) ∧ s0.powered = true ∧ (s.lets m (reg wLNE 0x8004) ∧ (s.lne.cmdBusy = true ∨ (s.lane n).xcvr ≠ some 4 ∨ s.flt.xcvrRet.contains n = true))) (s0.after 7))
      (0 : Nat) (0 : Nat) (laneAt 1 []) := by
  repeat' apply And.intro
  all_goals first
    | decide +kernel
    | exact Or.inl rfl
    | exact fun _ _ => noPair (by decide +kernel) _
    | exact not_raised_of (by decide +kernel)
    | exact raised_of (by decide +kernel)

theorem wit_spareTransceiver_4 :
    (fun (m : Nat) (s0 : State) => (fun (s : State) => s0.powered = true ∧ (s.lets m (reg wLNE 0x8004))) (s0.after 7))
      (0 : Nat) (laneAt 1 []) := by
  repeat' apply And.intro
  all_goals first
    | decide +kernel
    | exact Or.inl rfl
    | exact fun _ _ => noPair (by decide +kernel) _
    | exact not_raised_of (by decide +kernel)
    | exact raised_of (by decide +kernel)

theorem wit_spareTransceiver_5 :
    (fun (s0 : State) => (fun (s : State) => s0.powered = true ∧ (s.works wLNE ∧ s.lne.takeover.isSome = true)) (s0.after 7))
       ({ laneAt 1 [] with lne := { (laneAt 1 []).lne with takeover := some (0, 5), spare := .serving } }) := by
  repeat' apply And.intro
  all_goals first
    | decide +kernel
    | exact Or.inl rfl
    | exact fun _ _ => noPair (by decide +kernel) _
    | exact not_raised_of (by decide +kernel)
    | exact raised_of (by decide +kernel)

theorem wit_spareTransceiver_6 :
    (fun (n r : Nat) (s0 : State) => (fun (s : State) => (n < 4) ∧ s0.powered = true ∧ (s.works wLNE ∧ (s.lane n).releaseAt = some r ∧ r ≤ s.raw)) (s0.after 7))
      (0 : Nat) (5 : Nat) (onSpare (some 5)) := by
  repeat' apply And.intro
  all_goals first
    | decide +kernel
    | exact Or.inl rfl
    | exact fun _ _ => noPair (by decide +kernel) _
    | exact not_raised_of (by decide +kernel)
    | exact raised_of (by decide +kernel)

theorem wit_spareTransceiver_7 :
    (fun (n : Nat) (s0 : State) => (fun (s : State) => (n < 4) ∧ s0.powered = true ∧ (∀ r ∈ (s.lane n).releaseAt.toList, s.raw < r)) (s0.after 7))
      (0 : Nat) (laneAt 1 []) := by
  repeat' apply And.intro
  all_goals first
    | decide +kernel
    | exact Or.inl rfl
    | exact fun _ _ => noPair (by decide +kernel) _
    | exact not_raised_of (by decide +kernel)
    | exact raised_of (by decide +kernel)

theorem wit_spareTransceiver_8 :
    (fun (b : Bool) (x : Option Bool) (s0 : State) => (fun (s : State) => s0.powered = true ∧ (s.works wLNE ∧ s.lne.spare = .free ∧ s.lne.roundAt + 10 * rawS ≤ s.raw)) (s0.after 7))
      (true : Bool) (none : Option Bool) ({ laneAt 1 [] with cyc := 4000000000 }) := by
  repeat' apply And.intro
  all_goals first
    | decide +kernel
    | exact Or.inl rfl
    | exact fun _ _ => noPair (by decide +kernel) _
    | exact not_raised_of (by decide +kernel)
    | exact raised_of (by decide +kernel)

theorem wit_spareTransceiver_9 :
    (fun (b : Bool) (x : Option Bool) (s0 : State) => (fun (s : State) => s0.powered = true ∧ (s.works wLNE ∧ s.lne.spare = .selftest)) (s0.after 7))
      (true : Bool) (none : Option Bool) ({ laneAt 1 [] with lne := { (laneAt 1 []).lne with spare := .selftest } }) := by
  repeat' apply And.intro
  all_goals first
    | decide +kernel
    | exact Or.inl rfl
    | exact fun _ _ => noPair (by decide +kernel) _
    | exact not_raised_of (by decide +kernel)
    | exact raised_of (by decide +kernel)

theorem wit_spareTransceiver_10 :
    (fun (b x : Bool) (n : Nat) (s0 : State) => (fun (s : State) => (n < 4) ∧ s0.powered = true ∧ (s.works wLNE ∧ s.lne.spare = .rxtest ∧ s.lne.spareTarget = n ∧ s.laneIdle n = true ∧ (x = false → (s.lane n).rxTestFail = 0))) (s0.after 7))
      (true : Bool) (true : Bool) (0 : Nat) (idling 0) := by
  repeat' apply And.intro
  all_goals first
    | decide +kernel
    | exact Or.inl rfl
    | exact fun _ _ => noPair (by decide +kernel) _
    | exact not_raised_of (by decide +kernel)
    | exact raised_of (by decide +kernel)

theorem wit_spareTransceiver_11 :
    (fun (b : Bool) (x : Option Bool) (n : Nat) (s0 : State) => (fun (s : State) => s0.powered = true ∧ (s.works wLNE ∧ s.lne.spare = .rxtest ∧ s.lne.spareTarget = n ∧ (s.laneIdle n = false ∨ x = none) ∧ s.lne.roundAt + 10 * rawS ≤ s.raw)) (s0.after 7))
      (true : Bool) (none : Option Bool) (0 : Nat) ({ idling 0 with cyc := 8000000000 }) := by
  repeat' apply And.intro
  all_goals first
    | decide +kernel
    | exact Or.inl rfl
    | exact fun _ _ => noPair (by decide +kernel) _
    | exact not_raised_of (by decide +kernel)
    | exact raised_of (by decide +kernel)

theorem wit_spareTransceiver_12 :
    (fun (n : Nat) (s0 : State) => (fun (s : State) => s0.powered = true ∧ (s.works wLNE ∧ s.lne.spare = .rxtest ∧ s.lne.spareTarget = n ∧ s.laneIdle n = true ∧ 1 ≤ (s.lane n).rxTestFail ∧ n < 4 ∧
    s.lne.lanes.length = 4 ∧ s.lne.takeover = none ∧ (s.lane n).xcvr = some n)) (s0.after 7))
      (0 : Nat) (idling 1) := by
  repeat' apply And.intro
  all_goals first
    | decide +kernel
    | exact Or.inl rfl
    | exact fun _ _ => noPair (by decide +kernel) _
    | exact not_raised_of (by decide +kernel)
    | exact raised_of (by decide +kernel)

theorem wit_spareTransceiver_13 :
    (fun (b : Bool) (x : Option Bool) (s0 : State) => (fun (s : State) => s0.powered = true ∧ (s.lne.spare = .serving ∨ s.lne.spare = .unusable ∨ (s.lne.spare = .free ∧ s.raw < s.lne.roundAt + 10 * rawS))) (s0.after 7))
      (true : Bool) (none : Option Bool) (laneAt 1 []) := by
  repeat' apply And.intro
  all_goals first
    | decide +kernel
    | exact Or.inl rfl
    | exact fun _ _ => noPair (by decide +kernel) _
    | exact not_raised_of (by decide +kernel)
    | exact raised_of (by decide +kernel)

theorem wit_laneFrames_0 :
    (fun (n c : Nat) (s0 : State) => (fun (s : State) => (n < 4 ∧ 1 ≤ c ∧ c ≤ 7) ∧ s0.powered = true ∧ (s.works wLNE ∧ (s.lane n).run = true ∧ (c = 4 → s.netKeyed = false))) (s0.after 7))
      (0 : Nat) (6 : Nat) (laneAt 1 []) := by
  repeat' apply And.intro
  all_goals first
    | decide +kernel
    | exact Or.inl rfl
    | exact fun _ _ => noPair (by decide +kernel) _
    | exact not_raised_of (by decide +kernel)
    | exact raised_of (by decide +kernel)

theorem wit_laneFrames_1 :
    (fun (f : RxFrame) (s0 : State) => (fun (s : State) => s0.powered = true ∧ (s.works wLNE ∧ f.lane < 4 ∧ s.listens f.lane f.sfd = true ∧ s.psduOf f.lane f ≤ 250 ∧ s.netKeyed = true ∧
    s.findLantern f.src = none ∧ f.formJ = true)) (s0.after 7))
      (frameOf 0x55 true [0x59] : RxFrame) (hearing) := by
  repeat' apply And.intro
  all_goals first
    | decide +kernel
    | exact Or.inl rfl
    | exact fun _ _ => noPair (by decide +kernel) _
    | exact not_raised_of (by decide +kernel)
    | exact raised_of (by decide +kernel)

theorem wit_laneFrames_2 :
    (fun (x : Nat) (f : RxFrame) (s0 : State) => (fun (s : State) => s0.powered = true ∧ (s.works wLNE ∧ f.lane < 4 ∧ s.listens f.lane f.sfd = true ∧ s.psduOf f.lane f ≤ 250 ∧ f.formJ = false ∧
    (s.netKeyed = false ∨ s.findLantern f.src = none))) (s0.after 7))
      (3 : Nat) (frameOf 0x55 false [0x59] : RxFrame) (hearing) := by
  repeat' apply And.intro
  all_goals first
    | decide +kernel
    | exact Or.inl rfl
    | exact fun _ _ => noPair (by decide +kernel) _
    | exact not_raised_of (by decide +kernel)
    | exact raised_of (by decide +kernel)

theorem wit_laneFrames_3 :
    (fun (n e q : Nat) (f : RxFrame) (s0 : State) => (fun (s : State) => s0.powered = true ∧ (s.dataReaches n e f ∧ State.plainFrame f 0x81 20 ∧ s.lrxQueue = some q ∧ (s.ltState e = 2 ∨ s.ltState e = 3 ∨ s.ltState e = 4) ∧
    s.reportNewer e f.payload = true)) (s0.after 7))
      (0 : Nat) (1 : Nat) (3 : Nat) (frameOf 0x77 false reportOctets : RxFrame) (hearing) := by
  repeat' apply And.intro
  all_goals first
    | decide +kernel
    | exact Or.inl rfl
    | exact fun _ _ => noPair (by decide +kernel) _
    | exact not_raised_of (by decide +kernel)
    | exact raised_of (by decide +kernel)

theorem wit_laneFrames_4 :
    (fun (n e q : Nat) (f : RxFrame) (s0 : State) => (fun (s : State) => s0.powered = true ∧ (s.dataReaches n e f ∧ State.plainFrame f 0x83 10 ∧ s.lrxQueue = some q ∧ (s.ltState e = 2 ∨ s.ltState e = 3 ∨ s.ltState e = 4))) (s0.after 7))
      (0 : Nat) (1 : Nat) (3 : Nat) (frameOf 0x77 false faultOctets : RxFrame) (hearing) := by
  repeat' apply And.intro
  all_goals first
    | decide +kernel
    | exact Or.inl rfl
    | exact fun _ _ => noPair (by decide +kernel) _
    | exact not_raised_of (by decide +kernel)
    | exact raised_of (by decide +kernel)

theorem wit_laneFrames_5 :
    (fun (n e : Nat) (f : RxFrame) (s0 : State) => (fun (s : State) => s0.powered = true ∧ (s.dataReaches n e f ∧ State.plainFrame f 0x82 14 ∧ (s.ltState e = 2 ∨ s.ltState e = 4) ∧
    fieldLE f.payload 7 2 < s.lneF n 0x010 31 16 ∧ s.wav.fifo.length < 48)) (s0.after 7))
      (0 : Nat) (1 : Nat) (frameOf 0x77 false detectOctets : RxFrame) (hearing) := by
  repeat' apply And.intro
  all_goals first
    | decide +kernel
    | exact Or.inl rfl
    | exact fun _ _ => noPair (by decide +kernel) _
    | exact not_raised_of (by decide +kernel)
    | exact raised_of (by decide +kernel)

theorem wit_laneFrames_6 :
    (fun (n e q : Nat) (f : RxFrame) (x : Bool) (s0 : State) => (fun (s : State) => s0.powered = true ∧ (s.dataReaches n e f ∧ f.ackReq = false ∧ s.lrxQueue = some q ∧ (s.ltState e = 2 ∨ s.ltState e = 4) ∧
    (if x then f.payload.head? ≠ some 0x59 else State.plainFrame f 0x86 27))) (s0.after 7))
      (0 : Nat) (1 : Nat) (3 : Nat) (frameOf 0x77 false [0x59, 0x86, 0, 0, 0, 0, 0, 0, 0, 0, 0, 0, 0, 0, 0, 0, 0, 0, 0, 0, 0, 0, 0, 0, 0, 0, 0] : RxFrame) (false : Bool) (hearing) := by
  repeat' apply And.intro
  all_goals first
    | decide +kernel
    | exact Or.inl rfl
    | exact fun _ _ => noPair (by decide +kernel) _
    | exact not_raised_of (by decide +kernel)
    | exact raised_of (by decide +kernel)

theorem wit_laneFrames_7 :
    (fun (n e q : Nat) (f : RxFrame) (s0 : State) => (fun (s : State) => s0.powered = true ∧ (s.dataReaches n e f ∧ f.ackReq = true ∧ f.bcast = false ∧ f.formJ = false ∧ f.payload.head? ≠ some 0x59 ∧ s.lrxQueue = some q ∧
    (s.ltState e = 2 ∨ s.ltState e = 4) ∧ s.fcEnd = false ∧ s.hst tLANTERN e ≠ .faulted)) (s0.after 7))
      (0 : Nat) (1 : Nat) (3 : Nat) ({ frameOf 0x77 false [0x58] with ackReq := true } : RxFrame) (hearing) := by
  repeat' apply And.intro
  all_goals first
    | decide +kernel
    | exact Or.inl rfl
    | exact fun _ _ => noPair (by decide +kernel) _
    | exact not_raised_of (by decide +kernel)
    | exact raised_of (by decide +kernel)

theorem wit_laneFrames_8 :
    (fun (n e q : Nat) (f : RxFrame) (s0 : State) => (fun (s : State) => s0.powered = true ∧ (s.dataReaches n e f ∧ State.plainFrame f 0x84 22 ∧ s.isRunning tLANTERN e = true ∧
    s.engineQueue 1 n 3 = some q ∧ s.qFree q = true ∧ s.ringOk q = true)) (s0.after 7))
      (0 : Nat) (1 : Nat) (2 : Nat) (frameOf 0x77 true joinOctets : RxFrame) (hearing) := by
  repeat' apply And.intro
  all_goals first
    | decide +kernel
    | exact Or.inl rfl
    | exact fun _ _ => noPair (by decide +kernel) _
    | exact not_raised_of (by decide +kernel)
    | exact raised_of (by decide +kernel)

theorem wit_laneFrames_9 :
    (fun (n e : Nat) (f : RxFrame) (s0 : State) => (fun (s : State) => s0.powered = true ∧ (s.dataReaches n e f ∧ State.plainFrame f 0x84 22 ∧ s.isRunning tLANTERN e = false)) (s0.after 7))
      (0 : Nat) (1 : Nat) (frameOf 0x77 true joinOctets : RxFrame) ({ hearing with str := { hearing.str with handles := [] } }) := by
  repeat' apply And.intro
  all_goals first
    | decide +kernel
    | exact Or.inl rfl
    | exact fun _ _ => noPair (by decide +kernel) _
    | exact not_raised_of (by decide +kernel)
    | exact raised_of (by decide +kernel)

theorem wit_laneFrames_10 :
    (fun (n e : Nat) (f : RxFrame) (w : Await) (s0 : State) => (fun (s : State) => s0.powered = true ∧ (s.frameReaches n e f ∧ (s.lane n).run = true ∧ (s.lane n).await = some w ∧ s.ackInWindow n f.sfd = true ∧ f.formJ = false ∧
    (s.ltState e = 2 ∨ s.ltState e = 4))) (s0.after 7))
      (0 : Nat) (1 : Nat) ({ frameOf 0x77 false [] with sfd := 4500000 } : RxFrame) ({ queue := 1, slot := 1, dest := 1 } : Await) (acked) := by
  repeat' apply And.intro
  all_goals first
    | decide +kernel
    | exact Or.inl rfl
    | exact fun _ _ => noPair (by decide +kernel) _
    | exact not_raised_of (by decide +kernel)
    | exact raised_of (by decide +kernel)

theorem wit_laneFrames_11 :
    (fun (n : Nat) (f : RxFrame) (s0 : State) => (fun (s : State) => s0.powered = true ∧ (s.works wLNE ∧ f.lane = n ∧ n < 4 ∧ (s.lane n).run = true ∧ s.ackInWindow n f.sfd = false)) (s0.after 7))
      (0 : Nat) (frameOf 0x77 false [] : RxFrame) (hearing) := by
  repeat' apply And.intro
  all_goals first
    | decide +kernel
    | exact Or.inl rfl
    | exact fun _ _ => noPair (by decide +kernel) _
    | exact not_raised_of (by decide +kernel)
    | exact raised_of (by decide +kernel)

theorem wit_queueCommands_0 :
    (fun (m q : Nat) (v : Word) (s0 : State) => (fun (s : State) => (q < 64) ∧ s0.powered = true ∧ (s.lets m (reg wQDM (0x100C + 0x40 * q)) ∧ s.qEngine q = false ∧
    s.qCount q ≤ (fld v 15 0 + 65536 - (s.queue q).head) % 65536 ∧ (fld v 15 0 + 65536 - (s.queue q).head) % 65536 ≤ s.ringN q)) (s0.after 7))
      (0 : Nat) (5 : Nat) (3 : Word) (laneAt 1 []) := by
  repeat' apply And.intro
  all_goals first
    | decide +kernel
    | exact Or.inl rfl
    | exact fun _ _ => noPair (by decide +kernel) _
    | exact not_raised_of (by decide +kernel)
    | exact raised_of (by decide +kernel)

theorem wit_queueCommands_1 :
    (fun (m q : Nat) (v : Word) (s0 : State) => (fun (s : State) => (q < 64) ∧ s0.powered = true ∧ (s.lets m (reg wQDM (0x100C + 0x40 * q)) ∧ s.qEngine q = false ∧
    ((fld v 15 0 + 65536 - (s.queue q).head) % 65536 < s.qCount q ∨ s.ringN q < (fld v 15 0 + 65536 - (s.queue q).head) % 65536))) (s0.after 7))
      (0 : Nat) (5 : Nat) (100 : Word) (laneAt 1 []) := by
  repeat' apply And.intro
  all_goals first
    | decide +kernel
    | exact Or.inl rfl
    | exact fun _ _ => noPair (by decide +kernel) _
    | exact not_raised_of (by decide +kernel)
    | exact raised_of (by decide +kernel)

theorem wit_queueCommands_2 :
    (fun (m q : Nat) (v : Word) (s0 : State) => (fun (s : State) => (q < 64) ∧ s0.powered = true ∧ (s.lets m (reg wQDM (0x100C + 0x40 * q)) ∧ s.qEngine q = true)) (s0.after 7))
      (0 : Nat) (1 : Nat) (100 : Word) (laneAt 1 []) := by
  repeat' apply And.intro
  all_goals first
    | decide +kernel
    | exact Or.inl rfl
    | exact fun _ _ => noPair (by decide +kernel) _
    | exact not_raised_of (by decide +kernel)
    | exact raised_of (by decide +kernel)

theorem wit_queueCommands_3 :
    (fun (m q : Nat) (s0 : State) => (fun (s : State) => (q < 64) ∧ s0.powered = true ∧ (s.lets m (reg wQDM 0x004))) (s0.after 7))
      (0 : Nat) (1 : Nat) (parkedAt) := by
  repeat' apply And.intro
  all_goals first
    | decide +kernel
    | exact Or.inl rfl
    | exact fun _ _ => noPair (by decide +kernel) _
    | exact not_raised_of (by decide +kernel)
    | exact raised_of (by decide +kernel)

theorem wit_queueCommands_4 :
    (fun (m q : Nat) (s0 : State) => (fun (s : State) => (q < 64) ∧ s0.powered = true ∧ (s.lets m (reg wQDM 0x004) ∧ s.qEngine q = false ∧ s.isStopped tQUEUE q = true ∧ (s.queue q).done = none ∧ s.ringOk q = true ∧
    s.qCount q ≤ s.ringN q ∧ (s.queue q).head < 65536 ∧ (s.queue q).tail < 65536)) (s0.after 7))
      (0 : Nat) (5 : Nat) ({ laneAt 1 [] with
        str := { StrUnit.reset with
          img := some { bytes := [], body := testBody }, handles := [(State.hkey 8 5, handleIn .stopped)] }
        qdm := { QdmUnit.reset with cfgs := testQueues, queues := [(5, { Queue.reset with tail := 3 })] } }) := by
  repeat' apply And.intro
  all_goals first
    | decide +kernel
    | exact Or.inl rfl
    | exact fun _ _ => noPair (by decide +kernel) _
    | exact not_raised_of (by decide +kernel)
    | exact raised_of (by decide +kernel)

theorem wit_queueCommands_5 :
    (fun (m q : Nat) (s0 : State) => (fun (s : State) => (q < 64) ∧ s0.powered = true ∧ (s.lets m (reg wQDM 0x004) ∧ (if s.qEngine q = true then (s.queue q).parked = false else s.isStopped tQUEUE q = false))) (s0.after 7))
      (0 : Nat) (5 : Nat) (laneAt 1 []) := by
  repeat' apply And.intro
  all_goals first
    | decide +kernel
    | exact Or.inl rfl
    | exact fun _ _ => noPair (by decide +kernel) _
    | exact not_raised_of (by decide +kernel)
    | exact raised_of (by decide +kernel)

theorem wit_queueCommands_6 :
    (fun (q st len cf : Nat) (s0 : State) => (fun (s : State) => s0.powered = true ∧ (s.works wQDM ∧ (s.queue q).done = some (st, len, cf) ∧ State.memSpan (s.descAddr q (s.queue q).head) 32 = true)) (s0.after 7))
      (1 : Nat) (0 : Nat) (10 : Nat) (2 : Nat) ({ laneAt 1 [] with
        qdm := { QdmUnit.reset with
          cfgs := testQueues, queues := [(1, { Queue.reset with tail := 3, attempts := 2, done := some (0, 10, 2) })] } }) := by
  repeat' apply And.intro
  all_goals first
    | decide +kernel
    | exact Or.inl rfl
    | exact fun _ _ => noPair (by decide +kernel) _
    | exact not_raised_of (by decide +kernel)
    | exact raised_of (by decide +kernel)

theorem wit_queueCommands_7 :
    (fun (q : Nat) (s0 : State) => (fun (s : State) => s0.powered = true ∧ ((s.queue q).done = none)) (s0.after 7))
      (1 : Nat) (laneAt 1 []) := by
  repeat' apply And.intro
  all_goals first
    | decide +kernel
    | exact Or.inl rfl
    | exact fun _ _ => noPair (by decide +kernel) _
    | exact not_raised_of (by decide +kernel)
    | exact raised_of (by decide +kernel)

theorem wit_queueCommands_8 :
    (fun (m w : Nat) (v : Word) (s0 : State) => (fun (s : State) => (w < 64) ∧ s0.powered = true ∧ (s.lets m (reg wQDM (0x2000 + 0x20 * w)) ∧ bit (s.winReg w 0) 31 = false)) (s0.after 7))
      (0 : Nat) (2 : Nat) (0xE000000C : Word) ({ laneAt 1 [] with regs := { RegUnit.reset with cfg := bank [(reg wQDM 0x204C, 0x20000000)] } }) := by
  repeat' apply And.intro
  all_goals first
    | decide +kernel
    | exact Or.inl rfl
    | exact fun _ _ => noPair (by decide +kernel) _
    | exact not_raised_of (by decide +kernel)
    | exact raised_of (by decide +kernel)

theorem wit_queueCommands_9 :
    (fun (m w : Nat) (v : Word) (s0 : State) => (fun (s : State) => (w < 64) ∧ s0.powered = true ∧ (s.lets m (reg wQDM (0x2000 + 0x20 * w)) ∧ bit (s.winReg w 0) 31 = true)) (s0.after 7))
      (0 : Nat) (2 : Nat) (0 : Word) ({ laneAt 1 [] with regs := { RegUnit.reset with cfg := bank [(reg wQDM 0x2040, 0xE000000C)] } }) := by
  repeat' apply And.intro
  all_goals first
    | decide +kernel
    | exact Or.inl rfl
    | exact fun _ _ => noPair (by decide +kernel) _
    | exact not_raised_of (by decide +kernel)
    | exact raised_of (by decide +kernel)

theorem wit_queueBursts_0 :
    (fun (q code : Nat) (b : Bool) (s0 : State) => (fun (s : State) => s0.powered = true ∧ (s.works wQDM ∧ s.burstQueue = some q ∧ (s.queue q).xfer = none ∧ s.descCheck q (s.headDesc q) = some code ∧ code < 256 ∧
    State.memSpan (s.descAddr q (s.queue q).head) 32 = true)) (s0.after 7))
      (6 : Nat) (7 : Nat) (false : Bool) (copying [] []) := by
  repeat' apply And.intro
  all_goals first
    | decide +kernel
    | exact Or.inl rfl
    | exact fun _ _ => noPair (by decide +kernel) _
    | exact not_raised_of (by decide +kernel)
    | exact raised_of (by decide +kernel)

theorem wit_queueBursts_1 :
    (fun (q n p r : Nat) (d : Desc) (s0 : State) => (fun (s : State) => s0.powered = true ∧ (s.works wQDM ∧ s.burstQueue = some q ∧ s.qClass q = 5 ∧ s.headDesc q = d ∧ (s.queue q).xfer = none ∧ s.descCheck q d = none ∧
    n = State.burstLen d.addr d.len ∧ State.pieces d.word64 n = [(d.word64, n)] ∧
    (s.translate q d.addr false).toOption = some p ∧ (s.translate q d.word64 true).toOption = some r ∧ State.memSpan r n = true ∧
    (∀ k, k < n → s.inLtable (r + k) = false))) (s0.after 7))
      (6 : Nat) (40 : Nat) (0x20200010 : Nat) (0x20300000 : Nat) (copyDesc : Desc) (copying copyWin copyMem) := by
  repeat' apply And.intro
  all_goals first
    | decide +kernel
    | exact Or.inl rfl
    | exact fun _ _ => noPair (by decide +kernel) _
    | exact not_raised_of (by decide +kernel)
    | exact raised_of (by decide +kernel)

theorem wit_queueBursts_2 :
    (fun (q a : Nat) (c : DmaCause) (b : Bool) (d : Desc) (s0 : State) => (fun (s : State) => (c ≠ .ring) ∧ s0.powered = true ∧ (s.works wQDM ∧ s.burstQueue = some q ∧ s.qClass q = 5 ∧ s.headDesc q = d ∧ (s.queue q).xfer = none ∧ s.descCheck q d = none ∧
    a = d.addr ∧ (if b = true then c = .memErr else s.refusedFor q a false = some c))) (s0.after 7))
      (6 : Nat) (0x10 : Nat) (.noWindow : DmaCause) (false : Bool) (copyDesc : Desc) (copying [] copyMem) := by
  repeat' apply And.intro
  all_goals first
    | decide +kernel
    | exact Or.inl rfl
    | exact fun _ _ => noPair (by decide +kernel) _
    | exact not_raised_of (by decide +kernel)
    | exact raised_of (by decide +kernel)

theorem wit_queueBursts_3 :
    (fun (q : Nat) (b : Bool) (s0 : State) => (fun (s : State) => s0.powered = true ∧ (s.works wQDM ∧ s.burstQueue = some q ∧ (s.qClass q = 3 ∨ s.qClass q = 5) ∧ (s.queue q).xfer = none)) (s0.after 7))
      (6 : Nat) (false : Bool) (copying [] copyMem) := by
  repeat' apply And.intro
  all_goals first
    | decide +kernel
    | exact Or.inl rfl
    | exact fun _ _ => noPair (by decide +kernel) _
    | exact not_raised_of (by decide +kernel)
    | exact raised_of (by decide +kernel)

theorem wit_queueBursts_4 :
    (fun (q n p : Nat) (d : Desc) (s0 : State) => (fun (s : State) => s0.powered = true ∧ (s.works wQDM ∧ s.burstQueue = some q ∧ s.qClass q = 3 ∧ s.engPay q (s.queue q).head = none ∧ s.headDesc q = d ∧
    (s.queue q).xfer = none ∧ s.descCheck q d = none ∧ n = State.burstLen d.addr d.len ∧ (s.translate q d.addr false).toOption = some p)) (s0.after 7))
      (4 : Nat) (40 : Nat) (0x20200010 : Nat) (ethDesc : Desc) (sending) := by
  repeat' apply And.intro
  all_goals first
    | decide +kernel
    | exact Or.inl rfl
    | exact fun _ _ => noPair (by decide +kernel) _
    | exact not_raised_of (by decide +kernel)
    | exact raised_of (by decide +kernel)

theorem wit_queueBursts_5 :
    (fun (b r : Bool) (s0 : State) => (fun (s : State) => s0.powered = true ∧ (s.burstQueue = none)) (s0.after 7))
      (true : Bool) (true : Bool) (laneAt 1 []) := by
  repeat' apply And.intro
  all_goals first
    | decide +kernel
    | exact Or.inl rfl
    | exact fun _ _ => noPair (by decide +kernel) _
    | exact not_raised_of (by decide +kernel)
    | exact raised_of (by decide +kernel)

theorem wit_ethernetPorts_0 :
    (fun (p q : Nat) (s0 : State) => (fun (s : State) => (p < 2) ∧ s0.powered = true ∧ (s.works (State.wETH p) ∧ s.ethF p 0x004 0 0 = 1 ∧ (s.ethOf p).up = true ∧ s.etxNext p = some q)) (s0.after 7))
      (0 : Nat) (4 : Nat) ({ sending with
        qdm := { QdmUnit.reset with cfgs := testQueues, queues := [(4, { Queue.reset with tail := 1, held := some { octets := [1] } })] } }) := by
  repeat' apply And.intro
  all_goals first
    | decide +kernel
    | exact Or.inl rfl
    | exact fun _ _ => noPair (by decide +kernel) _
    | exact not_raised_of (by decide +kernel)
    | exact raised_of (by decide +kernel)

theorem wit_ethernetPorts_1 :
    (fun (p : Nat) (s0 : State) => (fun (s : State) => (p < 2) ∧ s0.powered = true ∧ (s.ethF p 0x004 0 0 = 0 ∨ (s.ethOf p).up = false ∨ s.etxNext p = none)) (s0.after 7))
      (0 : Nat) (laneAt 1 []) := by
  repeat' apply And.intro
  all_goals first
    | decide +kernel
    | exact Or.inl rfl
    | exact fun _ _ => noPair (by decide +kernel) _
    | exact not_raised_of (by decide +kernel)
    | exact raised_of (by decide +kernel)

theorem wit_ethernetPorts_2 :
    (fun (p x y : Nat) (f : List Byte) (s0 : State) => (fun (s : State) => (p < 2) ∧ s0.powered = true ∧ (s.works (State.wETH p) ∧ s.ethF p 0x004 1 1 = 1 ∧ (s.ethOf p).up = true)) (s0.after 7))
      (0 : Nat) (5 : Nat) (6 : Nat) ([1] : List Byte) (sending) := by
  repeat' apply And.intro
  all_goals first
    | decide +kernel
    | exact Or.inl rfl
    | exact fun _ _ => noPair (by decide +kernel) _
    | exact not_raised_of (by decide +kernel)
    | exact raised_of (by decide +kernel)

theorem wit_ethernetPorts_3 :
    (fun (p x y : Nat) (b : Bool) (f : List Byte) (s0 : State) => (fun (s : State) => (p < 2) ∧ s0.powered = true ∧ (s.ethF p 0x004 1 1 = 0 ∨ (s.ethOf p).up = false ∨ (b = true ∧ s.ethDstOk p f = false))) (s0.after 7))
      (0 : Nat) (5 : Nat) (6 : Nat) (true : Bool) ([2, 2, 2, 2, 2, 2] : List Byte) (sending) := by
  repeat' apply And.intro
  all_goals first
    | decide +kernel
    | exact Or.inl rfl
    | exact fun _ _ => noPair (by decide +kernel) _
    | exact not_raised_of (by decide +kernel)
    | exact raised_of (by decide +kernel)

theorem wit_ethernetPorts_4 :
    (fun (p x y : Nat) (f g h : List Byte) (s0 : State) => (fun (s : State) => (p < 2) ∧ s0.powered = true ∧ (s.works (State.wETH p) ∧ s.ethF p 0x004 1 1 = 1 ∧ (s.ethOf p).up = true ∧ s.ethDstOk p f = true ∧
    s.waveDatagram p f = some (g, h) ∧ s.wav.fifo.length < 48)) (s0.after 7))
      (0 : Nat) (1500000 : Nat) (1600000 : Nat) (udpFrame : List Byte) ([1, 2, 3, 4] : List Byte) ([10, 0, 0, 1] : List Byte) (sending) := by
  repeat' apply And.intro
  all_goals first
    | decide +kernel
    | exact Or.inl rfl
    | exact fun _ _ => noPair (by decide +kernel) _
    | exact not_raised_of (by decide +kernel)
    | exact raised_of (by decide +kernel)

theorem wit_ethernetPorts_5 :
    (fun (p x y q : Nat) (f : List Byte) (s0 : State) => (fun (s : State) => (p < 2) ∧ s0.powered = true ∧ (s.works (State.wETH p) ∧ s.ethF p 0x004 1 1 = 1 ∧ (s.ethOf p).up = true ∧ s.ethDstOk p f = true ∧
    s.waveDatagram p f = none ∧ (s.erxQueues p (ethPcp f)).find? s.qRuns = some q)) (s0.after 7))
      (0 : Nat) (1500000 : Nat) (1600000 : Nat) (5 : Nat) ([255, 2, 2, 2, 2, 2] : List Byte) (sending) := by
  repeat' apply And.intro
  all_goals first
    | decide +kernel
    | exact Or.inl rfl
    | exact fun _ _ => noPair (by decide +kernel) _
    | exact not_raised_of (by decide +kernel)
    | exact raised_of (by decide +kernel)

theorem wit_ethernetPorts_6 :
    (fun (p x y : Nat) (f : List Byte) (s0 : State) => (fun (s : State) => (p < 2) ∧ s0.powered = true ∧ (s.works (State.wETH p) ∧ s.ethF p 0x004 1 1 = 1 ∧ (s.ethOf p).up = true ∧ s.ethDstOk p f = true ∧
    s.waveDatagram p f = none ∧ s.erxQueues p (ethPcp f) = [])) (s0.after 7))
      (0 : Nat) (1500000 : Nat) (1600000 : Nat) ([255, 2, 2, 2, 2, 2] : List Byte) ({ sending with qdm := { QdmUnit.reset with cfgs := [] } }) := by
  repeat' apply And.intro
  all_goals first
    | decide +kernel
    | exact Or.inl rfl
    | exact fun _ _ => noPair (by decide +kernel) _
    | exact not_raised_of (by decide +kernel)
    | exact raised_of (by decide +kernel)

theorem wit_ethernetPorts_7 :
    (fun (p v : Nat) (b : Bool) (s0 : State) => (fun (s : State) => (p < 2) ∧ s0.powered = true ∧ (s.works (State.wETH p))) (s0.after 7))
      (1 : Nat) (100 : Nat) (true : Bool) (sending) := by
  repeat' apply And.intro
  all_goals first
    | decide +kernel
    | exact Or.inl rfl
    | exact fun _ _ => noPair (by decide +kernel) _
    | exact not_raised_of (by decide +kernel)
    | exact raised_of (by decide +kernel)

/-! ## Witnesses of the hypotheses of the clauses stated over `exec` itself, and of the invariants -/

theorem wit_supplyLossAndReturn_2 :
    (fun s : State => s.sys.vin = false ∧ s.sys.phase = .down) (sysAt (fun u => { u with phase := .down, vin := false })) :=
  ⟨rfl, rfl⟩

theorem wit_startsRun_1 : (sysAt (fun u => { u with phase := .charging })).sys.phase = .charging := rfl

theorem wit_calendarRuns_4 :
    (fun s : State => s.powered = false ∧ s.backupOn = true ∧ s.rtc.oscRun = true ∧ s.rtc.pend = none ∧ s.rtc.clk ≠ Clock.last ∧
      s.rtc.valid = false) (sysAt (fun u => { u with phase := .down })) := by decide +kernel

theorem wit_calendarRuns_5 :
    (fun c : Clock => clockBad c = 0 ∧ 2000 ≤ c.y ∧ c ≠ Clock.last) { y := 2028, mo := 2, d := 28, h := 23, mi := 59, s := 59 } := by
  decide +kernel

theorem wit_backupDomain_10 :
    (fun s : State => s.inOff = true ∧ s.rtc.oscRun = true ∧ s.wakeRipe = true) inOffState := by decide +kernel

theorem wit_keyUpdateMessages_3 :
    (fun m : List Byte => fieldBE m 5 1 = 3 ∧ fieldBE m 7 1 = 5) [0, 0, 0, 0, 0, 3, 0, 5] := by decide +kernel

theorem wit_tableCommands_5 : State.memSpan 0x10000000 1 = false := by decide +kernel

theorem wit_intervalsAndAllocation_2 :
    (fun b : List (Nat × Nat) => b ≠ [] ∧ (b.map (·.1)).Nodup) [(1, 2), (2, 1)] := by decide +kernel

/-- A state with a command that waits. -/
def oneWaits : State := { State.reset with pending := [.holdEnter 3] }

theorem wit_steps : ∃ t, step oneWaits = .next t := ⟨_, rfl⟩

theorem wit_invariants :
    Memory.wf oneWaits.mem ∧ weirOk oneWaits.evr.weir ∧ oneWaits.wav.fifo.length ≤ 48 ∧
      ∀ q ∈ oneWaits.tbs.tsqs, q.entries.length ≤ 16 := by
  refine ⟨?_, ?_, ?_, ?_⟩
  · decide +kernel
  · exact ⟨by decide, by decide⟩
  · decide +kernel
  · decide +kernel

end Sys2Proof.Tests
end

section
/-! PROOF. The timebase's reads and adjustments (R546 to R568), with what a re-conversion, an adjustment and the
milestones it moves can change. -/

namespace Sys2Proof.Proofs
open Sys2Proof Sys2Proof.Machine Sys2Proof.Laws

/-! ## Event bits of TBS_STATUS -/

/-- The bits of a number below 2 to the n are in a list of event bits where those below n are. -/
theorem mem_of_testBit {bits n a : Nat} {F : List (Nat × Nat)} (hn : bits < 2 ^ n)
    (h : ∀ i, i < n → bits.testBit i = true → (a, i) ∈ F) : ∀ i, bits.testBit i = true → (a, i) ∈ F := by
  intro i hi
  refine h i (Nat.lt_of_not_le fun hle => ?_) hi
  rw [Nat.testBit_lt_two_pow (Nat.lt_of_lt_of_le hn (Nat.pow_le_pow_right (by decide) hle))] at hi
  contradiction

/-- An event bit of TBS_STATUS that is posted is raised (R94, R95). -/
theorem raised_post_tbs {s : State} {bits i : Nat} (hi : i < 15) (h : bits.testBit i = true) :
    (s.post (reg wTBS 0) bits).raised (reg wTBS 0) i := by
  have hm : statMask (reg wTBS 0) = 2 ^ 15 - 1 := by decide
  refine raised_post ?_
  rw [hm, Nat.testBit_and, Nat.testBit_mod_two_pow, Nat.testBit_two_pow_sub_one, h]
  simp only [hi, show i < 24 by omega, decide_true, Bool.and_self]

/-! ## Milestones: what a firing and a re-conversion can change (R558, R571 to R573) -/

/-- The event bits of TBS_STATUS that a firing milestone sets: MS_FIRE and MS_LATE. -/
def msBits : List (Nat × Nat) := [(reg wTBS 0, 10), (reg wTBS 0, 11)]

/-- From s to t only milestones, their event bits and what the recorder takes of them change. -/
structure MilesMove (s t : State) : Prop where
  tbs : t.tbs = { s.tbs with ms := t.tbs.ms }
  frame : Frame [.evr, .tbs] msBits s t

theorem MilesMove.refl (s : State) : MilesMove s s := ⟨rfl, frame_refl s⟩

theorem MilesMove.trans {s t u : State} (h : MilesMove s t) (k : MilesMove t u) : MilesMove s u :=
  ⟨by rw [k.tbs, h.tbs], frame_trans h.frame k.frame⟩

/-- A change of the recorder and of the milestones' event bits alone. -/
theorem MilesMove.of_frame {s t : State} (h : Frame [.evr] msBits s t) : MilesMove s t := by
  have e : t.tbs = s.tbs := h.parts .tbs (by decide) (by decide)
  exact ⟨by rw [e], frame_mono h (by decide) (List.Subset.refl _)⟩

theorem milesMove_setMile (s : State) (m : Nat) (f : Milestone → Milestone) : MilesMove s (s.setMile m f) :=
  ⟨rfl, frame_setMile m f (frame_refl s) (by decide)⟩

theorem milesMove_msAim (s : State) (m : Nat) (x : Int) : MilesMove s (s.msAim m x) := milesMove_setMile s m _

theorem milesMove_msPin (s : State) (m r : Nat) : MilesMove s (s.msPin m r) := by
  unfold State.msPin
  split
  · exact milesMove_setMile s m _
  · exact .refl s

theorem milesMove_post_fire (s : State) (late notify : Bool) :
    MilesMove s (s.post (reg wTBS 0) (bitIf late 11 + bitIf notify 10)) := by
  refine .of_frame (frame_post (frame_refl s) (by decide) (.inr (mem_of_testBit (n := 12) ?_ ?_)))
  · cases late <;> cases notify <;> decide
  · cases late <;> cases notify <;> decide

theorem milesMove_triggerAll (s : State) (l : List Nat) : MilesMove s (s.triggerAll l) :=
  .of_frame (frame_triggerAll l (frame_refl s) (by decide))

theorem milesMove_msAct (s : State) (m r : Nat) (late : Bool) : MilesMove s (s.msAct m r late) := by
  unfold State.msAct
  dsimp only
  split
  · refine .trans ?_ (milesMove_triggerAll _ _)
    exact ((milesMove_setMile s m _).trans (milesMove_msPin _ m r)).trans (milesMove_post_fire _ late _)
  · exact ((milesMove_setMile s m _).trans (milesMove_msPin _ m r)).trans (milesMove_post_fire _ late _)

theorem milesMove_msFire (s : State) (m r : Nat) (late : Bool) : MilesMove s (s.msFire m r late) := by
  have h := milesMove_msAct s m r late
  unfold State.msFire
  dsimp only
  split
  · split
    · exact ((h.trans (milesMove_msAct _ m r true)).trans (milesMove_msAim _ m _)).trans (milesMove_setMile _ m _)
    · exact h.trans (milesMove_msAim _ m _)
  · exact h.trans (milesMove_setMile _ m _)

theorem milesMove_msReconvert (s : State) (m r : Nat) : MilesMove s (s.msReconvert m r) := by
  have h := milesMove_msAim s m (s.mile m).target
  unfold State.msReconvert
  dsimp only
  split
  · split
    · exact h.trans (milesMove_msFire _ m r true)
    · exact h
  · exact .refl s

theorem milesMove_msReconvertAll (r : Nat) (l : List Nat) (s : State) : MilesMove s (s.msReconvertAll r l) := by
  induction l generalizing s with
  | nil => exact .refl s
  | cons m l ih => exact (milesMove_msReconvert s m r).trans (ih _)

/-- A re-conversion gives the TICK and the intervals that are open new ends, then goes through the milestones (R558). -/
theorem reconvert_start (s : State) (r : Nat) :
    ∃ b : State, s.reconvert r = b.msReconvertAll r (List.range 32) ∧
      (∃ k, b.tbs = { s.tbs with tickTarget := k }) ∧ Frame [.acc, .tbs] [] s b := by
  unfold State.reconvert
  dsimp only
  refine ⟨_, rfl, ⟨_, rfl⟩, frame_stat rfl fun p h1 h2 => ?_⟩
  cases p
  case acc | tbs => exact absurd (by decide) h1
  case stat => exact absurd rfl h2
  case mem => exact fun _ => rfl
  all_goals rfl

theorem reconvert_tbs (s : State) (r : Nat) :
    ∃ k l, (s.reconvert r).tbs = { s.tbs with tickTarget := k, ms := l } := by
  obtain ⟨b, h, ⟨k, hk⟩, -⟩ := reconvert_start s r
  exact ⟨k, _, by rw [h, (milesMove_msReconvertAll r (List.range 32) b).tbs, hk]⟩

/-- Beside the timebase, a re-conversion changes the ends of intervals, and what late milestones set (R558). -/
theorem reconvert_frame (s : State) (r : Nat) : Frame [.acc, .evr, .tbs] msBits s (s.reconvert r) := by
  obtain ⟨b, h, -, hb⟩ := reconvert_start s r
  have hm := (milesMove_msReconvertAll r (List.range 32) b).frame
  exact h ▸ frame_trans (frame_mono hb (by decide) (List.nil_subset _)) (frame_mono hm (by decide) (List.Subset.refl _))

/-! ## Corrected time across a change of mapping (R547, R548, R550, R554) -/

/-- A mapping into which the drift is folded at raw count r so that c is the corrected time there gives c there,
whatever its rate and its slew. -/
theorem corr_folded {u : TbsUnit} {r : Nat} {c : Rat} (hrb : u.rb = r) (hdb : u.db = c - u.offset - 5 * (r : Rat)) :
    u.corr r = c := by
  unfold TbsUnit.corr
  rw [hrb, hdb]
  cases u.slew with
  | none => grind
  | some w => grind

/-- Corrected time moves by what the offset moves by (R547). -/
theorem corr_offset (t : TbsUnit) (r : Nat) (a : Int) :
    { t with offset := t.offset + a }.corr r = t.corr r + a := by
  unfold TbsUnit.corr
  rw [Rat.intCast_add]
  grind

theorem corr_dropSlew (t : TbsUnit) (r : Nat) : (t.dropSlew r).corr r = t.corr r := by
  unfold TbsUnit.dropSlew
  split
  · exact corr_folded rfl rfl
  · rfl

/-- Ending a slew leaves the rest of the mapping's parameters. -/
theorem dropSlew_rest (t : TbsUnit) (r : Nat) :
    (t.dropSlew r).slew = none ∧ (t.dropSlew r).rate = t.rate ∧ (t.dropSlew r).epoch = t.epoch := by
  unfold TbsUnit.dropSlew
  split
  · exact ⟨rfl, rfl, rfl⟩
  · exact ⟨‹_›, rfl, rfl⟩

/-- A unit that keeps a mapping as past from raw count r on forms the same stamps of earlier raw counts. -/
theorem stampAt_keepPast {t u : TbsUnit} {r q : Nat} (hp : u.past = t.keepPast r) (hq : q < r) :
    u.stampAt q = t.stampAt q := by
  have hf : u.past.find? (fun p => decide (q < p.upTo)) =
      (t.past.find? (fun p => decide (q < p.upTo))).or
        (some { upTo := r, offset := t.offset, rate := t.rate, rb := t.rb, db := t.db, slew := t.slew,
                epoch := t.epoch }) := by
    simp [hp, TbsUnit.keepPast, List.find?_append, hq]
  unfold TbsUnit.stampAt TbsUnit.corrNs TbsUnit.inForce
  rw [hf]
  cases t.past.find? (fun p => decide (q < p.upTo)) <;> rfl

/-! ## A mapping that is replaced (R553, R555, R558) -/

/-- The timebase takes up x at raw count r, what is held from corrected time is converted again, and event bits are
set: what an adjustment and the end of a slew have in common. -/
def remap (s : State) (x : TbsUnit) (r bits : Nat) : State :=
  (({ s with tbs := x } : State).reconvert r).post (reg wTBS 0) bits

theorem adjTake_eq (s : State) (r : Nat) (u : TbsUnit) (bits : Nat) :
    s.adjTake r u bits =
      remap s { u with adjRaw := r, adjCode := 0, adjAt := some r, past := s.tbs.keepPast r } r bits := rfl

theorem remap_tbs (s : State) (x : TbsUnit) (r bits : Nat) :
    ∃ k l, (remap s x r bits).tbs = { x with tickTarget := k, ms := l } := by
  obtain ⟨k, l, h⟩ := reconvert_tbs { s with tbs := x } r
  exact ⟨k, l, (post_tbs _ _ _).trans h⟩

theorem remap_frame {s : State} {x : TbsUnit} {r bits : Nat} {F : List (Nat × Nat)} (hm : msBits ⊆ F)
    (hb : ∀ i, bits.testBit i = true → (reg wTBS 0, i) ∈ F) : Frame [.acc, .evr, .tbs] F s (remap s x r bits) :=
  frame_post
    (frame_trans (fset_tbs (frame_refl s) (by decide)) (frame_mono (reconvert_frame _ r) (List.Subset.refl _) hm))
    (by decide) (.inr hb)

/-! ## Adjustments (R553, R554) -/

/-- What a completed adjustment does from s to t: its word v is stored, the mapping of u is taken up at raw count r
with the event bits, and nothing else changes but what the re-conversion may. -/
structure Adjusted (s t : State) (v : Word) (r : Nat) (u : TbsUnit) (bits : Nat) : Prop where
  stores : s.stores t (reg wTBS 0x048) v
  corr : t.tbs.corr r = u.corr r
  slew : t.tbs.slew = u.slew
  rate : t.tbs.rate = u.rate
  epoch : t.tbs.epoch = u.epoch
  unset : t.tbs.unset = u.unset
  adjRaw : t.tbs.adjRaw = r
  adjCode : t.tbs.adjCode = 0
  raised : ∀ i, i < 15 → bits.testBit i = true → t.raised (reg wTBS 0) i
  stamps : ∀ q, q < r → t.tbs.stampAt q = s.tbs.stampAt q
  frame : ∀ F, msBits ⊆ F → (∀ i, bits.testBit i = true → (reg wTBS 0, i) ∈ F) →
    Frame [.cfg, .acc, .evr, .reply, .tbs] F s t

/-- The state in which a pair with a word of TBS_ADJCMD has completed and its adjustment is looked at. -/
def adjStart (s : State) (v : Word) : State := (s.answer 0 false).setCfg (reg wTBS 0x048) v

@[simp] theorem adjStart_tbs (s : State) (v : Word) : (adjStart s v).tbs = s.tbs := rfl

@[simp] theorem adjStart_raw (s : State) (v : Word) : (adjStart s v).raw = s.raw := rfl

theorem adjStart_stores (s : State) (v : Word) : s.stores (adjStart s v) (reg wTBS 0x048) v :=
  stores_setCfg _ v rfl rfl

@[simp] theorem adjStart_adjArg (s : State) (v : Word) : (adjStart s v).adjArg = s.adjArg := by
  have h0 : (adjStart s v).cfg (reg wTBS 0x040) = s.cfg (reg wTBS 0x040) := adjStart_stores s v _
  have h1 : (adjStart s v).cfg (reg wTBS 0x044) = s.cfg (reg wTBS 0x044) := adjStart_stores s v _
  simp only [State.adjArg, State.cfgF, h0, h1]

theorem adjStart_frame (s : State) (v : Word) : Frame [.cfg, .reply] [] s (adjStart s v) :=
  frame_setCfg _ v (frame_answer 0 false (frame_refl s) (by decide)) (by decide)

theorem adjusted_adjTake (s : State) (v : Word) (r : Nat) (u : TbsUnit) (bits : Nat) :
    Adjusted s ((adjStart s v).adjTake r u bits) v r u bits := by
  have hf := frame_adjTake (L := [.stat, .acc, .evr, .tbs]) (F := []) r u bits (frame_refl (adjStart s v))
    (List.Subset.refl _)
  have hcfg := hf.parts .cfg (by decide) (by decide)
  have hsys := hf.parts .sys (by decide) (by decide)
  obtain ⟨k, l, ht⟩ := remap_tbs (adjStart s v)
    { u with adjRaw := r, adjCode := 0, adjAt := some r, past := (adjStart s v).tbs.keepPast r } r bits
  rw [← adjTake_eq] at ht
  exact
    { stores := stores_of (adjStart_stores s v) hcfg (congrArg SysUnit.fuses hsys)
      corr := by rw [ht]; rfl
      slew := by rw [ht]
      rate := by rw [ht]
      epoch := by rw [ht]
      unset := by rw [ht]
      adjRaw := by rw [ht]
      adjCode := by rw [ht]
      raised := fun i hi h => raised_post_tbs hi h
      stamps := fun q hq => stampAt_keepPast (by rw [ht, adjStart_tbs]) hq
      frame := fun F hm hb =>
        frame_trans (frame_mono (adjStart_frame s v) (by decide) (List.nil_subset _))
          (frame_mono (remap_frame hm hb) (by decide) (List.Subset.refl _)) }

/-- The closing of open intervals adds nothing but in the accounts (R391). -/
theorem Adjusted.closeOpenIvs {s t : State} {v : Word} {r : Nat} {u : TbsUnit} {bits : Nat}
    (h : Adjusted s t v r u bits) (q f : Nat) : Adjusted s (t.closeOpenIvs q f) v r u bits :=
  { h with
    stores := stores_of h.stores rfl rfl
    raised := fun i hi hb => (raised_of_stat (t := t.closeOpenIvs q f) rfl _ i).2 (h.raised i hi hb)
    frame := fun F hm hb => frame_closeOpenIvs q f (h.frame F hm hb) (by decide) }

/-- Every open interval is marked to close (R391). -/
theorem closing_closeOpenIvs (s : State) (r f : Nat) :
    ∀ v ∈ (s.closeOpenIvs r f).acc.ivs, v.open_ = true → v.closing.isSome = true := by
  intro v hv ho
  obtain ⟨x, -, rfl⟩ := List.mem_map.1 hv
  split
  · rfl
  · split at ho <;> contradiction

/-- The word of an adjustment holds its OP and its rate in fields of TBS_ADJCMD that are written. -/
theorem adjWord_fields {op p : Nat} (hop : op = 3 ∨ p = 0) (h4 : 1 ≤ op ∧ op ≤ 4) (hp : p ≤ 255) :
    State.adjWord op p &&& 0xF0FF0000 = State.adjWord op p ∧ fld (State.adjWord op p) 31 28 = op ∧
      fld (State.adjWord op p) 23 16 = p := by
  have slew : ∀ q : Fin 256, State.adjWord 3 q &&& 0xF0FF0000 = State.adjWord 3 q ∧
      fld (State.adjWord 3 q) 31 28 = 3 ∧ fld (State.adjWord 3 q) 23 16 = q := by decide +kernel
  have other : ∀ o : Fin 5, State.adjWord o 0 &&& 0xF0FF0000 = State.adjWord o 0 ∧
      fld (State.adjWord o 0) 31 28 = o ∧ fld (State.adjWord o 0) 23 16 = 0 := by decide +kernel
  obtain rfl | rfl := hop
  · exact slew ⟨p, by omega⟩
  · exact other ⟨op, by omega⟩

/-- A completed pair with the word of an adjustment stores the word and has its OP and rate looked at (R553). -/
theorem tbsAdjWord_start {s : State} {op p : Nat} (hop : op = 3 ∨ p = 0) (h4 : 1 ≤ op ∧ op ≤ 4) (hp : p ≤ 255) :
    (s.answer 0 false).tbsAdjWord (State.adjWord op p) = (adjStart s (State.adjWord op p)).tbsAdj op p := by
  obtain ⟨hw, ho, hr⟩ := adjWord_fields hop h4 hp
  rw [State.tbsAdjWord, hw, ho, hr]
  rfl

/-- Where no adjustment is outstanding, each OP acts at the next raw count (R553). -/
theorem tbsAdj_ready {s : State} (v : Word) (hb : s.tbs.adjAt.getD 0 ≤ s.raw) (p : Nat) :
    (adjStart s v).tbsAdj 1 p = (adjStart s v).adjDoStep (s.raw + 1) ∧
    (adjStart s v).tbsAdj 2 p = (adjStart s v).adjDoRate (s.raw + 1) ∧
    (adjStart s v).tbsAdj 3 p = (adjStart s v).adjDoSlew (s.raw + 1) p ∧
    (adjStart s v).tbsAdj 4 p = (adjStart s v).adjDoSlewstop (s.raw + 1) := by
  have hn : ¬(adjStart s v).tbs.adjAt.getD 0 > (adjStart s v).raw := Nat.not_lt.2 hb
  exact ⟨if_neg hn, if_neg hn, if_neg hn, if_neg hn⟩

/-- STEP takes up the mapping with any slew ended, moved by the argument, in the next epoch (R554). -/
theorem adjusted_step {s : State} (v : Word) (hb : s.tbs.adjAt.getD 0 ≤ s.raw) (h0 : s.adjArg ≠ 0)
    (hc : 0 ≤ s.tbs.corr (s.raw + 1) + s.adjArg) :
    let u := s.tbs.dropSlew (s.raw + 1)
    let t := (adjStart s v).tbsAdj 1 0
    Adjusted s t v (s.raw + 1) { u with offset := u.offset + s.adjArg, epoch := (u.epoch + 1) % 65536, unset := false }
        (1 + bitIf s.tbs.slew.isSome 3) ∧
      ∀ x ∈ t.acc.ivs, x.open_ = true → x.closing.isSome = true := by
  obtain ⟨e, -, -, -⟩ := tbsAdj_ready v hb 0
  simp only [e, State.adjDoStep, adjStart_tbs, adjStart_adjArg, if_neg h0, if_neg (Rat.not_lt.2 hc)]
  exact ⟨(adjusted_adjTake ..).closeOpenIvs _ _, closing_closeOpenIvs _ _ _⟩

/-- RATE takes up the mapping with its drift folded in and the argument as its rate (R554). -/
theorem adjusted_rate {s : State} (v : Word) (hb : s.tbs.adjAt.getD 0 ≤ s.raw) (hl : -(2 ^ 39) ≤ s.adjArg)
    (hu : s.adjArg < 2 ^ 39) :
    Adjusted s ((adjStart s v).tbsAdj 2 0) v (s.raw + 1) { s.tbs.rebase (s.raw + 1) with rate := s.adjArg } 2 := by
  obtain ⟨-, e, -, -⟩ := tbsAdj_ready v hb 0
  have hn : ¬(s.adjArg < -(2 ^ 39) ∨ 2 ^ 39 ≤ s.adjArg) := by omega
  simp only [e, State.adjDoRate, adjStart_tbs, adjStart_adjArg, if_neg hn]
  exact adjusted_adjTake ..

/-- SLEW takes up the mapping with any slew ended, its drift folded in, and a slew of its own (R554, R555). -/
theorem adjusted_slew {s : State} {p : Nat} (v : Word) (hp : 1 ≤ p ∧ p ≤ 255) (hb : s.tbs.adjAt.getD 0 ≤ s.raw)
    (h0 : s.adjArg ≠ 0) (hl : -999999999 ≤ s.adjArg) (hu : s.adjArg ≤ 999999999) :
    Adjusted s ((adjStart s v).tbsAdj 3 p) v (s.raw + 1)
      { (s.tbs.dropSlew (s.raw + 1)).rebase (s.raw + 1) with
        slew := some { ppm := if s.adjArg < 0 then -(p : Int) else p, amount := s.adjArg, start := s.raw + 1 } }
      (2 + bitIf s.tbs.slew.isSome 3) := by
  obtain ⟨-, -, e, -⟩ := tbsAdj_ready v hb p
  have hn : ¬(s.adjArg = 0 ∨ s.adjArg < -999999999 ∨ 999999999 < s.adjArg ∨ p = 0 ∨ 500 < p) := by omega
  simp only [e, State.adjDoSlew, adjStart_tbs, adjStart_adjArg, if_neg hn]
  exact adjusted_adjTake ..

/-- SLEWSTOP takes up the mapping with the slew ended (R554). -/
theorem adjusted_slewstop {s : State} (v : Word) (hb : s.tbs.adjAt.getD 0 ≤ s.raw) (hw : s.tbs.slew.isSome = true) :
    Adjusted s ((adjStart s v).tbsAdj 4 0) v (s.raw + 1) (s.tbs.dropSlew (s.raw + 1)) 2 := by
  obtain ⟨-, -, -, e⟩ := tbsAdj_ready v hb 0
  have hn : ¬s.tbs.slew.isNone = true := fun h => by
    rw [Option.isNone_iff_eq_none.1 h] at hw
    contradiction
  have ht : (adjStart s v).adjDoSlewstop (s.raw + 1) =
      (adjStart s v).adjTake (s.raw + 1) (s.tbs.dropSlew (s.raw + 1)) 2 := if_neg hn
  rw [e, ht]
  exact adjusted_adjTake ..

/-! ## The end of a slew (R555) -/

/-- A slew that has added its amount ends at the raw count at which it did. -/
theorem slewFinish_eq {s : State} {w : Slew} (hw : s.tbs.slew = some w) (he : w.endRaw ≤ s.raw) :
    s.slewFinish =
      remap s { s.tbs.rebase w.endRaw with slew := none, past := s.tbs.keepPast w.endRaw } w.endRaw (2 ^ 2) := by
  simp only [State.slewFinish, hw, if_pos he]
  rfl

/-! ## Transmit-timestamp queues (R567) -/

theorem modAt_eq_modify {α : Type} (f : α → α) (l : List α) (k : Nat) : modAt l k f = l.modify k f := by
  induction l generalizing k with
  | nil => simp [modAt]
  | cons x r ih => cases k <;> simp [modAt, ih]

/-- A queue reads back what was done to it, and every other queue as before. -/
theorem tsq_setTsq {s : State} {k : Nat} (hk : k < s.tbs.tsqs.length) (f : Tsq → Tsq) (j : Nat) :
    (s.setTsq k f).tsq j = if j = k then f (s.tsq k) else s.tsq j := by
  simp only [State.tsq, State.setTsq, nth, modAt_eq_modify, List.getElem?_modify]
  by_cases h : j = k
  · subst h
    simp [List.getElem?_eq_getElem hk]
  · simp [h, Ne.symm h]

/-! ## The obligation -/

/-- Settles O24: each row is an access or an occurrence, and an adjustment and the end of a slew replace the mapping
at one raw count, which moves corrected time there by the argument of a STEP and by nothing else. -/
theorem timebase : Obligations.Timebase := by
  unfold Obligations.Timebase
  refine ⟨fun m => ?now, fun m k hk => ?tsq, fun m r => ?step, fun m r => ?rate, fun m p r hp => ?slew,
    fun m r => ?slewstop, fun w r => ?slewEnd⟩
  case now =>
    refine comp_access (fun _ _ => rfl) (fun _ h => h) fun s _ _ => ⟨⟨rfl, rfl⟩, ?_⟩
    exact frame_nowRead (frame_answer 0 false (frame_refl s) (by decide)) (by decide)
  case tsq =>
    refine comp_access (fun _ _ => rfl) (fun _ h => h.1) fun s _ ⟨_, hlen⟩ => ⟨?_, ?_⟩
    · have hq := tsq_setTsq (s := s.answer 0 false) (hlen ▸ hk : k < s.tbs.tsqs.length)
        (fun x => { x with latch := (s.tsq k).entries.head?, entries := x.entries.drop 1 })
      exact ⟨(hq k).trans (if_pos rfl), fun j hj => (hq j).trans (if_neg hj), rfl, rfl, fun he => by
        show BitVec.ofNat 32 (State.tsWord (s.tsq k).entries.head? 0) = 0
        rw [he]
        rfl⟩
    · exact frame_tsqRead k (frame_answer 0 false (frame_refl s) (by decide)) (by decide)
  case step =>
    refine comp_access (fun _ _ => rfl) (fun _ h => h.1) fun s _ ⟨_, hb, h0, hc⟩ => ?_
    rw [tbsAdjWord_start (.inr rfl) (by decide) (by decide)]
    obtain ⟨h, hiv⟩ := adjusted_step (State.adjWord 1 0) hb h0 hc
    obtain ⟨hs, hr, he⟩ := dropSlew_rest s.tbs (s.raw + 1)
    refine ⟨⟨h.stores, ?_, ?_, h.unset, h.slew.trans hs, h.rate.trans hr, h.adjRaw, h.adjCode, ?_, ?_, hiv,
      fun hq => h.stamps r (by omega)⟩, h.frame _ (by decide) ?_⟩
    · rw [h.corr, ← corr_dropSlew s.tbs (s.raw + 1)]
      exact corr_offset _ _ _
    · rw [h.epoch, he]
    · exact h.raised 0 (by decide) (by cases s.tbs.slew.isSome <;> decide)
    · exact fun hw => h.raised 3 (by decide) (by rw [hw]; decide)
    · apply mem_of_testBit (n := 4) <;> cases s.tbs.slew.isSome <;> decide
  case rate =>
    refine comp_access (fun _ _ => rfl) (fun _ h => h.1) fun s _ ⟨_, hb, hl, hu⟩ => ?_
    rw [tbsAdjWord_start (.inr rfl) (by decide) (by decide)]
    have h := adjusted_rate (State.adjWord 2 0) hb hl hu
    exact ⟨⟨h.stores, h.corr.trans (corr_folded rfl rfl), h.rate, h.slew, h.epoch, h.unset, h.adjRaw, h.adjCode,
      h.raised 1 (by decide) (by decide), fun hq => h.stamps r (by omega)⟩,
      h.frame _ (by decide) (mem_of_testBit (n := 4) (by decide) (by decide))⟩
  case slew =>
    refine comp_access (fun _ _ => rfl) (fun _ h => h.1) fun s _ ⟨_, hb, h0, hl, hu⟩ => ?_
    rw [tbsAdjWord_start (.inl rfl) (by decide) hp.2]
    have h := adjusted_slew (State.adjWord 3 p) hp hb h0 hl hu
    obtain ⟨-, hr, he⟩ := dropSlew_rest s.tbs (s.raw + 1)
    refine ⟨⟨?_, ?_, h.slew, h.rate.trans hr, h.epoch.trans he, h.adjRaw, h.adjCode, ?_, ?_,
      fun hq => h.stamps r (by omega)⟩, h.frame _ (by decide) ?_⟩
    · have hw : State.adjWord 3 p = BitVec.ofNat 32 (3 * 2 ^ 28 + p * 2 ^ 16) := by
        rw [State.adjWord, Nat.mod_eq_of_lt (show p < 256 by omega)]
      exact hw ▸ h.stores
    · exact (h.corr.trans (corr_folded rfl rfl)).trans (corr_dropSlew _ _)
    · exact h.raised 1 (by decide) (by cases s.tbs.slew.isSome <;> decide)
    · exact fun hw => h.raised 3 (by decide) (by rw [hw]; decide)
    · apply mem_of_testBit (n := 4) <;> cases s.tbs.slew.isSome <;> decide
  case slewstop =>
    refine comp_access (fun _ _ => rfl) (fun _ h => h.1) fun s _ ⟨_, hb, hw⟩ => ?_
    rw [tbsAdjWord_start (.inr rfl) (by decide) (by decide)]
    have h := adjusted_slewstop (State.adjWord 4 0) hb hw
    obtain ⟨hs, hr, he⟩ := dropSlew_rest s.tbs (s.raw + 1)
    exact ⟨⟨h.stores, h.corr.trans (corr_dropSlew _ _), h.slew.trans hs, h.rate.trans hr, h.epoch.trans he, h.adjRaw,
      h.adjCode, h.raised 1 (by decide) (by decide), fun hq => h.stamps r (by omega)⟩,
      h.frame _ (by decide) (mem_of_testBit (n := 4) (by decide) (by decide))⟩
  case slewEnd =>
    refine comp_occurIn (fun _ _ => rfl) (fun _ h => h.1) fun s _ ⟨_, hw, he⟩ => ?_
    rw [slewFinish_eq hw he]
    obtain ⟨k, l, ht⟩ := remap_tbs s
      { s.tbs.rebase w.endRaw with slew := none, past := s.tbs.keepPast w.endRaw } w.endRaw (2 ^ 2)
    refine ⟨⟨by rw [ht], ?_, by rw [ht]; rfl, by rw [ht]; rfl, by rw [ht]; rfl, ?_, ?_⟩,
      remap_frame (by decide) (mem_of_testBit (n := 3) (by decide) (by decide))⟩
    · rw [ht]
      exact corr_folded rfl rfl
    · exact raised_post_tbs (by decide) (by decide)
    · exact fun hq => stampAt_keepPast (by rw [ht]) hq

end Sys2Proof.Proofs
end

section
/-! SUPPORT. What every command answers: a next state with all that `Kept` names, or the one fault of the model. The
rows of several operations come first, each with a lemma of its own. -/

namespace Sys2Proof.Proofs
open Sys2Proof Sys2Proof.Machine Sys2Proof.Laws

/-- What a command may answer: a next state that keeps what no operation changes or breaks, or, for a plain access
where nothing stands, the fault noMemory. -/
def Answers (c : Instr) (s : State) (o : Host.Outcome State Fault Refusal) : Prop :=
  (∃ t, o = .next t ∧ Kept s t) ∨
    ∃ a n, plainAccess c = some (a, n) ∧ State.memSpan a n = false ∧ o = .fault (.noMemory a)

/-- A command answers so in every state. -/
def Answered (c : Instr) : Prop := ∀ s, Answers c s (exec c s)

/-! ## The ways a row acts -/

section
variable {c : Instr} {s : State} {dt : Nat} {k : State → State}

theorem Answers.next {t : State} (h : Kept s t) : Answers c s (.next t) := .inl ⟨t, rfl, h⟩

theorem kept_now (s : State) (dt : Nat) : Kept s (s.elapse dt) := kept_elapse dt (Kept.refl s)

theorem answers_occur (h : ∀ t, Kept s t → Kept s (k t)) : Answers c s (.next (s.occur dt k)) :=
  .next (kept_occur dt (Kept.refl s) h)

theorem answers_occurIn {w : Nat} (h : ∀ t, Kept s t → Kept s (k t)) : Answers c s (.next (s.occurIn dt w k)) :=
  .next (kept_occurIn dt w (Kept.refl s) h)

theorem answers_access {m a : Nat} {w : Bool} (h : ∀ t, Kept s t → Kept s (k t)) :
    Answers c s (.next ((s.elapse dt).access m a w k)) :=
  .next (kept_access m a w (kept_now s dt) h)

theorem answers_svcMessage {tag : Nat} (h : ∀ t, Kept s t → Kept s (k t)) :
    Answers c s (.next (s.svcMessage dt tag k)) :=
  .next (kept_svcMessage dt tag (Kept.refl s) h)

/-- A plain access answers, or faults where neither a register nor the retained SRAM nor memory stands (R75, R526). -/
theorem answers_reachOr {a n : Nat} {t : State} (hc : plainAccess c = some (a, n)) (h : Kept s t) :
    Answers c s (State.reachOr a n t) := by
  unfold State.reachOr
  split
  · exact .next h
  · rename_i hr
    simp only [State.reaches, Bool.or_eq_true, not_or, Bool.not_eq_true] at hr
    exact .inr ⟨a, n, hc, hr.2, rfl⟩

end

/-! ## Rows of several operations -/

theorem answered_resetAssert (dt : Nat) : Answered (.resetAssert dt) := fun s => by
  have h := kept_now s dt
  refine .next ?_
  split
  · exact h
  · exact h
  · exact kept_ite (kept_startRun h) h
  · exact kept_startRun h
  · exact kept_ite h (kept_startRun h)

theorem answered_pulseStretch (dt sink : Nat) (cur : List (Nat × Nat)) : Answered (.pulseStretch dt sink cur) :=
  fun _ => answers_occurIn fun _ h => by
    refine kept_ite (kept_foldl ?_ fun _ c g => kept_ite (kept_blankChecks c _ cur g) g) h
    exact kept_foldl (kept_setSink sink _ h) fun _ c g => kept_blankSink c g

theorem answered_spareSinkSelftest (dt group : Nat) (ok : Bool) (meas : SinkMeas) :
    Answered (.spareSinkSelftest dt group ok meas) := fun _ =>
  answers_occurIn fun _ h =>
    have g := fun f k => kept_setGroup group f (kept_setSink (7 * group + 6) k h)
    kept_ite (kept_ite (g _ _) (kept_postEvent wMST 12 _ (kept_setGroup group _ (g _ _)))) h

theorem answered_spareSinkTakeover (dt group : Nat) : Answered (.spareSinkTakeover dt group) := fun _ =>
  answers_occurIn fun _ h => by
    split
    · refine kept_foldl (kept_vergeEvent _ _ _ _ _ (kept_postEvent wMST 11 _ ?_)) fun _ _ g =>
        kept_ite (kept_react _ (kept_poolEmpty g)) g
      exact built (kept_setSink _ _ (kept_setGroup group _ h)) rfl rfl rfl rfl rfl
    · exact h

theorem answered_cycleBoundary (dt feeder : Nat) (samples : List (List Int)) :
    Answered (.cycleBoundary dt feeder samples) := fun s => by
  have h := kept_takeSamples samples (kept_now s dt)
  refine .next ?_
  split
  · refine kept_ite ?_ h
    dsimp only
    split
    · exact kept_cycleBegin feeder _ _ false (kept_setFeed feeder _ h)
    · exact kept_setFeed feeder _ h
  · exact h

theorem answered_cycleSynthTimeout (dt feeder : Nat) (samples : List (List Int)) :
    Answered (.cycleSynthTimeout dt feeder samples) := fun s => by
  have h := kept_takeSamples samples (kept_now s dt)
  refine .next ?_
  split
  · exact kept_ite (kept_cycleBegin feeder _ _ true h) h
  · exact h

theorem answered_ltableDirectWrite (dt master addr : Nat) (data : List Byte) :
    Answered (.ltableDirectWrite dt master addr data) := fun s => by
  show Answers _ s (if State.memSpan addr data.length then .next (s.occur dt fun t => t.masterWrite addr data)
    else .fault (.noMemory addr))
  split
  · exact answers_occur fun _ h => kept_masterWrite addr data h
  · rename_i hm
    exact .inr ⟨addr, data.length, rfl, Bool.not_eq_true _ ▸ hm, rfl⟩

/-! ## Every command -/

/-- The row of each command is made of operations that keep: an access, an occurrence, or what acts whatever the
supply. FUSEPROG alone writes fuses, and reaches only the reset and the pin map (R749). -/
theorem exec_answers (c : Instr) : Answered c := by
  intro s
  have now := kept_now s
  cases c with
  | vinLoss => exact .next (kept_ite (now _) (kept_vinLost (now _)))
  | holdEnter =>
    exact .next (kept_ite (built (kept_recDiscard (kept_writerCommit (now _))) rfl rfl rfl rfl rfl) (now _))
  | vinReturn | vbakRetentionLoss => exact .next (kept_ite (now _) (built (now _) rfl rfl rfl rfl rfl))
  | holdupCharged => exact .next (kept_ite (kept_vinStart (now _)) (now _))
  | resetAssert => exact answered_resetAssert _ s
  | copyBlock => exact answers_occur fun _ h => kept_copyOne _ _ h
  | copyComplete => exact answers_occur fun _ h => kept_ite (kept_startLoad (kept_copyEnd _ h)) h
  | clockGoodTimeout =>
    exact answers_occur fun _ h => kept_ite h (kept_ite (kept_clockHalt _ h) (kept_ite (kept_clockLost _ h) h))
  | clockHaltRetry => exact answers_occur fun _ h => kept_clockRetryDue _ h
  | resetnPulse =>
    exact .next (kept_ite (now _) (kept_ite (kept_wakeEvent _ (now _)) (kept_ite (kept_raiseReset _ (now _)) (now _))))
  | wdtHostExpire => exact answers_occur fun _ h => kept_ite (kept_raiseReset _ h) h
  | wdtSysExpire =>
    exact answers_occurIn fun _ h => by
      split
      · exact kept_ite (kept_raiseReset _ h) h
      · exact h
  | bootWindowExpire =>
    exact answers_occur fun _ h => by
      split
      · exact kept_ite (kept_raiseReset _ h) h
      · exact h
  | sysBootok => exact answers_access fun _ h => kept_bootOk _ h
  | rstcmdHost | rstcmdSystem => exact answers_access fun _ h => kept_rstCommand _ h
  | debugResetRequest => exact answers_occur fun _ h => kept_raiseReset _ h
  | fuseprog => exact answers_access fun _ h => kept_fuseProgram _ _ h
  | pwrcmdLit | pwrcmdVigil | pwrcmdOff | pwrcmdHold => exact .next (kept_pwrRow _ _ _ _ (Kept.refl s))
  | contactorClose => exact answers_occur fun _ h => kept_closeNext _ h
  | litTransitionDone => exact answers_occur fun _ h => kept_litDone _ h
  | contactorsOpen => exact answers_occur fun _ h => kept_openDue h
  | vigilTransitionDone => exact answers_occur fun _ h => kept_vigilDone h
  | offEnter => exact answers_occur fun _ h => kept_offDone h
  | coilOpenCoil | coilOver => exact answers_occur fun _ h => kept_ite (kept_coilCheck _ _ h) h
  | photocellLevelHeld => exact answers_occur fun _ h => kept_photocell _ h
  | registerWrite | statusClear | guardPairOpen | guardStrayWrite =>
    exact answers_reachOr rfl (kept_busWrite _ _ _ _ (now _))
  | errorResponse => exact answers_reachOr rfl (kept_ite (kept_busWrite _ _ _ _ (now _)) (kept_busRead _ _ _ (now _)))
  | statusEventPost => exact answers_occur fun _ h => kept_ite (kept_postHeld _ h) h
  | guardTimeout => exact answers_occur fun _ h => kept_expirePair _ h
  | parityScan =>
    exact answers_occurIn fun _ h => by
      split
      · exact kept_ite (kept_corruptWord _ (kept_parityScan h)) (kept_parityScan (kept_corruptWord _ h))
      · exact kept_parityScan h
  | fltPartest => exact answers_access fun _ h => kept_partestArm _ h
  | tickBoundary => exact answers_occurIn fun _ h => kept_ite (kept_tickWork _ h) h
  | slotBoundary => exact answers_occurIn fun _ h => kept_ite (kept_slotWork _ _ h) h
  | periodBoundary => exact answers_occurIn fun _ h => kept_ite (kept_periodBegin _ _ h) h
  | cycleBoundary => exact answered_cycleBoundary _ _ _ s
  | cycleSynthTimeout => exact answered_cycleSynthTimeout _ _ _ s
  | strCreate | strDestroy | strStop | strStart | strQuery => exact .next (kept_strWrite _ _ _ (Kept.refl s))
  | handleStopComplete | handleStartComplete => exact .next (kept_strRow _ _ (Kept.refl s))
  | ltbCommit | ltbClear => exact answers_access fun _ h => kept_editCommand _ h
  | ltbCommitComplete => exact answers_occurIn fun _ h => kept_ite h (kept_editHead h)
  | ltbEuiLookup => exact answers_access fun _ h => kept_euiHiWrite _ h
  | ltableDirectWrite => exact answered_ltableDirectWrite _ _ _ _ s
  | entrySilent => exact answers_occurIn fun _ h => kept_ite (kept_enterState _ _ h) h
  | scnHeldFrameQueue => exact answers_occurIn fun _ h => kept_ite (kept_queueHeld h) h
  | headCommandStart =>
    exact answers_occurIn fun _ h => by
      split
      · exact kept_ite (kept_driveGroup _ (kept_headDue _ h)) h
      · exact h
  | headWaveTime =>
    exact answers_occurIn fun _ h => by
      split
      · exact kept_ite (kept_driveGroup _ (kept_headWaves _ h)) h
      · exact h
  | wavDetectProcess => exact answers_occurIn fun _ h => kept_detectServe _ h
  | wavHandoffOpen | wavHandoffUpdate | wavHandoffCancel => exact answers_occurIn fun _ h => kept_handServe _ _ h
  | waveEnd => exact answers_occurIn fun _ h => kept_ite (kept_endWave _ h) h
  | headroomLoopStep => exact answers_occurIn fun _ h => kept_ite (kept_setGroup _ _ (kept_hrBegin _ h)) h
  | hrLimit =>
    exact answers_occurIn fun _ h => kept_ite (kept_postEvent _ _ _ (kept_foldl h fun _ _ g => kept_setSink _ _ g)) h
  | mstTjWindow => exact answers_occurIn fun _ h => kept_ite (kept_tjWindow _ _ _ h) h
  | mstCalibrate => exact answers_access fun _ h => kept_calStart _ h
  | calibrationDone => exact answers_occurIn fun _ h => kept_calFinish h
  | mstAck => exact answers_access fun _ h => kept_mstAckSink _ h
  | sinkFaultOpen | sinkFaultCtrl | sinkFaultSat =>
    exact answers_occurIn fun _ h => kept_ite (kept_sinkFaulted _ _ _ _ h) h
  | sinkOvercurrent => exact answers_occurIn fun _ h => kept_ite (kept_setSink _ _ (kept_sinkFaulted _ _ _ _ h)) h
  | sinkBlanking => exact answers_occurIn fun _ h => kept_ite (kept_blankChecks _ _ _ (kept_blankSink _ h)) h
  | pulseStretch => exact answered_pulseStretch _ _ _ s
  | spareSinkSelftest => exact answered_spareSinkSelftest _ _ _ _ s
  | spareSinkTakeover => exact answered_spareSinkTakeover _ _ s
  | groupDark =>
    exact answers_occurIn fun _ h => by
      split
      · exact kept_ite (kept_enterPhase _ _ h) h
      · exact h
  | groupStartupEnd | groupRecoveryEnd => exact answers_occurIn fun _ h => kept_ite (kept_enterPhase _ _ h) h
  | syncPulse => exact .next (kept_ite (kept_syncStep _ _ _ (now _)) (now _))
  | mtrLinkTimeout => exact answers_occurIn fun _ h => kept_ite h (kept_postEvent _ _ _ (built h rfl rfl rfl rfl rfl))
  | mtrLinkRestore => exact answers_occurIn fun _ h => kept_ite (kept_deliverHeld (built h rfl rfl rfl rfl rfl)) h
  | mtrTempAverage => exact .next (kept_ite (kept_tempAverage _ (now _)) (now _))
  | spareRefCheck =>
    exact .next (kept_ite (kept_ite (kept_refBegin (now _)) (kept_ite (kept_refChecked _ (now _)) (now _))) (now _))
  | channelCheckDone => exact .next (kept_ite (kept_chanChecked _ _ _ (now _)) (now _))
  | mtrStuck => exact .next (kept_ite (kept_stuckFound _ (kept_takeSamples _ (now _))) (kept_takeSamples _ (now _)))
  | meterSubstitution => exact .next (kept_ite (kept_substServe _ (now _)) (now _))
  | islctlSealrst => exact answers_access fun _ h => kept_islSealrst (kept_setCfg _ _ h)
  | islctlSubst => exact answers_access fun _ h => kept_islSubst _ (kept_setCfg _ _ h)
  | islctlRelease => exact answers_access fun _ h => kept_islRelease _ (kept_setCfg _ _ h)
  | islctlChecknow => exact answers_access fun _ h => kept_islCheck (kept_setCfg _ _ h)
  | islandSupplyFail => exact .next (built (now _) rfl rfl rfl rfl rfl)
  | islandPowerUp => exact .next (kept_ite (now _) (kept_islandUp _ (now _)))
  | intervalClose => exact answers_occurIn fun _ h => kept_ivClose _ h
  | pulseEmit => exact answers_occurIn fun _ h => kept_pulseStart _ h
  | accCfgWrite => exact answers_access fun _ h => kept_accCfgSet _ _ _ h
  | accPulseWrite => exact answers_access fun _ h => kept_accPulseSet _ _ _ _ h
  | accSlotRead => exact answers_access fun _ h => kept_slotRead _ _ _ h
  | tbsNowRead => exact answers_access fun _ h => kept_nowRead h
  | tsqPop => exact answers_access fun _ h => kept_tsqRead _ h
  | rtcDateRead => exact answers_access fun _ h => kept_dateRead _ h
  | loHiLatchRead => exact answers_reachOr rfl (kept_busRead _ _ _ (now _))
  | laneFetch => exact answers_occurIn fun _ h => kept_ite (kept_laneFetchDue _ h) h
  | ackTimeout =>
    exact answers_occurIn fun _ h => by
      split
      · exact kept_ite (kept_ackFail _ h) h
      · exact h
  | laneStart => exact answers_occurIn fun _ h => kept_ite (kept_laneStartDue _ h) h
  | lneTakeover => exact answers_access fun _ h => kept_cmdTakeover _ h
  | lneRelease => exact answers_access fun _ h => kept_cmdRelease _ h
  | lneSpareRoundNow => exact answers_access fun _ h => kept_cmdRound h
  | spareRound => exact answers_occurIn fun _ h => kept_spareTest _ _ h
  | spareLocked => exact answers_occurIn fun _ h => kept_ite (built h rfl rfl rfl rfl rfl) h
  | laneReturn => exact answers_occurIn fun _ h => kept_ite (kept_laneReturnDue _ h) h
  | frameRejected => exact answers_occurIn fun _ h => kept_ite (kept_rxDrop _ _ h) h
  | enhancedAckReceive => exact answers_occurIn fun _ h => kept_ackFrame _ h
  | reportReceive | detectReceive | faultReceive | joinReceive | unknownJoin | probeResponseReceive
  | foreignFrame => exact answers_occurIn fun _ h => kept_dataFrame _ h
  | qdmTailWrite => exact answers_access fun _ h => kept_tailWrite _ _ _ _ _ h
  | qdmResume => exact answers_access fun _ h => kept_qResume _ h
  | qdmFlush => exact answers_access fun _ h => kept_qFlush _ h
  | dmaBurst =>
    exact answers_occurIn fun _ h => by
      split
      · exact kept_burst _ _ _ h
      · exact h
  | descriptorComplete => exact answers_occurIn fun _ h => kept_settle _ h
  | windowEnableWrite => exact answers_access fun _ h => kept_winWrite _ _ _ _ h
  | ethTransmit => exact answers_occurIn fun _ h => kept_ite (kept_etxSend _ h) h
  | ethFrameReceive => exact answers_occurIn fun _ h => kept_ite (kept_ethArrive _ _ _ _ _ h) h
  | ethLinkChange => exact answers_occurIn fun _ h => kept_ite (kept_ethLink _ _ _ h) h
  | adjStep | adjRate | adjSlew | adjSlewstop => exact answers_access fun _ h => kept_tbsAdjWord _ h
  | slewEnd => exact answers_occurIn fun _ h => kept_slewFinish h
  | ppsEdge => exact answers_occurIn fun _ h => kept_ppsTake _ _ h
  | ppsLost => exact answers_occurIn fun _ h => kept_ppsLose h
  | milestoneFire => exact answers_occurIn fun _ h => kept_ite (kept_msFire _ _ _ h) h
  | milestonePulseEnd =>
    exact answers_occurIn fun _ h => by
      split
      · exact kept_ite (kept_setMile _ _ h) h
      · exact h
  | rtcSecond => exact .next (kept_ite (kept_rtcTick (now _)) (now _))
  | rtcSet | rtcDstfwd | rtcDstback => exact answers_access fun _ h => kept_rtcCommand _ h
  | rtcTrimWrite => exact answers_access fun _ h => kept_setCfg _ _ h
  | alarmWrite => exact .next (kept_ite (kept_access _ _ _ (now _) fun _ h => kept_almWrite _ _ h) (now _))
  | wakeperWrite => exact answers_access fun _ h => kept_wakeperStore _ h
  | periodicWake =>
    exact .next (kept_ite (kept_wakeEvent _ (kept_rtcPost _ (built (now _) rfl rfl rfl rfl rfl))) (now _))
  | oscStop => exact .next (kept_ite (kept_rtcPost _ (built (now _) rfl rfl rfl rfl rfl)) (now _))
  | oscResume => exact .next (kept_ite (built (now _) rfl rfl rfl rfl rfl) (now _))
  | vbakCheck => exact .next (kept_ite (kept_rtcPost _ (now _)) (now _))
  | rsramRead => exact answers_occur fun _ h => kept_ite (kept_rsRead _ _ _ h) (kept_answer _ _ h)
  | weirWriterStart => exact answers_occurIn fun _ h => kept_writerTake h
  | recordCommit => exact answers_occurIn fun _ h => kept_writerCommit h
  | gapRecord => exact answers_occurIn fun _ h => kept_writerGap h
  | recDump => exact answers_access fun _ h => kept_recDumpCmd _ h
  | recSoft => exact answers_access fun _ h => kept_recSoftCmd _ h
  | recTselWrite => exact answers_access fun _ h => kept_recTsel _ h
  | kumWrite | kumErase | kumLifecycle | kumClearTamper | netload | keyWrap | keyHash | keyHmac | keyVerify
  | keySign | attest | keyRandom | hostwrite => exact .next (kept_keyPair _ _ _ _ _ (Kept.refl s))
  | keyCommitPulseEnd => exact answers_occurIn fun _ h => kept_commitEnd h
  | keyOpComplete => exact answers_occurIn fun _ h => kept_keyOpEnd h
  | tamperLatch => exact .next (kept_ite (kept_tamperActive _ (now _)) (now _))
  | keyTpolicyWrite => exact answers_access fun _ h => kept_tpolicyWrite _ _ _ h
  | slotEraseDone => exact answers_occurIn fun _ h => kept_eraseDone h
  | updManifest | updChunk | updActivate | updConfirm | updAbort | updRevert =>
    exact .next (kept_updPair _ _ _ (Kept.refl s))
  | chunkConfirmed => exact answers_occurIn fun _ h => kept_chunkEnd _ h
  | verifyDone => exact answers_occurIn fun _ h => kept_verifyEnd _ h
  | trialExpire => exact answers_occurIn fun _ h => kept_ite (kept_raiseReset _ (kept_revertSet h)) h
  | svcOpen => exact answers_svcMessage fun _ h => kept_svcOpenMsg _ _ h
  | svcChunk => exact answers_svcMessage fun _ h => kept_svcChunkMsg _ _ _ h
  | svcClose => exact answers_svcMessage fun _ h => kept_svcCloseMsg _ h
  | svcActivate => exact answers_svcMessage fun _ h => kept_svcActivateMsg _ h
  | svcConfirm => exact answers_svcMessage fun _ h => kept_svcConfirmMsg _ h
  | svcAbort => exact answers_svcMessage fun _ h => kept_svcAbortMsg _ h
  | svcStatus | svcBadMessage => exact answers_svcMessage fun _ h => kept_svcAnswer _ _ h
  | svcKeymsg => exact answers_occur fun _ h => kept_ite (kept_svcKeyMsg _ _ h) h
  | svcConsole => exact answers_svcMessage fun _ h => kept_svcConsoleMsg _ _ h
  | consoleOut => exact answers_occurIn fun _ h => kept_consoleSend _ h
  | svcPresentChange => exact answers_occur fun _ h => kept_svcPresence _ h
  | vbusChange => exact answers_occur fun _ h => kept_vbusState _ _ _ h
  | scrub => exact answers_occurIn fun _ h => kept_ite (kept_corrected _ _ h) h
  | sramUncorrectable =>
    exact answers_occurIn fun _ h =>
      kept_ite (kept_raiseReset _ (kept_integrityRecord _ _ _ (built (kept_eccNote _ _ _ _ h) rfl rfl rfl rfl rfl))) h
  | mramError =>
    exact answers_occurIn fun _ h =>
      kept_ite (kept_sectorCopy _ (kept_postBit _ _ (kept_ite (kept_eccNote _ _ _ _ h) h))) h
  | mramRemapCommit => exact answers_occurIn fun _ h => kept_sectorCommit h
  | lockstepMismatch =>
    exact answers_occurIn fun _ h =>
      kept_ite (kept_raiseReset _ (kept_integrityRecord _ _ _ (built h rfl rfl rfl rfl rfl))) h
  | clockMonitorFault =>
    exact answers_occur fun _ h => kept_ite (kept_raiseReset _ h) (kept_foldl h fun _ w g => kept_clockLost w g)
  | secmonFault => exact answers_occurIn fun _ h => kept_raiseReset _ (kept_integrityRecord _ _ _ h)
  | fltWdtkick => exact answers_access fun _ h => kept_wdtKick _ h
  | vergeRetest => exact answers_access fun _ h => kept_vergeTest _ _ _ (kept_setCfg _ _ h)
  | vergeRelease => exact answers_access fun _ h => kept_vergeFree _ _ (kept_setCfg _ _ h)
  | openCoilClear => exact answers_occur fun _ h => kept_ite (built h rfl rfl rfl rfl rfl) h
  | tamperSourceInactive => exact .next (kept_setKey _ (now _))

theorem kept_exec {c : Instr} {s t : State} (h : exec c s = .next t) : Kept s t := by
  rcases exec_answers c s with ⟨u, hu, hk⟩ | ⟨a, n, -, -, hf⟩
  · rw [hu] at h
    cases h
    exact hk
  · rw [hf] at h
    cases h

/-- A step takes a command from the queue, or none, and keeps the rest. -/
theorem kept_step {s t : State} (h : step s = .next t) : ∃ r, Kept { s with pending := r } t := by
  unfold step at h
  split at h
  · cases h
    exact ⟨s.pending, Kept.refl s⟩
  · rename_i r _
    exact ⟨r, kept_exec h⟩

end Sys2Proof.Proofs
end

section
/-! PROOF. The segment and the module: loss and return of VIN (R24, R31, R717, R787), and the variant (R20). -/

namespace Sys2Proof.Proofs
open Sys2Proof Sys2Proof.Machine Sys2Proof.Laws

/-- A loss of VIN in a module with its clocks begins the hold-up, whatever the phase (R24, R31). -/
theorem vinLost_powered {s : State} (h : s.powered = true) :
    s.vinLost = { s with
      rtc := { s.rtc with wakePend := none },
      sys := { s.sys with vin := false, charged := false, phase := .dying, trans := none, photo := none } } := by
  have hd : s.sys.phase ≠ .down := fun e => by simp only [State.powered, e, Bool.false_eq_true] at h
  have hc : s.sys.phase ≠ .charging := fun e => by simp only [State.powered, e, Bool.false_eq_true] at h
  unfold State.vinLost
  dsimp only
  split
  · contradiction
  · contradiction
  · rfl

/-- No time passes in a module that stands without its clocks (R731). -/
theorem elapse_down {s : State} (h : s.sys.phase = .down) (dt : Nat) : s.elapse dt = s := by
  simp only [State.elapse, State.powered, h, Bool.false_eq_true, if_false]

/-- What the recorder does at the end of the hold-up changes the recorder alone (R637). -/
theorem frame_commitDiscard (s : State) : Frame [.evr] [] s s.writerCommit.recDiscard :=
  frame_recDiscard (frame_writerCommit (frame_refl s) (by decide)) (by decide)

/-- Settles O6: the loss and the end of the hold-up are rows that act at their time, and the other two act in a
module that stands, where no time passes. -/
theorem supplyLossAndReturn : Obligations.SupplyLossAndReturn := by
  unfold Obligations.SupplyLossAndReturn
  refine ⟨?loss, ?hold, fun dt s hv hd => ?comesBack, fun dt s hv hd => ?retention⟩
  case loss =>
    refine comp_elapse (k := fun t => if !t.sys.vin then t else t.vinLost) (fun _ _ => rfl) fun s hp hv => ?_
    simp only [hv, Bool.not_true, Bool.false_eq_true, if_false]
    exact ⟨by simp only [vinLost_powered hp, and_self], frame_vinLost (frame_refl s) (by decide)⟩
  case hold =>
    intro dt s hp ⟨hd, hv⟩
    have hf := frame_commitDiscard (s.after dt)
    have hs : (s.after dt).writerCommit.recDiscard.sys = (s.after dt).sys := hf.parts .sys (by decide) (by decide)
    refine ⟨_, rfl, ?_⟩
    simp only [elapse_after hp, hd, hv, hs, if_true, Bool.false_eq_true, if_false, true_and]
    exact fset_sys (frame_mono hf (by decide) (List.Subset.refl _)) (by decide)
  case comesBack =>
    simp only [exec, execVinReturn, elapse_down hd, hv, hd, Bool.false_eq_true, if_false, reduceCtorEq]
  case retention =>
    simp only [exec, execVbakRetentionLoss, elapse_down hd, hv, Bool.false_eq_true, if_false]

/-- Settles O57: a step runs a command on the state without it in the queue, or none, and every command keeps the
fuses of R20. -/
theorem variantFixed : Obligations.VariantFixed := by
  unfold Obligations.VariantFixed
  intro s t h
  obtain ⟨r, hk⟩ := kept_step h
  simpa only [Prod.mk.injEq] using hk.fixed

end Sys2Proof.Proofs
end

section
/-! PROOF. What every step keeps of memory (the model's canonical form), and the registers after reset. -/

namespace Sys2Proof.Proofs
open Sys2Proof Sys2Proof.Machine Sys2Proof.Laws

/-- Settles O58: a step runs a command on the state without it in the queue, or none, and every command keeps the
canonical form. -/
theorem memoryCanonical : Obligations.MemoryCanonical := by
  unfold Obligations.MemoryCanonical
  intro s t hs h
  obtain ⟨r, hk⟩ := kept_step h
  exact hk.mem hs

/-- Each lane's PHYCFG and TIMING after reset (R466, R467). -/
theorem lane_reset_values : ∀ n, n < 4 → State.reset.view (reg wLNE (lneOff n 0x008)) = 0x33080000 ∧
    State.reset.view (reg wLNE (lneOff n 0x010)) = 0x27100064 := by decide +kernel

/-- Settles O54: each register named is read in the one state after reset. -/
theorem resetValues : Obligations.ResetValues := by
  unfold Obligations.ResetValues
  refine ⟨?registers, lane_reset_values, rfl, rfl⟩
  case registers => decide +kernel

end Sys2Proof.Proofs
end

section
/-! SUPPORT. Bytes and fields of memory: what a span of memory reads as after it is written (R5, R526). -/

namespace Sys2Proof.Proofs
open Sys2Proof Sys2Proof.Machine Sys2Proof.Laws

/-! ## Reads -/

theorem nth_cons_zero {α : Type} (d x : α) (l : List α) : nth d (x :: l) 0 = x := rfl

theorem nth_cons_succ {α : Type} (d x : α) (l : List α) (i : Nat) : nth d (x :: l) (i + 1) = nth d l i := rfl

theorem nth_bytes (s : State) (a n i : Nat) (h : i < n) : nth 0 (s.bytes a n) i = s.byte (a + i) := by
  induction n generalizing a i with
  | zero => omega
  | succ n ih =>
    cases i with
    | zero => rfl
    | succ i =>
      rw [State.bytes, nth_cons_succ, ih _ _ (by omega)]
      congr 1
      omega

/-- Memory that reads the same byte for byte reads the same. -/
theorem bytes_congr {s t : State} {a n : Nat} (h : ∀ i, i < n → t.byte (a + i) = s.byte (a + i)) :
    t.bytes a n = s.bytes a n := by
  induction n generalizing a with
  | zero => rfl
  | succ n ih =>
    rw [State.bytes, State.bytes, show t.byte a = s.byte a from h 0 (by omega)]
    rw [ih fun i hi => by rw [show a + 1 + i = a + (i + 1) by omega]; exact h (i + 1) (by omega)]

/-! ## Writes -/

/-- Every byte of a span of memory is a byte of memory. -/
theorem isMem_of_memSpan {a n i : Nat} (h : State.memSpan a n = true) (hi : i < n) : State.isMem (a + i) = true := by
  simp only [State.memSpan, State.isMem, State.inSram, State.inDram, Bool.or_eq_true, Bool.and_eq_true,
    decide_eq_true_eq, beq_iff_eq] at *
  omega

@[simp] theorem setByte_ltb (s : State) (a : Nat) (b : Byte) : (s.setByte a b).ltb = s.ltb :=
  (frame_setByte (F := []) a b (frame_refl s) (List.Subset.refl _)).parts .ltb (by decide) (by decide)

/-- A write of bytes changes memory alone. -/
theorem setBytes_mem_only (s : State) (a : Nat) (l : List Byte) :
    s.setBytes a l = { s with mem := (s.setBytes a l).mem } := by
  induction l generalizing s a with
  | nil => rfl
  | cons b r ih =>
    rw [State.setBytes, ih]
    unfold State.setByte
    split <;> rfl

@[simp] theorem setBytes_ltb (s : State) (a : Nat) (l : List Byte) : (s.setBytes a l).ltb = s.ltb := by
  rw [setBytes_mem_only]

@[simp] theorem setBytes_scn (s : State) (a : Nat) (l : List Byte) : (s.setBytes a l).scn = s.scn := by
  rw [setBytes_mem_only]

/-- Bytes written to memory read back. -/
theorem byte_setBytes_in {l : List Byte} {s : State} {a : Nat} (h : ∀ i, i < l.length → State.isMem (a + i) = true)
    {i : Nat} (hi : i < l.length) : (s.setBytes a l).byte (a + i) = nth 0 l i := by
  induction l generalizing s a i with
  | nil => simp at hi
  | cons b r ih =>
    rw [State.setBytes]
    simp only [List.length_cons] at hi h
    cases i with
    | zero =>
      have h0 : State.isMem a = true := h 0 (by omega)
      rw [byte_setBytes_out _ _ _ _ (.inl (by omega)), Nat.add_zero, byte_setByte _ _ _ _ h0, if_pos rfl, nth_cons_zero]
    | succ i =>
      rw [show a + (i + 1) = a + 1 + i by omega, nth_cons_succ]
      exact ih (fun j hj => by rw [show a + 1 + j = a + (j + 1) by omega]; exact h (j + 1) (by omega)) (by omega)

theorem memLE_congr {s t : State} {a n : Nat} (h : ∀ i, i < n → t.byte (a + i) = s.byte (a + i)) :
    t.memLE a n = s.memLE a n := by
  rw [State.memLE, State.memLE, bytes_congr h]

/-! ## Fields of entries (R123, R127) -/

theorem ltAddr_congr {s t : State} (hl : t.ltb = s.ltb) (n off : Nat) : t.ltAddr n off = s.ltAddr n off := by
  rw [State.ltAddr, State.ltAddr, hl]

theorem ltAddr_add (s : State) (n off i : Nat) : s.ltAddr n off + i = s.ltAddr n (off + i) := Nat.add_assoc ..

/-- An entry's field depends on its own bytes alone. -/
theorem lt_congr_at {s t : State} (hl : t.ltb = s.ltb) {n off size : Nat}
    (h : ∀ i, i < size → t.byte (s.ltAddr n off + i) = s.byte (s.ltAddr n off + i)) :
    t.lt n off size = s.lt n off size := by
  rw [State.lt, State.lt, ltAddr_congr hl, hl, memLE_congr h]

theorem lt_congr {s t : State} (hl : t.ltb = s.ltb) (hm : ∀ x, t.byte x = s.byte x) (n off size : Nat) :
    t.lt n off size = s.lt n off size := lt_congr_at hl fun _ _ => hm _

/-- The lookup of an EUI-64 depends on the table alone (R162). -/
theorem findEui_congr {s t : State} (hl : t.ltb = s.ltb) (hm : ∀ x, t.byte x = s.byte x) (u : Nat) :
    t.findEui u = s.findEui u := by
  simp only [State.findEui, State.entryIds, State.ltKind, State.ltEui, lt_congr hl hm, hl]

end Sys2Proof.Proofs
end

section
/-! PROOF. Commands to the lantern table's control block, and writes of other masters to the table (R125, R147, R150,
R155, R158, R162). -/

namespace Sys2Proof.Proofs
open Sys2Proof Sys2Proof.Machine Sys2Proof.Laws

/-- A whole word as a number. -/
theorem fld_word (w : Word) : fld w 31 0 = w.toNat := by
  rw [fld, Nat.shiftRight_zero]
  exact Nat.mod_eq_of_lt w.isLt

/-! ## Commands (R147, R150, R158) -/

/-- A command takes the next ticket and joins the queue with the index, mask and source in force (R146, R147). -/
theorem editCommand_joins (s : State) {op : Nat} (hop : op = 1 ∨ op = 2) (hq : s.ltb.queue.length < 64) :
    s.editCommand op = { s with ltb := { s.ltb with
      issued := (s.ltb.issued + 1) % 256,
      queue := s.ltb.queue ++ [{
        ticket := (s.ltb.issued + 1) % 256, clear := op == 2, index := fld (s.cfg (reg wLTB 0x014)) 11 0,
        mask := fld (s.cfg (reg wLTB 0x014)) 21 16, src := (s.cfg (reg wLTB 0x010)).toNat }] } } := by
  rw [State.editCommand, if_neg (by omega), if_neg (by omega), State.cfgF, State.cfgF, State.cfgF, fld_word]

/-- With 64 commands queued, a command sets EDIT_QFULL alone (R147). -/
theorem editCommand_full (s : State) {op : Nat} (hop : op = 1 ∨ op = 2) (hq : 64 ≤ s.ltb.queue.length) :
    s.editCommand op = s.postBit wLTB 3 := by
  rw [State.editCommand, if_neg (by omega), if_pos hq]

/-- An event bit of LTB_STATUS that is posted is raised (R94, R154). -/
theorem raised_postBit_ltb {s : State} {i : Nat} (hi : i < 8) : (s.postBit wLTB i).raised (reg wLTB 0) i := by
  refine raised_postBit ?_
  have h : ∀ j : Fin 8, (2 ^ (j : Nat) % 2 ^ 24 &&& statMask (reg wLTB 0)).testBit j = true := by decide
  exact h ⟨i, hi⟩

/-- A write of LTB_EUIHI looks up the EUI-64 of both words (R162). -/
theorem euiHiWrite_ltb (s : State) (v : Word) :
    (s.euiHiWrite v).ltb =
      { s.ltb with euiFound := s.findEui ((s.cfg (reg wLTB 0x030)).toNat + 2 ^ 32 * v.toNat) } := by
  have hc : (s.setCfg (reg wLTB 0x034) v).cfg (reg wLTB 0x030) = s.cfg (reg wLTB 0x030) := by
    rw [cfg_setCfg, if_neg (by decide)]
  have hl : (s.setCfg (reg wLTB 0x034) v).ltb = s.ltb := rfl
  simp only [State.euiHiWrite, State.cfgF, fld_word, hc, hl, findEui_congr hl fun _ => rfl]

/-- The command that CLEAR or COMMIT writes to LTB_EDITCMD (R158). -/
def editOp (clear : Bool) : Nat := if clear then 2 else 1

theorem editOp_cases (x : Bool) : editOp x = 1 ∨ editOp x = 2 := by cases x <;> decide

theorem exec_edit (m : Nat) (x : Bool) (dt : Nat) (s : State) :
    exec (if x then .ltbClear dt m else .ltbCommit dt m) s =
      .next ((s.elapse dt).access m (reg wLTB 0x018) true (fun t => t.editCommand (editOp x))) := by
  cases x <;> rfl

/-! ## Writes of bus masters (R125, R155) -/

/-- Where no byte lies in the LTABLE region, a master's bytes are stored. -/
theorem masterBytes_outside {d : List Byte} {s : State} {a : Nat}
    (h : ∀ i, i < d.length → s.inLtable (a + i) = false) : s.masterBytes a d = s.setBytes a d := by
  induction d generalizing s a with
  | nil => rfl
  | cons b r ih =>
    simp only [List.length_cons] at h
    have h0 : s.inLtable a = false := h 0 (by omega)
    rw [State.masterBytes, State.setBytes, h0, if_neg Bool.false_ne_true]
    refine ih fun i hi => ?_
    rw [State.inLtable, setByte_ltb, show a + 1 + i = a + (i + 1) by omega]
    exact h (i + 1) (by omega)

/-- Where every byte lies in the LTABLE region, no byte is stored. -/
theorem masterBytes_inside {d : List Byte} {s : State} {a : Nat}
    (h : ∀ i, i < d.length → s.inLtable (a + i) = true) : s.masterBytes a d = s := by
  induction d generalizing a with
  | nil => rfl
  | cons b r ih =>
    simp only [List.length_cons] at h
    have h0 : s.inLtable a = true := h 0 (by omega)
    rw [State.masterBytes, if_pos h0]
    exact ih fun i hi => by rw [show a + 1 + i = a + (i + 1) by omega]; exact h (i + 1) (by omega)

/-- A master's write outside the LTABLE region is a write of its bytes (R125). -/
theorem masterWrite_outside {s : State} {a : Nat} {d : List Byte}
    (h : ∀ i, i < d.length → s.inLtable (a + i) = false) : s.masterWrite a d = s.setBytes a d := by
  have hn : (List.range d.length).find? (fun i => s.inLtable (a + i)) = none :=
    List.find?_eq_none.2 fun i hi => by rw [h i (List.mem_range.1 hi)]; exact Bool.false_ne_true
  simp only [State.masterWrite, hn, masterBytes_outside h]

/-- A master's write in the LTABLE region is discarded whole and its first address recorded (R125). -/
theorem masterWrite_inside {s : State} {a : Nat} {d : List Byte} (hd : d ≠ [])
    (h : ∀ i, i < d.length → s.inLtable (a + i) = true) : s.masterWrite a d = s.ltbDiscard a := by
  cases d with
  | nil => contradiction
  | cons b r =>
    have hf : (List.range (b :: r).length).find? (fun i => s.inLtable (a + i)) = some 0 := by
      rw [List.length_cons, List.range_succ_eq_map]
      exact List.find?_cons_of_pos (h 0 (by simp))
    simp only [State.masterWrite, hf, masterBytes_inside h, if_true]

/-- The first discarded address since DIRECT_WRITE was cleared is recorded (R155). -/
theorem ltbDiscard_ltb (s : State) (a : Nat) :
    (s.ltbDiscard a).ltb = if s.statSet (reg wLTB 0) 0 then s.ltb else { s.ltb with dwAddr := a } := by
  rw [State.ltbDiscard, postBit_ltb]
  split <;> rfl

theorem exec_directWrite {m a : Nat} {d : List Byte} (h : State.memSpan a d.length = true) (dt : Nat) (s : State) :
    exec (.ltableDirectWrite dt m a d) s = .next (s.occur dt (fun t => t.masterWrite a d)) :=
  if_pos h

/-- Settles O31: each row runs one operation, and that operation's lemma says what it does. That LTB_EDITSRC and
LTB_EDITCTL are taken at the command, that the lowest of several entries answers a lookup, and that an address of no
memory faults, are the model's choices (log entries 62 and 13). -/
theorem tableCommands : Obligations.TableCommands := by
  unfold Obligations.TableCommands
  refine ⟨fun m x => ?joins, fun m x => ?full, fun m v => ?lookup, fun m a d hd => ?outside,
    fun m a d ⟨hd, hn⟩ => ?inside, fun dt m a d s hd => ?nowhere⟩
  case joins =>
    refine comp_access (exec_edit m x) (fun _ h => h.1) fun s _ ⟨_, hq⟩ => ?_
    rw [editCommand_joins (s.answer 0 false) (editOp_cases x) hq]
    refine ⟨?_, fset_ltb (frame_answer 0 false (frame_refl s) (by decide)) (by decide)⟩
    cases x <;> rfl
  case full =>
    refine comp_access (exec_edit m x) (fun _ h => h.1) fun s _ ⟨_, hq⟩ => ?_
    rw [editCommand_full (s.answer 0 false) (editOp_cases x) hq]
    exact ⟨raised_postBit_ltb (by decide),
      frame_postBit _ _ (frame_answer 0 false (frame_refl s) (by decide)) (by decide) (.inr (by decide))⟩
  case lookup =>
    refine comp_access (fun _ _ => rfl) (fun _ h => h) fun s _ _ => ⟨⟨?_, ?_⟩, ?_⟩
    · exact stores_of (stores_setCfg _ v rfl rfl) rfl rfl
    · exact euiHiWrite_ltb (s.answer 0 false) v
    · exact frame_euiHiWrite v (frame_answer 0 false (frame_refl s) (by decide)) (by decide)
  case outside =>
    refine comp_occur (exec_directWrite hd) fun s _ h => ?_
    rw [masterWrite_outside h]
    exact ⟨⟨fun i hi => byte_setBytes_in (fun j hj => isMem_of_memSpan hd hj) hi,
      fun x hx => byte_setBytes_out d s a x hx⟩, frame_setBytes a d (frame_refl s) (List.Subset.refl _)⟩
  case inside =>
    refine comp_occur (exec_directWrite hd) fun s _ h => ?_
    rw [masterWrite_inside hn h]
    exact ⟨⟨raised_postBit_ltb (by decide), ltbDiscard_ltb s a⟩,
      frame_ltbDiscard a (frame_refl s) (by decide) (.inr (List.Subset.refl _))⟩
  case nowhere => exact if_neg (by rw [hd]; exact Bool.false_ne_true)

end Sys2Proof.Proofs
end

section
/-! PROOF. The command at the head of the commit queue, and silence (R124, R140, R146, R148 to R151). -/

namespace Sys2Proof.Proofs
open Sys2Proof Sys2Proof.Machine Sys2Proof.Laws

/-! ## One byte of an entry -/

/-- A field of one byte is that byte. -/
theorem lt_one {s : State} {n : Nat} (hn : n < s.ltb.count) (off : Nat) :
    s.lt n off 1 = (s.byte (s.ltAddr n off)).toNat := by
  rw [State.lt, if_pos hn]
  simp only [State.memLE, State.bytes, leNat, Nat.mul_zero, Nat.add_zero]

/-- A field that is not 0 belongs to an entry of the table. -/
theorem lt_count_of_lt_ne {s : State} {n off size : Nat} (h : s.lt n off size ≠ 0) : n < s.ltb.count := by
  rw [State.lt] at h
  split at h
  · assumption
  · contradiction

/-- Where a table's entry is memory, so is each of its bytes (R123). -/
theorem isMem_entry {s : State} {n o : Nat} (hm : State.memSpan (s.ltAddr n 0) 384 = true) (ho : o < 384) :
    State.isMem (s.ltAddr n o) = true := by
  rw [show s.ltAddr n o = s.ltAddr n 0 + o by rw [ltAddr_add, Nat.zero_add]]
  exact isMem_of_memSpan hm ho

theorem ltAddr_inj (s : State) (n : Nat) {o p : Nat} : s.ltAddr n o = s.ltAddr n p ↔ o = p := by
  simp only [State.ltAddr, Nat.add_right_inj]

/-- A field of one byte that is written changes that byte. -/
theorem byte_setLt_one {s : State} {n off : Nat} (hn : n < s.ltb.count) (hm : State.isMem (s.ltAddr n off) = true)
    (v x : Nat) :
    (s.setLt n off 1 v).byte x = if x = s.ltAddr n off then BitVec.ofNat 8 v else s.byte x := by
  rw [State.setLt, if_pos hn]
  exact byte_setByte s _ x _ hm

/-- An entry enters a state by its byte STATE alone (R139). -/
theorem byte_enterState {s : State} {n : Nat} (hn : n < s.ltb.count) (hm : State.isMem (s.ltAddr n 9) = true)
    (v x : Nat) :
    (s.enterState n v).byte x = if x = s.ltAddr n 9 then BitVec.ofNat 8 v else s.byte x := by
  unfold State.enterState
  split
  · rename_i h
    rw [State.ltState, lt_one hn] at h
    split
    · rename_i e
      rw [e, ← h, BitVec.ofNat_toNat, BitVec.setWidth_eq]
    · rfl
  · dsimp only
    split
    · rw [postBit_byte, byte_setLt_one hn hm]
    · exact byte_setLt_one hn hm v x

section
variable {L : List Piece} {F : List (Nat × Nat)} {z : State}

/-- A state without an event bit of its own is entered by a write of memory (R154). -/
theorem frame_enterState_quiet {s : State} {n v : Nat} (hv : State.stateBit v = none) (h : Frame L F z s)
    (hL : [.mem] ⊆ L) : Frame L F z (s.enterState n v) := by
  unfold State.enterState
  split
  · exact h
  · rw [hv]
    exact frame_setLt n 9 1 v h hL

/-- A state with an event bit is entered by a write of memory and that bit (R154). -/
theorem frame_enterState_bit {s : State} {n v b : Nat} (hv : State.stateBit v = some b) (h : Frame L F z s)
    (hL : [.evr, .mem] ⊆ L) (hF : (reg wLTB 0, b) ∈ F) : Frame L F z (s.enterState n v) := by
  unfold State.enterState
  split
  · exact h
  · rw [hv]
    exact frame_postBit wLTB b (frame_setLt n 9 1 v h (List.Subset.trans (by decide) hL)) (hL (by decide)) (.inr hF)

end

/-! ## A commit that passes (R146, R149) -/

/-- The bytes of the entry after a commit's copy. -/
def commitEntry (s : State) (c : EditCmd) : List Byte :=
  editMerge c.mask (s.bytes (s.ltAddr c.index 0) 384) (s.bytes c.src 384)

/-- The commit's bytes stand in the entry. -/
def commitStored (s : State) (c : EditCmd) : State := s.setBytes (s.ltAddr c.index 0) (commitEntry s c)

/-- And SOLVE_STATUS of an entry that has had no solve reads 0xFF. -/
def commitMarked (s : State) (c : EditCmd) : State :=
  if (s.scnEntry c.index).solved then commitStored s c else (commitStored s c).setLt c.index 0x152 1 0xFF

/-- And an entry that was empty is in its first state. -/
def commitDefined (s : State) (c : EditCmd) : State :=
  if eb (s.bytes (s.ltAddr c.index 0) 384) 8 = 0 then
    (commitMarked s c).enterState c.index (if eb (commitEntry s c) 8 = 3 then 6 else 1)
  else commitMarked s c

/-- What is left to do is to have the entry solved anew, where ID, CAL or LIMITS changed (R149). -/
theorem commitApply_cases (s : State) (c : EditCmd) :
    s.commitApply c = commitDefined s c ∨
      s.commitApply c = (commitDefined s c).setScnEntry c.index (fun x => { x with trCommit := true }) := by
  by_cases h : slice (s.bytes (s.ltAddr c.index 0) 384) 0 0xAC ≠ slice (commitEntry s c) 0 0xAC
  · exact .inr (if_pos h)
  · exact .inl (if_neg h)

theorem frame_commitStored (s : State) (c : EditCmd) : Frame [.mem, .scn] [] s (commitStored s c) :=
  frame_setBytes _ _ (frame_refl s) (by decide)

theorem frame_commitMarked (s : State) (c : EditCmd) : Frame [.mem, .scn] [] s (commitMarked s c) :=
  frame_ite (frame_commitStored s c) (frame_setLt _ _ _ _ (frame_commitStored s c) (by decide))

theorem frame_commitDefined (s : State) (c : EditCmd) : Frame [.mem, .scn] [] s (commitDefined s c) := by
  have h := frame_commitMarked s c
  refine frame_ite (frame_enterState_quiet ?_ h (by decide)) h
  split <;> rfl

theorem frame_commitApply_quiet (s : State) (c : EditCmd) : Frame [.mem, .scn] [] s (s.commitApply c) := by
  have h := frame_commitDefined s c
  rcases commitApply_cases s c with e | e <;> rw [e]
  · exact h
  · exact frame_setScnEntry _ _ h (by decide)

theorem byte_commitApply (s : State) (c : EditCmd) (x : Nat) :
    (s.commitApply c).byte x = (commitDefined s c).byte x := by
  rcases commitApply_cases s c with e | e <;> rw [e]
  rfl

theorem commitEntry_length (s : State) (c : EditCmd) : (commitEntry s c).length = 384 := by
  simp only [commitEntry, editMerge, List.length_map, List.length_range]

theorem nth_editMerge {i : Nat} (hi : i < 384) (mask : Nat) (cur buf : List Byte) :
    nth 0 (editMerge mask cur buf) i =
      if i ≠ 9 ∧ editRegions.any (fun r => (mask >>> r.1) % 2 == 1 && decide (r.2.1 ≤ i ∧ i < r.2.1 + r.2.2)) = true
      then nth 0 buf i else nth 0 cur i := by
  simp only [nth, editMerge, List.getElem?_map, List.getElem?_range hi, Option.map_some, Option.getD_some]

/-- A commit leaves STATE to the module (R124). -/
theorem nth_commitEntry_state (s : State) (c : EditCmd) : nth 0 (commitEntry s c) 9 = s.byte (s.ltAddr c.index 9) := by
  rw [commitEntry, nth_editMerge (by decide), if_neg (fun h => h.1 rfl), nth_bytes _ _ _ _ (by decide), ltAddr_add]

/-- A commit of the ID region takes KIND from the buffer (R146). -/
theorem nth_commitEntry_kind {s : State} {c : EditCmd} (h : c.mask % 2 = 1) :
    nth 0 (commitEntry s c) 8 = s.byte (c.src + 8) := by
  rw [commitEntry, nth_editMerge (by decide), if_pos ⟨by decide, by simp [editRegions, h]⟩,
    nth_bytes _ _ _ _ (by decide)]

/-- A commit that no check refuses is for an entry of the table, and defines an empty one by its ID region (R151). -/
theorem commitCheck_passed {s : State} {c : EditCmd} (h : (s.commitCheck c).1 = 0) :
    c.index < s.ltb.count ∧ (s.ltKind c.index = 0 → c.mask % 2 = 1) := by
  unfold State.commitCheck at h
  split at h
  · contradiction
  split at h
  · contradiction
  refine ⟨by omega, fun hk => ?_⟩
  dsimp only at h
  split at h
  · contradiction
  split at h
  · contradiction
  · rename_i hbad
    exact Decidable.byContradiction fun hm => hbad (.inr (.inl ⟨hk, .inl hm⟩))

section
variable {s : State} {c : EditCmd}

theorem byte_commitStored (hm : State.memSpan (s.ltAddr c.index 0) 384 = true) {o : Nat} (ho : o < 384) :
    (commitStored s c).byte (s.ltAddr c.index o) = nth 0 (commitEntry s c) o := by
  have hl := commitEntry_length s c
  rw [show s.ltAddr c.index o = s.ltAddr c.index 0 + o by rw [ltAddr_add, Nat.zero_add]]
  exact byte_setBytes_in (fun i hi => isMem_of_memSpan hm (by omega)) (by omega)

theorem byte_commitStored_out {x : Nat} (hx : x < s.ltAddr c.index 0 ∨ s.ltAddr c.index 384 ≤ x) :
    (commitStored s c).byte x = s.byte x :=
  byte_setBytes_out _ _ _ _ (by rw [commitEntry_length, ltAddr_add]; exact hx)

theorem commitStored_ltb (s : State) (c : EditCmd) : (commitStored s c).ltb = s.ltb :=
  (frame_commitStored s c).parts .ltb (by decide) (by decide)

theorem commitMarked_ltb (s : State) (c : EditCmd) : (commitMarked s c).ltb = s.ltb :=
  (frame_commitMarked s c).parts .ltb (by decide) (by decide)

theorem byte_commitMarked (hn : c.index < s.ltb.count) (hm : State.memSpan (s.ltAddr c.index 0) 384 = true) (x : Nat) :
    (commitMarked s c).byte x =
      if x = s.ltAddr c.index 0x152 ∧ (s.scnEntry c.index).solved = false then 0xFF else (commitStored s c).byte x := by
  have hb : State.isMem (s.ltAddr c.index 0x152) = true := isMem_entry hm (by omega)
  unfold commitMarked
  split
  · rename_i h
    rw [h, if_neg (by simp)]
  · rename_i h
    rw [Bool.not_eq_true] at h
    rw [byte_setLt_one (by rwa [commitStored_ltb]) (by rwa [ltAddr_congr (commitStored_ltb s c)]),
      ltAddr_congr (commitStored_ltb s c)]
    simp only [h, and_true]
    rfl

/-- A commit that defines an entry is what writes its byte STATE (R140). -/
theorem byte_commitDefined_of (hn : c.index < s.ltb.count) (hm : State.memSpan (s.ltAddr c.index 0) 384 = true)
    (x : Nat) :
    (commitDefined s c).byte x =
      if x = s.ltAddr c.index 9 ∧ eb (s.bytes (s.ltAddr c.index 0) 384) 8 = 0 then
        if eb (commitEntry s c) 8 = 3 then 6 else 1
      else (commitMarked s c).byte x := by
  have ha : (commitMarked s c).ltAddr c.index 9 = s.ltAddr c.index 9 := ltAddr_congr (commitMarked_ltb s c) _ _
  unfold commitDefined
  split
  · rename_i h
    rw [byte_enterState (by rwa [commitMarked_ltb]) (by rw [ha]; exact isMem_entry hm (by decide)), ha]
    simp only [h, and_true]
    split
    · split <;> rfl
    · rfl
  · rename_i h
    rw [if_neg fun e => h e.2]

/-- The entry's bytes after a commit: STATE apart, those of the copy, and 0xFF where no solve has been (R127, R146). -/
theorem byte_commitDefined (hn : c.index < s.ltb.count) (hm : State.memSpan (s.ltAddr c.index 0) 384 = true) {o : Nat}
    (ho : o < 384) (h9 : o ≠ 9) :
    (commitDefined s c).byte (s.ltAddr c.index o) =
      if o = 0x152 ∧ (s.scnEntry c.index).solved = false then 0xFF else nth 0 (commitEntry s c) o := by
  rw [byte_commitDefined_of hn hm, if_neg fun h => h9 ((ltAddr_inj s c.index).1 h.1), byte_commitMarked hn hm,
    byte_commitStored hm ho]
  simp only [ltAddr_inj]

theorem byte_commitDefined_state (hn : c.index < s.ltb.count) (hm : State.memSpan (s.ltAddr c.index 0) 384 = true)
    (hid : s.ltKind c.index = 0 → c.mask % 2 = 1) :
    (commitDefined s c).byte (s.ltAddr c.index 9) =
      if s.ltKind c.index = 0 then if s.byte (c.src + 8) = 3 then 6 else 1 else s.byte (s.ltAddr c.index 9) := by
  have hk : s.ltKind c.index = eb (s.bytes (s.ltAddr c.index 0) 384) 8 := by
    rw [State.ltKind, lt_one hn, eb, nth_bytes _ _ _ _ (by decide), ltAddr_add]
  rw [byte_commitDefined_of hn hm, hk]
  split
  · rename_i h
    have hb : (s.byte (c.src + 8)).toNat = 3 ↔ s.byte (c.src + 8) = 3 := BitVec.toNat_inj (y := 3)
    rw [if_pos h.2]
    simp only [eb, nth_commitEntry_kind (hid (hk.trans h.2)), hb]
  · rename_i h
    rw [if_neg fun e => h ⟨rfl, e⟩, byte_commitMarked hn hm, if_neg fun e => by simp [ltAddr_inj] at e,
      byte_commitStored hm (by decide), nth_commitEntry_state]

theorem byte_commitDefined_out (hn : c.index < s.ltb.count) (hm : State.memSpan (s.ltAddr c.index 0) 384 = true)
    {x : Nat} (hx : x < s.ltAddr c.index 0 ∨ s.ltAddr c.index 384 ≤ x) : (commitDefined s c).byte x = s.byte x := by
  have ha : ∀ o, o < 384 → x ≠ s.ltAddr c.index o := fun o ho e => by
    simp only [State.ltAddr] at hx e
    omega
  rw [byte_commitDefined_of hn hm, if_neg fun h => ha 9 (by omega) h.1, byte_commitMarked hn hm,
    if_neg fun h => ha 0x152 (by omega) h.1, byte_commitStored_out hx]

end

/-! ## A CLEAR that passes (R140, R150) -/

/-- What a CLEAR writes is 384 zero bytes. -/
theorem clearApply_writes (s : State) (n : Nat) :
    ∃ l : List Byte, l.length = 384 ∧ (∀ o, o < 384 → nth 0 l o = 0) ∧
      s.clearApply n = { s.setBytes (s.ltAddr n 0) l with scn := { s.scn with entries := tabDel s.scn.entries n } } := by
  refine ⟨List.replicate 384 0, List.length_replicate, fun o ho => ?_, ?_⟩
  · rw [nth, List.getElem?_replicate, if_pos ho, Option.getD_some]
  · unfold State.clearApply
    generalize List.replicate 384 (0 : Byte) = l
    simp only [setBytes_scn]

theorem clearApply_ltb (s : State) (n : Nat) : (s.clearApply n).ltb = s.ltb := by
  obtain ⟨l, -, -, e⟩ := clearApply_writes s n
  rw [e]
  exact setBytes_ltb s _ l

theorem clearApply_scn (s : State) (n : Nat) :
    (s.clearApply n).scn = { s.scn with entries := tabDel s.scn.entries n } := by
  obtain ⟨l, -, -, e⟩ := clearApply_writes s n
  rw [e]

theorem byte_clearApply_in {s : State} {n : Nat} (hm : State.memSpan (s.ltAddr n 0) 384 = true) {o : Nat}
    (ho : o < 384) :
    (s.clearApply n).byte (s.ltAddr n o) = 0 := by
  obtain ⟨l, hl, h0, e⟩ := clearApply_writes s n
  rw [e, show s.ltAddr n o = s.ltAddr n 0 + o by rw [ltAddr_add, Nat.zero_add]]
  exact (byte_setBytes_in (s := s) (fun i hi => isMem_of_memSpan hm (by omega)) (by omega)).trans (h0 o ho)

theorem byte_clearApply_out {s : State} {n x : Nat} (hx : x < s.ltAddr n 0 ∨ s.ltAddr n 384 ≤ x) :
    (s.clearApply n).byte x = s.byte x := by
  obtain ⟨l, hl, -, e⟩ := clearApply_writes s n
  rw [e]
  exact byte_setBytes_out l s _ _ (by rw [hl, ltAddr_add]; exact hx)

/-! ## The end of a command (R151) -/

section
variable {s : State} {c : EditCmd} {r : Nat × Nat}

/-- The state of a command that is done, before its event bits are set. -/
def editDone (s : State) (c : EditCmd) (code : Nat) : State :=
  { s with ltb := { s.ltb with done := c.ticket, code := code, queue := s.ltb.queue.drop 1 } }

@[simp] theorem editDone_byte (s : State) (c : EditCmd) (k x : Nat) : (editDone s c k).byte x = s.byte x := rfl

@[simp] theorem editDone_scn (s : State) (c : EditCmd) (k : Nat) : (editDone s c k).scn = s.scn := rfl

/-- A command that is done leaves the queue and is the ticket done last (R159). -/
theorem editDone_ltb {t : State} {q : List EditCmd} (hl : t.ltb = s.ltb) (hq : s.ltb.queue = c :: q) (k : Nat) :
    (editDone t c k).ltb = { s.ltb with done := c.ticket, code := k, queue := q } := by
  simp only [editDone, hl, hq, List.drop_one, List.tail_cons]

theorem editEnd_passed (h : r.1 = 0) : s.editEnd c r = (editDone s c 0).postBit wLTB 1 := by
  rw [State.editEnd, if_pos h, h]
  rfl

theorem editEnd_refused (h : r.1 ≠ 0) :
    s.editEnd c r = ((editDone s c r.1).post (reg wLTB 0) (2 ^ 1 + 2 ^ 2)).event wLTB (some 2)
      [iIndex c.ticket, iIndex c.index, iCause r.1, iAddr r.2] := if_neg h

end

/-! ## The command at the head of the queue (R148) -/

section
variable {s : State} {c : EditCmd} {r : List EditCmd}

/-- The checks of a command (R151). -/
def editCheck (s : State) (c : EditCmd) : Nat × Nat := if c.clear then s.clearCheck c else s.commitCheck c

theorem editHead_refused (hq : s.ltb.queue = c :: r) (h : (editCheck s c).1 ≠ 0) :
    s.editHead = s.editEnd c (editCheck s c) := by
  rw [State.editHead, hq]
  exact congrArg (State.editEnd · c (editCheck s c)) (if_pos h)

theorem editHead_clear (hq : s.ltb.queue = c :: r) (hc : c.clear = true) (h : (s.clearCheck c).1 = 0) :
    s.editHead = (editDone (s.clearApply c.index) c 0).postBit wLTB 1 := by
  rw [State.editHead, hq]
  simp only [hc, if_true, h, ne_eq, not_true_eq_false, if_false, editEnd_passed h]

theorem editHead_commit (hq : s.ltb.queue = c :: r) (hc : c.clear = false) (h : (s.commitCheck c).1 = 0) :
    s.editHead = (editDone (s.commitApply c) c 0).postBit wLTB 1 := by
  rw [State.editHead, hq]
  simp only [hc, if_false, h, ne_eq, not_true_eq_false, Bool.false_eq_true, editEnd_passed h]

end

/-- A command whose entry is not RUNNING completes (R148). -/
theorem exec_commitComplete {s : State} {dt : Nat} {c : EditCmd} {r : List EditCmd} (hw : (s.after dt).works wLTB)
    (hq : (s.after dt).ltb.queue = c :: r) (hr : (s.after dt).entryRunning c.index = false) :
    exec (.ltbCommitComplete dt) s = .next (s.after dt).editHead := by
  have hn : (s.after dt).editWaits = false := by rw [State.editWaits, hq]; exact hr
  show Host.Outcome.next (s.occurIn dt wLTB _) = _
  rw [occurIn_works hw, hn, if_neg Bool.false_ne_true]

/-- A command for a RUNNING entry waits for the TICK boundary (R148). -/
theorem exec_commitComplete_waits {s : State} {dt : Nat} {c : EditCmd} {r : List EditCmd} (hp : s.powered = true)
    (hq : (s.after dt).ltb.queue = c :: r) (hr : (s.after dt).entryRunning c.index = true) :
    exec (.ltbCommitComplete dt) s = .next (s.after dt) := by
  have hn : (s.after dt).editWaits = true := by rw [State.editWaits, hq]; exact hr
  show Host.Outcome.next (s.occurIn dt wLTB _) = _
  rw [State.occurIn, occur_powered hp, hn]
  simp only [if_true, ite_self]

/-! ## Silence (R140, R160) -/

/-- Only a radio entry that is JOINED or FAULTY becomes SILENT (R140). -/
theorem silentDue_state {s : State} {n : Nat} (h : s.silentDue n = true) :
    n < s.ltb.count ∧ s.ltState n ≠ 3 := by
  unfold State.silentDue at h
  split at h
  · simp only [Bool.and_eq_true, Bool.or_eq_true, beq_iff_eq] at h
    obtain ⟨⟨hk, hs⟩, -⟩ := h
    exact ⟨lt_count_of_lt_ne (off := 8) (size := 1) (by rw [State.ltKind] at hk; omega), by omega⟩
  · contradiction

/-- An entry that enters a state of an event bit from another sets the bit (R154). -/
theorem raised_enterState {s : State} {n v b : Nat} (hv : State.stateBit v = some b) (hb : b < 8)
    (h : s.ltState n ≠ v) :
    (s.enterState n v).raised (reg wLTB 0) b := by
  rw [State.enterState, if_neg h, hv]
  exact raised_postBit_ltb hb

/-- Settles O32: the command at the head is checked on the state as it stands, and its copy, its clearing or its
refusal comes before the one end that each has. That SOLVE_STATUS reads
0xFF where no solve has been, that a CLEAR of a RUNNING entry waits and zeroes the whole entry, and that silence is
judged at the last TICK boundary, are readings of the model (log entries 60 and 28). -/
theorem tableEdits : Obligations.TableEdits := by
  unfold Obligations.TableEdits
  refine ⟨fun c r dt s0 => ?commit, fun c r dt s0 => ?clear, fun c r dt s0 => ?refused, fun c r dt s0 => ?waits,
    fun n dt s0 => ?silent⟩
  case commit =>
    intro s _ ⟨hw, hq, hr, hc, h0, hm⟩
    obtain ⟨hn, hid⟩ := commitCheck_passed h0
    have hf := frame_commitApply_quiet s c
    have hl : (s.commitApply c).ltb = s.ltb := hf.parts .ltb (by decide) (by decide)
    refine ⟨_, exec_commitComplete hw hq hr, ?_⟩
    rw [editHead_commit hq hc h0]
    refine ⟨⟨?_, raised_postBit_ltb (by decide), fun o ho h9 => ?_, ?_, fun x hx => ?_⟩, ?_⟩
    · rw [postBit_ltb, editDone_ltb hl hq]
    · rw [postBit_byte, editDone_byte]
      exact (byte_commitApply s c _).trans (byte_commitDefined hn hm ho h9)
    · rw [postBit_byte, editDone_byte]
      exact (byte_commitApply s c _).trans (byte_commitDefined_state hn hm hid)
    · rw [postBit_byte, editDone_byte]
      exact (byte_commitApply s c _).trans (byte_commitDefined_out hn hm hx)
    · exact frame_postBit _ _ (fset_ltb (frame_mono hf (by decide) (List.nil_subset _)) (by decide)) (by decide)
        (.inr (by decide))
  case clear =>
    intro s _ ⟨hw, hq, hr, hc, h0, hm⟩
    have hf : Frame [.evr, .ltb, .mem, .scn] [(reg wLTB 0, 1)] s (s.clearApply c.index) :=
      frame_clearApply c.index (frame_refl s) (by decide)
    have hl := clearApply_ltb s c.index
    refine ⟨_, exec_commitComplete hw hq hr, ?_⟩
    rw [editHead_clear hq hc h0]
    refine ⟨⟨?_, raised_postBit_ltb (by decide), fun o ho => ?_, fun x hx => ?_, ?_⟩, ?_⟩
    · rw [postBit_ltb, editDone_ltb hl hq]
    · rw [postBit_byte, editDone_byte]
      exact byte_clearApply_in hm ho
    · rw [postBit_byte, editDone_byte]
      exact byte_clearApply_out hx
    · rw [postBit_scn, editDone_scn]
      exact clearApply_scn s c.index
    · exact frame_postBit _ _ (fset_ltb hf (by decide)) (by decide) (.inr (by decide))
  case refused =>
    intro s _ ⟨hw, hq, hr, h0⟩
    change (editCheck s c).1 ≠ 0 at h0
    refine ⟨_, exec_commitComplete hw hq hr, ?_⟩
    rw [editHead_refused hq h0, editEnd_refused h0]
    refine ⟨⟨?_, raised_event (raised_post (by decide)), raised_event (raised_post (by decide))⟩, ?_⟩
    · rw [event_ltb, post_ltb, editDone_ltb rfl hq]
      rfl
    · refine frame_event _ _ _ (frame_post (fset_ltb (frame_refl s) (by decide)) (by decide) (.inr ?_)) (by decide)
      exact mem_of_testBit (n := 3) (by decide) (by decide)
  case waits =>
    intro s hp ⟨hq, hr⟩
    exact ⟨s, exec_commitComplete_waits hp hq hr, rfl, frame_refl s⟩
  case silent =>
    intro s _ ⟨hw, hd, hm⟩
    obtain ⟨hn, hs⟩ := silentDue_state hd
    refine ⟨s.enterState n 3, ?_, ⟨?_, raised_enterState rfl (by decide) hs, fun x hx => ?_⟩,
      frame_enterState_bit rfl (frame_refl s) (List.Subset.refl _) (by decide)⟩
    · show Host.Outcome.next (s0.occurIn dt wLTB _) = _
      rw [occurIn_works hw]
      exact congrArg _ (if_pos hd)
    · have hl : (s.enterState n 3).ltb = s.ltb :=
        (frame_enterState (L := [.stat, .evr, .mem]) (F := []) n 3 (frame_refl s) (by decide)).parts .ltb (by decide)
          (by decide)
      rw [State.ltState, lt_one (by rwa [hl]), ltAddr_congr hl, byte_enterState hn hm, if_pos rfl]
      rfl
    · rw [byte_enterState hn hm, if_neg hx]

end Sys2Proof.Proofs
end

section
/-! PROOF. The PERIOD boundary of a group takes up a release of its spare by the number it holds (R765, R287). -/

namespace Sys2Proof.Proofs
open Sys2Proof Sys2Proof.Machine Sys2Proof.Laws

/-! ## A release that names no sink of the group -/

/-- A structure image with one sink group, group 0, enabled for direct use. -/
def oneGroupBody : ImgBody :=
  { pools := [], ltBase := 0, ltCount := 0, ltHeads := [], feeders := [], spareCh := none,
    groups := [{ enabled := true, head := none, interlock := false, ntc := false, spare := true }], queues := [],
    recorder := { snapshot := false, log2n := 0, sources := [] }, pins := [], clkOff := [], clkPlan := 0,
    contactors := none, handles := [] }

/-- That image loaded, at the PERIOD boundary of group 0 at raw count 0: the release due in group 0 holds 7, where its
channels are 0 to 5, and sink 7, the first of group 1, is served by a spare. -/
def strayRelease : State :=
  { State.reset with
    str := { StrUnit.reset with img := some { bytes := [], body := oneGroupBody } }
    mst := { MstUnit.reset with
      groups := modAt MstUnit.reset.groups 0 (fun x => { x with releaseDue := some 7 })
      sinks := modAt MstUnit.reset.sinks 7 (fun k => { k with subst := true }) } }

theorem strayRelease_works : strayRelease.works wMST := ⟨rfl, by decide +kernel, rfl⟩

/-- The boundary of group 0 is now, and its work is done. -/
theorem exec_periodBoundary_strayRelease :
    exec (.periodBoundary 0 0 []) strayRelease = .next (strayRelease.periodBegin 0 []) := by
  show Host.Outcome.next (strayRelease.occurIn 0 wMST _) = _
  rw [occurIn_works (s := strayRelease) (dt := 0) strayRelease_works]
  exact congrArg _ (if_pos (by decide +kernel))

/-- The release reaches into group 1: sink 7 loses SUBST. -/
theorem subst_periodBegin_strayRelease :
    (strayRelease.sink 7).subst = true ∧ ((strayRelease.periodBegin 0 []).sink 7).subst = false := by
  decide +kernel

/-- Refutes O39: its first clause has every sink of another group stay, in every state, and a state can hold a release
due in group g for a number j that is no channel of the group. The boundary then clears SUBST of sink 7g + j, which for
j = 7 is the first sink of the next group. No command leads to such a state (a RELEASE stores its index modulo 7), but
the clause does not ask that the number be a channel's. -/
theorem not_periodsAndHeads : ¬ Obligations.PeriodsAndHeads := by
  unfold Obligations.PeriodsAndHeads
  rintro ⟨boundary, -⟩
  have hpre : strayRelease.mst.groups.length = 8 ∧ strayRelease.mst.sinks.length = 56 ∧
      strayRelease.groupEnabled 0 = true ∧ strayRelease.atPeriod 0 = true ∧ (strayRelease.group 0).phase ≠ .held ∧
      strayRelease.mst.cal = none := by
    decide +kernel
  have hrun := boundary 0 [] (by decide) 0 strayRelease strayRelease_works.1
  rw [show strayRelease.after 0 = strayRelease from rfl] at hrun
  obtain ⟨t, ht, ⟨-, -, -, hsinks, -⟩, -⟩ := hrun ⟨strayRelease_works, hpre⟩
  rw [exec_periodBoundary_strayRelease] at ht
  obtain ⟨hbefore, hafter⟩ := subst_periodBegin_strayRelease
  rw [Host.Outcome.next.inj ht, hsinks 7 (by decide), hbefore] at hafter
  contradiction

end Sys2Proof.Proofs
end

section
/-! PROOF. The bounds of the Weir, of the wave engine's FIFO and of the transmit-timestamp queues (R234, R565, R631). -/

namespace Sys2Proof.Proofs
open Sys2Proof Sys2Proof.Machine Sys2Proof.Laws

/-- Settles O59: a step runs a command on the state without it in the queue, or none, and every command keeps each of
the three bounds. -/
theorem queuesBounded : Obligations.QueuesBounded := by
  unfold Obligations.QueuesBounded
  intro s t h
  obtain ⟨r, hk⟩ := kept_step h
  exact ⟨hk.weir, hk.fifo, hk.tsq⟩

/-- Settles O55: after reset memory lists no byte, and the Weir, the FIFO and the seven queues are empty. -/
theorem invariantsAtReset : Obligations.InvariantsAtReset := by
  unfold Obligations.InvariantsAtReset
  have hweir : State.reset.evr.weir = [] := rfl
  have htsq : State.reset.tbs.tsqs = List.replicate 7 Tsq.reset := rfl
  refine ⟨⟨rfl, rfl⟩, ?weir, Nat.zero_le _, ?count, fun q hq => ?entries⟩
  case weir =>
    rw [hweir]
    exact ⟨Nat.zero_le _, Nat.zero_le _⟩
  case count => rw [htsq, List.length_replicate]
  case entries =>
    rw [htsq] at hq
    rw [List.eq_of_mem_replicate hq]
    exact Nat.zero_le _

end Sys2Proof.Proofs
end

section
/-! PROOF. The Ethernet ports: a frame dropped for want of a buffer, at a queue without a status register (R514,
R524). -/

namespace Sys2Proof.Proofs
open Sys2Proof Sys2Proof.Machine Sys2Proof.Laws

/-- An engine-owned ERX queue of port 0 that takes code point 0. -/
def erxQueue : ImgQueue :=
  { engineOwned := true, cls := 4, target := 0, lprio := 0, dprio := 0, engine := 0, pcpMask := 1, ringBase := 0,
    log2n := 4 }

/-- Port 0 is up, receives and takes any destination, and its one ERX queue has the number 64, above those that have
registers. -/
def strayErx : State :=
  { State.reset.setCfg (reg wETH0 0x004) 0x22 with
    eth0 := { EthUnit.reset with up := true }
    qdm := { QdmUnit.reset with cfgs := [(64, erxQueue)] } }

theorem strayErx_works : strayErx.works (State.wETH 0) := ⟨rfl, by decide +kernel, rfl⟩

/-- Port 0 takes every frame, a frame of no octets is no datagram, and queue 64 is run. -/
theorem strayErx_takes :
    strayErx.ethF 0 0x004 1 1 = 1 ∧ (strayErx.ethOf 0).up = true ∧ strayErx.ethDstOk 0 [] = true ∧
      strayErx.waveDatagram 0 [] = none ∧ (strayErx.erxQueues 0 (ethPcp [])).find? strayErx.qRuns = some 64 := by
  decide +kernel

/-- The queue has no descriptor, so the frame is dropped as NOBUF. -/
theorem ethArrive_strayErx : strayErx.ethArrive 0 0 0 true [] = strayErx.noBuf 64 := by
  obtain ⟨hen, hup, hdst, hdat, hq⟩ := strayErx_takes
  have hroom : ¬(strayErx.qRuns 64 ∧ !(strayErx.queue 64).parked ∧
      (strayErx.queue 64).rx.length < strayErx.qCount 64) := by decide +kernel
  simp only [State.ethArrive, hen, hup, hdst, hdat, State.erxPost, hq, State.rxPost, if_neg hroom]
  rfl

/-- A post where no status register stands changes nothing. -/
theorem post_of_statMask_zero {a : Nat} (h : statMask a = 0) (s : State) (b : Nat) : s.post a b = s := by
  simp only [State.post, h, Nat.and_zero, if_true]

/-- No status register stands where that of queue 64 would, so NOBUF is not set. -/
theorem noBuf_strayErx : ¬(strayErx.noBuf 64).raised (reg wQDM (0x1014 + 0x40 * 64)) 3 := by
  have hstat : ((strayErx.noBuf 64).statOf (reg wQDM (0x1014 + 0x40 * 64))).bits = 0 ∧
      ((strayErx.noBuf 64).statOf (reg wQDM (0x1014 + 0x40 * 64))).held = [] := by
    rw [State.noBuf, post_of_statMask_zero (by decide)]
    decide +kernel
  simp only [State.raised, hstat, Nat.zero_testBit, List.not_mem_nil, Bool.false_eq_true, false_and, exists_false,
    or_self, not_false_eq_true]

/-- Refutes O52: its sixth clause has the bit NOBUF of the queue's status register set, for whatever number the queue
has, and only queues 0 to 63 have a status register (R510). At an ERX queue numbered 64 the drop is counted and no bit
is set. No image leads to such a state (a load refuses a queue number above 63), but the clause does not ask for a
number below 64. -/
theorem not_ethernetPorts : ¬ Obligations.EthernetPorts := by
  unfold Obligations.EthernetPorts
  rintro ⟨-, -, -, -, -, posted, -⟩
  obtain ⟨t, ht, ⟨-, -, hpost⟩, -⟩ :=
    posted 0 0 0 64 [] (by decide) 0 strayErx strayErx_works.1 ⟨strayErx_works, strayErx_takes⟩
  have hrun : exec (.ethFrameReceive 0 0 0 0 true []) strayErx = .next (strayErx.noBuf 64) := by
    show Host.Outcome.next (strayErx.occurIn 0 (State.wETH 0) _) = _
    rw [occurIn_works (s := strayErx) (dt := 0) strayErx_works]
    exact congrArg _ ethArrive_strayErx
  rw [hrun] at ht
  have hfull : ¬((strayErx.queue 64).parked = false ∧ (strayErx.queue 64).rx.length < strayErx.qCount 64) := by
    decide +kernel
  rw [← Host.Outcome.next.inj ht] at hpost
  exact noBuf_strayErx ((if_neg hfull).mp hpost).2

end Sys2Proof.Proofs
end

section
/-! SUPPORT. What queueing the frames and datagrams of the wave engine leaves unchanged (R262, R266, R515): its own
block but for three counters, the rings' places, and every byte outside the rings. -/

namespace Sys2Proof.Proofs
open Sys2Proof Sys2Proof.Machine Sys2Proof.Laws

/-! ## Bytes and registers -/

/-- A master's bytes change no byte beside them. -/
theorem byte_masterBytes_out {d : List Byte} {s : State} {a x : Nat} (h : x < a ∨ a + d.length ≤ x) :
    (s.masterBytes a d).byte x = s.byte x := by
  induction d generalizing s a with
  | nil => rfl
  | cons b r ih =>
    rw [List.length_cons] at h
    rw [State.masterBytes, ih (by omega)]
    split
    · rfl
    · exact byte_setBytes_out [b] s a x (by rw [List.length_singleton]; omega)

theorem byte_masterWrite_out {d : List Byte} {s : State} {a x : Nat} (h : x < a ∨ a + d.length ≤ x) :
    (s.masterWrite a d).byte x = s.byte x := by
  have hd : ∀ (t : State) (b : Nat), (t.ltbDiscard b).byte x = t.byte x := fun t b => by
    rw [State.ltbDiscard, postBit_byte]
    split <;> rfl
  unfold State.masterWrite
  dsimp only
  split
  · rw [hd, byte_masterBytes_out h]
  · exact byte_masterBytes_out h

theorem length_leBytes (n v : Nat) : (leBytes n v).length = n := by
  induction n generalizing v with
  | zero => rfl
  | succ n ih => rw [leBytes, List.length_cons, ih]

/-- A little-endian field holds what was written to it. -/
theorem leNat_leBytes (k v : Nat) : leNat (leBytes k v) = v % 256 ^ k := by
  induction k generalizing v with
  | zero => rw [Nat.pow_zero, Nat.mod_one]; rfl
  | succ k ih =>
    rw [leBytes, leNat, ih, BitVec.toNat_ofNat]
    show v % 256 + 256 * (v / 256 % 256 ^ k) = v % 256 ^ (k + 1)
    rw [Nat.pow_succ, Nat.mul_comm (256 ^ k), Nat.mod_mul]

theorem length_bytes (s : State) (a n : Nat) : (s.bytes a n).length = n := by
  induction n generalizing a with
  | zero => rfl
  | succ n ih => rw [State.bytes, List.length_cons, ih]

theorem bytes_setBytes {l : List Byte} {s : State} {a : Nat} (h : ∀ i, i < l.length → State.isMem (a + i) = true) :
    (s.setBytes a l).bytes a l.length = l := by
  refine List.ext_getElem (length_bytes ..) fun i h1 h2 => ?_
  have hn := nth_bytes (s.setBytes a l) a l.length i h2
  rw [byte_setBytes_in h h2] at hn
  simpa only [nth, List.getElem?_eq_getElem h1, List.getElem?_eq_getElem h2, Option.getD_some] using hn

theorem lt_setLt {s : State} {n off size v : Nat} (hn : n < s.ltb.count)
    (hm : State.memSpan (s.ltAddr n off) size = true) : (s.setLt n off size v).lt n off size = v % 256 ^ size := by
  have hl : (s.setLt n off size v).ltb = s.ltb := by
    rw [State.setLt, if_pos hn]
    exact setBytes_ltb ..
  rw [State.lt, hl, if_pos hn, ltAddr_congr hl, State.setLt, if_pos hn, State.memLE, State.setMemLE]
  have hb := bytes_setBytes (s := s) (a := s.ltAddr n off) (l := leBytes size v) fun i hi => by
    rw [length_leBytes] at hi
    exact isMem_of_memSpan hm hi
  rw [length_leBytes] at hb
  rw [hb, leNat_leBytes]

theorem cfg_congr {s t : State} (hc : t.regs.cfg = s.regs.cfg) (hf : t.sys = s.sys) (b : Nat) : t.cfg b = s.cfg b := by
  simp only [State.cfg, State.cfgWord, hc, hf]

/-- A profile's words depend on the register bank alone (R239). -/
theorem profWords_congr {s t : State} (hc : t.regs.cfg = s.regs.cfg) (ha : t.regs.act = s.regs.act)
    (hf : t.sys = s.sys) (p : Nat) : t.profWords p = s.profWords p := by
  simp only [State.profWords, State.act, State.actWord, ha, hf, cfg_congr hc hf]

/-! ## The rings (R515, R516) -/

section
variable {s t : State} (hc : ∀ b, t.cfg b = s.cfg b)
include hc

theorem ringBase_congr (q : Nat) : t.ringBase q = s.ringBase q := by
  simp only [State.ringBase, State.cfgF, hc]

theorem ringN_congr (q : Nat) : t.ringN q = s.ringN q := by
  simp only [State.ringN, State.ringLog, State.cfgF, hc]

theorem inRing_congr (hq : t.qdm = s.qdm) (x : Nat) : t.inRing x = s.inRing x := by
  simp only [State.inRing, hq, ringBase_congr hc, ringN_congr hc]

end

/-- Descriptor i of a ring lies in the ring. -/
theorem inRing_desc {s : State} {q i x : Nat} (hq : q ∈ s.qdm.cfgs.map (·.1)) (hx : s.inRing x = false) :
    x < s.descAddr q i ∨ s.descAddr q i + 32 ≤ x := by
  obtain ⟨c, hc, rfl⟩ := List.mem_map.1 hq
  have hout := List.any_eq_false.1 hx c hc
  have hpos : 0 < s.ringN c.1 := Nat.two_pow_pos _
  have hi : i % s.ringN c.1 < s.ringN c.1 := Nat.mod_lt _ hpos
  simp only [decide_eq_true_eq, not_and, Nat.not_lt] at hout
  simp only [State.descAddr]
  omega

/-- What queueing the wave engine's frames leaves as it was. -/
structure Sends (s t : State) : Prop where
  wav : t.wav = { s.wav with qfull := t.wav.qfull, hoSent := t.wav.hoSent, trunc := t.wav.trunc }
  cfgs : t.qdm.cfgs = s.qdm.cfgs
  base : ∀ q, t.ringBase q = s.ringBase q
  size : ∀ q, t.ringN q = s.ringN q
  bytes : ∀ x, s.inRing x = false → t.byte x = s.byte x

theorem Sends.refl (s : State) : Sends s s := ⟨rfl, rfl, fun _ => rfl, fun _ => rfl, fun _ _ => rfl⟩

/-- The rings are where they were. -/
theorem Sends.inRing {s t : State} (h : Sends s t) (x : Nat) : t.inRing x = s.inRing x := by
  simp only [State.inRing, h.cfgs, h.base, h.size]

theorem Sends.trans {r s t : State} (a : Sends r s) (b : Sends s t) : Sends r t where
  wav := by rw [b.wav, a.wav]
  cfgs := b.cfgs.trans a.cfgs
  base q := (b.base q).trans (a.base q)
  size q := (b.size q).trans (a.size q)
  bytes x hx := (b.bytes x ((a.inRing x).trans hx)).trans (a.bytes x hx)

/-- Where the image's queues, the registers and memory stay, so do the rings and what is outside them. -/
theorem Sends.of_frame {L : List Piece} {F : List (Nat × Nat)} {s t : State} (h : Frame L F s t)
    (hL : .qdm ∉ L ∧ .cfg ∉ L ∧ .sys ∉ L ∧ .mem ∉ L)
    (hw : t.wav = { s.wav with qfull := t.wav.qfull, hoSent := t.wav.hoSent, trunc := t.wav.trunc }) : Sends s t := by
  obtain ⟨hq, hc, hs, hm⟩ := hL
  have hcfg := cfg_congr (h.parts .cfg hc (by decide)) (h.parts .sys hs (by decide))
  exact ⟨hw, congrArg QdmUnit.cfgs (h.parts .qdm hq (by decide)), ringBase_congr hcfg, ringN_congr hcfg,
    fun x _ => h.parts .mem hm (by decide) x⟩

/-- The state of a pair has only sent. A predicate of the pair, so that no proof has to look into how it was made. -/
def SentBy {β : Type} (z : State) (o : State × β) : Prop := Sends z o.1

theorem sentBy_pair {α β : Type} {z : State} {o : State × α} (h : SentBy z o) (b : β) : SentBy z (o.1, b) := h

/-! ## Frames and datagrams that are queued -/

section
variable {z s : State}

/-- The write of a queue's tail is no register of a ring's place (R515, R517). -/
theorem sends_setTailAt (q v r : Nat) : Sends s (s.setTailAt q v r) := by
  have hcfg : ∀ b, b ≠ reg wQDM (0x100C + 0x40 * q) → (s.setTailAt q v r).cfg b = s.cfg b := fun b hb =>
    (cfg_setCfg (s.setQueue q _) _ b _).trans (if_neg hb)
  refine ⟨rfl, rfl, fun k => ?_, fun k => ?_, fun _ _ => rfl⟩
  · rw [State.ringBase, State.cfgF, hcfg _ (by simp only [reg]; omega)]
    rfl
  · rw [State.ringN, State.ringLog, State.cfgF, hcfg _ (by simp only [reg]; omega)]
    rfl

/-- A descriptor is written in the ring of its queue (R515, R520). -/
theorem sends_enqueueAt {q : Nat} (p : EPay) (flags launch deadline dest r : Nat) (hq : q ∈ s.qdm.cfgs.map (·.1)) :
    Sends s (s.enqueueAt q p flags launch deadline dest r) := by
  unfold State.enqueueAt
  dsimp only
  refine Sends.trans ?_ (sends_setTailAt q _ r)
  generalize hd : leBytes 8 _ ++ _ ++ _ ++ _ ++ _ ++ _ ++ _ ++ _ = d
  have hlen : d.length = 32 := by rw [← hd]; simp only [List.length_append, length_leBytes]
  have hf : Frame [.evr, .ltb, .mem] [(reg wLTB 0, 0)] s (s.masterWrite (s.descAddr q (s.queue q).tail) d) :=
    frame_masterWrite _ d (frame_refl s) (List.Subset.refl _) (.inr (List.Subset.refl _))
  have hcfg := cfg_congr (hf.parts .cfg (by decide) (by decide)) (hf.parts .sys (by decide) (by decide))
  have hqdm : (s.masterWrite (s.descAddr q (s.queue q).tail) d).qdm.cfgs = s.qdm.cfgs :=
    congrArg QdmUnit.cfgs (hf.parts .qdm (by decide) (by decide))
  refine ⟨?_, hqdm, fun k => ?_, fun k => ?_, fun x hx => ?_⟩
  · show (s.masterWrite (s.descAddr q (s.queue q).tail) d).wav = _
    rw [show (s.masterWrite (s.descAddr q (s.queue q).tail) d).wav = s.wav from
      hf.parts .wav (by decide) (by decide)]
  · exact congrArg (fld · 31 0) (hcfg _)
  · exact congrArg (2 ^ fld · 3 0) (hcfg _)
  · exact byte_masterWrite_out (by rw [hlen]; exact inRing_desc hq hx)

theorem sends_enqueue {q : Nat} (p : EPay) (flags launch deadline dest : Nat) (h : Sends z s)
    (hq : q ∈ z.qdm.cfgs.map (·.1)) : Sends z (s.enqueue q p flags launch deadline dest) :=
  h.trans (sends_enqueueAt p flags launch deadline dest s.raw (h.cfgs ▸ hq))

/-- A count of the wave engine and an event bit. -/
theorem sends_count (f : WavUnit → WavUnit) (i : Nat) (h : Sends z s)
    (hf : ∀ w, f w = { w with qfull := (f w).qfull, hoSent := (f w).hoSent, trunc := (f w).trunc }) :
    Sends z ((s.setWav f).postBit wWAV i) := by
  refine h.trans (.of_frame (L := [.evr, .stat, .wav]) (F := []) ?_ (by decide) ?_)
  · exact frame_postBit wWAV i (frame_setWav f (frame_refl s) (by decide)) (by decide) (.inl (by decide))
  · rw [postBit_wav]
    exact hf s.wav

/-- The queue that an engine uses is one of the image's. -/
theorem engineQueue_mem {cls target engine q : Nat} (h : s.engineQueue cls target engine = some q) :
    q ∈ s.qdm.cfgs.map (·.1) := by
  obtain ⟨c, hc, rfl⟩ := Option.map_eq_some_iff.1 h
  exact List.mem_map_of_mem (List.mem_of_find?_eq_some hc)

theorem sends_queueWave {q : Nat} (n b : Nat) (w : Wave) (l : List Raised) (h : Sends z s)
    (hq : q ∈ z.qdm.cfgs.map (·.1)) : Sends z (s.queueWave q n b w l).1 := by
  unfold State.queueWave
  split <;> dsimp only
  · exact sends_enqueue _ _ _ _ _ h hq
  · refine sends_count _ _ h ?_
    exact fun _ => rfl

/-- The copies of one frame (R262, R263). -/
theorem sentBy_queueCopies {q : Nat} (n : Nat) (w : Wave) (l : List Raised) (cells : List Nat) {β : Type}
    {o : State × β} (h : SentBy z o) (hq : q ∈ z.qdm.cfgs.map (·.1)) :
    SentBy z (cells.foldl (State.queueCopies q n w l) (o.1, false)) :=
  List.foldlRecOn (motive := SentBy z) cells _ (sentBy_pair h false) fun p hp b _ =>
    sentBy_pair (o := p.1.queueWave q n b w l) (sends_queueWave n b w l hp hq) _

theorem sentBy_waveLane (w : Wave) (n : Nat) (l : List Raised) (h : Sends z s) :
    SentBy z (State.waveLane w n s l) := by
  unfold State.waveLane
  split
  · exact h
  · rename_i q hq
    dsimp only
    split
    · exact h
    · refine List.foldlRecOn (motive := SentBy z) _ _ h fun o ho c _ =>
        sentBy_pair (sentBy_queueCopies n w c _ ho ?_) _
      exact h.cfgs ▸ engineQueue_mem hq

theorem sends_waveHead (w : Wave) (r : Raised) (h : Sends z s) : Sends z (State.waveHead w s r) := by
  unfold State.waveHead
  split
  · exact h
  · refine h.trans (.of_frame (L := [.mst]) (F := []) ?_ (by decide) rfl)
    exact frame_setHead _ _ (frame_refl s) (by decide)

/-- The commands of a computation go out (R261 to R263). -/
theorem sentBy_waveSend (w : Wave) (l : List Raised) (h : Sends z s) : SentBy z (s.waveSend w l) :=
  have hh : Sends z ((l.filter fun r => s.ltKind r.entry == 2).foldl (State.waveHead w) s) :=
    List.foldlRecOn (motive := Sends z) _ _ h fun _ ht r _ => sends_waveHead w r ht
  List.foldlRecOn (motive := SentBy z) _ _ hh fun _ ho n _ => sentBy_pair (sentBy_waveLane w n _ ho) _

theorem sends_handSend (w : Wave) (typ seq : Nat) (pt : HandPt) (arrival bearing : Nat) (h : Sends z s) :
    Sends z (s.handSend w typ seq pt arrival bearing).1 := by
  unfold State.handSend
  split
  · exact h
  · rename_i q hq
    split <;> dsimp only
    · refine sends_count _ _ (sends_enqueue _ _ _ _ _ h (h.cfgs ▸ engineQueue_mem hq)) ?_
      exact fun _ => rfl
    · exact h

end

/-! ## A computation (R246, R254 to R266) -/

/-- What a computation from z on wave w has done so far: it has sent, and of the wave changed at most the set and the
handoff points. -/
structure Sent (z : State) (w : Wave) (o : State × Wave) : Prop where
  state : Sends z o.1
  wave : o.2 = { w with set := o.2.set, points := o.2.points }

section
variable {z : State} {w : Wave}

theorem sent_set {β : Type} {o : State × β} (h : SentBy z o) (l : List Raised) :
    Sent z w (o.1, { w with set := l }) := ⟨h, rfl⟩

/-- A handoff point found: its datagram may go out, and the wave's points change (R266). -/
theorem sent_handFound (o : State × Wave) (f : FoundPt) (h : Sent z w o) : Sent z w (State.handFound o f) := by
  obtain ⟨hs, hw⟩ := h
  unfold State.handFound
  dsimp only
  split
  · exact ⟨hs, by rw [hw]⟩
  · split
    · exact ⟨sends_handSend _ _ _ _ _ _ hs, by rw [hw]⟩
    · split
      · exact ⟨sends_handSend _ _ _ _ _ _ hs, by rw [hw]⟩
      · exact ⟨hs, by rw [hw]⟩

/-- A handoff point lost: its CANCEL may go out, and the wave's points change (R266). -/
theorem sent_handLost (o : State × Wave) (x : HandPt) (h : Sent z w o) : Sent z w (State.handLost o x) := by
  obtain ⟨hs, hw⟩ := h
  unfold State.handLost
  dsimp only
  split
  · exact ⟨hs, by rw [hw]⟩
  · split
    · exact ⟨sends_handSend _ _ _ _ _ _ hs, by rw [hw]⟩
    · exact ⟨hs, by rw [hw]⟩

end

/-- A search that ended at 64 entries is counted (R254). -/
theorem sends_trunc (s : State) (p : Prop) [Decidable p] :
    Sends s (if p then (s.setWav (fun v => { v with trunc := sat 16 (v.trunc + 1) })).postBit wWAV 5 else s) := by
  split
  · refine sends_count _ _ (.refl s) ?_
    exact fun _ => rfl
  · exact .refl s

/-- A computation sends, and then keeps the wave with a new set and new points in the list. -/
theorem compute_putWave (s : State) (w : Wave) : ∃ o, s.compute w = State.putWave o.1 o.2 ∧ Sent s w o := by
  unfold State.compute
  extract_lets kept x timed rest a new b done w1 c lost d
  have hb : SentBy s b := sentBy_waveSend w new (sends_trunc s _)
  have hc : Sent s w c := List.foldlRecOn (motive := Sent s w) _ _ (sent_set hb _) fun o ho f _ => sent_handFound o f ho
  exact ⟨d, rfl, List.foldlRecOn (motive := Sent s w) _ _ hc fun o ho y _ => sent_handLost o y ho⟩

end Sys2Proof.Proofs
end

section
/-! PROOF. The detection at the head of the wave engine's FIFO, and the end of a wave (R236, R241, R243, R245, R264,
R281). -/

namespace Sys2Proof.Proofs
open Sys2Proof Sys2Proof.Machine Sys2Proof.Laws

/-! ## The list of waves (R242, R245) -/

section
variable {α : Type} {key : α → Nat} {p : α → Bool} {x : α} {l : List α}

theorem filter_insertBy_neg (h : p x = false) : (insertBy key x l).filter p = l.filter p := by
  induction l with
  | nil => simp only [insertBy, List.filter_cons, h, Bool.false_eq_true, if_false]
  | cons y r ih =>
    rw [insertBy]
    split
    · rw [List.filter_cons, h, if_neg Bool.false_ne_true]
    · simp only [List.filter_cons, ih]

theorem find?_insertBy (h : p x = true) (hl : ∀ y ∈ l, p y = false) : (insertBy key x l).find? p = some x := by
  induction l with
  | nil => simp only [insertBy, List.find?_cons, h]
  | cons y r ih =>
    rw [insertBy]
    split
    · rw [List.find?_cons, h]
    · rw [List.find?_cons, hl y List.mem_cons_self]
      exact ih fun z hz => hl z (List.mem_cons_of_mem _ hz)

theorem minBy_filter_none (h : l.any p = false) : minBy key (l.filter p) = none := by
  rw [List.filter_eq_nil_iff.2 (List.any_eq_false.1 h)]
  rfl

end

/-- A free number is the number of no open wave (R245). -/
theorem filter_freeWave {s : State} {k : Nat} (h : s.freeWave = some k) :
    s.wav.waves.filter (fun w => w.num != k) = s.wav.waves := by
  have hk := List.find?_some h
  rw [Bool.not_eq_true', List.any_eq_false] at hk
  exact List.filter_eq_self.2 fun w hw => by
    rw [bne_iff_ne]
    exact fun e => hk w hw (beq_iff_eq.2 e)

/-! ## What a computation leaves (R246 to R266) -/

/-- From s to t a computation on wave w is made: the wave is in the list with a set and points of its own, every other
wave stays, and memory changes in the rings alone. -/
structure Computed (s : State) (w : Wave) (t : State) : Prop where
  wav : t.wav = { s.wav with
    waves := t.wav.waves, qfull := t.wav.qfull, hoSent := t.wav.hoSent, trunc := t.wav.trunc }
  own : ∃ l p, t.waveNo w.num = some { w with set := l, points := p }
  others : t.wav.waves.filter (fun x => x.num != w.num) = s.wav.waves.filter (fun x => x.num != w.num)
  bytes : ∀ x, s.inRing x = false → t.byte x = s.byte x

theorem computed_compute (s : State) (w : Wave) : Computed s w (s.compute w) := by
  obtain ⟨⟨u, x⟩, he, hu, hx⟩ := compute_putWave s w
  dsimp only at he hu hx
  have hn : x.num = w.num := by rw [hx]
  have hw : u.wav.waves = s.wav.waves := by rw [hu.wav]
  have ht : (s.compute w).wav = { u.wav with
      waves := insertBy (fun y : Wave => y.num) x (u.wav.waves.filter (fun y => y.num != x.num)) } := by
    rw [he]
    rfl
  refine ⟨?_, ⟨x.set, x.points, ?_⟩, ?_, fun b hb => ?_⟩
  · rw [ht, hu.wav]
  · rw [State.waveNo, ht, ← hx, ← hn]
    refine find?_insertBy (beq_self_eq_true _) fun y hy => ?_
    exact (bne_iff_ne.1 (List.mem_filter.1 hy).2 |> beq_eq_false_iff_ne.2)
  · rw [ht]
    refine (filter_insertBy_neg ?_).trans ?_
    · rw [hn]
      exact bne_self_eq_false _
    · rw [hn, hw, List.filter_filter]
      simp only [Bool.and_self]
  · rw [he]
    exact hu.bytes b hb

/-- What a computation leaves of a wave's fields other than its set and points. -/
theorem Computed.map_own {s t : State} {w : Wave} (h : Computed s w t) {α : Type} (f : Wave → α)
    (hf : ∀ l p, f { w with set := l, points := p } = f w) : (t.waveNo w.num).map f = some (f w) := by
  obtain ⟨l, p, e⟩ := h.own
  rw [e, Option.map_some, hf]

/-- The event bits that a computation may set (R125, R254, R263, R266). -/
def sendBits : List (Nat × Nat) := [(reg wWAV 0, 4), (reg wWAV 0, 5), (reg wWAV 0, 6), (reg wLTB 0, 0)]

theorem compute_frame (s : State) (w : Wave) :
    Frame [.cfg, .evr, .ltb, .mem, .mst, .qdm, .wav] sendBits s (s.compute w) :=
  frame_compute w (frame_refl s) (List.Subset.refl _) (.inr (List.Subset.refl _))

/-- A computation leaves the other event bits of WAV_STATUS as they were. -/
theorem raised_compute {s : State} {w : Wave} {i : Nat} (hi : i = 0 ∨ i = 7) (h : s.raised (reg wWAV 0) i) :
    (s.compute w).raised (reg wWAV 0) i := by
  refine ((compute_frame s w).flags (by decide) _ i ?_ (by decide)).2 h
  rcases hi with rfl | rfl <;> decide

/-- An event bit of WAV_STATUS that is posted is raised (R94, R95). -/
theorem raised_postBit_wav {s : State} {i : Nat} (hi : i < 10) : (s.postBit wWAV i).raised (reg wWAV 0) i := by
  refine raised_postBit ?_
  have h : ∀ j : Fin 10, (2 ^ (j : Nat) % 2 ^ 24 &&& statMask (reg wWAV 0)).testBit j = true := by decide
  exact h ⟨i, hi⟩

/-! ## A wave opens, or is anchored anew (R241, R245) -/

/-- The wave that an input opens. -/
def newWave (s : State) (k n td speed : Nat) (heading : Option Nat) (cls hops : Nat)
    (remote : Option (Nat × Nat × Nat)) : Wave :=
  let p := s.lt n 0x00E 1
  let f := profOf (s.profWords p)
  { num := k, ident := (tabGetD 0 s.wav.counts k + 1) % 512 * 128 + k, anchor := n, t0 := td,
    speed := if speed = 0 then f.speedDef else min f.speedMax (max f.speedMin speed), heading := heading, profile := p,
    prof := s.profWords p, set := [], points := [], remote := remote, hops := hops, cls := cls }

/-- A number opens a wave once more, and WAVE_OPEN is set. -/
def opening (s : State) (k : Nat) : State :=
  (s.setWav (fun w => { w with counts := tabPut 0 w.counts k ((tabGetD 0 w.counts k + 1) % 512) })).postBit wWAV 0

theorem openWave_free {s : State} {k : Nat} (hk : s.freeWave = some k) (n td speed : Nat) (heading : Option Nat)
    (cls hops : Nat) (remote : Option (Nat × Nat × Nat)) :
    s.openWave n td speed heading cls hops remote =
      (opening s k).compute (newWave s k n td speed heading cls hops remote) := by
  rw [State.openWave, hk]
  rfl

/-- From s to t a wave of a free number k opens. -/
structure Opened (s : State) (k : Nat) (w : Wave) (t : State) : Prop where
  wav : t.wav = { s.wav with
    counts := tabPut 0 s.wav.counts k ((tabGetD 0 s.wav.counts k + 1) % 512), waves := t.wav.waves,
    qfull := t.wav.qfull, hoSent := t.wav.hoSent, trunc := t.wav.trunc }
  own : ∀ {α : Type} (f : Wave → α), (∀ l p, f { w with set := l, points := p } = f w) →
    (t.waveNo k).map f = some (f w)
  others : t.wav.waves.filter (fun x => x.num != k) = s.wav.waves
  bytes : ∀ x, s.inRing x = false → t.byte x = s.byte x
  raised : t.raised (reg wWAV 0) 0
  frame : Frame [.cfg, .evr, .ltb, .mem, .mst, .qdm, .wav] ((reg wWAV 0, 0) :: sendBits) s t

theorem Opened.counts {s t : State} {k : Nat} {w : Wave} (h : Opened s k w t) :
    tabGetD 0 t.wav.counts k = (tabGetD 0 s.wav.counts k + 1) % 512 := by
  rw [h.wav, tabGetD_tabPut, if_pos rfl]

/-- Where nothing but the wave engine's block and event bits change, the rings and memory stay. -/
theorem inRing_byte_of_frame {s t : State} {F : List (Nat × Nat)} (h : Frame [.evr, .wav] F s t) (x : Nat) :
    t.inRing x = s.inRing x ∧ t.byte x = s.byte x := by
  have hc := cfg_congr (h.parts .cfg (by decide) (by decide)) (h.parts .sys (by decide) (by decide))
  have hq : t.qdm = s.qdm := h.parts .qdm (by decide) (by decide)
  exact ⟨inRing_congr hc hq x, h.parts .mem (by decide) (by decide) x⟩

theorem opened_of_computed {s t : State} {w : Wave} (hk : s.freeWave = some w.num)
    (hc : Computed (opening s w.num) w t) (hr : t.raised (reg wWAV 0) 0)
    (hf : Frame [.cfg, .evr, .ltb, .mem, .mst, .qdm, .wav] sendBits (opening s w.num) t) : Opened s w.num w t := by
  have ho : Frame [.evr, .wav] [(reg wWAV 0, 0)] s (opening s w.num) :=
    frame_postBit _ _ (frame_setWav _ (frame_refl s) (by decide)) (by decide) (.inr (by decide))
  have hw : (opening s w.num).wav = { s.wav with
      counts := tabPut 0 s.wav.counts w.num ((tabGetD 0 s.wav.counts w.num + 1) % 512) } := postBit_wav ..
  refine ⟨?_, hc.map_own, ?_, fun x hx => ?_, hr,
    frame_trans (frame_mono ho (by decide) (by decide))
      (frame_mono hf (List.Subset.refl _) (List.subset_cons_self ..))⟩
  · rw [hc.wav, hw]
  · exact hc.others.trans (by rw [hw]; exact filter_freeWave hk)
  · obtain ⟨hi, hb⟩ := inRing_byte_of_frame ho x
    exact (hc.bytes x (hi.trans hx)).trans hb

theorem opened_openWave {s : State} {k : Nat} (hk : s.freeWave = some k) (n td speed : Nat) (heading : Option Nat)
    (cls hops : Nat) (remote : Option (Nat × Nat × Nat)) :
    Opened s k (newWave s k n td speed heading cls hops remote) (s.openWave n td speed heading cls hops remote) := by
  rw [openWave_free hk]
  exact opened_of_computed (w := newWave s k n td speed heading cls hops remote) hk (computed_compute _ _)
    (raised_compute (.inl rfl) (raised_postBit_wav (by decide))) (compute_frame _ _)

/-- The wave that an input anchors anew (R241). -/
def anchoredAnew (s : State) (w : Wave) (n td speed : Nat) (heading : Option Nat) (cls : Nat) : Wave :=
  { w with
    anchor := n, t0 := td, heading := heading, cls := cls
    speed := min (profOf w.prof).speedMax
      (max (profOf w.prof).speedMin (if speed = 0 then s.measured w n td else speed)) }

theorem reanchor_fresh (s : State) (w : Wave) (n td speed : Nat) (heading : Option Nat) (cls : Nat) :
    s.reanchor w n td speed heading cls = s.fresh.compute (anchoredAnew s w n td speed heading cls) := rfl

theorem computed_reanchor (s : State) (w : Wave) (n td speed : Nat) (heading : Option Nat) (cls : Nat) :
    Computed s (anchoredAnew s w n td speed heading cls) (s.reanchor w n td speed heading cls) := by
  have h := computed_compute s.fresh (anchoredAnew s w n td speed heading cls)
  rw [reanchor_fresh]
  exact ⟨h.wav, h.own, h.others, h.bytes⟩

theorem reanchor_frame (s : State) (w : Wave) (n td speed : Nat) (heading : Option Nat) (cls : Nat) :
    Frame [.cfg, .evr, .free, .ltb, .mem, .mst, .qdm, .wav] sendBits s (s.reanchor w n td speed heading cls) :=
  frame_reanchor w n td speed heading cls (frame_refl s) (List.Subset.refl _) (.inr (List.Subset.refl _))

/-! ## An input leaves the FIFO (R236, R274, R281) -/

/-- The input at the head has left the FIFO and its latencies are noted. -/
def served (s : State) (r : List WavIn) (tRx us : Nat) : State :=
  (s.setWav (fun w => { w with fifo := r })).wavLatency tRx us

section
variable (s : State) (r : List WavIn) (tRx us : Nat)

theorem served_frame : Frame [.wav] [] s (served s r tRx us) :=
  frame_wavLatency _ _ (frame_setWav _ (frame_refl s) (List.Subset.refl _)) (List.Subset.refl _)

theorem served_latTotal : s.wav.latTotal ≤ (served s r tRx us).wav.latTotal := Nat.le_max_left ..

end

/-! ## A DETECT that is dropped (R236) -/

section
variable {s : State} {n tRx td sp hd cl : Nat} {hv : Bool} {f : WavUnit → WavUnit}

/-- The counter of a check changes counters alone. -/
theorem detectBad_counts (h : s.detectBad n tRx td sp hv cl = some f) (w : WavUnit) :
    f w = { w with
      dState := (f w).dState, dRange := (f w).dRange, dAge := (f w).dAge, dFilter := (f w).dFilter,
      dDup := (f w).dDup } := by
  unfold State.detectBad at h
  dsimp only at h
  split at h
  · cases h; rfl
  · split at h
    · cases h; rfl
    · split at h
      · cases h; rfl
      · split at h
        · cases h; rfl
        · split at h
          · split at h
            · cases h; rfl
            · contradiction
          · contradiction

theorem detectBad_state (hb : s.wavStateBad n = true) :
    s.detectBad n tRx td sp hv cl = some (fun w => { w with dState := sat 16 (w.dState + 1) }) := by
  rw [State.detectBad, hb]
  rfl

theorem detectBad_range (hb : s.wavStateBad n = false) (hr : 700 < sp ∨ 3 < cl) :
    s.detectBad n tRx td sp hv cl = some (fun w => { w with dRange := sat 16 (w.dRange + 1) }) := by
  rw [State.detectBad, hb, if_neg Bool.false_ne_true, if_pos hr]

end

section
variable (s : State) (n : Nat) (f : WavUnit → WavUnit)

theorem detectDrop_wav : (s.detectDrop n f).wav = f s.wav := by
  have h : (s.setLt n 0x122 2 (sat 16 (s.lt n 0x122 2 + 1))).wav = s.wav :=
    (frame_setLt (L := [.mem]) (F := []) n _ _ _ (frame_refl s) (by decide)).parts .wav (by decide) (by decide)
  rw [State.detectDrop, postBit_wav, State.setWav, h]

theorem raised_detectDrop : (s.detectDrop n f).raised (reg wWAV 0) 2 := raised_postBit_wav (by decide)

theorem lt_detectDrop {s : State} {n : Nat} (f : WavUnit → WavUnit) (hn : n < s.ltb.count)
    (hm : State.memSpan (s.ltAddr n 0x122) 2 = true) :
    (s.detectDrop n f).lt n 0x122 2 = sat 16 (s.lt n 0x122 2 + 1) := by
  have h : (s.detectDrop n f).lt n 0x122 2 = (s.setLt n 0x122 2 (sat 16 (s.lt n 0x122 2 + 1))).lt n 0x122 2 :=
    lt_congr (postBit_ltb ..) (fun x => postBit_byte ..) ..
  rw [h, lt_setLt hn hm]
  exact Nat.mod_eq_of_lt (Nat.lt_of_le_of_lt (Nat.min_le_right ..) (by decide))

theorem byte_detectDrop {s : State} {n x : Nat} (f : WavUnit → WavUnit)
    (hx : x < s.ltAddr n 0x122 ∨ s.ltAddr n 0x124 ≤ x) : (s.detectDrop n f).byte x = s.byte x := by
  refine (postBit_byte ..).trans ?_
  show (s.setLt n 0x122 2 _).byte x = s.byte x
  rw [State.setLt]
  split
  · exact byte_setBytes_out _ _ _ _ (by rw [length_leBytes]; simpa only [State.ltAddr, Nat.add_assoc] using hx)
  · rfl

end

/-! ## A DETECT that is taken (R243 to R246) -/

/-- The time of an accepted DETECT is noted at its entry (R236 check 5). -/
def dupNoted (s : State) (n td : Nat) : State := s.setWav (fun v => { v with dup := tabSet v.dup n td })

theorem dupNoted_frame (s : State) (r : List WavIn) (tRx us n td : Nat) :
    Frame [.wav] [] s (dupNoted (served s r tRx us) n td) :=
  frame_setWav _ (served_frame s r tRx us) (List.Subset.refl _)

section
variable {s : State} {n tRx td sp hd cl us k : Nat} {hv : Bool} {r : List WavIn}

theorem detectTake_opens (hj : s.wav.waves.any (fun w => s.joins w n td (if hv then some hd else none)) = false)
    (hk : s.freeWave = some k) :
    s.detectTake n td sp hd hv cl =
      (dupNoted s n td).openWave n td sp (if hv then some hd else none) cl 0 none := by
  rw [State.detectTake, minBy_filter_none hj, hk]
  rfl

theorem detectTake_joins {w : Wave}
    (hj : minBy (State.joinGap n td) (s.wav.waves.filter (fun x => s.joins x n td (if hv then some hd else none))) =
      some w) :
    s.detectTake n td sp hd hv cl =
      (dupNoted s n td).reanchor w n td sp (if hv then some hd else none) cl := by
  rw [State.detectTake, hj]
  rfl

theorem detectServe_bad {f : WavUnit → WavUnit} (hf : s.wav.fifo = .detect n tRx td sp hd hv cl :: r)
    (hb : s.detectBad n tRx td sp hv cl = some f) : s.detectServe us = (served s r tRx us).detectDrop n f := by
  have hb' : (served s r tRx us).detectBad n tRx td sp hv cl = some f := hb
  rw [State.detectServe, hf]
  show (match (served s r tRx us).detectBad n tRx td sp hv cl with | some f => _ | none => _) = _
  rw [hb']
  rfl

theorem detectServe_good (hf : s.wav.fifo = .detect n tRx td sp hd hv cl :: r)
    (hb : s.detectBad n tRx td sp hv cl = none) :
    s.detectServe us = (served s r tRx us).detectTake n td sp hd hv cl := by
  have hb' : (served s r tRx us).detectBad n tRx td sp hv cl = none := hb
  rw [State.detectServe, hf]
  show (match (served s r tRx us).detectBad n tRx td sp hv cl with | some f => _ | none => _) = _
  rw [hb']
  rfl

end

theorem exec_wavDetect {s : State} {dt us : Nat} (hw : (s.after dt).works wWAV) :
    exec (.wavDetectProcess dt us) s = .next ((s.after dt).detectServe us) := by
  show Host.Outcome.next (s.occurIn dt wWAV _) = _
  rw [occurIn_works hw]

theorem exec_waveEnd {s : State} {dt n : Nat} (hw : (s.after dt).works wWAV) (hd : (s.after dt).waveEndDue n = true) :
    exec (.waveEnd dt n) s = .next ((s.after dt).endWave n) := by
  show Host.Outcome.next (s.occurIn dt wWAV _) = _
  rw [occurIn_works hw]
  exact congrArg _ (if_pos hd)

/-- An empty FIFO gives the wave engine nothing to do. -/
theorem exec_wavDetect_empty {s : State} {dt us : Nat} (hp : s.powered = true) (hf : (s.after dt).wav.fifo = []) :
    exec (.wavDetectProcess dt us) s = .next (s.after dt) := by
  have he : (s.after dt).detectServe us = s.after dt := by rw [State.detectServe, hf]
  show Host.Outcome.next (s.occurIn dt wWAV _) = _
  rw [State.occurIn, occur_powered hp, he, ite_self]

/-- A wave that has reached its end leaves the list (R264). -/
theorem endWave_wav (s : State) (n : Nat) :
    (s.endWave n).wav = { s.wav with waves := s.wav.waves.filter (fun w => w.num != n) } := postBit_wav ..

/-! ## The obligation -/

/-- Settles O34: a DETECT is served on the state without it in the FIFO; one that fails a check is dropped there, one
that joins no wave opens one, and one that joins a wave anchors it anew, both by a computation, which keeps every other
wave and writes memory in the rings alone. -/
theorem waveDetects : Obligations.WaveDetects := by
  unfold Obligations.WaveDetects
  refine ⟨fun n tr td sp hd cl us hv r dt s0 => ?dropped, fun n tr td sp hd cl us k p c hv r dt s0 => ?opens,
    fun n tr td sp hd cl us hv r w dt s0 => ?joins, fun us dt s0 => ?empty, fun n dt s0 => ?ends⟩
  case dropped =>
    intro s _ ⟨hw, hf, hb⟩
    obtain ⟨f, hb⟩ := Option.isSome_iff_exists.1 hb
    have ht := detectDrop_wav (served s r tr us) n f
    have hc := detectBad_counts hb (served s r tr us).wav
    refine ⟨_, exec_wavDetect hw, ?_⟩
    rw [detectServe_bad hf hb]
    refine ⟨⟨?_, ?_, ?_, ?_, ?_, ?_, ?_, fun hs => ?_, fun hs hr => ?_, fun hn hm => ?_, fun x hx => ?_⟩, ?_⟩
    · rw [ht, hc]; rfl
    · rw [ht, hc]; rfl
    · rw [ht, hc]; rfl
    · rw [ht, hc]; rfl
    · exact raised_detectDrop ..
    · rw [ht, hc]; rfl
    · rw [ht, hc]
      exact served_latTotal s r tr us
    · cases (detectBad_state hs).symm.trans hb
      rw [ht]
      exact ⟨rfl, rfl⟩
    · cases (detectBad_range hs hr).symm.trans hb
      rw [ht]
      exact ⟨rfl, rfl⟩
    · exact lt_detectDrop (s := served s r tr us) f hn hm
    · exact byte_detectDrop (s := served s r tr us) f hx
    · exact frame_detectDrop n f (frame_mono (served_frame s r tr us) (by decide) (List.nil_subset _)) (by decide)
        (.inr (by decide))
  case opens =>
    rintro s _ ⟨hw, hf, hb, hj, hk, rfl, rfl⟩
    have hs := dupNoted_frame s r tr us n td
    have ho := opened_openWave (s := dupNoted (served s r tr us) n td) hk n td sp (if hv then some hd else none) cl 0
      none
    refine ⟨_, exec_wavDetect hw, ?_⟩
    rw [detectServe_good hf (Option.isNone_iff_eq_none.1 hb), detectTake_opens (s := served s r tr us) hj hk]
    refine ⟨⟨?_, ho.raised, ?_, ho.counts, ho.own _ fun _ _ => rfl, ho.own _ fun _ _ => rfl,
      ho.own _ fun _ _ => rfl, ho.others, ho.bytes⟩, ?_⟩
    · rw [ho.wav]; rfl
    · rw [ho.wav]; rfl
    · exact frame_trans (frame_mono hs (by decide) (List.nil_subset _)) (frame_mono ho.frame (by decide) (by decide))
  case joins =>
    intro s _ ⟨hw, hf, hb, hj⟩
    have hs := dupNoted_frame s r tr us n td
    have hc := computed_reanchor (dupNoted (served s r tr us) n td) w n td sp (if hv then some hd else none) cl
    have hr := reanchor_frame (dupNoted (served s r tr us) n td) w n td sp (if hv then some hd else none) cl
    refine ⟨_, exec_wavDetect hw, ?_⟩
    rw [detectServe_good hf (Option.isNone_iff_eq_none.1 hb), detectTake_joins (s := served s r tr us) hj]
    refine ⟨⟨?_, ?_, ?_, hc.map_own _ fun _ _ => rfl, fun hsp => ?_, hc.others, hc.bytes⟩, ?_⟩
    · rw [hc.wav]; rfl
    · rw [hc.wav]; rfl
    · rw [hc.wav]; rfl
    · refine (hc.map_own (fun x => x.speed) fun _ _ => rfl).trans ?_
      rw [anchoredAnew, if_neg hsp]
    · exact frame_trans (frame_mono hs (by decide) (List.nil_subset _)) (frame_mono hr (by decide) (by decide))
  case empty =>
    intro s hp hf
    exact ⟨s, exec_wavDetect_empty hp hf, rfl, frame_refl s⟩
  case ends =>
    intro s _ ⟨hw, hd⟩
    exact ⟨_, exec_waveEnd hw hd, ⟨endWave_wav s n, raised_postBit_wav (by decide)⟩,
      frame_endWave n (frame_refl s) (by decide) (.inr (by decide))⟩

end Sys2Proof.Proofs
end

section
/-! PROOF. A handoff datagram at the head of the wave engine's FIFO (R264, R271 to R273). -/

namespace Sys2Proof.Proofs
open Sys2Proof Sys2Proof.Machine Sys2Proof.Laws

/-! ## The rows of a datagram (R271) -/

/-- The row that serves a datagram of a TYPE: OPEN, UPDATE or CANCEL. -/
theorem exec_handoff {s : State} {ty dt us : Nat} (hty : ty = 1 ∨ ty = 2 ∨ ty = 3) (hw : (s.after dt).works wWAV) :
    exec (if ty = 1 then .wavHandoffOpen dt us else if ty = 2 then .wavHandoffUpdate dt us
      else .wavHandoffCancel dt us) s = .next ((s.after dt).handServe ty us) := by
  have h : exec (if ty = 1 then .wavHandoffOpen dt us else if ty = 2 then .wavHandoffUpdate dt us
      else .wavHandoffCancel dt us) s = .next (s.occurIn dt wWAV (fun t => t.handServe ty us)) := by
    rcases hty with rfl | rfl | rfl <;> rfl
  rw [h, occurIn_works hw]

section
variable {s : State} {p src : List Byte} {tr co us ty : Nat} {r : List WavIn}

/-- The TYPE that a row serves a datagram for; one of no TYPE is the OPEN row's (log entry 34). -/
def servedType (p : List Byte) : Nat := if fieldBE p 3 1 = 2 ∨ fieldBE p 3 1 = 3 then fieldBE p 3 1 else 1

theorem servedType_of (h : ty = 1 ∨ ty = 2 ∨ ty = 3) (hp : fieldBE p 3 1 = ty) : servedType p = ty := by
  rw [servedType, hp]
  split <;> omega

/-- A datagram that fails a check of R271 is dropped. -/
theorem handServe_bad {st : Bool} (hf : s.wav.fifo = .datagram p tr co src :: r) (hty : servedType p = ty)
    (hc : s.handCheck p tr co src = .error st) : s.handServe ty us = (served s r tr us).handDrop st := by
  have hc' : (served s r tr us).handCheck p tr co src = .error st := hc
  rw [State.handServe, hf]
  refine (if_neg (fun h => h hty)).trans ?_
  show (match (served s r tr us).handCheck p tr co src with | .error st => _ | .ok pe => _) = _
  rw [hc']
  rfl

/-- A datagram that passes the checks is taken, where its entry is fit for a wave. -/
theorem handServe_good {pe : Nat} (hf : s.wav.fifo = .datagram p tr co src :: r) (hty : servedType p = ty)
    (hc : (s.handCheck p tr co src).toOption = some pe) (hb : s.wavStateBad (fieldBE p 16 2) = false) :
    s.handServe ty us = (served s r tr us).handTake pe p tr := by
  have hc' : (served s r tr us).handCheck p tr co src = .ok pe := by
    show s.handCheck p tr co src = .ok pe
    cases he : s.handCheck p tr co src with
    | error b => rw [he] at hc; cases hc
    | ok q => rw [he] at hc; cases hc; rfl
  have hb' : (served s r tr us).wavStateBad (fieldBE p 16 2) = false := hb
  rw [State.handServe, hf]
  refine (if_neg (fun h => h hty)).trans ?_
  show (match (served s r tr us).handCheck p tr co src with | .error st => _ | .ok pe => _) = _
  rw [hc']
  exact if_neg (ne_true_of_eq_false hb')

end

/-! ## A datagram that is dropped (R271) -/

theorem handDrop_wav (s : State) (st : Bool) :
    (s.handDrop st).wav = { s.wav with
      hoStale := if st then sat 16 (s.wav.hoStale + 1) else s.wav.hoStale
      hoCheck := if st then s.wav.hoCheck else sat 16 (s.wav.hoCheck + 1) } := by
  rw [State.handDrop, postBit_wav]
  cases st <;> rfl

theorem handDrop_frame (s : State) (r : List WavIn) (tr us : Nat) (st : Bool) :
    Frame [.evr, .wav] [(reg wWAV 0, 8)] s ((served s r tr us).handDrop st) :=
  frame_handDrop st (frame_mono (served_frame s r tr us) (by decide) (List.nil_subset _)) (List.Subset.refl _)
    (.inr (List.Subset.refl _))

theorem raised_handDrop (s : State) (st : Bool) : (s.handDrop st).raised (reg wWAV 0) 8 :=
  raised_postBit_wav (by decide)

/-! ## A datagram that is accepted (R271 to R273) -/

/-- The state in which an accepted datagram acts: it has left the FIFO and its SEQ is noted. -/
def noted (s : State) (r : List WavIn) (pe : Nat) (p : List Byte) (tr us : Nat) : State :=
  (served s r tr us).noteSeq pe p tr

section
variable (s : State) (r : List WavIn) (pe : Nat) (p : List Byte) (tr us : Nat)

/-- An accepted datagram is counted, its SEQ and latencies are noted, and it leaves the FIFO. -/
theorem noted_wav : (noted s r pe p tr us).wav = { s.wav with
    fifo := r, hoRecv := (s.wav.hoRecv + 1) % 65536, seqs := (noted s r pe p tr us).wav.seqs,
    latCompute := (noted s r pe p tr us).wav.latCompute, latTotal := (noted s r pe p tr us).wav.latTotal } := by
  have h : (noted s r pe p tr us).wav = _ := postBit_wav ..
  rw [h]
  rfl

theorem noted_frame : Frame [.evr, .wav] [(reg wWAV 0, 7)] s (noted s r pe p tr us) :=
  frame_noteSeq pe p tr (frame_mono (served_frame s r tr us) (by decide) (List.nil_subset _)) (List.Subset.refl _)
    (.inr (List.Subset.refl _))

theorem raised_noted : (noted s r pe p tr us).raised (reg wWAV 0) 7 := raised_postBit_wav (by decide)

theorem noted_inRing_byte (x : Nat) :
    (noted s r pe p tr us).inRing x = s.inRing x ∧ (noted s r pe p tr us).byte x = s.byte x :=
  inRing_byte_of_frame (noted_frame s r pe p tr us) x

theorem noted_waves : (noted s r pe p tr us).wav.waves = s.wav.waves := by rw [noted_wav]

theorem noted_freeWave : (noted s r pe p tr us).freeWave = s.freeWave := by
  rw [State.freeWave, State.freeWave, noted_waves]

theorem noted_profWords (n : Nat) :
    (noted s r pe p tr us).profWords ((noted s r pe p tr us).lt n 0x00E 1) = s.profWords (s.lt n 0x00E 1) := by
  have h := noted_frame s r pe p tr us
  rw [profWords_congr (h.parts .cfg (by decide) (by decide)) (h.parts .act (by decide) (by decide))
    (h.parts .sys (by decide) (by decide)), lt_congr (h.parts .ltb (by decide) (by decide))
    (h.parts .mem (by decide) (by decide))]

end

/-- The open wave that a peer's datagrams of a number move. -/
def remoteWave (s : State) (pe wid : Nat) : Option Wave :=
  s.wav.waves.find? (fun (w : Wave) => match w.remote with | some r => r.1 == pe && r.2.1 == wid | none => false)

section
variable {s : State} {pe tr : Nat} {p : List Byte}

theorem handTake_open (hp : fieldBE p 3 1 = 1) (hcls : fieldBE p 45 1 ≤ 3)
    (hpr : ((profOf ((s.noteSeq pe p tr).profWords ((s.noteSeq pe p tr).lt (fieldBE p 16 2) 0x00E 1))).classes >>>
      fieldBE p 45 1) % 2 = 1) :
    s.handTake pe p tr = (s.noteSeq pe p tr).openWave (fieldBE p 16 2) (s.tbs.rawOf (fieldBE p 26 8)) (fieldBE p 42 2)
      (some (fieldBE p 44 1)) (fieldBE p 45 1) (fieldBE p 46 1 + 1) (some (pe, fieldBE p 12 2, fieldBE p 16 2)) := by
  rw [State.handTake, hp]
  exact (if_neg (by omega)).trans (if_neg (by omega))

theorem handTake_update {w : Wave} (hp : fieldBE p 3 1 = 2) (hw : remoteWave s pe (fieldBE p 12 2) = some w) :
    s.handTake pe p tr = (s.noteSeq pe p tr).reanchor w ((w.remote.map (·.2.2)).getD (fieldBE p 16 2))
      (s.tbs.rawOf (fieldBE p 26 8)) (fieldBE p 42 2) (some (fieldBE p 44 1)) (fieldBE p 45 1) := by
  rw [State.handTake, hp]
  show (match remoteWave s pe (fieldBE p 12 2) with | some w => _ | none => _) = _
  simp only [hw]

theorem handTake_cancel {w : Wave} (hp : fieldBE p 3 1 = 3) (hw : remoteWave s pe (fieldBE p 12 2) = some w) :
    s.handTake pe p tr = (s.noteSeq pe p tr).cancelWave w := by
  rw [State.handTake, hp]
  show (match remoteWave s pe (fieldBE p 12 2) with | some w => _ | none => _) = _
  simp only [hw]

theorem handTake_none (hp : fieldBE p 3 1 = 2 ∨ fieldBE p 3 1 = 3) (hw : remoteWave s pe (fieldBE p 12 2) = none) :
    s.handTake pe p tr = s.handDrop true := by
  rcases hp with hp | hp
  · rw [State.handTake, hp]
    show (match remoteWave s pe (fieldBE p 12 2) with | some w => _ | none => _) = _
    simp only [hw]
  · rw [State.handTake, hp]
    show (match remoteWave s pe (fieldBE p 12 2) with | some w => _ | none => _) = _
    simp only [hw]

end

section
variable {s : State} {p src : List Byte} {tr co us pe : Nat} {r : List WavIn}
  (hf : s.wav.fifo = .datagram p tr co src :: r) (hc : (s.handCheck p tr co src).toOption = some pe)
  (hb : s.wavStateBad (fieldBE p 16 2) = false)
include hf hc hb

theorem handServe_opens (hp : fieldBE p 3 1 = 1) (hcls : fieldBE p 45 1 ≤ 3)
    (hpr : ((profOf (s.profWords (s.lt (fieldBE p 16 2) 0x00E 1))).classes >>> fieldBE p 45 1) % 2 = 1) :
    s.handServe 1 us = (noted s r pe p tr us).openWave (fieldBE p 16 2) (s.tbs.rawOf (fieldBE p 26 8)) (fieldBE p 42 2)
      (some (fieldBE p 44 1)) (fieldBE p 45 1) (fieldBE p 46 1 + 1) (some (pe, fieldBE p 12 2, fieldBE p 16 2)) := by
  rw [handServe_good hf (servedType_of (.inl rfl) hp) hc hb]
  exact handTake_open hp hcls ((noted_profWords s r pe p tr us (fieldBE p 16 2)).symm ▸ hpr)

theorem handServe_updates {w : Wave} (hp : fieldBE p 3 1 = 2) (hw : remoteWave s pe (fieldBE p 12 2) = some w) :
    s.handServe 2 us = (noted s r pe p tr us).reanchor w ((w.remote.map (·.2.2)).getD (fieldBE p 16 2))
      (s.tbs.rawOf (fieldBE p 26 8)) (fieldBE p 42 2) (some (fieldBE p 44 1)) (fieldBE p 45 1) := by
  rw [handServe_good hf (servedType_of (.inr (.inl rfl)) hp) hc hb]
  exact handTake_update (s := served s r tr us) hp hw

theorem handServe_cancels {w : Wave} (hp : fieldBE p 3 1 = 3) (hw : remoteWave s pe (fieldBE p 12 2) = some w) :
    s.handServe 3 us = (noted s r pe p tr us).cancelWave w := by
  rw [handServe_good hf (servedType_of (.inr (.inr rfl)) hp) hc hb]
  exact handTake_cancel (s := served s r tr us) hp hw

theorem handServe_stale {ty : Nat} (hty : ty = 2 ∨ ty = 3) (hp : fieldBE p 3 1 = ty)
    (hw : remoteWave s pe (fieldBE p 12 2) = none) : s.handServe ty us = (served s r tr us).handDrop true := by
  rw [handServe_good hf (servedType_of (.inr hty) hp) hc hb]
  exact handTake_none (s := served s r tr us) (hp ▸ hty) hw

end

/-- A CANCEL sends the releases, and then the wave leaves the list (R272). -/
theorem cancelWave_sends (s : State) (w : Wave) :
    (s.cancelWave w).wav = { s.wav with
      waves := s.wav.waves.filter (fun x => x.num != w.num), qfull := (s.cancelWave w).wav.qfull,
      hoSent := (s.cancelWave w).wav.hoSent, trunc := (s.cancelWave w).wav.trunc } ∧
    (∀ x, s.inRing x = false → (s.cancelWave w).byte x = s.byte x) ∧
    (s.cancelWave w).raised (reg wWAV 0) 1 := by
  unfold State.cancelWave
  dsimp only
  have h := sentBy_waveSend w ((w.set.filter (fun r => decide (s.raw < r.raise))).map
    (fun (r : Raised) => { r with release := r.raise })) (.refl s)
  generalize State.waveSend s w _ = o at h ⊢
  have hw := endWave_wav o.1 w.num
  refine ⟨?_, fun x hx => (postBit_byte ..).trans (h.bytes x hx), raised_postBit_wav (by decide)⟩
  rw [hw, h.wav]

theorem cancelWave_frame (s : State) (w : Wave) :
    Frame [.cfg, .evr, .ltb, .mem, .mst, .qdm, .wav] [(reg wWAV 0, 1), (reg wWAV 0, 4), (reg wLTB 0, 0)] s
      (s.cancelWave w) :=
  frame_cancelWave w (frame_refl s) (List.Subset.refl _) (.inr (List.Subset.refl _))

/-! ## The obligation -/

/-- Settles O35: a datagram is checked on the state without it in the FIFO; a refused one is dropped there, and an
accepted one acts on the state in which its SEQ is noted, by a computation or by the end of its wave. That a datagram
of no TYPE is the OPEN row's is a reading of the model (log entry 34). -/
theorem waveHandoffs : Obligations.WaveHandoffs := by
  unfold Obligations.WaveHandoffs
  refine ⟨fun p src tr co us ty r st hty dt s0 => ?dropped, fun p src tr co us n k c pe r dt s0 => ?opens,
    fun p src tr co us n pe r w dt s0 => ?updates, fun p src tr co us n pe r w dt s0 => ?cancels,
    fun p src tr co us n pe ty r hty dt s0 => ?stale⟩
  case dropped =>
    intro s _ ⟨hw, hf, hp, hc⟩
    have hc : s.handCheck p tr co src = .error st := by
      cases he : s.handCheck p tr co src with
      | error b => rw [he] at hc; cases hc; rfl
      | ok q => rw [he] at hc; cases hc
    have ht := handDrop_wav (served s r tr us) st
    refine ⟨_, exec_handoff hty hw, ?_⟩
    rw [handServe_bad hf hp hc]
    refine ⟨⟨?_, ?_, raised_handDrop .., ?_, ?_, ?_⟩, handDrop_frame s r tr us st⟩ <;> rw [ht] <;> rfl
  case opens =>
    rintro s _ ⟨hw, hf, hp, hc, rfl, hb, hcls, hpr, hk, rfl⟩
    have hn := noted_frame s r pe p tr us
    have ho := opened_openWave (s := noted s r pe p tr us) ((noted_freeWave s r pe p tr us).trans hk) (fieldBE p 16 2)
      (s.tbs.rawOf (fieldBE p 26 8)) (fieldBE p 42 2) (some (fieldBE p 44 1)) (fieldBE p 45 1) (fieldBE p 46 1 + 1)
      (some (pe, fieldBE p 12 2, fieldBE p 16 2))
    have hcount : (noted s r pe p tr us).wav.counts = s.wav.counts := by rw [noted_wav]
    refine ⟨_, exec_handoff (ty := 1) (.inl rfl) hw, ?_⟩
    rw [handServe_opens hf hc hb hp hcls hpr]
    refine ⟨⟨?_, ho.raised, ?_, ?_, ho.counts.trans (by rw [hcount]), ?_, ho.others.trans (noted_waves ..),
      fun x hx => ?_⟩, ?_⟩
    · rw [ho.wav, noted_wav]
    · exact (ho.frame.flags (by decide) _ 7 (by decide) (by decide)).2 (raised_noted ..)
    · rw [ho.wav, noted_wav]
    · refine (ho.own _ fun _ _ => rfl).trans ?_
      simp only [newWave, hcount]
    · obtain ⟨hi, hx'⟩ := noted_inRing_byte s r pe p tr us x
      exact (ho.bytes x (hi.trans hx)).trans hx'
    · exact frame_trans (frame_mono hn (by decide) (by decide)) (frame_mono ho.frame (by decide) (by decide))
  case updates =>
    rintro s _ ⟨hw, hf, hp, hc, rfl, hb, hwave⟩
    have hn := noted_frame s r pe p tr us
    have hr := reanchor_frame (noted s r pe p tr us) w ((w.remote.map (·.2.2)).getD (fieldBE p 16 2))
      (s.tbs.rawOf (fieldBE p 26 8)) (fieldBE p 42 2) (some (fieldBE p 44 1)) (fieldBE p 45 1)
    have ha := computed_reanchor (noted s r pe p tr us) w ((w.remote.map (·.2.2)).getD (fieldBE p 16 2))
      (s.tbs.rawOf (fieldBE p 26 8)) (fieldBE p 42 2) (some (fieldBE p 44 1)) (fieldBE p 45 1)
    refine ⟨_, exec_handoff (ty := 2) (.inr (.inl rfl)) hw, ?_⟩
    rw [handServe_updates hf hc hb hp hwave]
    refine ⟨⟨?_, ?_, ?_, ha.map_own _ fun _ _ => rfl, ha.others.trans ?_, fun x hx => ?_⟩, ?_⟩
    · rw [ha.wav, noted_wav]
    · exact (hr.flags (by decide) _ 7 (by decide) (by decide)).2 (raised_noted ..)
    · rw [ha.wav, noted_wav]
    · rw [noted_waves]
      rfl
    · obtain ⟨hi, hx'⟩ := noted_inRing_byte s r pe p tr us x
      exact (ha.bytes x (hi.trans hx)).trans hx'
    · exact frame_trans (frame_mono hn (by decide) (by decide)) (frame_mono hr (by decide) (by decide))
  case cancels =>
    rintro s _ ⟨hw, hf, hp, hc, rfl, hb, hwave⟩
    have hn := noted_frame s r pe p tr us
    obtain ⟨hwav, hbytes, hend⟩ := cancelWave_sends (noted s r pe p tr us) w
    have hr := cancelWave_frame (noted s r pe p tr us) w
    refine ⟨_, exec_handoff (ty := 3) (.inr (.inr rfl)) hw, ?_⟩
    rw [handServe_cancels hf hc hb hp hwave]
    refine ⟨⟨?_, hend, ?_, ?_, ?_, fun x hx => ?_⟩, ?_⟩
    · rw [hwav, noted_wav]
    · exact (hr.flags (by decide) _ 7 (by decide) (by decide)).2 (raised_noted ..)
    · rw [hwav, noted_wav]
    · rw [hwav, noted_wav]
    · obtain ⟨hi, hx'⟩ := noted_inRing_byte s r pe p tr us x
      exact (hbytes x (hi.trans hx)).trans hx'
    · exact frame_trans (frame_mono hn (by decide) (by decide)) (frame_mono hr (by decide) (by decide))
  case stale =>
    rintro s _ ⟨hw, hf, hp, hc, rfl, hb, hwave⟩
    have ht := handDrop_wav (served s r tr us) true
    have hrow : (if ty = 2 then Instr.wavHandoffUpdate dt us else .wavHandoffCancel dt us) =
        if ty = 1 then .wavHandoffOpen dt us else if ty = 2 then .wavHandoffUpdate dt us else .wavHandoffCancel dt us :=
      (if_neg (by omega)).symm
    refine ⟨_, (congrArg (exec · s0) hrow).trans (exec_handoff (.inr hty) hw), ?_⟩
    rw [handServe_stale hf hc hb hty hp hwave]
    refine ⟨⟨?_, ?_, ?_, raised_handDrop .., ?_⟩, handDrop_frame s r tr us true⟩ <;> rw [ht] <;> rfl

end Sys2Proof.Proofs
end

section
/-! PROOF. The division of an interval's energy over the lanterns of its feeder (R407): its parts sum to the energy. -/

namespace Sys2Proof.Proofs
open Sys2Proof Sys2Proof.Machine Sys2Proof.Laws

/-! ## Sorting by a key -/

theorem insertBy_perm {α : Type} (key : α → Nat) (x : α) (l : List α) : (insertBy key x l).Perm (x :: l) := by
  induction l with
  | nil => exact .refl _
  | cons y r ih =>
    unfold insertBy
    split
    · exact .refl _
    · exact (ih.cons y).trans (.swap x y r)

/-- Sorting keeps what a list holds. -/
theorem sortBy_perm {α : Type} (key : α → Nat) (l : List α) : (sortBy key l).Perm l := by
  have h : ∀ acc : List α, (l.foldl (fun a x => insertBy key x a) acc).Perm (acc ++ l) := by
    induction l with
    | nil => intro acc; simp
    | cons x r ih =>
      intro acc
      exact (ih _).trans (((insertBy_perm key x acc).append_right r).trans List.perm_middle.symm)
  exact h []

/-! ## The division of an interval's energy (R407) -/

theorem foldl_snd_eq_sum {α : Type} (l : List (α × Nat)) : l.foldl (fun a x => a + x.2) 0 = (l.map (·.2)).sum := by
  rw [List.sum_eq_foldl, List.foldl_map]

/-- The bases by which an allocation divides: equal ones where none is above 0 (R407). -/
def allocBases (l : List (Nat × Nat)) : List (Nat × Nat) := if (l.map (·.2)).sum = 0 then l.map (fun x => (x.1, 1)) else l

/-- The parts of the energy before what is left of it is given out (R407). -/
def allocFloors (imp sum : Nat) (b : List (Nat × Nat)) : List (Nat × Nat) := b.map (fun x => (x.1, imp * x.2 / sum))

/-- One µWh more for each of a list of entries. -/
def allocRaise (more : List Nat) (l : List (Nat × Nat)) : List (Nat × Nat) :=
  l.map (fun x => (x.1, if more.contains x.1 then x.2 + 1 else x.2))

/-- The entries in the order in which they take what is left (R407). -/
def allocOrder (imp sum : Nat) (b : List (Nat × Nat)) : List Nat :=
  (sortBy (fun x : Nat × Nat => sum - imp * x.2 % sum) b).map (·.1)

theorem allocate_eq (imp : Nat) (l : List (Nat × Nat)) :
    State.allocate imp l =
      let b := allocBases l
      let sum := (b.map (·.2)).sum
      let floors := allocFloors imp sum b
      allocRaise ((allocOrder imp sum b).take (imp - (floors.map (·.2)).sum)) floors := by
  simp only [State.allocate, foldl_snd_eq_sum]
  rfl

theorem keys_allocBases (l : List (Nat × Nat)) : (allocBases l).map (·.1) = l.map (·.1) := by
  unfold allocBases
  split
  · rw [List.map_map]; rfl
  · rfl

theorem keys_allocFloors (imp sum : Nat) (b : List (Nat × Nat)) : (allocFloors imp sum b).map (·.1) = b.map (·.1) := by
  rw [allocFloors, List.map_map]; rfl

theorem keys_allocRaise (more : List Nat) (l : List (Nat × Nat)) : (allocRaise more l).map (·.1) = l.map (·.1) := by
  rw [allocRaise, List.map_map]; rfl

/-- Each entry gets its part. -/
theorem keys_allocate (imp : Nat) (l : List (Nat × Nat)) : (State.allocate imp l).map (·.1) = l.map (·.1) := by
  rw [allocate_eq]
  exact (keys_allocRaise ..).trans ((keys_allocFloors ..).trans (keys_allocBases l))

/-- What entries are divided by is above 0 where there are entries. -/
theorem sum_allocBases_pos {l : List (Nat × Nat)} (h : l ≠ []) : 0 < ((allocBases l).map (·.2)).sum := by
  unfold allocBases
  split
  · have h1 : (l.map (fun x => (x.1, 1))).map (·.2) = List.replicate l.length 1 :=
      List.map_map.trans List.map_const'
    rw [h1, List.sum_replicate_nat, Nat.mul_one]
    exact List.length_pos_iff.2 h
  · omega

/-- Division with remainder, over a list. -/
theorem sum_div_add_sum_mod (n : Nat) (l : List Nat) : n * (l.map (· / n)).sum + (l.map (· % n)).sum = l.sum := by
  induction l with
  | nil => rfl
  | cons x r ih =>
    simp only [List.map_cons, List.sum_cons, Nat.mul_add]
    have := Nat.div_add_mod x n
    omega

/-- Each remainder is at least 1 below the divisor. -/
theorem sum_mod_add_length_le {n : Nat} (hn : 0 < n) (l : List Nat) : (l.map (· % n)).sum + l.length ≤ n * l.length := by
  induction l with
  | nil => exact Nat.le_refl _
  | cons x r ih =>
    simp only [List.map_cons, List.sum_cons, List.length_cons, Nat.mul_add, Nat.mul_one]
    have := Nat.mod_lt x hn
    omega

theorem sum_mul_left (imp : Nat) (b : List (Nat × Nat)) :
    (b.map (fun x => imp * x.2)).sum = imp * (b.map (·.2)).sum := by
  induction b with
  | nil => rfl
  | cons x r ih => simp only [List.map_cons, List.sum_cons, Nat.mul_add, ih]

/-- The floors fall short of the energy by less than one µWh for each entry. -/
theorem allocFloors_short {imp : Nat} {b : List (Nat × Nat)} (hs : 0 < (b.map (·.2)).sum) :
    ((allocFloors imp (b.map (·.2)).sum b).map (·.2)).sum ≤ imp ∧
      imp - ((allocFloors imp (b.map (·.2)).sum b).map (·.2)).sum < b.length := by
  have hb : 0 < b.length := List.length_pos_iff.2 fun h => by rw [h] at hs; exact absurd hs (by decide)
  generalize hsum : (b.map (·.2)).sum = sum at hs ⊢
  have hm : (b.map (fun x => imp * x.2)).sum = sum * imp := by
    rw [sum_mul_left, hsum, Nat.mul_comm]
  have hf : (allocFloors imp sum b).map (·.2) = (b.map (fun x => imp * x.2)).map (· / sum) := by
    simp only [allocFloors, List.map_map, Function.comp_def]
  have hd := sum_div_add_sum_mod sum (b.map (fun x => imp * x.2))
  have hr := sum_mod_add_length_le hs (b.map (fun x => imp * x.2))
  rw [hm, ← hf] at hd
  rw [List.length_map] at hr
  generalize ((allocFloors imp sum b).map (·.2)).sum = fl at *
  constructor
  · exact Nat.le_of_mul_le_mul_left (by omega) hs
  · refine Nat.lt_of_mul_lt_mul_left (a := sum) ?_
    rw [Nat.mul_sub]
    omega

/-- Raising adds one for each entry that is raised. -/
theorem sum_allocRaise (more : List Nat) (l : List (Nat × Nat)) :
    ((allocRaise more l).map (·.2)).sum = (l.map (·.2)).sum + (l.map (·.1)).countP more.contains := by
  induction l with
  | nil => rfl
  | cons x r ih =>
    simp only [allocRaise, List.map_cons, List.sum_cons, List.countP_cons] at ih ⊢
    rw [ih]
    split <;> omega

/-- Of entries named once each, as many are among the first n of an order of them as n says. -/
theorem countP_contains_take {l o : List Nat} (hp : o.Perm l) (hn : l.Nodup) {n : Nat} (hl : n ≤ l.length) :
    l.countP (o.take n).contains = n := by
  have ho : o.Nodup := hp.nodup_iff.2 hn
  rw [← List.take_append_drop n o, List.nodup_append] at ho
  obtain ⟨-, -, hd⟩ := ho
  have ht : (o.take n).countP (o.take n).contains = (o.take n).length :=
    List.countP_eq_length.2 fun x hx => List.contains_iff_mem.2 hx
  have hz : (o.drop n).countP (o.take n).contains = 0 :=
    List.countP_eq_zero.2 fun x hx h => hd x (List.contains_iff_mem.1 h) x hx rfl
  calc l.countP (o.take n).contains
      = (o.take n ++ o.drop n).countP (o.take n).contains := by rw [List.take_append_drop, hp.countP_eq]
    _ = n := by rw [List.countP_append, ht, hz, List.length_take, hp.length_eq]; omega

/-- The parts sum to the energy. -/
theorem sum_allocate (imp : Nat) {l : List (Nat × Nat)} (h : l ≠ []) (hn : (l.map (·.1)).Nodup) :
    ((State.allocate imp l).map (·.2)).sum = imp := by
  obtain ⟨hle, hlt⟩ := allocFloors_short (imp := imp) (sum_allocBases_pos h)
  rw [allocate_eq]
  dsimp only
  generalize ((allocBases l).map (·.2)).sum = sum at *
  rw [← keys_allocBases] at hn
  have hp : (allocOrder imp sum (allocBases l)).Perm ((allocBases l).map (·.1)) := (sortBy_perm _ _).map _
  rw [sum_allocRaise, keys_allocFloors, countP_contains_take hp hn (by rw [List.length_map]; omega)]
  omega

end Sys2Proof.Proofs
end

section
/-! PROOF. The close of a metering interval: bases, residual, record and allocation table (R398 to R408). -/

namespace Sys2Proof.Proofs
open Sys2Proof Sys2Proof.Machine Sys2Proof.Laws

/-! ## The feeders' interval state -/

theorem nth_modAt {α : Type} (d : α) {l : List α} {k : Nat} (hk : k < l.length) (g : α → α) (j : Nat) :
    nth d (modAt l k g) j = if j = k then g (nth d l k) else nth d l j := by
  simp only [nth, modAt_eq_modify, List.getElem?_modify]
  by_cases h : j = k
  · subst h
    simp [List.getElem?_eq_getElem hk]
  · simp [h, Ne.symm h]

theorem modAt_id {α : Type} (l : List α) (k : Nat) : modAt l k id = l := by
  rw [modAt_eq_modify, List.modify_id]

theorem modAt_modAt {α : Type} (l : List α) (k : Nat) (g h : α → α) : modAt (modAt l k g) k h = modAt l k (h ∘ g) := by
  simp only [modAt_eq_modify, List.modify_modify_eq]

/-! ## Writes to memory alone -/

theorem setLt_mem_only (s : State) (n off size v : Nat) :
    s.setLt n off size v = { s with mem := (s.setLt n off size v).mem } := by
  unfold State.setLt
  split
  · exact setBytes_mem_only ..
  · rfl

/-- A field of an entry that is written lies in the table. -/
theorem byte_setLt_outside {s : State} {x : Nat} (hx : s.inLtable x = false) {n off size : Nat} (ho : off + size ≤ 384)
    (v : Nat) : (s.setLt n off size v).byte x = s.byte x := by
  unfold State.setLt
  split
  · refine byte_setBytes_out _ _ _ _ ?_
    simp only [State.inLtable, decide_eq_false_iff_not] at hx
    rw [length_leBytes, State.ltAddr]
    omega
  · rfl

theorem allocWrite_mem_only (l : List (Nat × Nat × Nat)) (s : State) :
    s.allocWrite l = { s with mem := (s.allocWrite l).mem } := by
  induction l generalizing s with
  | nil => rfl
  | cons x r ih =>
    rw [State.allocWrite, ih, setBytes_mem_only]

/-- The allocation table is written at its entries alone (R408). -/
theorem byte_allocWrite_outside {s : State} {n x : Nat} (l : List (Nat × Nat × Nat)) (hl : ∀ y ∈ l, y.1 < n)
    (hx : x < (s.cfg (reg wACC 0x184)).toNat ∨ (s.cfg (reg wACC 0x184)).toNat + 16 * n ≤ x) :
    (s.allocWrite l).byte x = s.byte x := by
  induction l generalizing s with
  | nil => rfl
  | cons y r ih =>
    have hy : y.1 < n := hl y (List.mem_cons_self ..)
    rw [State.allocWrite, ih (fun z hz => hl z (List.mem_cons_of_mem _ hz)) (by rw [setBytes_mem_only]; exact hx)]
    refine byte_setBytes_out _ _ _ _ ?_
    simp only [List.length_append, length_leBytes, State.cfgF, fld_word]
    omega

/-! ## Up to the record: bases, residual and reports (R400 to R405) -/

/-- A change of a feeder's interval state that leaves its latched closes and the record it shows. -/
def KeepsClose (g : FeedIv → FeedIv) : Prop := ∀ v, (g v).latched = v.latched ∧ (g v).shown = v.shown

/-- From s to t nothing of the accounts changes but the interval state of feeder f, its latched closes and the record
it shows aside, and what later bases start from; of memory, nothing but the table's entries. -/
structure Judged (f : Nat) (s t : State) : Prop where
  acc : ∃ g, KeepsClose g ∧
    t.acc = { s.acc with ivs := modAt s.acc.ivs f g, estSum := t.acc.estSum, snaps := t.acc.snaps }
  ltb : t.ltb = s.ltb
  cfg : t.regs.cfg = s.regs.cfg
  sys : t.sys = s.sys
  bytes : ∀ x, s.inLtable x = false → t.byte x = s.byte x

theorem Judged.trans {f : Nat} {s t u : State} (a : Judged f s t) (b : Judged f t u) : Judged f s u where
  acc := by
    obtain ⟨g, hg, ha⟩ := a.acc
    obtain ⟨h, hh, hb⟩ := b.acc
    refine ⟨h ∘ g, fun v => ?_, by rw [hb, ha, modAt_modAt]⟩
    obtain ⟨hl, hs⟩ := hg v
    obtain ⟨kl, ks⟩ := hh (g v)
    exact ⟨kl.trans hl, ks.trans hs⟩
  ltb := b.ltb.trans a.ltb
  cfg := b.cfg.trans a.cfg
  sys := b.sys.trans a.sys
  bytes x hx := (b.bytes x (by rw [State.inLtable, a.ltb]; exact hx)).trans (a.bytes x hx)

/-- A change outside the intervals. -/
theorem Judged.of_rest {f : Nat} {s t : State}
    (ha : t.acc = { s.acc with estSum := t.acc.estSum, snaps := t.acc.snaps }) (hl : t.ltb = s.ltb)
    (hc : t.regs.cfg = s.regs.cfg) (hs : t.sys = s.sys) (hb : ∀ x, s.inLtable x = false → t.byte x = s.byte x) :
    Judged f s t :=
  ⟨⟨id, fun _ => ⟨rfl, rfl⟩, by rw [modAt_id]; exact ha⟩, hl, hc, hs, hb⟩

theorem Judged.refl (f : Nat) (s : State) : Judged f s s := .of_rest rfl rfl rfl rfl fun _ _ => rfl

theorem Judged.report {f : Nat} {s t u : State} {p : Prop} [Decidable p] (h : Judged f s t) (k : Judged f t u) :
    Judged f s (if p then u else t) := by
  split
  · exact h.trans k
  · exact h

theorem judged_setIv {g : FeedIv → FeedIv} (hg : KeepsClose g) (f : Nat) (s : State) : Judged f s (s.setIv f g) :=
  ⟨⟨g, hg, rfl⟩, rfl, rfl, rfl, fun _ _ => rfl⟩

theorem judged_postBit (f : Nat) (s : State) (i : Nat) : Judged f s (s.postBit wACC i) :=
  .of_rest (by rw [postBit_acc]) (postBit_ltb ..) (postBit_regs_cfg ..) (postBit_sys ..) fun _ _ => postBit_byte ..

theorem judged_postEvent (f : Nat) (s : State) (i : Nat) (l : List (List Byte)) : Judged f s (s.postEvent wACC i l) :=
  .of_rest (by rw [postEvent_acc]) (postEvent_ltb ..) (postEvent_regs_cfg ..) (postEvent_sys ..)
    fun _ _ => postEvent_byte ..

theorem judged_basisNote (f : Nat) (s : State) (n : Nat) (b : Nat × Bool) : Judged f s (s.basisNote n b) := by
  unfold State.basisNote
  split
  · exact .refl f s
  · dsimp only
    refine .of_rest ?_ ?_ ?_ ?_ fun x hx => ?_
    · rw [setLt_mem_only]
    · rw [setLt_mem_only]
    · rw [setLt_mem_only]
    · rw [setLt_mem_only]
    · rw [byte_setLt_outside (by exact hx) (by decide)]
      rfl

theorem judged_basisNotes (f : Nat) (l : List (Nat × Nat × Bool)) (s : State) : Judged f s (s.basisNotes l) := by
  induction l generalizing s with
  | nil => exact .refl f s
  | cons x r ih => exact (judged_basisNote f s x.1 x.2).trans (ih _)

/-- The judging of a residual changes the exceed count and the alarm of the feeder, and may report it (R403). -/
theorem judged_resJudge (s : State) (f recno : Nat) (residual : Int) (bound : Rat) (count : Nat) :
    Judged f s (s.resJudge f recno residual bound count).1 := by
  unfold State.resJudge
  dsimp only
  split <;> split
  · refine .trans (judged_setIv ?_ f s) (judged_postEvent ..)
    exact fun _ => ⟨rfl, rfl⟩
  · refine judged_setIv ?_ f s
    exact fun _ => ⟨rfl, rfl⟩
  · refine .trans (judged_setIv ?_ f s) (judged_postEvent ..)
    exact fun _ => ⟨rfl, rfl⟩
  · refine judged_setIv ?_ f s
    exact fun _ => ⟨rfl, rfl⟩

/-! ## The record and the allocation table (R398 to R400, R408) -/

/-- A feeder's oldest latched close is taken, with what its record shows of the accounts. -/
def ivTaken (v : FeedIv) : FeedIv := { v with latched := v.latched.drop 1, qchange := false, restored := false }

/-- The energy is divided, and the record rc of feeder f and number n stands in the ring (R399, R408). -/
def recorded (s : State) (f n : Nat) (rc : IvRec) (ids : List Nat) (al : List (Nat × Nat)) : State :=
  let g := (s.totalsAdd al).totalsCopy f n ids
  { g with acc := { g.acc with ring := tabSet g.acc.ring (2048 * f + n % 2048) rc } }

/-- The allocation table takes the entries of l, or ALLOCBASE is reported (R408). -/
def tableWritten (s : State) (l : List (Nat × Nat × Nat)) : State :=
  if s.allocOk then s.allocWrite l else s.postBit wACC 11

/-- The record of a number is shown, and INTERVAL is set (R398, R417). -/
def recordShown (s : State) (f recno : Nat) (shown : Bool) : State :=
  ((s.setIv f (fun v => { v with recno := recno, shown := if shown then recno else v.shown })).fresh).postBit wACC 2

/-- What the close does from the record on. -/
def recordClose (s : State) (f n : Nat) (rc : IvRec) (ids : List Nat) (al : List (Nat × Nat))
    (l : List (Nat × Nat × Nat)) : State :=
  recordShown (tableWritten (recorded s f n rc ids al) l) f n (recorded s f n rc ids al).allocOk

/-- An event bit of ACC_STATUS that is posted is raised (R94, R95). -/
theorem raised_postBit_acc {s : State} {i : Nat} (hi : i < 12) : (s.postBit wACC i).raised (reg wACC 0) i := by
  have h : ∀ j : Fin 12, (2 ^ (j : Nat) % 2 ^ 24 &&& statMask (reg wACC 0)).testBit j = true := by decide
  exact raised_postBit (h ⟨i, hi⟩)

section
variable (s : State) (f n : Nat) (rc : IvRec) (ids : List Nat) (al : List (Nat × Nat))

theorem recorded_stat : (recorded s f n rc ids al).regs.stat = s.regs.stat := rfl

theorem recorded_cfg (a : Nat) : (recorded s f n rc ids al).cfg a = s.cfg a := rfl

theorem recorded_byte (x : Nat) : (recorded s f n rc ids al).byte x = s.byte x := rfl

theorem recorded_acc :
    (recorded s f n rc ids al).acc = { s.acc with
      totals := (s.totalsAdd al).acc.totals, copies := (recorded s f n rc ids al).acc.copies,
      ring := tabSet s.acc.ring (2048 * f + n % 2048) rc } := rfl

theorem recorded_allocOk : (recorded s f n rc ids al).allocOk = s.allocOk := rfl

end

theorem tableWritten_acc (s : State) (l : List (Nat × Nat × Nat)) : (tableWritten s l).acc = s.acc := by
  unfold tableWritten
  split
  · rw [allocWrite_mem_only]
  · exact postBit_acc ..

theorem byte_tableWritten {s : State} {n x : Nat} {l : List (Nat × Nat × Nat)} (hl : ∀ y ∈ l, y.1 < n)
    (hx : x < (s.cfg (reg wACC 0x184)).toNat ∨ (s.cfg (reg wACC 0x184)).toNat + 16 * n ≤ x) :
    (tableWritten s l).byte x = s.byte x := by
  unfold tableWritten
  split
  · exact byte_allocWrite_outside l hl hx
  · exact postBit_byte ..

theorem raised_tableWritten {s : State} {a i : Nat} (h : s.raised a i) (l : List (Nat × Nat × Nat)) :
    (tableWritten s l).raised a i := by
  unfold tableWritten
  split
  · rw [allocWrite_mem_only]; exact h
  · exact raised_postBit_of h

theorem raised_tableWritten_base {s : State} (h : s.allocOk = false) (l : List (Nat × Nat × Nat)) :
    (tableWritten s l).raised (reg wACC 0) 11 := by
  rw [tableWritten, h]
  exact raised_postBit_acc (by decide)

theorem recordShown_acc (s : State) (f recno : Nat) (shown : Bool) :
    (recordShown s f recno shown).acc = { s.acc with
      ivs := modAt s.acc.ivs f (fun v => { v with recno := recno, shown := if shown then recno else v.shown }) } :=
  postBit_acc ..

theorem byte_recordShown (s : State) (f recno : Nat) (shown : Bool) (x : Nat) :
    (recordShown s f recno shown).byte x = s.byte x := postBit_byte ..

theorem raised_recordShown {s : State} {a i : Nat} (h : s.raised a i) (f recno : Nat) (shown : Bool) :
    (recordShown s f recno shown).raised a i := by
  refine raised_postBit_of ?_
  exact (raised_of_stat rfl a i).2 h

theorem raised_recordShown_interval (s : State) (f recno : Nat) (shown : Bool) :
    (recordShown s f recno shown).raised (reg wACC 0) 2 := raised_postBit_acc (by decide)

/-- The number of a feeder's next record (R398). -/
def nextRecno (s : State) (f : Nat) : Nat := ((s.feedIv f).recno + 1) % 2 ^ 32

/-- A close is taken from the queue, its bases and its residual change what `Judged` says, and its record stands. -/
theorem ivWrite_records (s : State) (f : Nat) (c : IvClose) :
    ∃ t rc al l, s.ivWrite f c = recordClose t f (nextRecno s f) rc (s.eligibleEntries f) al l ∧ Judged f (s.setIv f ivTaken) t ∧
      (rc.recno, rc.feeder, rc.startRaw, rc.endRaw, rc.cycles, rc.imp, rc.exp_) =
        (nextRecno s f, f, c.startRaw, c.endRaw, c.cycles, nth 0 c.diff 0, nth 0 c.diff 1) ∧
      (s.eligibleEntries f = [] → t.raised (reg wACC 0) 3 ∧ al = []) ∧ ∀ y ∈ l, y.1 ∈ s.eligibleEntries f := by
  refine ⟨_, _, _, _, rfl, ?judged, rfl, fun h => ⟨?raised, if_pos h⟩, ?keys⟩
  case judged =>
    refine .report (.report ?_ (judged_postEvent ..)) (judged_postBit ..)
    split
    · exact (judged_basisNotes ..).trans (judged_resJudge ..)
    · exact judged_basisNotes ..
  case raised =>
    rw [if_pos h]
    exact raised_postBit_acc (by decide)
  case keys =>
    intro y hy
    obtain ⟨p, hp, rfl⟩ := List.mem_map.1 hy
    split at hp
    · simp at hp
    · have hk := List.mem_map_of_mem (f := (·.1)) (List.of_mem_zip hp).1
      rw [keys_allocate, List.map_map, List.map_map] at hk
      simpa using hk

/-! ## What a close that is written does (R398, R400, R408) -/

theorem recordClose_acc (s : State) (f n : Nat) (rc : IvRec) (ids : List Nat) (al : List (Nat × Nat))
    (l : List (Nat × Nat × Nat)) :
    (recordClose s f n rc ids al l).acc = { s.acc with
      totals := (s.totalsAdd al).acc.totals, copies := (recorded s f n rc ids al).acc.copies,
      ring := tabSet s.acc.ring (2048 * f + n % 2048) rc,
      ivs := modAt s.acc.ivs f (fun v => { v with recno := n, shown := if s.allocOk then n else v.shown }) } := by
  rw [recordClose, recordShown_acc, tableWritten_acc, recorded_acc, recorded_allocOk]

theorem allocOk_congr {s t : State} (hc : t.regs.cfg = s.regs.cfg) (hs : t.sys = s.sys) (hl : t.ltb = s.ltb) :
    t.allocOk = s.allocOk := by
  have hb : t.cfgF wACC 0x184 31 0 = s.cfgF wACC 0x184 31 0 := congrArg (fld · 31 0) (cfg_congr hc hs _)
  rw [State.allocOk, State.allocOk, hb, hl]

theorem eligible_lt_count {s : State} {f n : Nat} (h : n ∈ s.eligibleEntries f) : n < s.ltb.count :=
  List.mem_range.1 (List.mem_filter.1 h).1

section
variable {s : State} {f : Nat} {c : IvClose}

theorem ivWrite_acc (hf : f < s.acc.ivs.length) :
    let t := s.ivWrite f c
    let n := nextRecno s f
    t.acc.accs = s.acc.accs ∧ t.acc.vis = s.acc.vis ∧ (∀ j, j ≠ f → t.feedIv j = s.feedIv j) ∧
      (t.feedIv f).latched = (s.feedIv f).latched.drop 1 ∧ (t.feedIv f).recno = n ∧
      (t.feedIv f).shown = (if s.allocOk then n else (s.feedIv f).shown) ∧
      (tabGet t.acc.ring (2048 * f + n % 2048)).map
          (fun x => (x.recno, x.feeder, x.startRaw, x.endRaw, x.cycles, x.imp, x.exp_)) =
        some (n, f, c.startRaw, c.endRaw, c.cycles, nth 0 c.diff 0, nth 0 c.diff 1) ∧
      (∀ k, k ≠ 2048 * f + n % 2048 → tabGet t.acc.ring k = tabGet s.acc.ring k) ∧
      (s.eligibleEntries f = [] → t.acc.totals = s.acc.totals) := by
  obtain ⟨t, rc, al, l, he, hj, hrc, hnone, -⟩ := ivWrite_records s f c
  obtain ⟨g, hg, ha⟩ := hj.acc
  have hok : t.allocOk = s.allocOk := allocOk_congr hj.cfg hj.sys hj.ltb
  have hacc := recordClose_acc t f (nextRecno s f) rc (s.eligibleEntries f) al l
  rw [← he, hok] at hacc
  generalize s.ivWrite f c = u at hacc ⊢
  have hivs : t.acc.ivs = modAt s.acc.ivs f (g ∘ ivTaken) := by rw [ha]; exact modAt_modAt ..
  obtain ⟨hlat, hshown⟩ := hg (ivTaken (s.feedIv f))
  have hown : u.feedIv f = { g (ivTaken (s.feedIv f)) with
      recno := nextRecno s f, shown := if s.allocOk then nextRecno s f else (g (ivTaken (s.feedIv f))).shown } := by
    simp only [State.feedIv, hacc, hivs, modAt_modAt, nth_modAt _ hf, if_true, Function.comp_apply]
  refine ⟨?_, ?_, fun j hj => ?_, ?_, ?_, ?_, ?_, fun k hk => ?_, fun h => ?_⟩
  · rw [hacc, ha]; rfl
  · rw [hacc, ha]; rfl
  · simp only [State.feedIv, hacc, hivs, modAt_modAt, nth_modAt _ hf, if_neg hj]
  · rw [hown]; exact hlat
  · rw [hown]
  · rw [hown, hshown]; rfl
  · rw [hacc, tabGet_tabSet, if_pos rfl]; exact congrArg some hrc
  · rw [hacc, tabGet_tabSet, if_neg hk, ha]; rfl
  · obtain ⟨-, rfl⟩ := hnone h
    have htotals := congrArg AccUnit.totals ha
    rw [hacc]
    exact htotals

theorem raised_ivWrite (s : State) (f : Nat) (c : IvClose) :
    let t := s.ivWrite f c
    t.raised (reg wACC 0) 2 ∧ (s.allocOk = false → t.raised (reg wACC 0) 11) ∧
      (s.eligibleEntries f = [] → t.raised (reg wACC 0) 3) := by
  obtain ⟨t, rc, al, l, he, hj, -, hnone, -⟩ := ivWrite_records s f c
  have hok : t.allocOk = s.allocOk := allocOk_congr hj.cfg hj.sys hj.ltb
  rw [he, recordClose]
  refine ⟨raised_recordShown_interval .., fun h => ?_, fun h => ?_⟩
  · exact raised_recordShown (raised_tableWritten_base ((recorded_allocOk ..).trans (hok.trans h)) l) ..
  · obtain ⟨ht, -⟩ := hnone h
    refine raised_recordShown (raised_tableWritten ?_ l) ..
    exact (raised_of_stat (recorded_stat ..) _ _).2 ht

/-- Memory changes in the table's entries and in the allocation table alone. -/
theorem byte_ivWrite {x : Nat} (hx : s.inLtable x = false)
    (ho : x < (s.cfg (reg wACC 0x184)).toNat ∨ (s.cfg (reg wACC 0x184)).toNat + 16 * s.ltb.count ≤ x) :
    (s.ivWrite f c).byte x = s.byte x := by
  obtain ⟨t, rc, al, l, he, hj, -, -, hl⟩ := ivWrite_records s f c
  have hcfg : t.cfg (reg wACC 0x184) = s.cfg (reg wACC 0x184) := cfg_congr hj.cfg hj.sys _
  calc (s.ivWrite f c).byte x
      = (tableWritten (recorded t f _ rc _ al) l).byte x := by rw [he, recordClose, byte_recordShown]
    _ = (recorded t f _ rc _ al).byte x :=
        byte_tableWritten (fun y hy => eligible_lt_count (hl y hy)) (by rw [recorded_cfg, hcfg]; exact ho)
    _ = t.byte x := recorded_byte ..
    _ = s.byte x := hj.bytes x hx

/-- A close that is latched is written, while the link is up and no lower feeder's close of the moment waits (R400). -/
theorem ivClose_writes {r : List IvClose} (hl : s.mtr.linkDown = false) (hc : (s.feedIv f).latched = c :: r)
    (hg : s.closeGroup.head? = some f) : s.ivClose f = s.ivWrite f c := by
  simp only [State.ivClose, hl, hg, hc, Bool.false_eq_true, ne_eq, not_true_eq_false, or_self, if_false]

theorem ivClose_waits (h : s.mtr.linkDown = true ∨ (s.feedIv f).latched = [] ∨ s.closeGroup.head? ≠ some f) :
    s.ivClose f = s := by
  unfold State.ivClose
  split
  · rfl
  · rename_i hn
    obtain h | h | h := h
    · exact absurd (.inl h) hn
    · rw [h]
    · exact absurd (.inr h) hn

end

/-- An occurrence in a block that acts on nothing leaves a module with its supply as it is, whether or not the block
works. -/
theorem occurIn_idle {s : State} {dt w : Nat} {k : State → State} (hp : s.powered = true)
    (hk : k (s.after dt) = s.after dt) : s.occurIn dt w k = s.after dt := by
  rw [State.occurIn, occur_powered hp]
  split
  · exact hk
  · rfl

/-- Settles O44: a close that runs is one write of the oldest latched close, which the lemmas above follow from its
bases to its record; the division gives out by remainder what the floors leave, less than one µWh for each entry. -/
theorem intervalsAndAllocation : Obligations.IntervalsAndAllocation := by
  refine ⟨fun f c r hf => comp_occurIn (fun _ _ => rfl) (fun _ h => h.1) ?written, fun f => ?waits,
    fun imp b hb hn => ⟨keys_allocate imp b, sum_allocate imp hb hn⟩⟩
  case written =>
    rintro s - ⟨-, hlink, hlen, hlat, hgroup⟩
    obtain ⟨haccs, hvis, hothers, hrest, hrecno, hshown, hring, hrings, htotals⟩ :=
      ivWrite_acc (s := s) (c := c) (Nat.lt_of_lt_of_eq hf hlen.symm)
    obtain ⟨hinterval, hbase, hnone⟩ := raised_ivWrite s f c
    have hfr := frame_ivWrite (L := [.acc, .evr, .free, .mem]) f c (frame_refl s) (List.Subset.refl _)
      (.inr (List.Subset.refl _))
    rw [ivClose_writes hlink hlat hgroup]
    refine ⟨⟨?_, hrecno, hinterval, hshown, hbase, hring, hrings, haccs, hvis, hothers,
      fun h => ⟨hnone h, htotals h⟩, ?_, fun x hx ho => byte_ivWrite hx ho⟩,
      frame_mono hfr (by decide) (List.Subset.refl _)⟩
    · rw [hrest, hlat]; rfl
    · rw [show (s.ivWrite f c).mst = s.mst from hfr.parts .mst (by decide) (by decide)]
  case waits =>
    intro dt s hp h
    exact ⟨_, congrArg Host.Outcome.next (occurIn_idle hp (ivClose_waits h)), rfl, frame_refl _⟩

end Sys2Proof.Proofs
end

section
/-! PROOF. The registers, slots and pulse outputs of the accounts (R386, R387, R411, R414, R416). -/

namespace Sys2Proof.Proofs
open Sys2Proof Sys2Proof.Machine Sys2Proof.Laws

/-! ## Pulse outputs (R411, R414) -/

theorem pulse_setPulse {s : State} {n : Nat} (hn : n < s.acc.pulses.length) (g : PulseOut → PulseOut) (j : Nat) :
    (s.setPulse n g).pulse j = if j = n then g (s.pulse n) else s.pulse j := nth_modAt _ hn g j

/-- A pulse output with pending pulses that may start emits one. -/
theorem pulseStart_emits {s : State} {n : Nat} (hp : 0 < (s.pulse n).pending) (ht : (s.pulse n).next ≤ s.raw) :
    s.pulseStart n = s.setPulse n (fun x => { x with
      pending := x.pending - 1, width := s.pulseWidth n, until_ := some (s.raw + s.pulseWidth n * 20000),
      next := s.raw + 2 * s.pulseWidth n * 20000 }) := if_pos ⟨hp, ht⟩

/-- The mark of a pulse output rebased, and its pending pulses discarded. -/
def rebased (s : State) (n : Nat) (x : PulseOut) : PulseOut :=
  { x with mark := if s.pulseWeight n = 0 then 0 else s.pulseValue n / s.pulseWeight n, pending := 0 }

theorem pulseRebase_eq (s : State) (n : Nat) : s.pulseRebase n = s.setPulse n (rebased s n) := by
  simp only [State.pulseRebase, State.pulseMark, State.setPulse, modAt_modAt]
  rfl

/-! ## Writes while the seal is not set (R387, R414) -/

/-- The quantum's code is stored as it is written. -/
theorem fld_quantum (v : Word) : fld (v &&& 0x00FF3F07) 2 0 = fld v 2 0 := by
  simp only [fld, BitVec.toNat_and, Nat.shiftRight_zero, Nat.and_mod_two_pow]
  exact Nat.and_two_pow_sub_one_of_lt_two_pow (n := 3) (Nat.mod_lt _ (by decide))

theorem qcode_setCfg (s : State) (v : Word) :
    (s.setCfg (reg wACC 0x004) (v &&& 0x00FF3F07)).qcode = fld v 2 0 := by
  rw [State.qcode, State.cfgF, cfg_setCfg, if_pos rfl, fld_quantum]

/-- The access is answered, and the register at an address holds a word. -/
def accStored (s : State) (a : Nat) (v : Word) : State := (s.answer 0 false).setCfg a v

theorem accStored_acc (s : State) (a : Nat) (v : Word) : (accStored s a v).acc = s.acc := rfl

theorem accStored_stores (s : State) (a : Nat) (v : Word) : s.stores (accStored s a v) a v := stores_setCfg a v rfl rfl

theorem raised_accStored (s : State) (a : Nat) (v : Word) (b i : Nat) :
    (accStored s a v).raised b i ↔ s.raised b i := raised_of_stat rfl b i

theorem accStored_frame (s : State) (a : Nat) (v : Word) : Frame [.cfg, .reply] [] s (accStored s a v) :=
  frame_setCfg _ _ (frame_answer _ _ (frame_refl s) (by decide)) (by decide)

section
variable {s : State} (m a : Nat) (v : Word)

theorem accCfgSet_same (h0 : s.sealed = false) (hq : fld v 2 0 = s.qcode) :
    (s.answer 0 false).accCfgSet m a v = accStored s (reg wACC 0x004) (v &&& 0x00FF3F07) := by
  have hs : (s.answer 0 false).sealed = false := h0
  have hq' : (s.answer 0 false).qcode = fld v 2 0 := hq.symm
  simp only [State.accCfgSet, hs, qcode_setCfg, hq', Bool.false_eq_true, ne_eq, not_true_eq_false, if_false]
  rfl

/-- The next record of each feeder is to show QCHANGE (R387). -/
def quantumMarked (s : State) : State :=
  { s with acc := { s.acc with ivs := s.acc.ivs.map (fun (x : FeedIv) => { x with qchange := true }) } }

theorem accCfgSet_changed (h0 : s.sealed = false) (hq : fld v 2 0 ≠ s.qcode) :
    (s.answer 0 false).accCfgSet m a v =
      (quantumMarked (accStored s (reg wACC 0x004) (v &&& 0x00FF3F07))).postBit wACC 9 := by
  have hs : (s.answer 0 false).sealed = false := h0
  have hq' : fld v 2 0 ≠ (s.answer 0 false).qcode := hq
  simp only [State.accCfgSet, hs, qcode_setCfg, hq', Bool.false_eq_true, ne_eq, not_false_eq_true, if_false, if_true]
  rfl

/-- The word written gives a pulse output another source or weight (R414). -/
abbrev pulseDiffers (s : State) (n : Nat) (v : Word) : Prop :=
  fld v 31 28 ≠ fld (s.cfg (reg wACC (0x010 + 4 * n))) 31 28 ∨ fld v 15 0 ≠ fld (s.cfg (reg wACC (0x010 + 4 * n))) 15 0

theorem accPulseSet_open (n : Nat) (h0 : s.sealed = false) :
    (s.answer 0 false).accPulseSet m a n v =
      let t := accStored s (reg wACC (0x010 + 4 * n)) (v &&& 0xF0FFFFFF)
      if pulseDiffers s n v then t.setPulse n (rebased t n) else t := by
  have hs : (s.answer 0 false).sealed = false := h0
  simp only [State.accPulseSet, hs, Bool.false_eq_true, if_false, pulseRebase_eq]
  rfl

end

/-! ## Writes while the seal is set (R109, R416) -/

/-- A refused write of a register of the accounts sets LOCKED_WRITE of ACC_STATUS. -/
theorem lockedBit_acc {k : Nat} (hk : k < 8) : State.lockedBit (firstAddr (reg wACC (4 * k))) = (reg wACC 0, 0) := by
  have h : ∀ j : Fin 8, State.lockedBit (firstAddr (reg wACC (4 * j))) = (reg wACC 0, 0) := by decide
  exact h ⟨k, hk⟩

section
variable (s : State) (m a : Nat) (v : Word)

theorem cfg_lockedWrite (b : Nat) : (s.lockedWrite m a v false).cfg b = s.cfg b := by
  rw [← cfg_refreshCfg s (firstAddr a) b]
  exact cfg_congr (by rw [State.lockedWrite]; simp) (by rw [State.lockedWrite]; simp) b

variable {a}

theorem raised_lockedWrite_acc (ha : State.lockedBit (firstAddr a) = (reg wACC 0, 0)) :
    (s.lockedWrite m a v false).raised (reg wACC 0) 0 := by
  simp only [State.lockedWrite, ha, Bool.false_eq_true, if_false]
  exact raised_event (raised_postBit_acc (by decide))

/-- What a refused write of a register of the accounts does: LOCKED_WRITE and its event, and no register's value. -/
theorem lockedWrite_refuses (ha : State.lockedBit (firstAddr a) = (reg wACC 0, 0)) :
    let t := (s.answer 0 false).lockedWrite m a v false
    (t.raised (reg wACC 0) 0 ∧ ∀ b, t.cfg b = s.cfg b) ∧ Frame [.cfg, .evr, .reply] [(reg wACC 0, 0)] s t := by
  refine ⟨⟨raised_lockedWrite_acc _ m v ha, cfg_lockedWrite _ m a v⟩, ?_⟩
  simp only [State.lockedWrite, ha, Bool.false_eq_true, if_false]
  have hr : Frame [.cfg, .evr, .reply] [(reg wACC 0, 0)] s ((s.answer 0 false).refreshCfg (firstAddr a)) :=
    frame_refreshCfg _ (frame_answer _ _ (frame_refl s) (by decide)) (by decide)
  exact frame_event _ _ _ (frame_postBit wACC 0 hr (by decide) (.inr (by decide))) (by decide)

theorem accCfgSet_sealed {s : State} (h : s.sealed = true) (m a : Nat) (v : Word) :
    (s.answer 0 false).accCfgSet m a v = (s.answer 0 false).lockedWrite m a v false := if_pos h

theorem accPulseSet_sealed {s : State} (h : s.sealed = true) (m a n : Nat) (v : Word) :
    (s.answer 0 false).accPulseSet m a n v = (s.answer 0 false).lockedWrite m a v false := if_pos h

end

/-! ## Reads of a slot (R386, R415) -/

theorem slotRead_present {s : State} {f e k : Nat} (h : e = 0 ∨ k < 6) :
    s.slotRead f e k =
      ({ s with acc := { s.acc with slots := tabSet s.acc.slots (State.accKey f e k) (s.slotNow f e k) } } : State).answer
        (BitVec.ofNat 32 (half64 false (s.accVis f e k))) false := by
  have hn : State.slotAbsent e k = false := by
    simp only [State.slotAbsent, Bool.and_eq_false_iff, bne_eq_false_iff_eq, decide_eq_false_iff_not, Nat.not_le]
    exact h
  rw [State.slotRead, hn]
  rfl

theorem slotRead_absent {s : State} {f e k : Nat} (he : e ≠ 0) (hk : 6 ≤ k) : s.slotRead f e k = s.answer 0 false := by
  have hn : State.slotAbsent e k = true := by
    simp only [State.slotAbsent, Bool.and_eq_true, bne_iff_ne, decide_eq_true_eq]
    exact ⟨he, hk⟩
  rw [State.slotRead, hn]
  rfl

/-- A read latches the upper half of the visible value, its count and its wraps. -/
theorem slotNow_eq (s : State) (f e k : Nat) : s.slotNow f e k =
    { hi := BitVec.ofNat 32 (s.accVis f e k / 2 ^ 32),
      count := BitVec.ofNat 32 (State.countOf (quantumUWh s.qcode) (s.accVis f e k)),
      wrap := State.wrapWord s.qcode (s.accVis f e k), fresh := true } := by
  have h : BitVec.ofNat 32 (half64 true (s.accVis f e k)) = BitVec.ofNat 32 (s.accVis f e k / 2 ^ 32) :=
    BitVec.eq_of_toNat_eq (by simp [half64])
  rw [State.slotNow, h]

/-! ## The obligation -/

/-- Settles O45: each row is an access or an occurrence. What a write does is read from the seal and from the fields in
which the new word differs; a pulse and a rebase change one output of the list. -/
theorem accountsCommands : Obligations.AccountsCommands := by
  refine ⟨fun n hn => comp_occurIn (fun _ _ => rfl) (fun _ h => h.1) ?emit,
    fun m v => comp_access (fun _ _ => rfl) (fun _ h => h.1) ?cfg,
    fun m n v hn => comp_access (fun _ _ => rfl) (fun _ h => h.1) ?pulse,
    fun m n v x hn => ?locked,
    fun m f e k h => comp_access (fun _ _ => rfl) (fun _ h => h) ?slot,
    fun m f e k h => comp_access (fun _ _ => rfl) (fun _ h => h) ?absent⟩
  case emit =>
    rintro s - ⟨-, hlen, hp, ht⟩
    have hl : n < s.acc.pulses.length := Nat.lt_of_lt_of_eq hn hlen.symm
    rw [pulseStart_emits hp ht]
    refine ⟨⟨?_, fun j hj => ?_, rfl⟩, frame_setPulse _ _ (frame_refl s) (by decide)⟩
    · rw [pulse_setPulse hl, if_pos rfl]
    · rw [pulse_setPulse hl, if_neg hj]
  case cfg =>
    rintro s - ⟨-, hseal⟩
    have hs := accStored_stores s (reg wACC 0x004) (v &&& 0x00FF3F07)
    have hf : Frame [.acc, .cfg, .evr, .reply] [(reg wACC 0, 9)] s (accStored s (reg wACC 0x004) (v &&& 0x00FF3F07)) :=
      frame_mono (accStored_frame ..) (by decide) (by decide)
    by_cases hq : fld v 2 0 = s.qcode
    · rw [accCfgSet_same m _ v hseal hq]
      exact ⟨⟨hs, fun _ => ⟨rfl, raised_accStored ..⟩, fun h => absurd hq h⟩, hf⟩
    · rw [accCfgSet_changed m _ v hseal hq]
      refine ⟨⟨?_, fun h => absurd h hq, fun _ => ⟨raised_postBit_acc (by decide), ?_, ?_⟩⟩, ?_⟩
      · exact stores_of hs (postBit_regs_cfg ..) (by rw [postBit_sys]; rfl)
      · rw [postBit_acc]
        exact fun x hx => by obtain ⟨y, -, rfl⟩ := List.mem_map.1 hx; rfl
      · rw [postBit_acc]; rfl
      · exact frame_postBit _ _ (fset_acc hf (by decide)) (by decide) (.inr (by decide))
  case pulse =>
    rintro s - ⟨-, hseal, hlen⟩
    have hs := accStored_stores s (reg wACC (0x010 + 4 * n)) (v &&& 0xF0FFFFFF)
    have hf : Frame [.acc, .cfg, .reply] [] s (accStored s (reg wACC (0x010 + 4 * n)) (v &&& 0xF0FFFFFF)) :=
      frame_mono (accStored_frame ..) (by decide) (List.nil_subset _)
    have ha := accStored_acc s (reg wACC (0x010 + 4 * n)) (v &&& 0xF0FFFFFF)
    rw [accPulseSet_open m _ v n hseal]
    generalize accStored s (reg wACC (0x010 + 4 * n)) (v &&& 0xF0FFFFFF) = t at *
    have hl : n < t.acc.pulses.length := by rw [ha]; exact Nat.lt_of_lt_of_eq hn hlen.symm
    have hp : ∀ j, t.pulse j = s.pulse j := fun j => by rw [State.pulse, State.pulse, ha]
    dsimp only
    by_cases hd : pulseDiffers s n v
    · rw [if_pos hd, if_pos hd]
      refine ⟨⟨stores_of hs rfl rfl, fun j hj => ?_, by rw [← ha]; rfl, ?_⟩, frame_setPulse _ _ hf (by decide)⟩
      · rw [pulse_setPulse hl, if_neg hj, hp]
      · rw [pulse_setPulse hl, if_pos rfl, hp]; rfl
    · rw [if_neg hd, if_neg hd]
      exact ⟨⟨hs, fun j _ => hp j, by rw [ha], hp n⟩, hf⟩
  case locked =>
    cases x with
    | true =>
      refine comp_access (fun _ _ => rfl) (fun _ h => h.1) ?_
      rintro s - ⟨-, hseal⟩
      rw [accCfgSet_sealed hseal]
      exact lockedWrite_refuses s m v (lockedBit_acc (k := 1) (by decide))
    | false =>
      refine comp_access (fun _ _ => rfl) (fun _ h => h.1) ?_
      rintro s - ⟨-, hseal⟩
      rw [accPulseSet_sealed hseal, show 0x010 + 4 * n = 4 * (4 + n) by omega]
      exact lockedWrite_refuses s m v (lockedBit_acc (by omega))
  case slot =>
    rintro s - -
    obtain ⟨-, -, -, hk⟩ := h
    have hf : Frame [.acc, .reply] [] s (s.answer 0 false) := frame_answer _ _ (frame_refl s) (by decide)
    rw [slotRead_present hk, slotNow_eq]
    exact ⟨⟨rfl, rfl⟩, frame_answer _ _ (fset_acc hf (by decide)) (by decide)⟩
  case absent =>
    rintro s - -
    obtain ⟨-, -, -, he, hk⟩ := h
    rw [slotRead_absent he hk]
    exact ⟨rfl, frame_answer _ _ (frame_answer _ _ (frame_refl s) (by decide)) (by decide)⟩

end Sys2Proof.Proofs
end

section
/-! PROOF. A frame at the head of a lane's queue whose lantern's handle is FAULTED: it is withdrawn, neither fetched nor
launched (R141, R443, R530). -/

namespace Sys2Proof.Proofs
open Sys2Proof Sys2Proof.Machine Sys2Proof.Laws

/-! ## The rows of a slot -/

section
variable {s : State} {dt n : Nat} (hw : (s.after dt).works wLNE) (hn : n < 4)
include hw hn

theorem exec_slotBoundary (rf : RfCheck) : exec (.slotBoundary dt n rf) s = .next ((s.after dt).slotWork n rf) := by
  show Host.Outcome.next (s.occurIn dt wLNE _) = _
  rw [occurIn_works hw, if_pos hn]

theorem exec_laneFetch : exec (.laneFetch dt n) s = .next ((s.after dt).laneFetchDue n) := by
  show Host.Outcome.next (s.occurIn dt wLNE _) = _
  rw [occurIn_works hw, if_pos hn]

end

/-! ## A lane with one BULK cell and a frame for a barred lantern -/

/-- An engine-owned BULK queue of lane 0 that the LCS handler serves, with its ring. -/
def bulkQueue : ImgQueue :=
  { engineOwned := true, cls := 1, target := 0, lprio := 0, dprio := 0, engine := 3, pcpMask := 0,
    ringBase := 0x20100000, log2n := 4 }

/-- Lane 0 runs in slots of 10,000 µs with a BULK cell in slot 1, and queue 0 serves it. The one descriptor of the queue
is a frame of one octet for entry 0, a radio lantern that is JOINED and whose LANTERN handle is FAULTED. -/
def barred (cyc : Nat) (held : Option HeldTx) : State :=
  { State.reset with
    cyc := cyc
    str := { StrUnit.reset with handles := [(State.hkey tLANTERN 0, { st := .faulted, gen := 1, owner := 0 })] }
    ltb := { LtbUnit.reset with base := 0x20000000, count := 1 }
    lne := { LneUnit.reset with lanes := modAt LneUnit.reset.lanes 0 (fun l => { l with run := true }) }
    key := { KeyUnit.reset with netKey := some [] }
    qdm := { QdmUnit.reset with
      cfgs := [(0, bulkQueue)]
      queues := [(0, { Queue.reset with tail := 1, held := held })] }
    regs := { RegUnit.reset with
      cfg := { words := [(reg wQDM 0x1004, sound 0x20100000), (reg wQDM 0x1008, sound 4)], wroteAt := 0, wrote := [] }
      act := [(reg wLNE 0x010, sound 0x27100064), (reg wLNE 0x1000, sound 0xA0100001)] }
    mem := [(0x20000008, 1), (0x20000009, 2), (0x20100008, 1)] }

theorem barred_works (cyc : Nat) (held : Option HeldTx) : (barred cyc held).works wLNE :=
  ⟨rfl, (by decide +kernel : (barred 0 none).blockOn wLNE = true), rfl⟩

/-! ## The slot of the cell (R428, R442) -/

/-- Slot 1 begins, and the frame is held in the lane. -/
def barredHeld : State := barred 4000000 (some { octets := [0] })

/-- The transceiver's checks pass. -/
def passingRf : RfCheck := { locked := true, fwd := 27, refl := 0 }

theorem barredHeld_begins : barredHeld.slotBegins 0 1 := by
  refine ⟨barred_works _ _, ?_⟩
  decide +kernel

/-- The cell's channel is free, and its queue's head is ready, not late, and within the duty limit. -/
theorem barredHeld_ready :
    (barredHeld.txPower 0 : Rat) - 3 ≤ passingRf.fwd ∧ barredHeld.slotCell 0 1 2 0 ∧ barredHeld.collides 0 0 = false ∧
      barredHeld.headInLane 0 1 0 ∧ barredHeld.headReady 0 0 1 = true ∧ barredHeld.qdm.gone = [] ∧
      State.headLate (barredHeld.headDesc 0) 1 = false ∧ barredHeld.netKeyed = true ∧
      (barredHeld.queue 0).headFc = none ∧ (barredHeld.queue 0).attempts = 0 ∧ barredHeld.lne.fc < 0xFFFFFFFF ∧
      barredHeld.airRaw 0 ((barredHeld.headDesc 0).len + barredHeld.formOctets 0 (barredHeld.headDesc 0)) = 408000 ∧
      barredHeld.dutyStops 0 408000 false = false := by
  decide +kernel

/-- The frame is withdrawn: no frame counter is used. -/
theorem fc_slotWork_barredHeld : (barredHeld.slotWork 0 passingRf).lne.fc = barredHeld.lne.fc := by
  decide +kernel

/-- Refutes O46: its fifth clause has a transmit cell launch the head of its queue under the next frame counter, whatever
the destination. A head for a lantern whose handle is FAULTED completes as withdrawn instead (R141), also once it is
held in the lane, and uses no counter; the clause does not ask that the handle not be FAULTED. -/
theorem not_laneSlots : ¬ Obligations.LaneSlots := by
  unfold Obligations.LaneSlots
  rintro ⟨-, -, -, -, launches, -⟩
  obtain ⟨t, ht, ⟨hfc, -⟩, -⟩ :=
    launches 0 1 1 0 0 408000 passingRf (by decide +kernel) 0 barredHeld (barred_works _ _).1
      ⟨barredHeld_begins, barredHeld_ready⟩
  have hrun : barredHeld.slotWork 0 passingRf = t := Host.Outcome.next.inj
    ((exec_slotBoundary (s := barredHeld) (dt := 0) (barred_works _ _) (by decide) passingRf).symm.trans ht)
  rw [← hrun, fc_slotWork_barredHeld] at hfc
  exact absurd hfc (Nat.succ_ne_self _).symm

/-! ## The fetch before the slot (R530) -/

/-- Slot 1 begins in 5 µs, and the frame is not read yet. -/
def barredUnread : State := barred 3998000 none

/-- The head is ready for the slot, its descriptor passes the checks, and no fetch of it has begun. -/
theorem barredUnread_ready :
    (barredUnread.lane 0).run = true ∧ barredUnread.slotFrom 0 (barredUnread.raw + 1) = 1 ∧
      barredUnread.slotStart 0 1 ≤ barredUnread.raw + rawMs ∧
      (barredUnread.cellOf 0 1).map (fun w => fld w 30 28) = some 2 ∧ barredUnread.laneQueues 0 1 = [0] ∧
      barredUnread.headReady 0 0 1 = true ∧ (barredUnread.queue 0).done = none ∧ (barredUnread.queue 0).xfer = none ∧
      (barredUnread.queue 0).held = none ∧ barredUnread.qdm.gone = [] ∧
      barredUnread.descCheck 0 (barredUnread.headDesc 0) = none ∧
      State.headLate (barredUnread.headDesc 0) 1 = false := by
  decide +kernel

/-- The frame is withdrawn: the queue fetches nothing. -/
theorem xfer_laneFetchDue_barredUnread : ((barredUnread.laneFetchDue 0).queue 0).xfer = none := by
  decide +kernel

/-- Refutes O47: its fourth clause has the fetch begin of a ready head whose descriptor passes the checks of R521 to R523.
Those ask that the destination be a joined lantern, not that its handle not be FAULTED, and a head for a lantern whose
handle is FAULTED completes as withdrawn (R141). -/
theorem not_laneStartsAndRetries : ¬ Obligations.LaneStartsAndRetries := by
  unfold Obligations.LaneStartsAndRetries
  rintro ⟨-, -, -, fetches, -⟩
  obtain ⟨t, ht, ⟨hq, -⟩, -⟩ :=
    fetches 0 1 1 0 (by decide) 0 barredUnread (barred_works _ _).1 ⟨barred_works _ _, barredUnread_ready⟩
  have hrun : barredUnread.laneFetchDue 0 = t := Host.Outcome.next.inj
    ((exec_laneFetch (s := barredUnread) (dt := 0) (barred_works _ _) (by decide)).symm.trans ht)
  have hx := xfer_laneFetchDue_barredUnread
  rw [hrun, hq] at hx
  contradiction

end Sys2Proof.Proofs
end

section
/-! PROOF. The spare transceiver: the commands of LNE[4]_CMD, the return of a lane, and the spare's rounds (R457 to R460,
R472). -/

namespace Sys2Proof.Proofs
open Sys2Proof Sys2Proof.Machine Sys2Proof.Laws

/-! ## Event bits of the LNE instances -/

/-- An event bit of a lane's STATUS that is posted is raised (R94, R95). -/
theorem raised_postLane {s : State} {n i : Nat} (hn : n < 4) (hi : i < 13) :
    (s.postLane n i).raised (reg wLNE (lneOff n 0)) i := by
  have h : ∀ (k : Fin 4) (j : Fin 13),
      (2 ^ (j : Nat) % 2 ^ 24 &&& statMask (reg wLNE (lneOff k 0))).testBit j = true := by decide
  exact raised_post (h ⟨n, hn⟩ ⟨i, hi⟩)

theorem laneEvent_lne (s : State) (n i c : Nat) : (s.laneEvent n i c).lne = s.lne := by
  rw [State.laneEvent, event_lne, State.postLane, post_lne]

/-! ## Codes of LNE[4]_CMD (R472) -/

theorem answer_frame (s : State) : Frame [.lne, .reply] [] s (s.answer 0 false) :=
  frame_answer _ _ (frame_refl s) (by decide)

/-- A code stands in LNE[4]_CMD's result, and CMD_DONE is set. -/
def codeShown (s : State) (c : Nat) : State :=
  { s with lne := { s.lne with cmdCode := c } }.post (reg wLNE 0x8000) 1

section
variable (s : State) (c : Nat)

theorem codeShown_lne : (codeShown s c).lne = { s.lne with cmdCode := c } := post_lne ..

theorem raised_codeShown : (codeShown s c).raised (reg wLNE 0x8000) 0 := raised_post (by decide)

variable {s} in
theorem codeShown_frame {L : List Piece} {F : List (Nat × Nat)} {z : State} (h : Frame L F z s) (hL : [.evr, .lne] ⊆ L)
    (hF : (reg wLNE (lneOff 4 0), 0) ∈ F) : Frame L F z (codeShown s c) :=
  frame_postLane 4 0 (fset_lne h (hL (by decide))) (hL (by decide)) (.inr hF)

/-- A command that ends at once, with an answered access before it, shows its code and does no more. -/
theorem codeShown_answer :
    ((codeShown (s.answer 0 false) c).raised (reg wLNE 0x8000) 0 ∧
      (codeShown (s.answer 0 false) c).lne = { s.lne with cmdCode := c }) ∧
    Frame [.evr, .lne, .reply] [(reg wLNE (lneOff 4 0), 0)] s (codeShown (s.answer 0 false) c) :=
  ⟨⟨raised_codeShown .., codeShown_lne ..⟩,
    codeShown_frame c (frame_mono (answer_frame s) (by decide) (List.nil_subset _)) (by decide) (by decide)⟩

end

theorem lneBusy_eq (s : State) : s.lneBusy = codeShown s 5 := rfl

theorem lneDone_eq (s : State) (c : Nat) :
    s.lneDone c = codeShown { s with lne := { s.lne with cmdBusy := false } } c := rfl

section
variable (s : State) (c : Nat)

theorem lneDone_lne : (s.lneDone c).lne = { s.lne with cmdCode := c, cmdBusy := false } := post_lne ..

theorem lneDone_flt : (s.lneDone c).flt = s.flt := post_flt ..

theorem raised_lneDone : (s.lneDone c).raised (reg wLNE 0x8000) 0 := by
  rw [lneDone_eq]; exact raised_codeShown ..

variable {s}

/-- The end of a command clears no event bit. -/
theorem raised_lneDone_of {a i : Nat} (h : s.raised a i) : (s.lneDone c).raised a i :=
  raised_post_of ((raised_of_stat rfl a i).2 h)

theorem lneDone_frame {L : List Piece} {F : List (Nat × Nat)} {z : State} (h : Frame L F z s) (hL : [.evr, .lne] ⊆ L)
    (hF : (reg wLNE (lneOff 4 0), 0) ∈ F) : Frame L F z (s.lneDone c) := by
  rw [lneDone_eq]; exact codeShown_frame c (fset_lne h (hL (by decide))) hL hF

end

/-- With no command in progress, the end of one shows its code alone. -/
theorem lneDone_idle {s : State} (h : s.lne.cmdBusy = false) (c : Nat) : s.lneDone c = codeShown s c := by
  rw [lneDone_eq, ← h]

/-! ## The commands (R457, R459, R460) -/

section
variable {s : State} {n : Nat}

theorem cmdTakeover_begins (hb : s.lne.cmdBusy = false) (he : s.laneEnabled n = true) (hr : s.spareReady = true)
    (hx : (s.lane n).xcvr ≠ some 4) :
    s.cmdTakeover n = { s with lne := { s.lne with cmdBusy := true } }.takeoverBegin n := by
  simp only [State.cmdTakeover, hb, he, hr, hx, Bool.not_true, Bool.false_eq_true, or_self, if_false]

theorem cmdTakeover_refused
    (h : s.lne.cmdBusy = true ∨ s.laneEnabled n = false ∨ s.spareReady = false ∨ (s.lane n).xcvr = some 4) :
    s.cmdTakeover n =
      codeShown s (if s.lne.cmdBusy = true then 5 else if s.laneEnabled n = false then 4 else 1) := by
  unfold State.cmdTakeover
  cases hb : s.lne.cmdBusy with
  | true => rfl
  | false =>
    cases he : s.laneEnabled n with
    | false => exact lneDone_idle hb 4
    | true =>
      have hs : !s.spareReady ∨ (s.lane n).xcvr = some 4 := by simpa [hb, he] using h
      simp only [Bool.not_true, Bool.false_eq_true, Bool.true_eq_false, if_false, if_pos hs]
      exact lneDone_idle hb 1

theorem cmdRelease_begins (hb : s.lne.cmdBusy = false) (hx : (s.lane n).xcvr = some 4)
    (hr : s.flt.xcvrRet.contains n = false) :
    s.cmdRelease n = { s with lne := { s.lne with cmdBusy := true } }.setLane n (fun l =>
      { l with releaseAt := some (s.slotStart n (s.slotFrom n (s.raw + 3 * rawMs))) }) := by
  simp only [State.cmdRelease, hb, hx, hr, ne_eq, not_true_eq_false, Bool.false_eq_true, if_false]

theorem cmdRelease_refused
    (h : s.lne.cmdBusy = true ∨ (s.lane n).xcvr ≠ some 4 ∨ s.flt.xcvrRet.contains n = true) :
    s.cmdRelease n =
      codeShown s (if s.lne.cmdBusy = true then 5 else if (s.lane n).xcvr ≠ some 4 then 2 else 3) := by
  unfold State.cmdRelease
  cases hb : s.lne.cmdBusy with
  | true => rfl
  | false =>
    by_cases hx : (s.lane n).xcvr = some 4
    · have hr : s.flt.xcvrRet.contains n = true := by simpa [hb, hx] using h
      simp only [Bool.false_eq_true, hx, ne_eq, not_true_eq_false, hr, if_false, if_true]
      exact lneDone_idle hb 3
    · simp only [Bool.false_eq_true, ne_eq, hx, not_false_eq_true, if_false, if_true]
      exact lneDone_idle hb 2

theorem cmdRound_free (hb : s.lne.cmdBusy = false) (hf : s.lne.spare = .free) :
    s.cmdRound = codeShown s.roundBegin 0 := by
  simp only [State.cmdRound, hb, hf, ne_eq, not_true_eq_false, Bool.false_eq_true, if_false]
  exact lneDone_idle (s := s.roundBegin) hb 0

theorem cmdRound_refused (h : s.lne.cmdBusy = true ∨ s.lne.spare ≠ .free) :
    s.cmdRound = codeShown s (if s.lne.cmdBusy = true then 5 else 1) := by
  unfold State.cmdRound
  cases hb : s.lne.cmdBusy with
  | true => rfl
  | false =>
    have hf : s.lne.spare ≠ .free := by simpa [hb] using h
    simp only [Bool.false_eq_true, if_false, if_pos hf]
    exact lneDone_idle hb 1

/-! ## The return of a lane (R460) -/

/-- Lane n is served by its own transceiver again, and the spare is free. -/
def returned (s : State) (n : Nat) : State :=
  { s with
    lne := { s.lne with
      spare := .free, lanes := modAt s.lne.lanes n (fun l => { l with releaseAt := none, xcvr := some n }) }
    flt := { s.flt with laneSub := none } }

theorem returned_frame (s : State) (n : Nat) : Frame [.flt, .lne] [] s (returned s n) :=
  frame_trans (s := { s with flt := { s.flt with laneSub := none } }) (fset_flt (frame_refl s) (by decide))
    (fset_lne (frame_refl _) (by decide))

theorem laneReturnDue_due {r : Nat} (hr : (s.lane n).releaseAt = some r) (hd : r ≤ s.raw) :
    s.laneReturnDue n = (((returned s n).post (reg wLNE 0x8000) 2).vergeEvent false 2 n 4 2).lneDone 0 := by
  simp only [State.laneReturnDue, hr, if_neg (Nat.not_lt.2 hd)]
  rfl

theorem laneReturnDue_waits (h : ∀ r ∈ (s.lane n).releaseAt.toList, s.raw < r) : s.laneReturnDue n = s := by
  cases hr : (s.lane n).releaseAt with
  | none => simp only [State.laneReturnDue, hr]
  | some r => simp only [State.laneReturnDue, hr, if_pos (h r (by rw [hr]; exact List.mem_singleton_self r))]

/-- A release is an event of the Verge without a status bit (R767). -/
theorem vergeEvent_released (s : State) (pool elem spare cause : Nat) :
    ∃ l, s.vergeEvent false pool elem spare cause = s.event wFLT none l := ⟨_, rfl⟩

/-! ## The spare's rounds (R459) -/

theorem spareTest_free {b : Bool} {x : Option Bool} (h : s.lne.spare = .free) : s.spareTest b x = s.roundDue := by
  simp only [State.spareTest, h]

theorem spareTest_selftest {b : Bool} {x : Option Bool} (h : s.lne.spare = .selftest) :
    s.spareTest b x = s.selfTested b := by
  simp only [State.spareTest, h]

theorem spareTest_rxtest {b : Bool} {x : Option Bool} (h : s.lne.spare = .rxtest) : s.spareTest b x = s.rxTested x := by
  simp only [State.spareTest, h]

/-- A spare that serves or is unusable has no round, and the next round of a free one begins 10 s after the last. -/
theorem spareTest_rests {b : Bool} {x : Option Bool}
    (h : s.lne.spare = .serving ∨ s.lne.spare = .unusable ∨ (s.lne.spare = .free ∧ s.raw < s.lne.roundAt + 10 * rawS)) :
    s.spareTest b x = s := by
  rcases h with h | h | ⟨h, hr⟩
  · simp only [State.spareTest, h]
  · simp only [State.spareTest, h]
  · rw [spareTest_free h, State.roundDue, if_neg (Nat.not_le.2 hr)]

/-- The test frame of the spare is stamped, while the timebase is enabled (R565). -/
def testStamped (s : State) : State :=
  if s.cfgF wTBS 0x004 0 0 = 1 then s.tsqAdd 4 0xFFFF 0x3F 1 s.stamp else s

theorem testStamped_frame (s : State) : Frame [.evr, .tbs] [(reg wTBS 0, 12)] s (testStamped s) :=
  frame_ite (frame_tsqAdd _ _ _ _ _ (frame_refl s) (by decide) (.inr (by decide))) (frame_refl s)

theorem testStamped_lne (s : State) : (testStamped s).lne = s.lne :=
  (testStamped_frame s).parts .lne (by decide) (by decide)

theorem testStamped_off (h : s.cfgF wTBS 0x004 0 0 = 0) : testStamped s = s := by
  rw [testStamped, h]; rfl

theorem selfTested_pass (s : State) : s.selfTested true =
    { testStamped s with
      lne := { (testStamped s).lne with spare := .rxtest, spareTarget := (testStamped s).lne.rotate % 4 } } := rfl

theorem selfTested_fail (s : State) : s.selfTested false =
    { testStamped s with lne := { (testStamped s).lne with spare := .unusable } }.post (reg wLNE 0x8000) 4 := rfl

theorem rxTested_unheard {x : Option Bool} (h : s.laneIdle s.lne.spareTarget = false ∨ x = none)
    (hd : s.lne.roundAt + 10 * rawS ≤ s.raw) : s.rxTested x = s.roundEnd := by
  have hx : (if s.laneIdle s.lne.spareTarget = true then x else none) = none := by
    rcases h with h | h <;> simp [h]
  simp only [State.rxTested, hx, if_pos hd]

section
variable (hi : s.laneIdle s.lne.spareTarget = true)
include hi

theorem rxTested_passes :
    s.rxTested (some true) = s.roundEnd.setLane s.lne.spareTarget (fun l => { l with rxTestFail := 0 }) := by
  simp only [State.rxTested, hi, if_true]

theorem rxTested_failsFirst (hf : (s.lane s.lne.spareTarget).rxTestFail = 0) :
    s.rxTested (some false) =
      s.roundEnd.setLane s.lne.spareTarget (fun l => { l with rxTestFail := l.rxTestFail + 1 }) := by
  have hn : ¬1 ≤ (s.lane s.lne.spareTarget).rxTestFail := by rw [hf]; decide
  simp only [State.rxTested, hi, if_true, if_neg hn]

theorem rxTested_failsAgain (hf : 1 ≤ (s.lane s.lne.spareTarget).rxTestFail) :
    s.rxTested (some false) = s.roundEnd.xcvrFault s.lne.spareTarget 2 := by
  simp only [State.rxTested, hi, if_true, if_pos hf]

end

/-- Lane n has recorded a transceiver fault of a cause, and counts its tests anew (R456). -/
def faultNoted (s : State) (n c : Nat) : State :=
  (s.laneEvent n 8 c).setLane n (fun l => { l with pllFail := none, txPwrFail := 0, rxTestFail := 0 })

theorem faultNoted_spareReady (s : State) (n c : Nat) : (faultNoted s n c).spareReady = s.spareReady := by
  simp only [faultNoted, State.spareReady, State.setLane, laneEvent_lne]

theorem faultNoted_raw (s : State) (n c : Nat) : (faultNoted s n c).raw = s.raw := by
  simp only [faultNoted, State.raw, State.setLane, State.laneEvent, State.postLane, event_cyc, post_cyc]

theorem raised_faultNoted (hn : n < 4) (c : Nat) : (faultNoted s n c).raised (reg wLNE (lneOff n 0)) 8 :=
  (raised_of_stat (s := s.laneEvent n 8 c) rfl _ _).2 (raised_event (raised_postLane hn (by decide)))

theorem faultNoted_frame (s : State) (n c : Nat) :
    Frame [.evr, .lne] [(reg wLNE (lneOff n 0), 8)] s (faultNoted s n c) :=
  frame_setLane _ _ (frame_event _ _ _ (frame_postLane n 8 (frame_refl s) (by decide)
    (.inr (List.mem_singleton_self _))) (by decide)) (by decide)

/-- A fault of a lane on its own transceiver, while the spare is ready: the spare takes the lane over (R457). -/
theorem xcvrFault_takeover {c : Nat} (ht : s.lne.takeover = none) (hx : (s.lane n).xcvr ≠ some 4)
    (hr : s.spareReady = true) : s.xcvrFault n c = (faultNoted s n c).takeoverBegin n := by
  rw [← faultNoted_spareReady s n c] at hr
  have hs : (faultNoted s n c).takeoverOrStop n = (faultNoted s n c).takeoverBegin n := if_pos hr
  simp only [State.xcvrFault, ht, Option.map_none, reduceCtorEq, if_false, hx, ← hs]
  rfl

theorem takeoverBegin_lne (s : State) (n : Nat) : (s.takeoverBegin n).lne =
    { s.lne with takeover := some (n, s.raw), locked := false, spare := .serving, spareTarget := n } := rfl

theorem raised_takeoverBegin (s : State) (n a i : Nat) : (s.takeoverBegin n).raised a i ↔ s.raised a i :=
  raised_of_stat rfl a i

end

/-! ## The obligation -/

/-- Settles O48: a command either begins its work or shows a code, a return is due or not, and a round is in one of the
spare's states; the lemmas above say what each does. -/
theorem spareTransceiver : Obligations.SpareTransceiver := by
  refine ⟨fun m n hn => comp_access (fun _ _ => rfl) (fun _ h => h.1) ?takeover,
    fun m n hn => comp_access (fun _ _ => rfl) (fun _ h => h.1) ?takeoverRefused,
    fun m n hn => comp_access (fun _ _ => rfl) (fun _ h => h.1) ?release,
    fun m n hn => comp_access (fun _ _ => rfl) (fun _ h => h.1) ?releaseRefused,
    fun m => comp_access (fun _ _ => rfl) (fun _ h => h) ?round,
    comp_occurIn (fun _ _ => rfl) (fun _ h => h.1) ?locked,
    fun n r hn => comp_occurIn (fun _ _ => rfl) (fun _ h => h.1) ?returns,
    fun n hn => ?returnWaits,
    fun b x => comp_occurIn (fun _ _ => rfl) (fun _ h => h.1) ?begins,
    fun b x => comp_occurIn (fun _ _ => rfl) (fun _ h => h.1) ?selftest,
    fun b x n hn => comp_occurIn (fun _ _ => rfl) (fun _ h => h.1) ?rxtest,
    fun b x n => comp_occurIn (fun _ _ => rfl) (fun _ h => h.1) ?unheard,
    fun n => comp_occurIn (fun _ _ => rfl) (fun _ h => h.1) ?fault,
    fun b x => ?rests⟩
  case takeover =>
    rintro s - ⟨-, hb, he, hr, hx⟩
    rw [Nat.mod_eq_of_lt hn, cmdTakeover_begins (s := s.answer 0 false) hb he hr hx]
    exact ⟨rfl, fset_lne (s := s.answer 0 false) (answer_frame s) (by decide)⟩
  case takeoverRefused =>
    rintro s - ⟨-, h⟩
    rw [Nat.mod_eq_of_lt hn, cmdTakeover_refused (s := s.answer 0 false) h]
    exact codeShown_answer s _
  case release =>
    rintro s - ⟨-, hb, hx, hr⟩
    rw [Nat.mod_eq_of_lt hn, cmdRelease_begins (s := s.answer 0 false) hb hx hr]
    exact ⟨rfl, fset_lne (s := s.answer 0 false) (answer_frame s) (by decide)⟩
  case releaseRefused =>
    rintro s - ⟨-, h⟩
    rw [Nat.mod_eq_of_lt hn, cmdRelease_refused (s := s.answer 0 false) h]
    exact codeShown_answer s _
  case round =>
    rintro s - -
    by_cases h : s.lne.cmdBusy = false ∧ s.lne.spare = .free
    · obtain ⟨hb, hf⟩ := h
      have hfr : Frame [.evr, .lne, .reply] [(reg wLNE (lneOff 4 0), 0)] s (s.answer 0 false).roundBegin :=
        fset_lne (frame_mono (answer_frame s) (by decide) (List.nil_subset _)) (by decide)
      rw [cmdRound_free (s := s.answer 0 false) hb hf]
      refine ⟨⟨raised_codeShown .., ?_⟩, codeShown_frame 0 hfr (by decide) (by decide)⟩
      rw [codeShown_lne, if_neg (by rw [hb]; decide), if_pos hf]
      rfl
    · have hr : s.lne.cmdBusy = true ∨ s.lne.spare ≠ .free := by
        cases hb : s.lne.cmdBusy with
        | true => exact .inl rfl
        | false => exact .inr fun hf => h ⟨hb, hf⟩
      rw [cmdRound_refused (s := s.answer 0 false) hr]
      obtain ⟨⟨hraised, hlne⟩, hfr⟩ := codeShown_answer s (if s.lne.cmdBusy = true then 5 else 1)
      refine ⟨⟨hraised, hlne.trans ?_⟩, hfr⟩
      split
      · rfl
      · rename_i hb
        rw [if_neg (hr.resolve_left hb)]
  case locked =>
    rintro s - ⟨-, ht⟩
    rw [if_pos ht]
    exact ⟨rfl, fset_lne (frame_refl s) (by decide)⟩
  case returns =>
    rintro s - ⟨-, hr, hd⟩
    obtain ⟨l, hl⟩ := vergeEvent_released ((returned s n).post (reg wLNE 0x8000) 2) 2 n 4 2
    rw [if_pos hn, laneReturnDue_due hr hd, hl]
    have hfr : Frame [.evr, .flt, .lne] [(reg wLNE (lneOff 4 0), 0), (reg wLNE (lneOff 4 0), 1)] s
        ((returned s n).post (reg wLNE 0x8000) 2) :=
      frame_postLane 4 1 (frame_mono (returned_frame s n) (by decide) (List.nil_subset _)) (by decide) (.inr (by decide))
    refine ⟨⟨?_, ?_, raised_lneDone .., raised_lneDone_of 0 (raised_event (raised_post (by decide)))⟩,
      lneDone_frame 0 (frame_event _ _ _ hfr (by decide)) (by decide) (by decide)⟩
    · simp only [lneDone_lne, event_lne, post_lne, returned]
    · simp only [lneDone_flt, event_flt, post_flt, returned]
  case returnWaits =>
    intro dt s hp h
    refine ⟨_, congrArg Host.Outcome.next (occurIn_idle hp ?_), rfl, frame_refl _⟩
    rw [if_pos hn, laneReturnDue_waits h]
  case begins =>
    rintro s - ⟨-, hf, hd⟩
    rw [spareTest_free hf, State.roundDue, if_pos hd]
    exact ⟨rfl, fset_lne (frame_refl s) (by decide)⟩
  case selftest =>
    rintro s - ⟨-, hs⟩
    have hfr : Frame [.evr, .lne, .tbs] [(reg wLNE (lneOff 4 0), 2), (reg wTBS 0, 12)] s (testStamped s) :=
      frame_mono (testStamped_frame s) (by decide) (by decide)
    rw [spareTest_selftest hs]
    cases b with
    | true =>
      rw [selfTested_pass, testStamped_lne]
      exact ⟨⟨rfl, fun h => absurd h (by decide), fun h => by rw [testStamped_off h]⟩, fset_lne hfr (by decide)⟩
    | false =>
      rw [selfTested_fail, testStamped_lne]
      refine ⟨⟨post_lne .., fun _ => raised_post (by decide), fun h => ?_⟩,
        frame_postLane 4 2 (fset_lne hfr (by decide)) (by decide) (.inr (by decide))⟩
      rw [post_tbs, testStamped_off h]
  case rxtest =>
    rintro s - ⟨-, hs, rfl, hi, hf⟩
    rw [spareTest_rxtest hs]
    have hfr : Frame [.lne] [] s s.roundEnd := fset_lne (frame_refl s) (by decide)
    cases x with
    | true =>
      rw [rxTested_passes hi]
      exact ⟨rfl, frame_setLane _ _ hfr (by decide)⟩
    | false =>
      rw [rxTested_failsFirst hi (hf rfl)]
      exact ⟨rfl, frame_setLane _ _ hfr (by decide)⟩
  case unheard =>
    rintro s - ⟨-, hs, rfl, h, hd⟩
    rw [spareTest_rxtest hs, rxTested_unheard h hd]
    exact ⟨rfl, fset_lne (frame_refl s) (by decide)⟩
  case fault =>
    rintro s - ⟨-, hs, rfl, hi, hf, hn, -, ht, hx⟩
    have hx4 : (s.lane s.lne.spareTarget).xcvr ≠ some 4 := by
      rw [hx]; exact fun h => absurd (Option.some.inj h) (Nat.ne_of_lt hn)
    rw [spareTest_rxtest hs, rxTested_failsAgain hi hf, xcvrFault_takeover (s := s.roundEnd) ht hx4 rfl]
    have hfr : Frame [.evr, .flt, .lne] [(reg wLNE (lneOff s.lne.spareTarget 0), 8)] s s.roundEnd :=
      fset_lne (frame_refl s) (by decide)
    rw [takeoverBegin_lne, raised_takeoverBegin, faultNoted_raw]
    exact ⟨⟨raised_faultNoted hn 2, rfl, rfl, rfl⟩, frame_takeoverBegin _ (frame_trans hfr
      (frame_mono (faultNoted_frame ..) (by decide) (List.Subset.refl _))) (by decide)⟩
  case rests =>
    intro dt s hp h
    exact ⟨_, congrArg Host.Outcome.next (occurIn_idle hp (spareTest_rests h)), rfl, frame_refl _⟩

end Sys2Proof.Proofs
end
